-- ==== Sys2Proof/Word.lean ====
section
/-! DEFINITION. The word types of the device: 64-bit register and table words (R8, R10), octets, and sparse data held as a list of
key and value pairs. -/

namespace Sys2Proof

/-- One register, one table word, one word of a queue entry (R8, R10). -/
abbrev Word := BitVec 64

/-- One octet of a frame or of memory. -/
abbrev Byte := BitVec 8

/-- Sparse data by key.  In canonical form the keys rise strictly (`Sparse.sorted`). -/
abbrev Sparse (α : Type) := List (Nat × α)

/-- A port number 0–35 (Table ARC-16). -/
abbrev Port := Fin 36

/-- A slice number 0–3 (Table SCO-4). -/
abbrev Slice := Fin 4

/-- A calendar mode bank 0–3. -/
abbrev Bank := Fin 4

/-- A ring attachment 0 or 1 (chapter 6). -/
abbrev Att := Fin 2

/-- A mailbox (Table MBX-4). -/
abbrev Mailbox := Fin 16

end Sys2Proof
end

