-- ==== Sys2Proof/Syntax.lean ====
section
/-! DEFINITION. The commands of the block, one constructor per row of spec/opcode_table.json, with their operands.  The table gives
its rows no operand fields and no bits; the operands are the quantities the rules name for the operation or event. -/

namespace Sys2Proof

/-- The requester codes of Table ARC-11: PF0–PF3, the Bench, the Joiner firmware with the solver (R401, R468). -/
inductive Req where
  | pf (n : Fin 4)
  | bench
  | joiner
  deriving DecidableEq, Repr

/-- Where a register or memory access goes: BAR0 with its device-wide registers, BAR4, the BAR0 of VF `n` of the requesting PF, the
doorbells in BAR2 of the requester's own function (`n` = 0) or of its VF `n`, or a physical address of the Bench (Table BEN-3). -/
inductive Space where
  | bar0
  | bar4
  | vf (n : BitVec 8)
  | bar2 (n : BitVec 8)
  | dev
  deriving DecidableEq, Repr

/-- A read: its byte offset and how many octets it takes (8, or a width that R25 turns away). -/
structure ReadAt where
  off : Nat
  octets : Nat
  deriving DecidableEq, Repr

/-- What the line showed of a received mPacket: an error code within it, the errored blocks or code-groups, the FEC codewords (or blocks)
corrected and uncorrectable, the RS symbols corrected; and the ports on which a frame that has not ended yet was being received at its first
octet. -/
structure RxLine where
  code : Bool := false
  blkErr : Nat := 0
  corr : Nat := 0
  uncorr : Nat := 0
  sym : Nat := 0
  during : BitVec 36 := 0
  deriving DecidableEq, Repr

/-- The receiving side of a port as it now is: bits 10:1 of `PCS_STAT[p]`, and by lane the signal and the recovered clock. -/
structure LineState where
  pcs : BitVec 10
  sig : BitVec 4 := 0
  cdr : BitVec 4 := 0
  deriving DecidableEq, Repr

/-- How a host read failed (R337). -/
inductive HostErr where
  | ur | ca | poison | timeout
  deriving DecidableEq, Repr

/-- Whose read failed: a submission queue's, or the admin queue's of a function. -/
inductive ReadOf where
  | queue (q : BitVec 16)
  | admin (f : Nat)
  deriving DecidableEq, Repr

/-- A failed read: the entry whose frame data it was, or none for the read of an entry; and how it failed. -/
structure ReadErr where
  entry : Option Nat := none
  why : HostErr
  deriving DecidableEq, Repr

/-- What a write of configuration space sets beside the enables of a function (Table HQS-1): Function Mask of MSI-X; PME_Status written 1;
log2 of Max Payload Size / 128 and of Max Read Request Size / 128; tags beyond 8 bits; LTR; error messages; the bits of the AER status written
1; the Outstanding Page Request Allocation. -/
structure CfgRest where
  mask : Bool
  pmeClear : Bool := false
  mps : Fin 3 := 0
  mrrs : Fin 6 := 2
  bigTags : Bool := false
  ltr : Bool := false
  errEn : Bool := false
  aerClear : BitVec 32 := 0
  prAlloc : BitVec 32 := 0
  deriving DecidableEq, Repr

/-- A translation as a Translation Completion gives it: log2 of its size, and the translated page of the page asked for. -/
structure AtsRange where
  log : Fin 64
  page : BitVec 52
  deriving DecidableEq, Repr

/-- A word of the learning caches or of the main forwarding table (Table FWD-2). -/
inductive FwdWord where
  | cache (sl : Slice) (i : BitVec 17) (k : Fin 2)
  | main (i : BitVec 24) (k : Fin 4)
  deriving DecidableEq, Repr

/-- A word of the trie SRAM (Table FWD-5). -/
inductive TrieWord where
  | root (v6 : Bool) (i : BitVec 16)
  | nextHop (n : BitVec 15) (k : Fin 2)
  | tail (t : BitVec 12) (e : Fin 8) (k : Fin 2)
  | node (n : Fin 11264) (i : BitVec 8)
  deriving DecidableEq, Repr


/-- The commands of the block: one constructor per row of spec/opcode_table.json. -/
inductive Instr where
  /-- RC_READ_64 (R12): A 64-bit read of an RC counter returns and clears it and invalidates the holding word. Operands: requester, space, the read (offset of the counter, or of any other word; octets) -/
  | rcRead64 (r : Req) (sp : Space) (a : ReadAt)
  /-- RC_READ_LOW (R12): A low-word read of an RC counter returns bits 31:0, latches bits 63:32 into the holding word and clears the counter. Operands: requester, space, offset of the low word -/
  | rcReadLow (r : Req) (sp : Space) (a : Nat)
  /-- RC_READ_HIGH (R12): A high-word read of an RC counter returns the latched word if it is valid, otherwise the current high bits, and clears nothing. Operands: requester, space, offset of the 64-bit word whose high word is read -/
  | rcReadHigh (r : Req) (sp : Space) (a : Nat)
  /-- REGISTER_WRITE (R27): A BAR0 or BAR4 write to a register that has no row of its own takes effect if it is permitted and in range. Operands: requester, space, offset, octets of the access, data -/
  | registerWrite (r : Req) (sp : Space) (a : Nat) (width : Nat) (v : Word)
  /-- BRIDGE_TIMEOUT (R17): A bridge crossing unanswered within 2 µs, or 200 µs for island 47, ends with all-ones read data or a dropped write. Operands: requester, space, direction, offset -/
  | bridgeTimeout (r : Req) (sp : Space) (write : Bool) (a : Nat)
  /-- SNAPSHOT_GO (R22): GO in GLB_SNAP_CTL starts a capture of a snapshot group, or sets OVR or FAIL. Operands: requester, value written to GLB_SNAP_CTL (GO = 1) -/
  | snapshotGo (r : Req) (v : Word)
  /-- SNAPSHOT_CAPTURE (R23): The owning island captures the group into GLB_SNAP_DATA and sets DONE, or fails if the island went down or was fenced. -/
  | snapshotCapture
  /-- SERVO_IN_WRITE (R36): A write of TIM_SERVO_IN submits a time sample, which is accepted or rejected. Operands: requester, value written -/
  | servoInWrite (r : Req) (v : Word)
  /-- SRC_WRITE (R40): A write of TIM_CTL.SRC moves the servo to free or to acquire. Operands: requester, value written to TIM_CTL -/
  | srcWrite (r : Req) (v : Word)
  /-- SOURCE_TIMEOUT (R37): No sample for SRC_TIMEOUT takes acquire to free or locked to holdover, sets SRC_LOST and raises a source-loss fault. -/
  | sourceTimeout
  /-- HOLDOVER_EXPIRY (R41): HOLD_MAX seconds spent in holdover set HOLD_EXP and raise a holdover-expiry fault. -/
  | holdoverExpiry
  /-- SLEW_COMPLETE (R38): A slew in progress finishes moving the time base and ADJ_BUSY clears. -/
  | slewComplete
  /-- TIME_STEP (R39): TIM_ADJ GO with MODE 0 steps local time by OFFSET, or is refused while steps are not permitted. Operands: requester, value written to TIM_ADJ (GO = 1, MODE = 0) -/
  | timeStep (r : Req) (v : Word)
  /-- TIME_SLEW (R38): TIM_ADJ GO with MODE 1 starts a slew by OFFSET that replaces any slew in progress. Operands: requester, value written to TIM_ADJ (GO = 1, MODE = 1) -/
  | timeSlew (r : Req) (v : Word)
  /-- TIME_SET_LOAD (R39): TIM_SET_NS GO loads SEC, NS and FRAC into the time base, or is refused while steps are not permitted. Operands: requester, value written to TIM_SET_NS (GO = 1) -/
  | timeSetLoad (r : Req) (v : Word)
  /-- PTM_REQUEST (R51): A PTM request is issued on REQ = 1 when PTM is enabled, the link is in L0 or L0p and no request is outstanding. Operands: requester, value written to TIM_PTM_CTL (REQ = 1) -/
  | ptmRequest (r : Req) (v : Word)
  /-- PTM_PERIOD_TIMER (R51): With AUTO = 1, expiry of PERIOD ms issues a PTM request. -/
  | ptmPeriodTimer
  /-- PTM_RESPONSE (R53): A completed PTM exchange writes t1, Tm and d in one clock and increments SEQ. Operands: PTM Master Time, propagation delay -/
  | ptmResponse (tm : Word) (delay : BitVec 32)
  /-- PTM_TIMEOUT (R52): A PTM request unanswered within 1 ms is abandoned and counted, and three in a row clear VALID. -/
  | ptmTimeout
  /-- PPS_IN_EDGE (R55): A filtered PPS_IN edge is captured as a source-3 sample, or rejected and counted. Operands: edge direction, time the level then held -/
  | ppsInEdge (rising : Bool) (heldNs : Nat)
  /-- SNAPT_ARM (R59): ARM in TIM_SNAPT_CTL arms a scheduled counter snapshot for T, or is refused with a FAIL code. Operands: requester, value written to TIM_SNAPT_CTL (ARM = 1) -/
  | snaptArm (r : Req) (v : Word)
  /-- SNAPT_CANCEL (R62): CANCEL in TIM_SNAPT_CTL returns an armed snapshot to idle on this device only. Operands: requester, value written to TIM_SNAPT_CTL (CANCEL = 1) -/
  | snaptCancel (r : Req) (v : Word)
  /-- SNAPT_CAPTURE (R60): When local time reaches T, the counters in scope are frozen into the image and optionally cleared. -/
  | snaptCapture
  /-- SNAPT_IMAGE_DONE (R400): The snapshot image is complete in HBM, its header is written last and the state becomes done. -/
  | snaptImageDone
  /-- CAL_COPY (R77): CAL_CMD COPY copies the entries and parameters of a source bank into the destination bank, which enters COPYING. Operands: requester, value written to CAL_CMD (OP 0b01, GO = 1) -/
  | calCopy (r : Req) (v : Word)
  /-- CAL_COPY_DONE (R77): The copy completes: the destination takes the source's COMMITTED and returns to IDLE. Operands: destination bank -/
  | calCopyDone (b : Bank)
  /-- CAL_COMMIT (R74): CAL_CMD COMMIT captures the bank's shadow parameters and starts validation. Operands: requester, value written to CAL_CMD (OP 0b10, GO = 1) -/
  | calCommit (r : Req) (v : Word)
  /-- CAL_VALIDATION_DONE (R71): Validation of a bank ends: on a pass COMMITTED increments and the bank is STAGED; on a failure the code is recorded. Operands: bank -/
  | calValidationDone (b : Bank)
  /-- CAL_UNSTAGE (R77): CAL_CMD UNSTAGE returns a STAGED bank to IDLE. Operands: requester, value written to CAL_CMD (OP 0b11, GO = 1) -/
  | calUnstage (r : Req) (v : Word)
  /-- CAL_ENTRY_WRITE (R75): A BAR4 or Bench write of a calendar entry takes effect only in an IDLE bank that is not a copy source, and is otherwise dropped. Operands: requester, bank, segment, index, data -/
  | calEntryWrite (r : Req) (b : Bank) (sl : Slice) (i : BitVec 18) (v : Word)
  /-- CAL_ACTIVATE (R78): CAL_ACT GO schedules a STAGED bank for a chosen boundary, or is refused with a REF_CODE. Operands: requester, value written to CAL_ACT (GO = 1) -/
  | calActivate (r : Req) (v : Word)
  /-- CAL_ACT_CANCEL (R78): CAL_ACT CANCEL returns a SCHEDULED activation to STAGED, or is refused. Operands: requester, value written to CAL_ACT (CANCEL = 1) -/
  | calActCancel (r : Req) (v : Word)
  /-- CALENDAR_START (R81): Setting CAL_CTL.EN schedules FIRST_BANK for the START boundary if the bank is STAGED and START is far enough ahead. Operands: requester, value written to CAL_CTL (EN = 1) -/
  | calendarStart (r : Req) (v : Word)
  /-- CALENDAR_STOP (R82): Clearing CAL_CTL.EN cancels a pending start or stops the calendar at the first boundary Bs far enough ahead. Operands: requester, value written to CAL_CTL (EN = 0) -/
  | calendarStop (r : Req) (v : Word)
  /-- CAL_HAND_OVER (R76): At the hand-over point H the calendar takes the last committed generation of the scheduled bank, which becomes HANDED. -/
  | calHandOver
  /-- CYCLE_BOUNDARY (R64): A calendar cycle begins: CYCNUM advances and any HANDED bank becomes ACTIVE, or a pending stop takes effect. -/
  | cycleBoundary
  /-- CAL_PORT_CFG_WRITE (R98): A write of CAL_PORT_CFG takes effect at once, or while the calendar runs from the first boundary far enough ahead. Operands: requester, port, value written -/
  | calPortCfgWrite (r : Req) (p : Port) (v : Word)
  /-- LAUNCH_FETCH (R83): At L minus the fetch lead the calendar reads an entry and fetches the stream's host frame, or notes a held or empty source. Operands: port, entry index, CYCNUM of the cycle -/
  | launchFetch (p : Port) (i : BitVec 18) (n : BitVec 48)
  /-- LAUNCH_ARM (R84): At L minus 1,000 ns the launch engine binds or checks the frame and applies the checks of Table CAL-9. Operands: port -/
  | launchArm (p : Port)
  /-- LAUNCH (R85): At L the scheduled frame starts on the wire, or is discarded for a busy wire or a wake in progress. Operands: port -/
  | launch (p : Port)
  /-- NONSCHED_FRAME_START (R88): A non-scheduled frame starts once it fits before the next reserved interval less the guard. Operands: port -/
  | nonschedFrameStart (p : Port)
  /-- TRANSMISSION_END (R115): A transmission ends, is counted, and the transmitter chooses the next critical, express or preemptable item. Operands: port -/
  | transmissionEnd (p : Port)
  /-- LPI_ENTRY (R263): After IDLE_US of idle wire with no frame waiting, the transmitter enters LPI where R92 permits. Operands: port -/
  | lpiEntry (p : Port)
  /-- LPI_WAKE (R92): The transmitter wakes from LPI for a waiting frame or no later than N − Tw − 1,000 ns. Operands: port -/
  | lpiWake (p : Port)
  /-- RX_LPI (R263): Received LPI is counted and does not affect the transmitter. Operands: port, entry to LPI (or its end) -/
  | rxLpi (p : Port) (enter : Bool)
  /-- CAL_REVALIDATION_END (R96): Revalidation of a released slice's segment passes and resumes the slice, or fails and fences it again. Operands: slice -/
  | calRevalidationEnd (sl : Slice)
  /-- PREEMPT_HOLD_RAISE (R116): At N − HOLD_ADV the launch engine raises a hold that covers the lower classes. Operands: port -/
  | preemptHoldRaise (p : Port)
  /-- PREEMPT_CUT (R113): After the reaction time the transmitter cuts at the first permitted octet boundary and sends the mCRC, or finishes and counts a deferral. Operands: port, octets of the mPacket sent at the first boundary considered -/
  | preemptCut (p : Port) (k : Nat)
  /-- PREEMPT_HOLD_RELEASE (R117): The hold is released at the end of the reserved interval, or at L for a discarded launch. Operands: port -/
  | preemptHoldRelease (p : Port)
  /-- MPACKET_RECEIVE (R122): A received mPacket is classified by its SMD and reassembled, passed to the MAC or handed to verification. Operands: port, SMD octet, octet after it (frag count of a continuation), the octets of the mPacket with its check value, what the line showed -/
  | mpacketReceive (p : Port) (smd frag : BitVec 8) (octets : List Byte) (line : RxLine)
  /-- VERIFY_SEND (R107): In SEND, a verify mPacket is sent at the next frame boundary and the VERIFY_TIME timer starts when it has left. Operands: port -/
  | verifySend (p : Port)
  /-- VERIFY_TIMEOUT (R108): VERIFY_TIME expiry in WAIT sends again, or after three attempts enters FAILED and raises a verify-failure fault. Operands: port -/
  | verifyTimeout (p : Port)
  /-- RESPOND_SEND (R108): A respond mPacket is sent at the next frame boundary with express priority. Operands: port -/
  | respondSend (p : Port)
  /-- ANNOUNCE_SEND (R110): A nested announce mPacket is sent at the next frame boundary. Operands: port -/
  | announceSend (p : Port)
  /-- ANNOUNCE_RESPONSE_SEND (R110): An announce response is sent for each valid announce received. Operands: port -/
  | announceResponseSend (p : Port)
  /-- ANNOUNCE_TIMEOUT (R110): VERIFY_TIME expiry in ANNOUNCING resends the announce, or after the third enters FAILED and raises a nested-failure fault. Operands: port -/
  | announceTimeout (p : Port)
  /-- PRE_PORT_CFG_WRITE (R128): A write of EN, VERIFY_DIS or NEST_EN re-evaluates the verification and announcement machines in the next clock. Operands: requester, port, value written -/
  | prePortCfgWrite (r : Req) (p : Port) (v : Word)
  /-- PREEMPT_RESTART (R128): RESTART in PRE_PORT_CFG restarts verification and nested announcement from OFF. Operands: requester, port, value written (RESTART = 1) -/
  | preemptRestart (r : Req) (p : Port) (v : Word)
  /-- REASM_TIMEOUT (R123): A reassembly context open for REASM_TO µs without a continuation is discarded and counted. Operands: port, context -/
  | reasmTimeout (p : Port) (express : Bool)
  /-- STREAM_RECORD_WRITE (R135): A BAR4 or Bench write to a stream record is stored, or dropped while the stream is valid. Operands: requester, stream, word of the record, data -/
  | streamRecordWrite (r : Req) (st : BitVec 18) (k : Fin 8) (v : Word)
  /-- RECOVERY_SCAN (R151): At each whole millisecond the scanner decrements REM_MS of recovering streams and resets those that reach 0. -/
  | recoveryScan
  /-- LATENT_TEST (R153): At each TEST_MS multiple the scanner computes D and signals a latent error if it exceeds LE_DIFF. Operands: profile -/
  | latentTest (k : Fin 8)
  /-- LATENT_PROFILE_RESET (R153): At each RESET_MS multiple of the profile the latent-error counts and LATENT are cleared. Operands: profile -/
  | latentProfileReset (k : Fin 8)
  /-- RESET_RCV (R151): STR_CMD RESET_RCV resets recovery of the named stream. Operands: requester, stream -/
  | resetRcv (r : Req) (st : BitVec 18)
  /-- CLEAR_LATENT (R153): STR_CMD CLEAR_LATENT clears LATENT and both latent-error counts of the named stream. Operands: requester, stream -/
  | clearLatent (r : Req) (st : BitVec 18)
  /-- STREAM_COUNTER_CAPTURE (R158): STR_CNT_SEL GO captures and optionally clears the eight counters of a stream. Operands: requester, value written to STR_CNT_SEL (GO = 1) -/
  | streamCounterCapture (r : Req) (v : Word)
  /-- STREAM_CAPTURE_DONE (R158): The stream counter capture completes and STR_CNT_STAT.DONE is set. -/
  | streamCaptureDone
  /-- RING_CYCLE_BOUNDARY (R167): A ring cycle begins: own SYNC or COLDSTART frames are sent, the listen count advances, and switch and barrier decisions are taken. Operands: attachment -/
  | ringCycleBoundary (a : Att)
  /-- CONTROL_FRAME_FORWARD (R178): A SYNC, COLDSTART or BCAST frame is forwarded on the other port 1,200 ns after ingress, with HOPS and ACC_DLY updated. Operands: port -/
  | controlFrameForward (p : Port)
  /-- CONTROL_SEGMENT_END (R182): At the end of the control segment θ, membership and the attachment's state transitions are computed. Operands: attachment -/
  | controlSegmentEnd (a : Att)
  /-- COLLECTION_WINDOW_END (R187): In LISTEN, the end of the collection window adopts ring time from the SYNC or lowest COLDSTART received. Operands: attachment -/
  | collectionWindowEnd (a : Att)
  /-- COLDSTART_ABORT_WAIT (R195): A starter that aborted returns to LISTEN after C + NODE_ID × 1 µs. Operands: attachment -/
  | coldstartAbortWait (a : Att)
  /-- BYPASS_INSERT (R166): The bypass pin rises once R165 holds and, for attachment 1, once attachment 0 has integrated or 1 s has passed. Operands: attachment -/
  | bypassInsert (a : Att)
  /-- RING_HALT (R189): HALT in RNG_CTL takes the attachment to HALTED with its pin low. Operands: requester, attachment, value written -/
  | ringHalt (r : Req) (a : Att) (v : Word)
  /-- RING_RESTART (R189): RESTART in RNG_CTL takes a HALTED attachment to OFF. Operands: requester, attachment, value written -/
  | ringRestart (r : Req) (a : Att) (v : Word)
  /-- MS_PROPOSE (R197): RNG_MS_CTL GO proposes a mode switch to BANK for cycle P + 3, or is refused. Operands: requester, value written -/
  | msPropose (r : Req) (v : Word)
  /-- BARRIER_ARRIVE (R200): RNG_BAR_CTL ARRIVE marks arrival at barrier ID in the member's following SYNC frames. Operands: requester, value written -/
  | barrierArrive (r : Req) (v : Word)
  /-- BCAST_GO (R201): RNG_BC_CTL GO requests one BCAST of LEN octets on attachment ATT. Operands: requester, value written -/
  | bcastGo (r : Req) (v : Word)
  /-- BCAST_TRANSMIT (R201): The BCAST starts at the first best-effort instant from which it ends in the window on every member. -/
  | bcastTransmit
  /-- BCAST_POP (R201): POP in RNG_BC_STAT removes the head broadcast from the receive queue. Operands: requester, value written -/
  | bcastPop (r : Req) (v : Word)
  /-- BCAST_RELAY (R206): A gateway resends a queued BCAST with FED = 1 in the next best-effort window of its other attachment. -/
  | bcastRelay
  /-- GUARDIAN_CUT (R196): The bus guardian truncates an own transmission still running at its limit with a stomp and raises a scheduled-path fault. Operands: ring port -/
  | guardianCut (p : Port)
  /-- SOL_SUBMIT (R212): SOL_CMD SUBMIT queues the request in SOL_REQ, or is refused when 16 requests wait. Operands: requester, value written to SOL_CMD (SUBMIT = 1) -/
  | solSubmit (r : Req) (v : Word)
  /-- SOL_ABORT (R229): SOL_CMD ABORT ends the running job at the next phase boundary before COMMIT. Operands: requester, value written to SOL_CMD (ABORT = 1) -/
  | solAbort (r : Req) (v : Word)
  /-- SOL_ACTIVATE (R227): SOL_CMD ACTIVATE activates the STAGED head bank locally or through the ring. Operands: requester, value written to SOL_CMD (ACTIVATE = 1) -/
  | solActivate (r : Req) (v : Word)
  /-- SOL_RESULT_POP (R231): POP in SOL_RES_STAT removes the head result and lets waiting aborted results be posted. Operands: requester, value written to SOL_RES_STAT (POP = 1) -/
  | solResultPop (r : Req) (v : Word)
  /-- SOLVER_ENABLE (R210): Setting SOL_CTL.EN takes Bench group 0 for the solver and sets the head bank. Operands: requester, value written to SOL_CTL (EN = 1) -/
  | solverEnable (r : Req) (v : Word)
  /-- SOLVER_READY (R210): The solver holds group 0 and STATE becomes READY. -/
  | solverReady
  /-- SOLVER_DISABLE (R229): Clearing SOL_CTL.EN aborts the running job and marks every queued request aborted. Operands: requester, value written to SOL_CTL (EN = 0) -/
  | solverDisable (r : Req) (v : Word)
  /-- SOLVER_JOB_START (R212): A queued request starts when the solver is idle and the result queue has room, locking its target bank. -/
  | solverJobStart
  /-- SOLVER_PLACEMENT (R219): After the copy completes the solver places the stream and writes the entries and regions, then commits. -/
  | solverPlacement
  /-- SOLVER_RESULT_POST (R217): After the commit ends the solver posts the result, updates the head and releases the lock. -/
  | solverResultPost
  /-- PENDING_END_WRITE (R226): Within 50 µs after a result bank becomes active, the solver writes TYPE 0b00 to each pending-end stream. -/
  | pendingEndWrite
  /-- PORT_MODE_WRITE (R235): A write of SDS_MODE.MODE reinitialises the lanes and reloads the fuses, or is refused while the MAC is enabled. Operands: requester, port, value written -/
  | portModeWrite (r : Req) (p : Port) (v : Word)
  /-- RETRAIN (R245): RETRAIN in SDS_MODE restarts receive adaptation and takes the link down until it comes up again. Operands: requester, port, value written -/
  | retrain (r : Req) (p : Port) (v : Word)
  /-- LINK_UP (R243): The link comes up after its conditions have held for LINK_UP_MS. Operands: port, SPEED code the partner has answered -/
  | linkUp (p : Port) (code : Fin 8)
  /-- LINK_DOWN (R243): The link goes down after a condition has failed for LINK_DN_US, discarding contexts and aborting frames. Operands: port, state of the receiving side from now on -/
  | linkDown (p : Port) (st : LineState)
  /-- MAC_FRAME_RECEIVE (R248): A received frame is stored, timestamped and classified by the receive MAC into exactly one counter. Operands: port, the octets with their FCS, what the line showed -/
  | macFrameReceive (p : Port) (octets : List Byte) (line : RxLine)
  /-- PAUSE_EXPIRY (R258): The pause time runs out and the held classes resume. Operands: port -/
  | pauseExpiry (p : Port)
  /-- PAUSE_FRAME_SEND (R261): A PAUSE frame is sent at the next frame boundary when receive buffer occupancy crosses XOFF or falls to XON. Operands: port -/
  | pauseFrameSend (p : Port)
  /-- PAUSE_REPEAT (R261): While occupancy stays above XON, the PAUSE frame is repeated each TX_QUANTA / 2 quanta. Operands: port -/
  | pauseRepeat (p : Port)
  /-- MDIO_C22_WRITE (R265): MDIO GO with Clause 22 OP 0b01 runs a write frame. Operands: requester, bus, value written -/
  | mdioC22Write (r : Req) (b : Fin 4) (v : Word)
  /-- MDIO_C22_READ (R266): MDIO GO with Clause 22 OP 0b10 runs a read frame. Operands: requester, bus, value written -/
  | mdioC22Read (r : Req) (b : Fin 4) (v : Word)
  /-- MDIO_C45_ADDRESS (R265): MDIO GO with Clause 45 OP 0b00 runs an address frame. Operands: requester, bus, value written -/
  | mdioC45Address (r : Req) (b : Fin 4) (v : Word)
  /-- MDIO_C45_WRITE (R265): MDIO GO with Clause 45 OP 0b01 runs a write frame. Operands: requester, bus, value written -/
  | mdioC45Write (r : Req) (b : Fin 4) (v : Word)
  /-- MDIO_C45_READ_INC (R266): MDIO GO with Clause 45 OP 0b10 runs a read with post-increment. Operands: requester, bus, value written -/
  | mdioC45ReadInc (r : Req) (b : Fin 4) (v : Word)
  /-- MDIO_C45_READ (R266): MDIO GO with Clause 45 OP 0b11 runs a read frame. Operands: requester, bus, value written -/
  | mdioC45Read (r : Req) (b : Fin 4) (v : Word)
  /-- MDIO_FRAME_DONE (R266): An MDIO frame ends after its fixed length, setting DONE and possibly NOACK. Operands: bus, whether the PHY answered, the data it drove -/
  | mdioFrameDone (b : Fin 4) (ack : Bool) (data : BitVec 16)
  /-- SMB_WRITE (R267): SMBus GO with OP 0b00 writes OFFSET and LEN octets. Operands: requester, bus, value written -/
  | smbWrite (r : Req) (c : Fin 2) (v : Word)
  /-- SMB_WRITE_READ (R267): SMBus GO with OP 0b01 writes OFFSET, sends a repeated START and reads LEN octets. Operands: requester, bus, value written -/
  | smbWriteRead (r : Req) (c : Fin 2) (v : Word)
  /-- SMB_PROBE (R267): SMBus GO with OP 0b10 probes the target address. Operands: requester, bus, value written -/
  | smbProbe (r : Req) (c : Fin 2) (v : Word)
  /-- SMB_TRANSACTION_END (R267): An SMBus transaction ends with STOP on completion, NACK, timeout or arbitration loss. Operands: bus, how the transaction ended, octets acknowledged, octets read -/
  | smbTransactionEnd (c : Fin 2) (how : Fin 4) (n : BitVec 6) (octets : List Byte)
  /-- FORWARD_FRAME (R272): A stored frame passes the forwarding steps of Table FWD-1 and receives its destination set. Operands: slice -/
  | forwardFrame (sl : Slice)
  /-- MAIN_TABLE_LOOKUP_RETURN (R276): A main-table read returns, and a current hit is installed into the cache. Operands: slice -/
  | mainTableLookupReturn (sl : Slice)
  /-- LEARN_COMMIT (R278): A queued key is committed to the cache and inserted into the main table. Operands: slice -/
  | learnCommit (sl : Slice)
  /-- XS_RECONCILE (R284): The Joiner reconciles a cross-slice report according to RECON. -/
  | xsReconcile
  /-- CACHE_SWEEP_VISIT (R285): The sweeper visits a dynamic cache entry and refreshes it, marks it seen, or issues a compare-and-remove. Operands: slice -/
  | cacheSweepVisit (sl : Slice)
  /-- CACHE_COMPARE_REMOVE (R285): A compare-and-remove removes a cache entry that is still unhit after its second clear observation. Operands: slice -/
  | cacheCompareRemove (sl : Slice)
  /-- MAIN_SCAN_VISIT (R287): The main-table scan removes stale generations and issues a compare-and-remove for expired entries. -/
  | mainScanVisit
  /-- MAIN_COMPARE_REMOVE (R287): A compare-and-remove removes an expired main-table entry whose TS has not changed. -/
  | mainCompareRemove
  /-- DGEN_BUMP (R289): FWD_CLR DYN bumps DGEN and flash-clears every dynamic cache entry, or is refused before a full scan pass. Operands: requester, value written to FWD_CLR (DYN = 1) -/
  | dgenBump (r : Req) (v : Word)
  /-- SGEN_BUMP (R289): FWD_CLR STAT bumps SGEN and invalidates every static entry, or is refused. Operands: requester, value written to FWD_CLR (STAT = 1) -/
  | sgenBump (r : Req) (v : Word)
  /-- TBL_INSERT (R291): FWD_TBL_CMD INSERT writes a static main-table entry and evicts the key from every cache. Operands: requester -/
  | tblInsert (r : Req)
  /-- TBL_DELETE (R291): FWD_TBL_CMD DELETE removes the key's main-table entry and its cache entries. Operands: requester -/
  | tblDelete (r : Req)
  /-- TBL_LOOKUP (R291): FWD_TBL_CMD LOOKUP returns the key's main-table word 1, OWNER and STATIC. Operands: requester -/
  | tblLookup (r : Req)
  /-- TBL_EVICT (R291): FWD_TBL_CMD EVICT removes the key from every cache only. Operands: requester -/
  | tblEvict (r : Req)
  /-- FWD_TABLE_DIRECT_WRITE (R292): A BAR4 or Bench 64-bit write to the learning cache or main table is serialised per bank. Operands: requester, word, value -/
  | fwdTableDirectWrite (r : Req) (w : FwdWord) (v : Word)
  /-- TRIE_WRITE (R298): A write of a trie word, tail entry or next hop is applied whole. Operands: requester, word, value -/
  | trieWrite (r : Req) (w : TrieWord) (v : Word)
  /-- TSQ_WORD_VISIT (R302): The Try-square reads the next device word of its regions at RATE and requests the shadow word. -/
  | tsqWordVisit
  /-- TSQ_COMPARE (R303): On return of the shadow word the Try-square compares it and reports or repairs a difference. Operands: the shadow word, or the four words of a shadow entry -/
  | tsqCompare (ws : Vector Word 4)
  /-- SQ_TAIL_DOORBELL (R314): A write of an SQ tail doorbell lets the engine fetch entries up to the new tail, or is ignored as invalid. Operands: writing function, BAR2 slot, SQ tail written -/
  | sqTailDoorbell (f : Nat) (slot : BitVec 16) (v : BitVec 32)
  /-- CQ_HEAD_DOORBELL (R327): A write of a CQ head doorbell releases entries and lets held completions be written. Operands: writing function, BAR2 slot, CQ head written -/
  | cqHeadDoorbell (f : Nat) (slot : BitVec 16) (v : BitVec 32)
  /-- SQ_ENTRY_FETCHED (R315): A fetched SQ entry is checked for phase and format and dispatched by its OPC. Operands: queue pair, the entry's words -/
  | sqEntryFetched (q : BitVec 16) (ws : Vector Word 8)
  /-- NOP (R319): A NOP entry completes OK in its turn. Operands: queue pair whose oldest fetched NOP runs -/
  | nop (q : BitVec 16)
  /-- SEND (R320): A SEND entry puts its frame on PORT as a non-scheduled frame. Operands: queue pair, octets read so far where the frame is cut through -/
  | send (q : BitVec 16) (head : List Byte)
  /-- SEND_FWD (R320): A SEND_FWD entry enters the forwarding pipeline of SLICE at step 2. Operands: queue pair, octets read so far where the frame is cut through -/
  | sendFwd (q : BitVec 16) (head : List Byte)
  /-- SEND_SCHED (R321): A SEND_SCHED entry is taken at the calendar's fetch and bound to the launch. Operands: queue pair -/
  | sendSched (q : BitVec 16)
  /-- RX_BUF (R323): An RX_BUF entry provides a receive buffer for the next frame delivered to the queue pair. Operands: queue pair -/
  | rxBuf (q : BitVec 16)
  /-- HOST_FRAME_FETCHED (R322): A host frame's data has been read whole into the packet buffer and is marked ready. Operands: queue pair, number of the entry since the queue's creation, the frame's octets -/
  | hostFrameFetched (q : BitVec 16) (n : Nat) (octets : List Byte)
  /-- ENTRY_RETIRE (R316): An entry retires in SQ order, advancing SQ_DONE and writing its completion. Operands: queue pair -/
  | entryRetire (q : BitVec 16)
  /-- WRITEBACK_UPDATE (R316): The SQ writeback word is written with SQ_DONE at most once per µs and within 2 µs of the last retirement. Operands: queue pair -/
  | writebackUpdate (q : BitVec 16)
  /-- CQ_TIMER_EXPIRY (R329): TIMER µs after UNREP left 0, the CQ fires its interrupt. Operands: queue pair of the CQ -/
  | cqTimerExpiry (q : BitVec 16)
  /-- MSIX_UNMASK (R330): Clearing a vector or function mask sends the messages pending in the PBA. Operands: function, the vector unmasked, or none for the function mask -/
  | msixUnmask (f : Nat) (v : Option (BitVec 11))
  /-- L1_REQUEST (R331): Before requesting L1 the device fires every CQ with UNREP > 0. Operands: under ASPM (R332), or after a write of D3hot -/
  | l1Request (aspm : Bool)
  /-- D3HOT_ENTRY (R333): A write of D3hot stops fetching, holds completions, drops RX frames and may send PME. Operands: function -/
  | d3hotEntry (f : Nat)
  /-- D3HOT_EXIT (R334): Return to D0 writes held completions, sends pending messages and resumes fetching. Operands: function -/
  | d3hotExit (f : Nat)
  /-- DATA_LINK_DOWN (R335): Loss of the PCIe data link is handled as a hot reset. -/
  | dataLinkDown
  /-- HOST_READ_ERROR (R337): A host read completed with UR, CA, poison or a completion timeout ends its entry with DATA_ERR. Operands: whose read; which one and how it failed -/
  | hostReadError (q : ReadOf) (n : ReadErr)
  /-- FLR (R338): A function-level reset destroys the function's queues without completions within 10 ms. Operands: function -/
  | flr (f : Nat)
  /-- ADMIN_DOORBELL (R339): A write of HQ_AQ_DB moves the admin SQ tail or CQ head. Operands: requester, function, halves written, value -/
  | adminDoorbell (r : Req) (f : Nat) (lo : Bool) (hi : Bool) (v : Word)
  /-- ADMIN_QUEUE_ENABLE (R339): Setting HQ_AQ_CFG.EN with valid bases and sizes sets READY within 10 µs. Operands: requester, function, value written to its admin configuration (EN = 1) -/
  | adminQueueEnable (r : Req) (f : Nat) (v : Word)
  /-- ADMIN_QUEUE_DISABLE (R339): Clearing HQ_AQ_CFG.EN lets the current command finish, clears READY and resets the indices. Operands: requester, function, value written to its admin configuration (EN = 0) -/
  | adminQueueDisable (r : Req) (f : Nat) (v : Word)
  /-- CREATE_CQ (R340): Admin CREATE_CQ creates a completion queue. Operands: function, the admin entry's words -/
  | createCq (f : Nat) (ws : Vector Word 8)
  /-- CREATE_SQ (R340): Admin CREATE_SQ creates a submission queue that targets an existing CQ. Operands: function, the admin entry's words -/
  | createSq (f : Nat) (ws : Vector Word 8)
  /-- DESTROY_SQ (R340): Admin DESTROY_SQ stops fetching and drains the SQ's entries in flight. Operands: function, the admin entry's words -/
  | destroySq (f : Nat) (ws : Vector Word 8)
  /-- DESTROY_SQ_DONE (R340): With the drain done, DESTROY_SQ completes and reports the number of completions discarded. Operands: function -/
  | destroySqDone (f : Nat)
  /-- DESTROY_CQ (R340): Admin DESTROY_CQ removes a CQ that no SQ targets. Operands: function, the admin entry's words -/
  | destroyCq (f : Nat) (ws : Vector Word 8)
  /-- MODIFY_CQ (R340): Admin MODIFY_CQ changes a CQ's vector and moderation. Operands: function, the admin entry's words -/
  | modifyCq (f : Nat) (ws : Vector Word 8)
  /-- QUERY_QP (R340): Admin QUERY_QP writes the queue status and counters to OUT, optionally clearing them. Operands: function, the admin entry's words -/
  | queryQp (f : Nat) (ws : Vector Word 8)
  /-- SET_VF_QUOTA (R340): Admin SET_VF_QUOTA gives a range of the PF's pool to a VF. Operands: function, the admin entry's words -/
  | setVfQuota (f : Nat) (ws : Vector Word 8)
  /-- ADMIN_GET_INFO (R340): Admin GET_INFO writes the function's queue and vector resources to OUT. Operands: function, the admin entry's words -/
  | adminGetInfo (f : Nat) (ws : Vector Word 8)
  /-- QUEUE_COUNTER_CAPTURE (R342): HQ_QCNT_SEL GO captures and optionally clears the 7 counters of a queue pair. Operands: requester, value written to HQ_QCNT_SEL (GO = 1) -/
  | queueCounterCapture (r : Req) (v : Word)
  /-- QUEUE_CAPTURE_DONE (R342): The queue counter capture completes and DONE is set. -/
  | queueCaptureDone
  /-- DMA_COMMIT (R356): DMA_CH_CMD COMMIT captures and checks the channel's shadow set and increments COMMITTED. Operands: requester, channel, value written to DMA_CH_CMD (OP 1, GO = 1) -/
  | dmaCommit (r : Req) (c : Fin 64) (v : Word)
  /-- DMA_HANDOVER (R357): DMA_CH_CMD HANDOVER hands over at once in IDLE, or sets HO_PEND for the next descriptor boundary. Operands: requester, channel, value written to DMA_CH_CMD (OP 2, GO = 1) -/
  | dmaHandover (r : Req) (c : Fin 64) (v : Word)
  /-- DMA_CONT (R359): DMA_CH_CMD CONT reissues a halted channel's failing beat and resumes running. Operands: requester, channel, value written to DMA_CH_CMD (OP 3, GO = 1) -/
  | dmaCont (r : Req) (c : Fin 64) (v : Word)
  /-- DMA_SKIP (R359): DMA_CH_CMD SKIP abandons the halted descriptor and continues with the next one. Operands: requester, channel, value written to DMA_CH_CMD (OP 4, GO = 1) -/
  | dmaSkip (r : Req) (c : Fin 64) (v : Word)
  /-- DMA_ABORT (R355): DMA_CH_CMD ABORT stops issuing, abandons waits and held records, and enters STOPPING. Operands: requester, channel, value written to DMA_CH_CMD (OP 5, GO = 1) -/
  | dmaAbort (r : Req) (c : Fin 64) (v : Word)
  /-- DMA_CLEAR_HO_PEND (R357): DMA_CH_CMD OP 6 clears HO_PEND. Operands: requester, channel, value written to DMA_CH_CMD (OP 6, GO = 1) -/
  | dmaClearHoPend (r : Req) (c : Fin 64) (v : Word)
  /-- DMA_DESCRIPTOR_READ (R348): A channel receives a descriptor it fetched and checks its format. Operands: channel, the read completed with an error, the descriptor's words -/
  | dmaDescriptorRead (c : Fin 64) (bad : Bool) (ws : Vector Word 8)
  /-- DMA_BEAT_COMPLETE (R352): A DMA beat completes or fails, possibly finishing the descriptor or halting the channel. Operands: channel, side (0 index, 1 source, 2 destination), the read completed with an error, the octets read -/
  | dmaBeatComplete (c : Fin 64) (side : Fin 3) (bad : Bool) (octets : List Byte)
  /-- DMA_RING_ENABLE (R353): Setting DMA_CR_CFG.EN puts a device ring in use with tail 0 and PHASE 1. Operands: requester, ring, value written to DMA_CR_CFG (EN = 1) -/
  | dmaRingEnable (r : Req) (k : Fin 16) (v : Word)
  /-- DMA_RING_HEAD_WRITE (R355): A write of DMA_CR_HEAD releases ring space and lets a held record be written. Operands: requester, ring, value written to DMA_CR_HEAD -/
  | dmaRingHeadWrite (r : Req) (k : Fin 16) (v : Word)
  /-- TRANSLATION_COMPLETION (R364): An ATS Translation Completion fills the ATC, or faults the waiting access and may send a Page Request. Operands: routing ID, PASID, page number asked for, completed successfully, the translation, read and write permission -/
  | translationCompletion (rid : BitVec 16) (pasid : Option (BitVec 20)) (page : BitVec 52) (ok : Bool) (size : AtsRange) (rd : Bool) (wr : Bool)
  /-- PAGE_RESPONSE (R364): A PRG Response either retries translation or fails every access waiting on it. Operands: routing ID, PASID, page number, response: 0 Success, 1 Invalid Request, 2 Response Failure -/
  | pageResponse (rid : BitVec 16) (pasid : Option (BitVec 20)) (page : BitVec 52) (code : Fin 3)
  /-- PRG_TIMEOUT (R364): A page request unanswered within PRG_TO_MS fails every waiting access. -/
  | prgTimeout
  /-- INVALIDATE_REQUEST (R366): An ATS Invalidate Request removes the matching ATC entries in one clock. Operands: ITag, routing ID, PASID, page number, log2 of the size -/
  | invalidateRequest (itag : BitVec 5) (rid : BitVec 16) (pasid : Option (BitVec 20)) (page : BitVec 52) (size : Fin 64)
  /-- INVALIDATE_COMPLETE (R366): The Invalidate Completion is sent once every access translated by a removed entry has completed. -/
  | invalidateComplete
  /-- ATC_FLUSH (R363): XLT_CFG FLUSH invalidates every ATC entry under the completion rule of R366. Operands: requester, value written to XLT_CFG (FLUSH = 1) -/
  | atcFlush (r : Req) (v : Word)
  /-- FIRMWARE_BOOT (R373): The boot ROM verifies and runs a firmware slot, or enters boot hold. Operands: the flash answers its SFDP discovery -/
  | firmwareBoot (found : Bool)
  /-- MAILBOX_GO (R378): MBX_DB GO makes a request pending for the Joiner, or sets OVR. Operands: requester, mailbox, value written to MBX_DB (GO = 1) -/
  | mailboxGo (r : Req) (m : Mailbox) (v : Word)
  /-- MAILBOX_REQUEST_WRITE (R378): A write to a mailbox request area is stored, or dropped with WR_BUSY while a GO is pending. Operands: requester, mailbox, word of the request area, value written -/
  | mailboxRequestWrite (r : Req) (m : Mailbox) (w : BitVec 8) (v : Word)
  /-- MAILBOX_COMMAND_TIMEOUT (R388): A command still running at its Max returns TIMEOUT and abandons its wait. Operands: mailbox -/
  | mailboxCommandTimeout (m : Mailbox)
  /-- JOINER_WATCHDOG_RESET (R390): A missed watchdog service resets island 44, completes busy mailboxes with JOINER_RESET and ends unlocks. -/
  | joinerWatchdogReset
  /-- LEASE_EXPIRY (R385): REMAIN_S reaching 0 relocks the block. Operands: block -/
  | leaseExpiry (k : Fin 23)
  /-- LOCKOUT_END (R384): After 60 s the lockout of a block ends and FAILS restarts at 0. Operands: block -/
  | lockoutEnd (k : Fin 23)
  /-- GET_INFO (R389): Mailbox GET_INFO returns the running image version, SVN, slot and GLB_ID. -/
  | getInfo
  /-- GET_STATUS (R389): Mailbox GET_STATUS returns MBX_FW_STAT and MBX_UNLOCK. -/
  | getStatus
  /-- MBX_ASSIGN (R377): Mailbox MBX_ASSIGN moves a mailbox that is not busy to another PF or to the Bench. -/
  | mbxAssign
  /-- DEVICE_RESET (R389): Mailbox DEVICE_RESET with the confirmation value schedules a device reset 1 ms after DONE. -/
  | deviceReset
  /-- DEVICE_RESET_START (R441): 1 ms after DONE, the device reset resets islands 0–31 and 33–45 and destroys every queue pair. -/
  | deviceResetStart
  /-- FW_WRITE (R375): Mailbox FW_WRITE writes data to the firmware slot that is not running. -/
  | fwWrite
  /-- FW_VERIFY (R375): Mailbox FW_VERIFY applies the boot acceptance checks to the other slot. -/
  | fwVerify
  /-- FW_ACTIVATE (R375): Mailbox FW_ACTIVATE writes a boot descriptor naming the verified slot. -/
  | fwActivate
  /-- FW_RESTART (R375): Mailbox FW_RESTART restarts the Joiner 1 ms after DONE. -/
  | fwRestart
  /-- FW_COMMIT_SVN (R375): Mailbox FW_COMMIT_SVN raises the fused security version. -/
  | fwCommitSvn
  /-- EXPERT_UNLOCK (R383): Mailbox EXPERT_UNLOCK unlocks a block with its token, or returns LOCKED_OUT, EXPERT_HELD or BAD_TOKEN. -/
  | expertUnlock
  /-- EXPERT_LOCK (R385): Mailbox EXPERT_LOCK relocks the named blocks held by the requester. -/
  | expertLock
  /-- TOKEN_SET (R382): Mailbox TOKEN_SET replaces a block's token when OLD matches. -/
  | tokenSet
  /-- TEST_MODE (R386): Mailbox TEST_MODE sets or clears test mode for the holder of JIG_. -/
  | testMode
  /-- TIME_SOURCE (R380): Mailbox TIME_SOURCE writes TIM_CTL, TIM_SERVO_CFG and TIM_HOLD_CFG. -/
  | timeSource
  /-- PTP_INSTANCE (R389): Mailbox PTP_INSTANCE configures a gPTP or 1588 instance in the Joiner. -/
  | ptpInstance
  /-- PTP_PORT (R389): Mailbox PTP_PORT configures a PTP port, its TIM_PORT_CFG and its shim. -/
  | ptpPort
  /-- PTP_STATUS (R389): Mailbox PTP_STATUS returns the port state, offset and grandmaster of an instance. -/
  | ptpStatus
  /-- TIME_PINS (R389): Mailbox TIME_PINS writes the PPS_IN, PPS_OUT and CLK10M configuration. -/
  | timePins
  /-- TIME_ADJUST (R389): Mailbox TIME_ADJUST writes TIM_ADJ with GO, stepping or slewing the time base. -/
  | timeAdjust
  /-- TIME_SET (R389): Mailbox TIME_SET loads a new time through TIM_SET_SEC and TIM_SET_NS. -/
  | timeSet
  /-- SNAPSHOT_ARM (R389): Mailbox SNAPSHOT_ARM writes T and arms or cancels a scheduled snapshot. -/
  | snapshotArm
  /-- CAL_START (R389): Mailbox CAL_START starts the calendar with FIRST_BANK at the given time. -/
  | calStart
  /-- CAL_STOP (R389): Mailbox CAL_STOP stops the calendar or cancels a pending start. -/
  | calStop
  /-- CAL_PORT (R389): Mailbox CAL_PORT writes CAL_PORT_CFG of a port. -/
  | calPort
  /-- CAL_STATUS (R389): Mailbox CAL_STATUS returns CAL_STAT, the bank states and generations. -/
  | calStatus
  /-- PRE_PORT (R389): Mailbox PRE_PORT writes a port's pre-emption configuration and class map. -/
  | prePort
  /-- STREAM_WRITE (R389): Mailbox STREAM_WRITE writes record words 1, 2 and then 0 of a stream. -/
  | streamWrite
  /-- STREAM_READ (R389): Mailbox STREAM_READ returns the eight words of a stream record. -/
  | streamRead
  /-- STREAM_CMD (R389): Mailbox STREAM_CMD executes a STR_CMD operation on a stream. -/
  | streamCmd
  /-- STREAM_COUNTERS (R389): Mailbox STREAM_COUNTERS returns and optionally clears the counters of a stream. -/
  | streamCounters
  /-- STREAM_PORT (R389): Mailbox STREAM_PORT writes STR_PORT_CFG of a port. -/
  | streamPort
  /-- RING_ATTACH (R389): Mailbox RING_ATTACH writes an attachment's five configuration registers together or none. -/
  | ringAttach
  /-- RING_STATUS (R389): Mailbox RING_STATUS returns an attachment's state, members, correction and switch status. -/
  | ringStatus
  /-- RING_SWITCH (R389): Mailbox RING_SWITCH proposes a mode switch and waits for the decision. -/
  | ringSwitch
  /-- RING_BARRIER (R389): Mailbox RING_BARRIER arrives at a barrier and waits up to WAIT_MS for completion. -/
  | ringBarrier
  /-- RING_BCAST (R389): Mailbox RING_BCAST sends a ring broadcast and waits for its transmission. -/
  | ringBcast
  /-- SOLVE_SUBMIT (R212): Mailbox SOLVE_SUBMIT queues a solver request. -/
  | solveSubmit
  /-- SOLVE_FULL (R223): Mailbox SOLVE_FULL queues a full recompilation from a file image. -/
  | solveFull
  /-- SOLVE_RESULT (R231): Mailbox SOLVE_RESULT returns and pops the head solver result. -/
  | solveResult
  /-- SOLVE_ACTIVATE (R227): Mailbox SOLVE_ACTIVATE activates the head bank. -/
  | solveActivate
  /-- SOLVE_ABORT (R229): Mailbox SOLVE_ABORT aborts the running solver job. -/
  | solveAbort
  /-- SOLVE_STATUS (R389): Mailbox SOLVE_STATUS returns SOL_STAT and SOL_RES_STAT. -/
  | solveStatus
  /-- PORT_MODE (R389): Mailbox PORT_MODE writes SDS_MODE and PCS_CFG of a port. -/
  | portMode
  /-- PORT_MAC (R389): Mailbox PORT_MAC writes MAC_CFG, MAC_VLAN_CFG and MAC_RX_BUF of a port. -/
  | portMac
  /-- PORT_FILTER (R389): Mailbox PORT_FILTER writes one unicast or multicast filter entry. -/
  | portFilter
  /-- PORT_PAUSE (R389): Mailbox PORT_PAUSE writes MAC_PAUSE_CFG with EXP forced to 0. -/
  | portPause
  /-- PORT_EEE (R389): Mailbox PORT_EEE writes MAC_EEE_CFG and returns it as stored. -/
  | portEee
  /-- PORT_SHIM (R389): Mailbox PORT_SHIM writes an equalisation shim and returns it as stored. -/
  | portShim
  /-- PORT_STATUS (R389): Mailbox PORT_STATUS returns the PCS, MAC, lane and pre-emption status of a port. -/
  | portStatus
  /-- MDIO_XFER (R389): Mailbox MDIO_XFER runs one MDIO frame and waits for it. -/
  | mdioXfer
  /-- SMB_XFER (R389): Mailbox SMB_XFER runs one SMBus transaction and waits for it. -/
  | smbXfer
  /-- FDB_CMD (R389): Mailbox FDB_CMD executes a forwarding table command. -/
  | fdbCmd
  /-- FDB_CLEAR (R389): Mailbox FDB_CLEAR bumps the dynamic or static generation. -/
  | fdbClear
  /-- XS_REPORTS (R284): Mailbox XS_REPORTS takes up to MAX cross-slice reports from the queue. -/
  | xsReports
  /-- ROUTE_ADD (R389): Mailbox ROUTE_ADD adds a batch of prefixes to the tries. -/
  | routeAdd
  /-- ROUTE_DEL (R389): Mailbox ROUTE_DEL removes a batch of prefixes from the tries. -/
  | routeDel
  /-- NEXTHOP_SET (R389): Mailbox NEXTHOP_SET writes a next hop. -/
  | nexthopSet
  /-- ROUTE_COUNT (R389): Mailbox ROUTE_COUNT returns prefix, node and tail block counts. -/
  | routeCount
  /-- VLAN_SET (R389): Mailbox VLAN_SET writes an FWD_VLAN entry. -/
  | vlanSet
  /-- MCG_SET (R389): Mailbox MCG_SET writes an FWD_MCG entry. -/
  | mcgSet
  /-- FWD_PORT (R389): Mailbox FWD_PORT writes FWD_PORT_CFG of a port. -/
  | fwdPort
  /-- FWD_SET (R389): Mailbox FWD_SET writes the device-wide forwarding configuration. -/
  | fwdSet
  /-- TSQ_SET (R389): Mailbox TSQ_SET writes the Try-square control and regions with REPAIR forced to 0. -/
  | tsqSet
  /-- TSQ_STATUS (R389): Mailbox TSQ_STATUS returns FWD_TSQ_STAT and FWD_TSQ_MISS. -/
  | tsqStatus
  /-- HOST_LINK (R389): Mailbox HOST_LINK returns the link rate, width, FLIT mode and the requester's D-state. -/
  | hostLink
  /-- DMA_CHANNEL (R389): Mailbox DMA_CHANNEL writes a channel's shadow set and commits it, optionally handing over. -/
  | dmaChannel
  /-- DMA_RING (R389): Mailbox DMA_RING writes a device ring's base and configuration. -/
  | dmaRing
  /-- DMA_CONTROL (R389): Mailbox DMA_CONTROL issues CONT, SKIP, ABORT or clear HO_PEND to a channel owned by the requester. -/
  | dmaControl
  /-- DMA_RING_HEAD (R389): Mailbox DMA_RING_HEAD writes a device ring's head for its PF. -/
  | dmaRingHead
  /-- BENCH_LOAD (R406): Mailbox BENCH_LOAD copies a workload from host memory into the customer region and sets the entry. Operands: the octets read from host memory, none where their translation or read fails -/
  | benchLoad (data : Option (List Byte))
  /-- BENCH_START (R406): Mailbox BENCH_START releases a stopped group's harts at its entry address. -/
  | benchStart
  /-- BENCH_STOP (R406): Mailbox BENCH_STOP halts a group's harts, writes back its caches and stops it. -/
  | benchStop
  /-- BENCH_STATUS (R406): Mailbox BENCH_STATUS returns the state of a group. -/
  | benchStatus
  /-- FLT_SEVERITY (R412): Mailbox FLT_SEVERITY sets the class of a block and kind, or is refused for a fixed class. -/
  | fltSeverity
  /-- FLT_READ (R421): Mailbox FLT_READ returns and pops up to MAX fault messages. -/
  | fltRead
  /-- PWR_STATE (R431): Mailbox PWR_STATE requests Full, Quiet or Standby. -/
  | pwrState
  /-- PWR_STATUS (R389): Mailbox PWR_STATUS returns the power state and the dip record. -/
  | pwrStatus
  /-- BENCH_TIMER_INTERRUPT (R394): time reaching BEN_TIMECMP[h] makes the machine timer interrupt of hart h pending. Operands: hart -/
  | benchTimerInterrupt (h : Fin 32)
  /-- BENCH_QP_CONFIG (R403): A write of BEN_QP_CFG gives the Bench a range of PF0's queue pairs, or is ignored. Operands: requester, value written to BEN_QP_CFG -/
  | benchQpConfig (r : Req) (v : Word)
  /-- BENCH_ADMIN_ENABLE (R404): Setting BEN_AQ_CFG.EN starts the Bench admin queue under R339. Operands: requester, value written to BEN_AQ_CFG (EN = 1) -/
  | benchAdminEnable (r : Req) (v : Word)
  /-- FAULT_MESSAGE (R413): The collector assigns a message its class, takes the reaction, queues it and drives the pins. Operands: none: the next message of the device's units; some: SOURCE, KIND and ADDRESS of a unit's own detection -/
  | faultMessage (m : Option (BitVec 12 × BitVec 8 × BitVec 40))
  /-- FENCE_ESCALATION (R413): A fence not acknowledged within 10 µs escalates to Halt. Operands: island whose isolation cells do not acknowledge -/
  | fenceEscalation (i : Fin 48)
  /-- OVERFLOW_MESSAGE (R422): After a loss, one FLT_ kind 0x10 message is queued once space appears. -/
  | overflowMessage
  /-- FAULT_POP (R421): POP in FLT_Q_STAT removes the oldest queued message. Operands: requester, value written to FLT_Q_STAT (POP = 1) -/
  | faultPop (r : Req) (v : Word)
  /-- FENCE_RELEASE (R415): FLT_FENCE_REL GO clears ATTEMPTS and releases a fenced island into reset. Operands: requester, value written to FLT_FENCE_REL (GO = 1) -/
  | fenceRelease (r : Req) (v : Word)
  /-- AUTO_RELEASE (R415): AUTO_MS after a fence, while ATTEMPTS < AUTO_MAX, the island is released and ATTEMPTS increments. Operands: island -/
  | autoRelease (i : Fin 48)
  /-- ISLAND_RESET_DONE (R415): The released island's reset completes, its fence bits clear and its owner resumes. Operands: island -/
  | islandResetDone (i : Fin 48)
  /-- ATTEMPTS_CLEAR (R415): ATTEMPTS clears once the island has stayed unfenced for 3,600 s. Operands: island -/
  | attemptsClear (i : Fin 48)
  /-- HALT_COMMAND (R417): FLT_HALT_CMD GO with the confirmation value halts the device. Operands: requester, value written to FLT_HALT_CMD (GO = 1) -/
  | haltCommand (r : Req) (v : Word)
  /-- JIG_INJECT (R426): A write of JIG_INJ while the Jig is active submits a fault message with the full reaction of its class. Operands: requester, value written to JIG_INJ -/
  | jigInject (r : Req) (v : Word)
  /-- JIG_REORDER_RELEASE (R425): A reordered frame is released after K further frames or 100 µs. Operands: rule -/
  | jigReorderRelease (n : Fin 16)
  /-- JIG_DELAY_RELEASE (R425): A delayed frame is released after DELAY_NS. Operands: rule -/
  | jigDelayRelease (n : Fin 16)
  /-- POWER_REQUEST_FULL (R431): PWR_CTL GO with TARGET 0 requests Full and clears STBY_ARMED. Operands: requester, value written to PWR_CTL (GO = 1, TARGET = 0) -/
  | powerRequestFull (r : Req) (v : Word)
  /-- POWER_REQUEST_QUIET (R431): PWR_CTL GO with TARGET 1 requests Quiet, or is refused while the solver runs. Operands: requester, value written to PWR_CTL (GO = 1, TARGET = 1) -/
  | powerRequestQuiet (r : Req) (v : Word)
  /-- POWER_REQUEST_STANDBY (R432): PWR_CTL GO with TARGET 2 arms Standby, or is refused. Operands: requester, value written to PWR_CTL (GO = 1, TARGET = 2) -/
  | powerRequestStandby (r : Req) (v : Word)
  /-- POWER_TRANSITION_DONE (R433): The sequencer completes a transition, the new state is reached and BUSY clears. -/
  | powerTransitionDone
  /-- STANDBY_ENTRY (R432): With Standby armed, the device enters it once every function is in D3hot and the link is in L1. -/
  | standbyEntry
  /-- STANDBY_EXIT (R432): Standby is left on an L1.2 exit, on PERST#, or 10 ms after a forcing dip has recovered. Operands: 0 the host begins an exit from L1.2, 1 PERST# is asserted, 2 the rails have recovered for 10 ms -/
  | standbyExit (why : Fin 3)
  /-- SUPPLY_WARNING (R435): A core rail falling below its warning threshold counts a dip, starts the dip timer and raises a supply warning. Operands: rail that falls below its warning threshold, its sample -/
  | supplyWarning (rail : Fin 9) (mv : BitVec 16)
  /-- SUPPLY_RECOVER (R436): The warning ends before the timer expires and the freeze and pause end. Operands: rail that recovers -/
  | supplyRecover (rail : Fin 9)
  /-- DIP_TIMER_EXPIRY (R436): A warning lasting 50 µs forces Standby and increments SMON_LONG_CNT. -/
  | dipTimerExpiry
  /-- KEEP_ENTRY (R437): A core rail crossing its reset threshold takes the device to Keep and stores the time base. Operands: rail that crosses its reset threshold -/
  | keepEntry (rail : Fin 9)
  /-- KEEP_SUPPLY_WARNING (R438): VDD_KEEP below its warning threshold sets KEEP_WARN. Operands: VDD_KEEP is now below its warning threshold, or has recovered -/
  | keepSupplyWarning (below : Bool)
  /-- SMON_CLEAR (R447): SMON_CLR GO clears DIP_CNT and MIN_MV. Operands: requester, value written to SMON_CLR (GO = 1) -/
  | smonClear (r : Req) (v : Word)
  /-- POWER_ON_RESET (R454): After every core rail has stayed above its warning threshold for 10 ms, the device takes a power-on reset and loads its fuses. Operands: fuse groups whose CRC fails -/
  | powerOnReset (bad : BitVec 7)
  /-- REFERENCE_LOSS (R440): A reference clock without edges or off frequency is lost, counted and reported. Operands: reference -/
  | referenceLoss (k : Fin 4)
  /-- REFERENCE_RETURN (R440): A reference within ±0.5 % for 10 ms returns. Operands: reference -/
  | referenceReturn (k : Fin 4)
  /-- PERST_ASSERT (R441): PERST# resets the islands and functions of its scope. -/
  | perstAssert
  /-- PERST_DEASSERT (R455): Deassertion of PERST_N starts link training within 20 ms. -/
  | perstDeassert
  /-- HOT_RESET (R338): A hot reset resets islands 33 and 45 and every function. -/
  | hotReset
  /-- JOINER_RESTART (R375): 1 ms after the DONE of FW_RESTART, island 44 is reset, the boot ROM runs and every expert unlock ends. -/
  | joinerRestart
  /-- PCIE_CONFIG_WRITE (R365): A host write to configuration space changes PTM Enable, PRI Enable, ATS Enable, PME_En or L1 PM Substates Control, with effects such as clearing TIM_PTM_CTL.VALID or ending a Response Failure. Operands: function, the values that PTM Enable, PRI Enable, ATS Enable, PME_En, the L1.2 enables, MSI-X Enable take; and the rest of the space -/
  | pcieConfigWrite (f : Nat) (ptm : Bool) (pri : Bool) (ats : Bool) (pme : Bool) (l12 : Bool) (msix : Bool) (rest : CfgRest)
  /-- PCIE_LINK_L0_ENTRY (R335): The PCIe link reaches L0 after training, recovery or an exit from L1, so that DMA and waiting calendar fetches resume and PTM requests may be issued again. -/
  | pcieLinkL0Entry
  /-- KEEP_SUPPLY_RESET (R438): VDD_KEEP crossing its reset threshold resets the keep domain and leaves the bypass pins and HALT_N unpowered and high-impedance. -/
  | keepSupplyReset
  /-- PPS_OUT_EDGE (R56): With EN = 1, PPS_OUT rises at each second boundary plus OFFSET and falls after WIDTH µs, and CLK10M_OUT toggles at its instants, both squelched under R58. Operands: pin (CLK10M_OUT or PPS_OUT), edge -/
  | ppsOutEdge (clk : Bool) (rise : Bool)
  deriving DecidableEq, Repr

end Sys2Proof
end

