-- ==== Sys2Proof/Machine/Bits.lean ====
section
/-! DEFINITION. Bit fields of words, signed and unsigned readings, octet order, sparse maps, and what a register table says of one
field (Table SCO-6).  Everything here is used by the meanings of every family. -/

namespace Sys2Proof.Machine

/-! ### Bit fields -/

/-- The field of width `w` whose lowest bit is `lo` (R7). -/
def getF (x : Word) (lo w : Nat) : Nat := (x.toNat >>> lo) % 2 ^ w

/-- Bit `i` of a word. -/
def getB (x : Word) (i : Nat) : Bool := x.toNat.testBit i

/-- The word with the field of width `w` at `lo` replaced by the low `w` bits of `v`. -/
def setF (x : Word) (lo w v : Nat) : Word :=
  BitVec.ofNat 64 (x.toNat - ((x.toNat >>> lo) % 2 ^ w) * 2 ^ lo + (v % 2 ^ w) * 2 ^ lo)

/-- The word with bit `i` set to `b`. -/
def setB (x : Word) (i : Nat) (b : Bool) : Word := setF x i 1 (if b then 1 else 0)

/-- A field of width `w` placed at `lo`. -/
def fld (lo w v : Nat) : Nat := (v % 2 ^ w) * 2 ^ lo

/-- The two's complement reading of a `w`-bit value. -/
def toSigned (w v : Nat) : Int := if v % 2 ^ w < 2 ^ (w - 1) then (v % 2 ^ w : Nat) else ((v % 2 ^ w : Nat) : Int) - 2 ^ w

/-- The `w`-bit two's complement code of an integer. -/
def ofSigned (w : Nat) (i : Int) : Nat := (i % (2 ^ w : Nat)).toNat

/-- The integer moved to the nearest bound of `lo`–`hi` where it lies outside. -/
def clampI (lo hi i : Int) : Int := if i < lo then lo else if hi < i then hi else i

/-- The number moved to the nearest bound of `lo`–`hi` where it lies outside. -/
def clampN (lo hi n : Nat) : Nat := if n < lo then lo else if hi < n then hi else n

/-- 1 for true, 0 for false. -/
def bit (b : Bool) : Nat := if b then 1 else 0

/-! ### Octets -/

/-- The number a list of octets spells, least significant first (R8). -/
def leNat : List Byte → Nat
  | [] => 0
  | b :: t => b.toNat + 256 * leNat t

/-- The number a list of octets spells, most significant first (R9). -/
def beNat (l : List Byte) : Nat := l.foldl (fun n b => n * 256 + b.toNat) 0

/-- The `n` octets of a number, least significant first (R8). -/
def leBytes : Nat → Nat → List Byte
  | 0, _ => []
  | n + 1, v => BitVec.ofNat 8 v :: leBytes n (v / 256)

/-- The `n` octets of a number, most significant first (R9). -/
def beBytes (n v : Nat) : List Byte := (leBytes n v).reverse

/-! ### Sparse maps -/

/-- The value of a key, none where the key is not listed. -/
def Sparse.find {α : Type} : Sparse α → Nat → Option α
  | [], _ => none
  | (k', v) :: t, k => if k' = k then some v else Sparse.find t k

/-- The map with a key's value replaced or added, the keys kept rising. -/
def Sparse.put {α : Type} : Sparse α → Nat → α → Sparse α
  | [], k, v => [(k, v)]
  | (k', v') :: t, k, v =>
    if k < k' then (k, v) :: (k', v') :: t
    else if k' = k then (k, v) :: t
    else (k', v') :: Sparse.put t k v

/-- The map without a key. -/
def Sparse.del {α : Type} (m : Sparse α) (k : Nat) : Sparse α := m.filter (fun e => e.1 != k)

/-- The value of a key, `d` where it is not listed. -/
def Sparse.getD {α : Type} (m : Sparse α) (k : Nat) (d : α) : α := (Sparse.find m k).getD d

/-- The map with a key's value written, a value equal to the default `d` not listed. -/
def Sparse.setD {α : Type} [DecidableEq α] (m : Sparse α) (k : Nat) (d v : α) : Sparse α :=
  if v = d then Sparse.del m k else Sparse.put m k v

/-- The canonical form: keys strictly rising. -/
def Sparse.sorted {α : Type} : Sparse α → Bool
  | [] => true
  | [_] => true
  | a :: b :: t => decide (a.1 < b.1) && Sparse.sorted (b :: t)

/-! ### Register fields -/

/-- What a field does with a value outside its range. -/
inductive Rng where
  /-- every value is in range -/
  | any
  /-- a value outside the bounds makes the whole write ignored -/
  | within (lo hi : Nat)
  /-- an unsigned value outside the bounds is moved to the nearest bound -/
  | clamp (lo hi : Nat)
  /-- a signed value outside the bounds is moved to the nearest bound -/
  | clampS (lo hi : Int)
  deriving DecidableEq, Repr

/-- Access codes of Table SCO-6 (RSV fields are not listed). -/
inductive Acc where
  | rw | ro | rc | w1c | w1s | wo
  deriving DecidableEq, Repr

/-- One field of a register table. -/
structure Fld where
  lo : Nat
  wid : Nat
  acc : Acc
  rst : Nat
  rng : Rng
  deriving DecidableEq, Repr

/-- One register of a block's map: base address of copy 0, counts and strides of the copies, fields. -/
structure RegDesc where
  base : Nat
  dims : List (Nat × Nat)
  flds : List Fld
  deriving DecidableEq, Repr

end Sys2Proof.Machine
end

