-- ==== Sys2Proof/Machine/RegMap.lean ====
section
/-! DEFINITION. The register map: the BAR0 address of every register the specification names (Table ARC-14 and the map of each
chapter, R10), as functions of the port, slice, channel or queue index. -/

namespace Sys2Proof.Machine.Reg

/-! GLB_ block -/
/-- `GLB_ID`: Table ARC-9, 01_architecture.md. -/
def glbId : Nat := 0x0
/-- `GLB_ISLAND_UP`: Table ARC-10, 01_architecture.md. -/
def glbIslandUp : Nat := 0x10
/-- `GLB_ISLAND_FENCED`: Table ARC-10, 01_architecture.md. -/
def glbIslandFenced : Nat := 0x18
/-- `GLB_ACC_ERR`: Table ARC-11, 01_architecture.md. -/
def glbAccErr : Nat := 0x20
/-- `GLB_ACC_ERR_CNT`: Table ARC-17, 01_architecture.md. -/
def glbAccErrCnt : Nat := 0x28
/-- `GLB_LOCK_WR_CNT`: Table ARC-17, 01_architecture.md. -/
def glbLockWrCnt : Nat := 0x30
/-- `GLB_SNAP_CTL`: Table ARC-12, 01_architecture.md. -/
def glbSnapCtl : Nat := 0x100
/-- `GLB_SNAP_STAT`: Table ARC-12, 01_architecture.md. -/
def glbSnapStat : Nat := 0x108
/-- `GLB_SNAP_DATA`: Table ARC-8, 01_architecture.md. -/
def glbSnapData (i : Nat) : Nat := 0x200 + i * 0x8
/-! TIM_ block -/
/-- `TIM_CTL`: Table TIM-9, 02_time_base.md. -/
def timCtl : Nat := 0x100000
/-- `TIM_STAT`: Table TIM-9, 02_time_base.md. -/
def timStat : Nat := 0x100008
/-- `TIM_RATE`: Table TIM-9, 02_time_base.md. -/
def timRate : Nat := 0x100010
/-- `TIM_ADJ`: Table TIM-9, 02_time_base.md. -/
def timAdj : Nat := 0x100018
/-- `TIM_SET_SEC`: Table TIM-9, 02_time_base.md. -/
def timSetSec : Nat := 0x100028
/-- `TIM_SET_NS`: Table TIM-9, 02_time_base.md. -/
def timSetNs : Nat := 0x100030
/-- `TIM_SERVO_CFG`: Table TIM-9, 02_time_base.md. -/
def timServoCfg : Nat := 0x100040
/-- `TIM_SERVO_IN`: Table TIM-9, 02_time_base.md. -/
def timServoIn : Nat := 0x100048
/-- `TIM_SERVO_OFS`: Table TIM-9, 02_time_base.md. -/
def timServoOfs : Nat := 0x100050
/-- `TIM_SERVO_INTEG`: Table TIM-9, 02_time_base.md. -/
def timServoInteg : Nat := 0x100058
/-- `TIM_HOLD_CFG`: Table TIM-9, 02_time_base.md. -/
def timHoldCfg : Nat := 0x100060
/-- `TIM_PPSIN_CFG`: Table TIM-10, 02_time_base.md. -/
def timPpsinCfg : Nat := 0x100080
/-- `TIM_PPSIN_CAP`: Table TIM-10, 02_time_base.md. -/
def timPpsinCap : Nat := 0x100088
/-- `TIM_PPSOUT_CFG`: Table TIM-10, 02_time_base.md. -/
def timPpsoutCfg : Nat := 0x100090
/-- `TIM_CLK10_CFG`: Table TIM-10, 02_time_base.md. -/
def timClk10Cfg : Nat := 0x100098
/-- `TIM_PTM_CTL`: Table TIM-10, 02_time_base.md. -/
def timPtmCtl : Nat := 0x1000a0
/-- `TIM_PTM_LOCAL`: Table TIM-10, 02_time_base.md. -/
def timPtmLocal : Nat := 0x1000a8
/-- `TIM_PTM_MASTER`: Table TIM-10, 02_time_base.md. -/
def timPtmMaster : Nat := 0x1000b0
/-- `TIM_PTM_DELAY`: Table TIM-10, 02_time_base.md. -/
def timPtmDelay : Nat := 0x1000b8
/-- `TIM_SNAPT_SEC`: Table TIM-10, 02_time_base.md. -/
def timSnaptSec : Nat := 0x1000c0
/-- `TIM_SNAPT_NS`: Table TIM-10, 02_time_base.md. -/
def timSnaptNs : Nat := 0x1000c8
/-- `TIM_SNAPT_CTL`: Table TIM-10, 02_time_base.md. -/
def timSnaptCtl : Nat := 0x1000d0
/-- `TIM_SNAPT_STAT`: Table TIM-10, 02_time_base.md. -/
def timSnaptStat : Nat := 0x1000d8
/-- `TIM_PPSIN_REJ_CNT`: Table TIM-11, 02_time_base.md. -/
def timPpsinRejCnt : Nat := 0x100100
/-- `TIM_ADJ_REF_CNT`: Table TIM-11, 02_time_base.md. -/
def timAdjRefCnt : Nat := 0x100108
/-- `TIM_HOLD_CNT`: Table TIM-11, 02_time_base.md. -/
def timHoldCnt : Nat := 0x100110
/-- `TIM_PTM_TO_CNT`: Table TIM-11, 02_time_base.md. -/
def timPtmToCnt : Nat := 0x100118
/-- `TIM_SAMP_REJ_CNT`: Table TIM-11, 02_time_base.md. -/
def timSampRejCnt : Nat := 0x100120
/-- `TIM_PORT_CFG`: Table TIM-11, 02_time_base.md. -/
def timPortCfg (i : Nat) : Nat := 0x101000 + i * 0x20
/-- `TIM_TS_SHIM`: Table TIM-11, 02_time_base.md. -/
def timTsShim (i : Nat) : Nat := 0x101008 + i * 0x20
/-- `TIM_PORT_LDLY`: Table TIM-11, 02_time_base.md. -/
def timPortLdly (i : Nat) : Nat := 0x101010 + i * 0x20
/-- `TIM_TS_FUSE`: Table TIM-11, 02_time_base.md. -/
def timTsFuse (i : Nat) : Nat := 0x102000 + i * 0x8
/-! CAL_ block -/
/-- `CAL_CTL`: Table CAL-13, 03_kerf_calendar.md. -/
def calCtl : Nat := 0x200000
/-- `CAL_STAT`: Table CAL-13, 03_kerf_calendar.md. -/
def calStat : Nat := 0x200008
/-- `CAL_START_SEC`: Table CAL-13, 03_kerf_calendar.md. -/
def calStartSec : Nat := 0x200010
/-- `CAL_START_NS`: Table CAL-13, 03_kerf_calendar.md. -/
def calStartNs : Nat := 0x200018
/-- `CAL_FETCH_LEAD`: Table CAL-13, 03_kerf_calendar.md. -/
def calFetchLead : Nat := 0x200020
/-- `CAL_CMD`: Table CAL-13, 03_kerf_calendar.md. -/
def calCmd : Nat := 0x200028
/-- `CAL_ACT`: Table CAL-13, 03_kerf_calendar.md. -/
def calAct : Nat := 0x200030
/-- `CAL_ACT_STAT`: Table CAL-13, 03_kerf_calendar.md. -/
def calActStat : Nat := 0x200038
/-- `CAL_BANK_CYC`: Table CAL-14, 03_kerf_calendar.md. -/
def calBankCyc (i : Nat) : Nat := 0x200100 + i * 0x20
/-- `CAL_BANK_HP`: Table CAL-14, 03_kerf_calendar.md. -/
def calBankHp (i : Nat) : Nat := 0x200108 + i * 0x20
/-- `CAL_BANK_STAT`: Table CAL-14, 03_kerf_calendar.md. -/
def calBankStat (i : Nat) : Nat := 0x200110 + i * 0x20
/-- `CAL_GEN`: Table CAL-14, 03_kerf_calendar.md. -/
def calGen (i : Nat) : Nat := 0x200118 + i * 0x20
/-- `CAL_ECC_CNT`: Table CAL-15, 03_kerf_calendar.md. -/
def calEccCnt : Nat := 0x200200
/-- `CAL_VAL_FAIL_CNT`: Table CAL-15, 03_kerf_calendar.md. -/
def calValFailCnt : Nat := 0x200208
/-- `CAL_WR_REF_CNT`: Table CAL-15, 03_kerf_calendar.md. -/
def calWrRefCnt : Nat := 0x200210
/-- `CAL_DIR`: Table CAL-14, 03_kerf_calendar.md. -/
def calDir (i j : Nat) : Nat := 0x201000 + i * 0x200 + j * 0x8
/-- `CAL_PORT_CFG`: Table CAL-15, 03_kerf_calendar.md. -/
def calPortCfg (i : Nat) : Nat := 0x202000 + i * 0x40
/-- `CAL_LAST_LATE`: Table CAL-15, 03_kerf_calendar.md. -/
def calLastLate (i : Nat) : Nat := 0x202008 + i * 0x40
/-- `CAL_LAUNCH_CNT`: Table CAL-15, 03_kerf_calendar.md. -/
def calLaunchCnt (i : Nat) : Nat := 0x202010 + i * 0x40
/-- `CAL_LATE_CNT`: Table CAL-15, 03_kerf_calendar.md. -/
def calLateCnt (i : Nat) : Nat := 0x202018 + i * 0x40
/-- `CAL_EMPTY_CNT`: Table CAL-15, 03_kerf_calendar.md. -/
def calEmptyCnt (i : Nat) : Nat := 0x202020 + i * 0x40
/-- `CAL_HELD_CNT`: Table CAL-15, 03_kerf_calendar.md. -/
def calHeldCnt (i : Nat) : Nat := 0x202028 + i * 0x40
/-! PRE_ block -/
/-- `PRE_PORT_CFG`: Table PRE-11, 04_preemption.md. -/
def prePortCfg (i : Nat) : Nat := 0x300000 + i * 0x100
/-- `PRE_CLASS_MAP`: Table PRE-11, 04_preemption.md. -/
def preClassMap (i : Nat) : Nat := 0x300008 + i * 0x100
/-- `PRE_PORT_STAT`: Table PRE-11, 04_preemption.md. -/
def prePortStat (i : Nat) : Nat := 0x300010 + i * 0x100
/-- `PRE_FRAG_TX_CNT`: Table PRE-12, 04_preemption.md. -/
def preFragTxCnt (i : Nat) : Nat := 0x300040 + i * 0x100
/-- `PRE_FRAG_RX_CNT`: Table PRE-12, 04_preemption.md. -/
def preFragRxCnt (i : Nat) : Nat := 0x300048 + i * 0x100
/-- `PRE_HOLD_CNT`: Table PRE-12, 04_preemption.md. -/
def preHoldCnt (i : Nat) : Nat := 0x300050 + i * 0x100
/-- `PRE_ASM_OK_CNT`: Table PRE-12, 04_preemption.md. -/
def preAsmOkCnt (i : Nat) : Nat := 0x300058 + i * 0x100
/-- `PRE_ASM_ERR_CNT`: Table PRE-12, 04_preemption.md. -/
def preAsmErrCnt (i : Nat) : Nat := 0x300060 + i * 0x100
/-- `PRE_SMD_ERR_CNT`: Table PRE-12, 04_preemption.md. -/
def preSmdErrCnt (i : Nat) : Nat := 0x300068 + i * 0x100
/-- `PRE_REASM_TO_CNT`: Table PRE-12, 04_preemption.md. -/
def preReasmToCnt (i : Nat) : Nat := 0x300070 + i * 0x100
/-- `PRE_STOMP_CNT`: Table PRE-12, 04_preemption.md. -/
def preStompCnt (i : Nat) : Nat := 0x300078 + i * 0x100
/-- `PRE_VERIFY_FAIL_CNT`: Table PRE-12, 04_preemption.md. -/
def preVerifyFailCnt (i : Nat) : Nat := 0x300080 + i * 0x100
/-- `PRE_NEST_CNT`: Table PRE-12, 04_preemption.md. -/
def preNestCnt (i : Nat) : Nat := 0x300088 + i * 0x100
/-- `PRE_TX_ABORT_CNT`: Table PRE-12, 04_preemption.md. -/
def preTxAbortCnt (i : Nat) : Nat := 0x300090 + i * 0x100
/-- `PRE_CUT_DEFER_CNT`: Table PRE-12, 04_preemption.md. -/
def preCutDeferCnt (i : Nat) : Nat := 0x300098 + i * 0x100
/-! STR_ block -/
/-- `STR_STAT`: Table STR-12, 05_streams_redundancy.md. -/
def strStat : Nat := 0x400008
/-- `STR_CMD`: Table STR-12, 05_streams_redundancy.md. -/
def strCmd : Nat := 0x400010
/-- `STR_CNT_SEL`: Table STR-12, 05_streams_redundancy.md. -/
def strCntSel : Nat := 0x400020
/-- `STR_CNT_STAT`: Table STR-12, 05_streams_redundancy.md. -/
def strCntStat : Nat := 0x400028
/-- `STR_CNT_DATA`: Table STR-12, 05_streams_redundancy.md. -/
def strCntData (i : Nat) : Nat := 0x400040 + i * 0x8
/-- `STR_LE_PROF`: Table STR-12, 05_streams_redundancy.md. -/
def strLeProf (i : Nat) : Nat := 0x400100 + i * 0x8
/-- `STR_INVALID_CNT`: Table STR-13, 05_streams_redundancy.md. -/
def strInvalidCnt : Nat := 0x400200
/-- `STR_FENCE_DROP_CNT`: Table STR-13, 05_streams_redundancy.md. -/
def strFenceDropCnt : Nat := 0x400208
/-- `STR_HALF_OUT_CNT`: Table STR-13, 05_streams_redundancy.md. -/
def strHalfOutCnt : Nat := 0x400210
/-- `STR_WR_REF_CNT`: Table STR-13, 05_streams_redundancy.md. -/
def strWrRefCnt : Nat := 0x400218
/-- `STR_LATENT_CNT`: Table STR-13, 05_streams_redundancy.md. -/
def strLatentCnt : Nat := 0x400220
/-- `STR_LE_RESET_CNT`: Table STR-13, 05_streams_redundancy.md. -/
def strLeResetCnt : Nat := 0x400228
/-- `STR_ECC_CNT`: Table STR-13, 05_streams_redundancy.md. -/
def strEccCnt : Nat := 0x400230
/-- `STR_CNT_LOST_CNT`: Table STR-13, 05_streams_redundancy.md. -/
def strCntLostCnt : Nat := 0x400238
/-- `STR_RTAG_UNK_CNT`: Table STR-13, 05_streams_redundancy.md. -/
def strRtagUnkCnt : Nat := 0x400240
/-- `STR_PORT_CFG`: Table STR-12, 05_streams_redundancy.md. -/
def strPortCfg (i : Nat) : Nat := 0x401000 + i * 0x8
/-! RNG_ block -/
/-- `RNG_GLB_CFG`: Table RNG-15, 06_dovetail_ring.md. -/
def rngGlbCfg : Nat := 0x500000
/-- `RNG_MAC`: Table RNG-15, 06_dovetail_ring.md. -/
def rngMac : Nat := 0x500008
/-- `RNG_MS_CTL`: Table RNG-16, 06_dovetail_ring.md. -/
def rngMsCtl : Nat := 0x500010
/-- `RNG_MS_STAT`: Table RNG-16, 06_dovetail_ring.md. -/
def rngMsStat : Nat := 0x500018
/-- `RNG_BAR_CTL`: Table RNG-16, 06_dovetail_ring.md. -/
def rngBarCtl : Nat := 0x500020
/-- `RNG_BAR_STAT`: Table RNG-16, 06_dovetail_ring.md. -/
def rngBarStat : Nat := 0x500028
/-- `RNG_BC_CTL`: Table RNG-16, 06_dovetail_ring.md. -/
def rngBcCtl : Nat := 0x500030
/-- `RNG_BC_STAT`: Table RNG-16, 06_dovetail_ring.md. -/
def rngBcStat : Nat := 0x500038
/-- `RNG_BC_TX`: Table RNG-16, 06_dovetail_ring.md. -/
def rngBcTx (i : Nat) : Nat := 0x500040 + i * 0x8
/-- `RNG_BC_RX`: Table RNG-16, 06_dovetail_ring.md. -/
def rngBcRx (i : Nat) : Nat := 0x500080 + i * 0x8
/-- `RNG_BC_LOST_CNT`: Table RNG-17, 06_dovetail_ring.md. -/
def rngBcLostCnt : Nat := 0x5000c0
/-- `RNG_CTL`: Table RNG-15, 06_dovetail_ring.md. -/
def rngCtl (i : Nat) : Nat := 0x500100 + i * 0x100
/-- `RNG_CYC_CFG`: Table RNG-15, 06_dovetail_ring.md. -/
def rngCycCfg (i : Nat) : Nat := 0x500108 + i * 0x100
/-- `RNG_BE_CFG`: Table RNG-15, 06_dovetail_ring.md. -/
def rngBeCfg (i : Nat) : Nat := 0x500110 + i * 0x100
/-- `RNG_TIMING`: Table RNG-15, 06_dovetail_ring.md. -/
def rngTiming (i : Nat) : Nat := 0x500118 + i * 0x100
/-- `RNG_FED_CFG`: Table RNG-15, 06_dovetail_ring.md. -/
def rngFedCfg (i : Nat) : Nat := 0x500120 + i * 0x100
/-- `RNG_STAT`: Table RNG-15, 06_dovetail_ring.md. -/
def rngStat (i : Nat) : Nat := 0x500128 + i * 0x100
/-- `RNG_CORR`: Table RNG-15, 06_dovetail_ring.md. -/
def rngCorr (i : Nat) : Nat := 0x500130 + i * 0x100
/-- `RNG_MEMBERS`: Table RNG-15, 06_dovetail_ring.md. -/
def rngMembers (i : Nat) : Nat := 0x500138 + i * 0x100
/-- `RNG_PASSIVE_CNT`: Table RNG-17, 06_dovetail_ring.md. -/
def rngPassiveCnt (i : Nat) : Nat := 0x500140 + i * 0x100
/-- `RNG_LISTEN_CNT`: Table RNG-17, 06_dovetail_ring.md. -/
def rngListenCnt (i : Nat) : Nat := 0x500148 + i * 0x100
/-- `RNG_CS_CNT`: Table RNG-17, 06_dovetail_ring.md. -/
def rngCsCnt (i : Nat) : Nat := 0x500150 + i * 0x100
/-- `RNG_CS_ABORT_CNT`: Table RNG-17, 06_dovetail_ring.md. -/
def rngCsAbortCnt (i : Nat) : Nat := 0x500158 + i * 0x100
/-- `RNG_MS_ABANDON_CNT`: Table RNG-17, 06_dovetail_ring.md. -/
def rngMsAbandonCnt (i : Nat) : Nat := 0x500160 + i * 0x100
/-- `RNG_MODE_DIV_CNT`: Table RNG-17, 06_dovetail_ring.md. -/
def rngModeDivCnt (i : Nat) : Nat := 0x500168 + i * 0x100
/-- `RNG_PORT_CFG`: Table RNG-15, 06_dovetail_ring.md. -/
def rngPortCfg (i : Nat) : Nat := 0x501000 + i * 0x100
/-- `RNG_LDLY`: Table RNG-15, 06_dovetail_ring.md. -/
def rngLdly (i : Nat) : Nat := 0x501008 + i * 0x100
/-- `RNG_CIRCUIT`: Table RNG-15, 06_dovetail_ring.md. -/
def rngCircuit (i : Nat) : Nat := 0x501010 + i * 0x100
/-- `RNG_RX_OK_CNT`: Table RNG-17, 06_dovetail_ring.md. -/
def rngRxOkCnt (i : Nat) : Nat := 0x501040 + i * 0x100
/-- `RNG_WIN_REJ_CNT`: Table RNG-17, 06_dovetail_ring.md. -/
def rngWinRejCnt (i : Nat) : Nat := 0x501048 + i * 0x100
/-- `RNG_FMT_REJ_CNT`: Table RNG-17, 06_dovetail_ring.md. -/
def rngFmtRejCnt (i : Nat) : Nat := 0x501050 + i * 0x100
/-- `RNG_GUARD_CUT_CNT`: Table RNG-17, 06_dovetail_ring.md. -/
def rngGuardCutCnt (i : Nat) : Nat := 0x501058 + i * 0x100
/-- `RNG_RETURN_CNT`: Table RNG-17, 06_dovetail_ring.md. -/
def rngReturnCnt (i : Nat) : Nat := 0x501060 + i * 0x100
/-- `RNG_DROP_CNT`: Table RNG-17, 06_dovetail_ring.md. -/
def rngDropCnt (i : Nat) : Nat := 0x501068 + i * 0x100
/-! SOL_ block -/
/-- `SOL_CTL`: Table SOL-9, 07_schedule_solver.md. -/
def solCtl : Nat := 0x600000
/-- `SOL_STAT`: Table SOL-9, 07_schedule_solver.md. -/
def solStat : Nat := 0x600008
/-- `SOL_CMD`: Table SOL-9, 07_schedule_solver.md. -/
def solCmd : Nat := 0x600010
/-- `SOL_FILE_ADDR`: Table SOL-9, 07_schedule_solver.md. -/
def solFileAddr : Nat := 0x600018
/-- `SOL_FILE_LEN`: Table SOL-9, 07_schedule_solver.md. -/
def solFileLen : Nat := 0x600020
/-- `SOL_RES_STAT`: Table SOL-9, 07_schedule_solver.md. -/
def solResStat : Nat := 0x600028
/-- `SOL_ACT_STAT`: Table SOL-9, 07_schedule_solver.md. -/
def solActStat : Nat := 0x600030
/-- `SOL_REQ`: Table SOL-9, 07_schedule_solver.md. -/
def solReq (i : Nat) : Nat := 0x600040 + i * 0x8
/-- `SOL_RES[0]`: Table SOL-10, 07_schedule_solver.md. -/
def solRes0 : Nat := 0x600080
/-- `SOL_RES[1]`: Table SOL-10, 07_schedule_solver.md. -/
def solRes1 : Nat := 0x600088
/-- `SOL_JOB_OK_CNT`: Table SOL-9, 07_schedule_solver.md. -/
def solJobOkCnt : Nat := 0x600100
/-- `SOL_REFUSE_CNT`: Table SOL-9, 07_schedule_solver.md. -/
def solRefuseCnt : Nat := 0x600108
/-- `SOL_FOREIGN_CNT`: Table SOL-9, 07_schedule_solver.md. -/
def solForeignCnt : Nat := 0x600110
/-- `SOL_ABORT_CNT`: Table SOL-9, 07_schedule_solver.md. -/
def solAbortCnt : Nat := 0x600118
/-! SDS_ block -/
/-- `SDS_MODE`: Table MAC-8, 08_ports_mac.md. -/
def sdsMode (i : Nat) : Nat := 0x1000000 + i * 0x10000
/-- `SDS_POL`: Table MAC-8, 08_ports_mac.md. -/
def sdsPol (i : Nat) : Nat := 0x1000008 + i * 0x10000
/-- `SDS_LANE_STAT`: Table MAC-8, 08_ports_mac.md. -/
def sdsLaneStat (i : Nat) : Nat := 0x1000010 + i * 0x10000
/-- `SDS_EQ_FUSE`: Table MAC-8, 08_ports_mac.md. -/
def sdsEqFuse (i j : Nat) : Nat := 0x1000100 + i * 0x10000 + j * 0x10
/-- `SDS_EQ_SHIM`: Table MAC-8, 08_ports_mac.md. -/
def sdsEqShim (i j : Nat) : Nat := 0x1000108 + i * 0x10000 + j * 0x10
/-! PCS_ block -/
/-- `PCS_CFG`: Table MAC-8, 08_ports_mac.md. -/
def pcsCfg (i : Nat) : Nat := 0x1400000 + i * 0x10000
/-- `PCS_STAT`: Table MAC-8, 08_ports_mac.md. -/
def pcsStat (i : Nat) : Nat := 0x1400008 + i * 0x10000
/-- `PCS_LINK_DOWN_CNT`: Table MAC-11, 08_ports_mac.md. -/
def pcsLinkDownCnt (i : Nat) : Nat := 0x1400100 + i * 0x10000
/-- `PCS_BLK_ERR_CNT`: Table MAC-11, 08_ports_mac.md. -/
def pcsBlkErrCnt (i : Nat) : Nat := 0x1400108 + i * 0x10000
/-- `PCS_HIBER_CNT`: Table MAC-11, 08_ports_mac.md. -/
def pcsHiberCnt (i : Nat) : Nat := 0x1400110 + i * 0x10000
/-- `PCS_FEC_CORR_CNT`: Table MAC-11, 08_ports_mac.md. -/
def pcsFecCorrCnt (i : Nat) : Nat := 0x1400118 + i * 0x10000
/-- `PCS_FEC_UNCORR_CNT`: Table MAC-11, 08_ports_mac.md. -/
def pcsFecUncorrCnt (i : Nat) : Nat := 0x1400120 + i * 0x10000
/-- `PCS_FEC_SYM_CNT`: Table MAC-11, 08_ports_mac.md. -/
def pcsFecSymCnt (i : Nat) : Nat := 0x1400128 + i * 0x10000
/-! MAC_ block -/
/-- `MAC_CFG`: Table MAC-9, 08_ports_mac.md. -/
def macCfg (i : Nat) : Nat := 0x1800000 + i * 0x10000
/-- `MAC_STAT`: Table MAC-9, 08_ports_mac.md. -/
def macStat (i : Nat) : Nat := 0x1800008 + i * 0x10000
/-- `MAC_VLAN_CFG`: Table MAC-9, 08_ports_mac.md. -/
def macVlanCfg (i : Nat) : Nat := 0x1800010 + i * 0x10000
/-- `MAC_PAUSE_CFG`: Table MAC-9, 08_ports_mac.md. -/
def macPauseCfg (i : Nat) : Nat := 0x1800018 + i * 0x10000
/-- `MAC_EEE_CFG`: Table MAC-9, 08_ports_mac.md. -/
def macEeeCfg (i : Nat) : Nat := 0x1800020 + i * 0x10000
/-- `MAC_RX_BUF`: Table MAC-9, 08_ports_mac.md. -/
def macRxBuf (i : Nat) : Nat := 0x1800028 + i * 0x10000
/-- `MAC_UC_ADDR`: Table MAC-9, 08_ports_mac.md. -/
def macUcAddr (i j : Nat) : Nat := 0x1800040 + i * 0x10000 + j * 0x8
/-- `MAC_MC_ADDR`: Table MAC-9, 08_ports_mac.md. -/
def macMcAddr (i j : Nat) : Nat := 0x1800080 + i * 0x10000 + j * 0x8
/-- `MAC_RX_OK_CNT`: Table MAC-11, 08_ports_mac.md. -/
def macRxOkCnt (i : Nat) : Nat := 0x1800100 + i * 0x10000
/-- `MAC_RX_OCT_CNT`: Table MAC-11, 08_ports_mac.md. -/
def macRxOctCnt (i : Nat) : Nat := 0x1800108 + i * 0x10000
/-- `MAC_RX_UC_CNT`: Table MAC-11, 08_ports_mac.md. -/
def macRxUcCnt (i : Nat) : Nat := 0x1800110 + i * 0x10000
/-- `MAC_RX_MC_CNT`: Table MAC-11, 08_ports_mac.md. -/
def macRxMcCnt (i : Nat) : Nat := 0x1800118 + i * 0x10000
/-- `MAC_RX_BC_CNT`: Table MAC-11, 08_ports_mac.md. -/
def macRxBcCnt (i : Nat) : Nat := 0x1800120 + i * 0x10000
/-- `MAC_RX_PAUSE_CNT`: Table MAC-11, 08_ports_mac.md. -/
def macRxPauseCnt (i : Nat) : Nat := 0x1800128 + i * 0x10000
/-- `MAC_RX_MACCTL_CNT`: Table MAC-11, 08_ports_mac.md. -/
def macRxMacctlCnt (i : Nat) : Nat := 0x1800130 + i * 0x10000
/-- `MAC_RX_FCS_CNT`: Table MAC-11, 08_ports_mac.md. -/
def macRxFcsCnt (i : Nat) : Nat := 0x1800138 + i * 0x10000
/-- `MAC_RX_CODE_CNT`: Table MAC-11, 08_ports_mac.md. -/
def macRxCodeCnt (i : Nat) : Nat := 0x1800140 + i * 0x10000
/-- `MAC_RX_RUNT_CNT`: Table MAC-11, 08_ports_mac.md. -/
def macRxRuntCnt (i : Nat) : Nat := 0x1800148 + i * 0x10000
/-- `MAC_RX_FRAG_CNT`: Table MAC-11, 08_ports_mac.md. -/
def macRxFragCnt (i : Nat) : Nat := 0x1800150 + i * 0x10000
/-- `MAC_RX_OVERSIZE_CNT`: Table MAC-11, 08_ports_mac.md. -/
def macRxOversizeCnt (i : Nat) : Nat := 0x1800158 + i * 0x10000
/-- `MAC_RX_JABBER_CNT`: Table MAC-11, 08_ports_mac.md. -/
def macRxJabberCnt (i : Nat) : Nat := 0x1800160 + i * 0x10000
/-- `MAC_RX_ACCEPT_CNT`: Table MAC-11, 08_ports_mac.md. -/
def macRxAcceptCnt (i : Nat) : Nat := 0x1800168 + i * 0x10000
/-- `MAC_RX_FILT_CNT`: Table MAC-11, 08_ports_mac.md. -/
def macRxFiltCnt (i : Nat) : Nat := 0x1800170 + i * 0x10000
/-- `MAC_RX_OVF_CNT`: Table MAC-11, 08_ports_mac.md. -/
def macRxOvfCnt (i : Nat) : Nat := 0x1800178 + i * 0x10000
/-- `MAC_RX_LPI_CNT`: Table MAC-11, 08_ports_mac.md. -/
def macRxLpiCnt (i : Nat) : Nat := 0x1800180 + i * 0x10000
/-- `MAC_RX_RESGRP_CNT`: Table MAC-11, 08_ports_mac.md. -/
def macRxResgrpCnt (i : Nat) : Nat := 0x1800188 + i * 0x10000
/-- `MAC_RX_BIN_CNT`: Table MAC-11, 08_ports_mac.md. -/
def macRxBinCnt (i j : Nat) : Nat := 0x1800200 + i * 0x10000 + j * 0x8
/-- `MAC_TX_OK_CNT`: Table MAC-11, 08_ports_mac.md. -/
def macTxOkCnt (i : Nat) : Nat := 0x1800280 + i * 0x10000
/-- `MAC_TX_OCT_CNT`: Table MAC-11, 08_ports_mac.md. -/
def macTxOctCnt (i : Nat) : Nat := 0x1800288 + i * 0x10000
/-- `MAC_TX_UC_CNT`: Table MAC-11, 08_ports_mac.md. -/
def macTxUcCnt (i : Nat) : Nat := 0x1800290 + i * 0x10000
/-- `MAC_TX_MC_CNT`: Table MAC-11, 08_ports_mac.md. -/
def macTxMcCnt (i : Nat) : Nat := 0x1800298 + i * 0x10000
/-- `MAC_TX_BC_CNT`: Table MAC-11, 08_ports_mac.md. -/
def macTxBcCnt (i : Nat) : Nat := 0x18002a0 + i * 0x10000
/-- `MAC_TX_PAUSE_CNT`: Table MAC-11, 08_ports_mac.md. -/
def macTxPauseCnt (i : Nat) : Nat := 0x18002a8 + i * 0x10000
/-- `MAC_TX_LEN_DROP_CNT`: Table MAC-11, 08_ports_mac.md. -/
def macTxLenDropCnt (i : Nat) : Nat := 0x18002b0 + i * 0x10000
/-- `MAC_TX_PAD_CNT`: Table MAC-11, 08_ports_mac.md. -/
def macTxPadCnt (i : Nat) : Nat := 0x18002b8 + i * 0x10000
/-- `MAC_TX_LPI_CNT`: Table MAC-11, 08_ports_mac.md. -/
def macTxLpiCnt (i : Nat) : Nat := 0x18002c0 + i * 0x10000
/-- `MAC_TX_LPI_US_CNT`: Table MAC-11, 08_ports_mac.md. -/
def macTxLpiUsCnt (i : Nat) : Nat := 0x18002c8 + i * 0x10000
/-- `MAC_TX_BIN_CNT`: Table MAC-11, 08_ports_mac.md. -/
def macTxBinCnt (i j : Nat) : Nat := 0x1800300 + i * 0x10000 + j * 0x8
/-- `MAC_MDIO_CFG`: Table MAC-10, 08_ports_mac.md. -/
def macMdioCfg (i : Nat) : Nat := 0x1c00000 + i * 0x20
/-- `MAC_MDIO_CMD`: Table MAC-10, 08_ports_mac.md. -/
def macMdioCmd (i : Nat) : Nat := 0x1c00008 + i * 0x20
/-- `MAC_MDIO_STAT`: Table MAC-10, 08_ports_mac.md. -/
def macMdioStat (i : Nat) : Nat := 0x1c00010 + i * 0x20
/-- `MAC_SMB_CFG`: Table MAC-10, 08_ports_mac.md. -/
def macSmbCfg (i : Nat) : Nat := 0x1c00100 + i * 0x40
/-- `MAC_SMB_CMD`: Table MAC-10, 08_ports_mac.md. -/
def macSmbCmd (i : Nat) : Nat := 0x1c00108 + i * 0x40
/-- `MAC_SMB_STAT`: Table MAC-10, 08_ports_mac.md. -/
def macSmbStat (i : Nat) : Nat := 0x1c00110 + i * 0x40
/-- `MAC_SMB_DATA`: Table MAC-10, 08_ports_mac.md. -/
def macSmbData (i j : Nat) : Nat := 0x1c00120 + i * 0x40 + j * 0x8
/-! FWD_ block -/
/-- `FWD_CFG`: Table FWD-11, 09_forwarding.md. -/
def fwdCfg : Nat := 0x2000000
/-- `FWD_STAT`: Table FWD-11, 09_forwarding.md. -/
def fwdStat (i : Nat) : Nat := 0x2000008 + i * 0x100000
/-- `FWD_AGE_CFG`: Table FWD-11, 09_forwarding.md. -/
def fwdAgeCfg : Nat := 0x2000010
/-- `FWD_MOVE_CFG`: Table FWD-11, 09_forwarding.md. -/
def fwdMoveCfg : Nat := 0x2000018
/-- `FWD_CLR`: Table FWD-11, 09_forwarding.md. -/
def fwdClr : Nat := 0x2000020
/-- `FWD_RMAC`: Table FWD-11, 09_forwarding.md. -/
def fwdRmac : Nat := 0x2000028
/-- `FWD_TBL_CMD`: Table FWD-11, 09_forwarding.md. -/
def fwdTblCmd : Nat := 0x2000040
/-- `FWD_TBL_KEY`: Table FWD-11, 09_forwarding.md. -/
def fwdTblKey : Nat := 0x2000048
/-- `FWD_TBL_DATA`: Table FWD-11, 09_forwarding.md. -/
def fwdTblData : Nat := 0x2000050
/-- `FWD_TBL_STAT`: Table FWD-11, 09_forwarding.md. -/
def fwdTblStat : Nat := 0x2000058
/-- `FWD_TSQ_CTL`: Table FWD-12, 09_forwarding.md. -/
def fwdTsqCtl : Nat := 0x2000080
/-- `FWD_TSQ_STAT`: Table FWD-12, 09_forwarding.md. -/
def fwdTsqStat : Nat := 0x2000088
/-- `FWD_TSQ_MISS`: Table FWD-12, 09_forwarding.md. -/
def fwdTsqMiss : Nat := 0x2000090
/-- `FWD_TSQ_ADDR`: Table FWD-12, 09_forwarding.md. -/
def fwdTsqAddr (i : Nat) : Nat := 0x2000100 + i * 0x20
/-- `FWD_TSQ_HOST`: Table FWD-12, 09_forwarding.md. -/
def fwdTsqHost (i : Nat) : Nat := 0x2000108 + i * 0x20
/-- `FWD_TSQ_MASK`: Table FWD-12, 09_forwarding.md. -/
def fwdTsqMask (i : Nat) : Nat := 0x2000110 + i * 0x20
/-- `FWD_TSQ_WMASK`: Table FWD-12, 09_forwarding.md. -/
def fwdTsqWmask (i : Nat) : Nat := 0x2000118 + i * 0x20
/-- `FWD_PORT_CFG`: Table FWD-11, 09_forwarding.md. -/
def fwdPortCfg (i : Nat) : Nat := 0x2001000 + i * 0x8
/-- `FWD_LEARN_CNT`: Table FWD-13, 09_forwarding.md. -/
def fwdLearnCnt (i : Nat) : Nat := 0x2002000 + i * 0x100000
/-- `FWD_LEARN_DROP_CNT`: Table FWD-13, 09_forwarding.md. -/
def fwdLearnDropCnt (i : Nat) : Nat := 0x2002008 + i * 0x100000
/-- `FWD_MOVE_CNT`: Table FWD-13, 09_forwarding.md. -/
def fwdMoveCnt (i : Nat) : Nat := 0x2002010 + i * 0x100000
/-- `FWD_MOVE_REF_CNT`: Table FWD-13, 09_forwarding.md. -/
def fwdMoveRefCnt (i : Nat) : Nat := 0x2002018 + i * 0x100000
/-- `FWD_PIN_CNT`: Table FWD-13, 09_forwarding.md. -/
def fwdPinCnt (i : Nat) : Nat := 0x2002020 + i * 0x100000
/-- `FWD_CACHE_AGE_CNT`: Table FWD-13, 09_forwarding.md. -/
def fwdCacheAgeCnt (i : Nat) : Nat := 0x2002028 + i * 0x100000
/-- `FWD_CACHE_EVICT_CNT`: Table FWD-13, 09_forwarding.md. -/
def fwdCacheEvictCnt (i : Nat) : Nat := 0x2002030 + i * 0x100000
/-- `FWD_MAIN_AGE_CNT`: Table FWD-13, 09_forwarding.md. -/
def fwdMainAgeCnt (i : Nat) : Nat := 0x2002038 + i * 0x100000
/-- `FWD_MAIN_FULL_CNT`: Table FWD-13, 09_forwarding.md. -/
def fwdMainFullCnt (i : Nat) : Nat := 0x2002040 + i * 0x100000
/-- `FWD_XS_CNT`: Table FWD-13, 09_forwarding.md. -/
def fwdXsCnt (i : Nat) : Nat := 0x2002048 + i * 0x100000
/-- `FWD_XS_LOST_CNT`: Table FWD-13, 09_forwarding.md. -/
def fwdXsLostCnt (i : Nat) : Nat := 0x2002050 + i * 0x100000
/-- `FWD_FLOOD_CNT`: Table FWD-13, 09_forwarding.md. -/
def fwdFloodCnt (i : Nat) : Nat := 0x2002058 + i * 0x100000
/-- `FWD_VLAN_DROP_CNT`: Table FWD-13, 09_forwarding.md. -/
def fwdVlanDropCnt (i : Nat) : Nat := 0x2002060 + i * 0x100000
/-- `FWD_NO_DEST_CNT`: Table FWD-13, 09_forwarding.md. -/
def fwdNoDestCnt (i : Nat) : Nat := 0x2002068 + i * 0x100000
/-- `FWD_ROUTE_CNT`: Table FWD-13, 09_forwarding.md. -/
def fwdRouteCnt (i : Nat) : Nat := 0x2002070 + i * 0x100000
/-- `FWD_ROUTE_EXC_CNT`: Table FWD-13, 09_forwarding.md. -/
def fwdRouteExcCnt (i : Nat) : Nat := 0x2002078 + i * 0x100000
/-- `FWD_FAB_DROP_CNT`: Table FWD-13, 09_forwarding.md. -/
def fwdFabDropCnt (i : Nat) : Nat := 0x2002080 + i * 0x100000
/-- `FWD_HBM_SKIP_CNT`: Table FWD-13, 09_forwarding.md. -/
def fwdHbmSkipCnt (i : Nat) : Nat := 0x2002088 + i * 0x100000
/-- `FWD_ECC_CORR_CNT`: Table FWD-13, 09_forwarding.md. -/
def fwdEccCorrCnt (i : Nat) : Nat := 0x2002090 + i * 0x100000
/-- `FWD_ECC_UNCORR_CNT`: Table FWD-13, 09_forwarding.md. -/
def fwdEccUncorrCnt (i : Nat) : Nat := 0x2002098 + i * 0x100000
/-- `FWD_HOST_CNT`: Table FWD-13, 09_forwarding.md. -/
def fwdHostCnt (i : Nat) : Nat := 0x20020a0 + i * 0x100000
/-- `FWD_TSQ_MISM_CNT`: Table FWD-13, 09_forwarding.md. -/
def fwdTsqMismCnt (i : Nat) : Nat := 0x20020b0 + i * 0x100000
/-- `FWD_TSQ_REPAIR_CNT`: Table FWD-13, 09_forwarding.md. -/
def fwdTsqRepairCnt (i : Nat) : Nat := 0x20020b8 + i * 0x100000
/-- `FWD_VLAN`: Table FWD-11, 09_forwarding.md. -/
def fwdVlan (i : Nat) : Nat := 0x2080000 + i * 0x8
/-- `FWD_MCG`: Table FWD-11, 09_forwarding.md. -/
def fwdMcg (i : Nat) : Nat := 0x2088000 + i * 0x8
/-! HQ_ block -/
/-- `HQ_AQ_SQ_BASE`: Table HQS-13, 10_host_queues.md. -/
def hqAqSqBase (i : Nat) : Nat := 0x3010000 + i * 0x100
/-- `HQ_AQ_CQ_BASE`: Table HQS-13, 10_host_queues.md. -/
def hqAqCqBase (i : Nat) : Nat := 0x3010008 + i * 0x100
/-- `HQ_AQ_CFG`: Table HQS-13, 10_host_queues.md. -/
def hqAqCfg (i : Nat) : Nat := 0x3010010 + i * 0x100
/-- `HQ_AQ_STAT`: Table HQS-13, 10_host_queues.md. -/
def hqAqStat (i : Nat) : Nat := 0x3010018 + i * 0x100
/-- `HQ_AQ_DB`: Table HQS-13, 10_host_queues.md. -/
def hqAqDb (i : Nat) : Nat := 0x3010020 + i * 0x100
/-- `HQ_CFG`: Table HQS-14, 10_host_queues.md. -/
def hqCfg : Nat := 0x3011000
/-- `HQ_STAT`: Table HQS-14, 10_host_queues.md. -/
def hqStat : Nat := 0x3011008
/-- `HQ_QCNT_SEL`: Table HQS-14, 10_host_queues.md. -/
def hqQcntSel : Nat := 0x3011010
/-- `HQ_QCNT_STAT`: Table HQS-14, 10_host_queues.md. -/
def hqQcntStat : Nat := 0x3011018
/-- `HQ_QCNT_DATA`: Table HQS-14, 10_host_queues.md. -/
def hqQcntData (i : Nat) : Nat := 0x3011040 + i * 0x8
/-- `HQ_ENTRY_CNT`: Table HQS-15, 10_host_queues.md. -/
def hqEntryCnt : Nat := 0x3011100
/-- `HQ_CQE_CNT`: Table HQS-15, 10_host_queues.md. -/
def hqCqeCnt : Nat := 0x3011108
/-- `HQ_DB_ERR_CNT`: Table HQS-15, 10_host_queues.md. -/
def hqDbErrCnt : Nat := 0x3011110
/-- `HQ_PHASE_ERR_CNT`: Table HQS-15, 10_host_queues.md. -/
def hqPhaseErrCnt : Nat := 0x3011118
/-- `HQ_OVF_CNT`: Table HQS-15, 10_host_queues.md. -/
def hqOvfCnt : Nat := 0x3011120
/-- `HQ_RX_DROP_CNT`: Table HQS-15, 10_host_queues.md. -/
def hqRxDropCnt : Nat := 0x3011128
/-- `HQ_TRK_FULL_CNT`: Table HQS-15, 10_host_queues.md. -/
def hqTrkFullCnt : Nat := 0x3011130
/-- `HQ_CT_RETRY_CNT`: Table HQS-15, 10_host_queues.md. -/
def hqCtRetryCnt : Nat := 0x3011138
/-- `HQ_DATA_ERR_CNT`: Table HQS-15, 10_host_queues.md. -/
def hqDataErrCnt : Nat := 0x3011140
/-- `HQ_XLATE_CNT`: Table HQS-15, 10_host_queues.md. -/
def hqXlateCnt : Nat := 0x3011148
/-- `HQ_CNT_LOST_CNT`: Table HQS-15, 10_host_queues.md. -/
def hqCntLostCnt : Nat := 0x3011150
/-- `HQ_QSTAT`: Table HQS-14, 10_host_queues.md. -/
def hqQstat (i : Nat) : Nat := 0x3080000 + i * 0x8
/-! DMA_ block -/
/-- `DMA_CR_BASE`: Table DMA-12, 11_dma_translation.md. -/
def dmaCrBase (i : Nat) : Nat := 0x3100800 + i * 0x20
/-- `DMA_CR_CFG`: Table DMA-12, 11_dma_translation.md. -/
def dmaCrCfg (i : Nat) : Nat := 0x3100808 + i * 0x20
/-- `DMA_CR_HEAD`: Table DMA-12, 11_dma_translation.md. -/
def dmaCrHead (i : Nat) : Nat := 0x3100810 + i * 0x20
/-- `DMA_CR_STAT`: Table DMA-12, 11_dma_translation.md. -/
def dmaCrStat (i : Nat) : Nat := 0x3100818 + i * 0x20
/-- `DMA_SH_CHAIN`: Table DMA-11, 11_dma_translation.md. -/
def dmaShChain (i : Nat) : Nat := 0x3101000 + i * 0x100
/-- `DMA_SH_CFG`: Table DMA-11, 11_dma_translation.md. -/
def dmaShCfg (i : Nat) : Nat := 0x3101008 + i * 0x100
/-- `DMA_CH_CHAIN`: Table DMA-11, 11_dma_translation.md. -/
def dmaChChain (i : Nat) : Nat := 0x3101010 + i * 0x100
/-- `DMA_CH_CFG`: Table DMA-11, 11_dma_translation.md. -/
def dmaChCfg (i : Nat) : Nat := 0x3101018 + i * 0x100
/-- `DMA_CH_CMD`: Table DMA-11, 11_dma_translation.md. -/
def dmaChCmd (i : Nat) : Nat := 0x3101020 + i * 0x100
/-- `DMA_CH_STAT`: Table DMA-11, 11_dma_translation.md. -/
def dmaChStat (i : Nat) : Nat := 0x3101028 + i * 0x100
/-- `DMA_GEN`: Table DMA-11, 11_dma_translation.md. -/
def dmaGen (i : Nat) : Nat := 0x3101030 + i * 0x100
/-- `DMA_ERR_ADDR`: Table DMA-11, 11_dma_translation.md. -/
def dmaErrAddr (i : Nat) : Nat := 0x3101038 + i * 0x100
/-- `DMA_ERR_INFO`: Table DMA-11, 11_dma_translation.md. -/
def dmaErrInfo (i : Nat) : Nat := 0x3101040 + i * 0x100
/-- `DMA_DESC_CNT`: Table DMA-14, 11_dma_translation.md. -/
def dmaDescCnt (i : Nat) : Nat := 0x3101080 + i * 0x100
/-- `DMA_BYTE_CNT`: Table DMA-14, 11_dma_translation.md. -/
def dmaByteCnt (i : Nat) : Nat := 0x3101088 + i * 0x100
/-- `DMA_ERR_CNT`: Table DMA-14, 11_dma_translation.md. -/
def dmaErrCnt (i : Nat) : Nat := 0x3101090 + i * 0x100
/-- `DMA_XWAIT_CNT`: Table DMA-14, 11_dma_translation.md. -/
def dmaXwaitCnt (i : Nat) : Nat := 0x3101098 + i * 0x100
/-- `DMA_REC_DROP_CNT`: Table DMA-14, 11_dma_translation.md. -/
def dmaRecDropCnt (i : Nat) : Nat := 0x31010a0 + i * 0x100
/-! XLT_ block -/
/-- `XLT_CFG`: Table DMA-13, 11_dma_translation.md. -/
def xltCfg : Nat := 0x3200000
/-- `XLT_STAT`: Table DMA-13, 11_dma_translation.md. -/
def xltStat : Nat := 0x3200008
/-- `XLT_FAIL_ADDR`: Table DMA-13, 11_dma_translation.md. -/
def xltFailAddr : Nat := 0x3200010
/-- `XLT_FAIL_INFO`: Table DMA-13, 11_dma_translation.md. -/
def xltFailInfo : Nat := 0x3200018
/-- `XLT_ATS_REQ_CNT`: Table DMA-14, 11_dma_translation.md. -/
def xltAtsReqCnt : Nat := 0x3200100
/-- `XLT_ATC_MISS_CNT`: Table DMA-14, 11_dma_translation.md. -/
def xltAtcMissCnt : Nat := 0x3200108
/-- `XLT_PRG_CNT`: Table DMA-14, 11_dma_translation.md. -/
def xltPrgCnt : Nat := 0x3200110
/-- `XLT_PRG_TO_CNT`: Table DMA-14, 11_dma_translation.md. -/
def xltPrgToCnt : Nat := 0x3200118
/-- `XLT_INV_CNT`: Table DMA-14, 11_dma_translation.md. -/
def xltInvCnt : Nat := 0x3200120
/-- `XLT_FAIL_CNT`: Table DMA-14, 11_dma_translation.md. -/
def xltFailCnt : Nat := 0x3200128
/-! MBX_ block -/
/-- `MBX_CFG`: Table MBX-12, 12_joiner_mailbox.md. -/
def mbxCfg (i : Nat) : Nat := 0x4010000 + i * 0x20
/-- `MBX_DB`: Table MBX-12, 12_joiner_mailbox.md. -/
def mbxDb (i : Nat) : Nat := 0x4010008 + i * 0x20
/-- `MBX_STAT`: Table MBX-12, 12_joiner_mailbox.md. -/
def mbxStat (i : Nat) : Nat := 0x4010010 + i * 0x20
/-- `MBX_FW_STAT`: Table MBX-13, 12_joiner_mailbox.md. -/
def mbxFwStat : Nat := 0x4020000
/-- `MBX_UNLOCK`: Table MBX-13, 12_joiner_mailbox.md. -/
def mbxUnlock : Nat := 0x4020008
/-- `MBX_LEASE`: Table MBX-13, 12_joiner_mailbox.md. -/
def mbxLease (i : Nat) : Nat := 0x4020100 + i * 0x8
/-- `MBX_CMD_CNT`: Table MBX-13, 12_joiner_mailbox.md. -/
def mbxCmdCnt : Nat := 0x4020200
/-- `MBX_ERR_CNT`: Table MBX-13, 12_joiner_mailbox.md. -/
def mbxErrCnt : Nat := 0x4020208
/-- `MBX_OWN_ERR_CNT`: Table MBX-13, 12_joiner_mailbox.md. -/
def mbxOwnErrCnt : Nat := 0x4020210
/-- `MBX_UNLOCK_FAIL_CNT`: Table MBX-13, 12_joiner_mailbox.md. -/
def mbxUnlockFailCnt : Nat := 0x4020218
/-! BEN_ block -/
/-- `BEN_GRP_STAT`: Table BEN-9, 13_bench_memory.md. -/
def benGrpStat (i : Nat) : Nat := 0x5000000 + i * 0x10
/-- `BEN_ENTRY`: Table BEN-9, 13_bench_memory.md. -/
def benEntry (i : Nat) : Nat := 0x5000008 + i * 0x10
/-- `BEN_QP_CFG`: Table BEN-9, 13_bench_memory.md. -/
def benQpCfg : Nat := 0x5000100
/-- `BEN_STAT`: Table BEN-9, 13_bench_memory.md. -/
def benStat : Nat := 0x5000108
/-- `BEN_AQ_SQ_BASE`: Table BEN-9 (fields of Table HQS-13), 13_bench_memory.md. -/
def benAqSqBase : Nat := 0x5000200
/-- `BEN_AQ_CQ_BASE`: Table BEN-9 (fields of Table HQS-13), 13_bench_memory.md. -/
def benAqCqBase : Nat := 0x5000208
/-- `BEN_AQ_CFG`: Table BEN-9, 13_bench_memory.md. -/
def benAqCfg : Nat := 0x5000210
/-- `BEN_AQ_STAT`: Table BEN-9 (fields of Table HQS-13), 13_bench_memory.md. -/
def benAqStat : Nat := 0x5000218
/-- `BEN_AQ_DB`: Table BEN-9 (fields of Table HQS-13), 13_bench_memory.md. -/
def benAqDb : Nat := 0x5000220
/-- `BEN_TIMECMP`: Table BEN-9, 13_bench_memory.md. -/
def benTimecmp (i : Nat) : Nat := 0x5001000 + i * 0x8
/-- `BEN_MSIP`: Table BEN-9, 13_bench_memory.md. -/
def benMsip (i : Nat) : Nat := 0x5001100 + i * 0x8
/-- `BEN_IRQ`: Table BEN-9, 13_bench_memory.md. -/
def benIrq (i : Nat) : Nat := 0x5001200 + i * 0x8
/-- `BEN_ACC_FAULT_CNT`: Table BEN-9, 13_bench_memory.md. -/
def benAccFaultCnt : Nat := 0x5001800
/-- `BEN_ECC_CNT`: Table BEN-9, 13_bench_memory.md. -/
def benEccCnt : Nat := 0x5001808
/-! FLT_ block -/
/-- `FLT_CFG`: Table FLT-11, 14_faults_jig.md. -/
def fltCfg : Nat := 0x6000000
/-- `FLT_STAT`: Table FLT-11, 14_faults_jig.md. -/
def fltStat : Nat := 0x6000008
/-- `FLT_Q_HEAD`: Table FLT-11, 14_faults_jig.md. -/
def fltQHead : Nat := 0x6000010
/-- `FLT_Q_TIME`: Table FLT-11, 14_faults_jig.md. -/
def fltQTime : Nat := 0x6000018
/-- `FLT_Q_STAT`: Table FLT-11, 14_faults_jig.md. -/
def fltQStat : Nat := 0x6000020
/-- `FLT_FENCE_CFG`: Table FLT-11, 14_faults_jig.md. -/
def fltFenceCfg : Nat := 0x6000028
/-- `FLT_FENCE_REL`: Table FLT-11, 14_faults_jig.md. -/
def fltFenceRel : Nat := 0x6000030
/-- `FLT_HALT_CMD`: Table FLT-11, 14_faults_jig.md. -/
def fltHaltCmd : Nat := 0x6000038
/-- `FLT_ISL_STAT`: Table FLT-11, 14_faults_jig.md. -/
def fltIslStat (i : Nat) : Nat := 0x6000100 + i * 0x8
/-- `FLT_SEV`: Table FLT-11, 14_faults_jig.md. -/
def fltSev (i j : Nat) : Nat := 0x6001000 + i * 0x80 + j * 0x8
/-- `FLT_MSG_CNT`: Table FLT-11, 14_faults_jig.md. -/
def fltMsgCnt : Nat := 0x6002000
/-- `FLT_LOST_CNT`: Table FLT-11, 14_faults_jig.md. -/
def fltLostCnt : Nat := 0x6002008
/-- `FLT_FENCE_CNT`: Table FLT-11, 14_faults_jig.md. -/
def fltFenceCnt : Nat := 0x6002010
/-- `FLT_CLASS_CNT`: Table FLT-11, 14_faults_jig.md. -/
def fltClassCnt (i : Nat) : Nat := 0x6002018 + i * 0x8
/-- `FLT_ESC_CNT`: Table FLT-11, 14_faults_jig.md. -/
def fltEscCnt : Nat := 0x6002038
/-! JIG_ block -/
/-- `JIG_CTL`: Table FLT-12, 14_faults_jig.md. -/
def jigCtl : Nat := 0x6100000
/-- `JIG_STAT`: Table FLT-12, 14_faults_jig.md. -/
def jigStat : Nat := 0x6100008
/-- `JIG_INJ`: Table FLT-12, 14_faults_jig.md. -/
def jigInj : Nat := 0x6100010
/-- `JIG_INJ_CNT`: Table FLT-12, 14_faults_jig.md. -/
def jigInjCnt : Nat := 0x6100018
/-- `JIG_RULE_CFG`: Table FLT-12, 14_faults_jig.md. -/
def jigRuleCfg (i : Nat) : Nat := 0x6100100 + i * 0x20
/-- `JIG_RULE_MATCH`: Table FLT-12, 14_faults_jig.md. -/
def jigRuleMatch (i : Nat) : Nat := 0x6100108 + i * 0x20
/-- `JIG_RULE_PARAM`: Table FLT-12, 14_faults_jig.md. -/
def jigRuleParam (i : Nat) : Nat := 0x6100110 + i * 0x20
/-- `JIG_HIT_CNT`: Table FLT-12, 14_faults_jig.md. -/
def jigHitCnt (i : Nat) : Nat := 0x6100118 + i * 0x20
/-! PWR_ block -/
/-- `PWR_CTL`: Table PWR-13, 15_power_reset.md. -/
def pwrCtl : Nat := 0x7000000
/-- `PWR_STAT`: Table PWR-13, 15_power_reset.md. -/
def pwrStat : Nat := 0x7000008
/-- `PWR_DOM_STAT`: Table PWR-13, 15_power_reset.md. -/
def pwrDomStat : Nat := 0x7000010
/-! CLK_ block -/
/-- `CLK_STAT`: Table PWR-13, 15_power_reset.md. -/
def clkStat : Nat := 0x7100000
/-- `CLK_LOSS_CNT`: Table PWR-13, 15_power_reset.md. -/
def clkLossCnt (i : Nat) : Nat := 0x7100100 + i * 0x8
/-! RST_ block -/
/-- `RST_CFG`: Table PWR-13, 15_power_reset.md. -/
def rstCfg : Nat := 0x7200000
/-- `RST_CAUSE`: Table PWR-13, 15_power_reset.md. -/
def rstCause : Nat := 0x7200008
/-- `RST_HALT_MSG`: Table FLT-11, 14_faults_jig.md. -/
def rstHaltMsg : Nat := 0x7208000
/-- `RST_HALT_TIME`: Table FLT-11, 14_faults_jig.md. -/
def rstHaltTime : Nat := 0x7208008
/-- `RST_HALT_STAT`: Table FLT-11, 14_faults_jig.md. -/
def rstHaltStat : Nat := 0x7208010
/-! CALB_ block -/
/-- `CALB_STAT`: Table PWR-13, 15_power_reset.md. -/
def calbStat : Nat := 0x7300000
/-! SMON_ block -/
/-- `SMON_STAT`: Table PWR-13, 15_power_reset.md. -/
def smonStat : Nat := 0x7400000
/-- `SMON_CLR`: Table PWR-13, 15_power_reset.md. -/
def smonClr : Nat := 0x7400008
/-- `SMON_RAIL`: Table PWR-13, 15_power_reset.md. -/
def smonRail (i : Nat) : Nat := 0x7400100 + i * 0x8
/-- `SMON_LONG_CNT`: Table PWR-13, 15_power_reset.md. -/
def smonLongCnt : Nat := 0x7400200
/-- `SMON_RST_CNT`: Table PWR-13, 15_power_reset.md. -/
def smonRstCnt : Nat := 0x7400208

end Sys2Proof.Machine.Reg
end

