-- ==== Sys2Proof/Machine/RegTable.lean ====
section
/-! DEFINITION. The register field tables of the specification: for each register its base address, the counts and strides of its
copies, and its fields (lowest bit, width, access code of Table SCO-6, reset value, range).  A field that a table marks RSV
is left out: it reads 0 and ignores writes (Table SCO-6, R11). -/

namespace Sys2Proof.Machine.RegTable

/-- Field tables of the GLB_ block.  DESIGN CHOICE (log entry 10): STEPPING 1 and VARIANT 0 of `GLB_ID`, whose reset Table ARC-9 gives as fused. -/
def glbRegs : List RegDesc := [
  -- GLB_ID (Table ARC-9): VENDOR, DEVICE, STEPPING, VARIANT
  ⟨0x0, [],
    [⟨0, 16, .ro, 8046, .any⟩,
     ⟨16, 16, .ro, 29248, .any⟩,
     ⟨32, 8, .ro, 1, .any⟩,
     ⟨40, 8, .ro, 0, .any⟩]⟩,
  -- GLB_ISLAND_UP (Table ARC-10): ISL
  ⟨0x10, [],
    [⟨0, 48, .ro, 281474976710655, .any⟩]⟩,
  -- GLB_ISLAND_FENCED (Table ARC-10): ISL
  ⟨0x18, [],
    [⟨0, 48, .ro, 0, .any⟩]⟩,
  -- GLB_ACC_ERR (Table ARC-11): OFFSET, WRITE, BAR4, KIND, REQ, ISLAND, VALID
  ⟨0x20, [],
    [⟨0, 30, .ro, 0, .any⟩,
     ⟨30, 1, .ro, 0, .any⟩,
     ⟨31, 1, .ro, 0, .any⟩,
     ⟨32, 2, .ro, 0, .any⟩,
     ⟨34, 3, .ro, 0, .any⟩,
     ⟨37, 6, .ro, 0, .any⟩,
     ⟨63, 1, .w1c, 0, .any⟩]⟩,
  -- GLB_ACC_ERR_CNT (Table ARC-17): CNT
  ⟨0x28, [],
    [⟨0, 64, .rc, 0, .any⟩]⟩,
  -- GLB_LOCK_WR_CNT (Table ARC-17): CNT
  ⟨0x30, [],
    [⟨0, 64, .rc, 0, .any⟩]⟩,
  -- GLB_SNAP_CTL (Table ARC-12): GROUP, INDEX, GO
  ⟨0x100, [],
    [⟨0, 4, .rw, 0, .any⟩,
     ⟨16, 18, .rw, 0, .any⟩,
     ⟨63, 1, .wo, 0, .any⟩]⟩,
  -- GLB_SNAP_STAT (Table ARC-12): BUSY, DONE, FAIL, OVR
  ⟨0x108, [],
    [⟨0, 1, .ro, 0, .any⟩,
     ⟨1, 1, .w1c, 0, .any⟩,
     ⟨2, 1, .w1c, 0, .any⟩,
     ⟨3, 1, .w1c, 0, .any⟩]⟩,
  -- GLB_SNAP_DATA (Table ARC-8): DATA
  ⟨0x200, [(16, 0x8)],
    [⟨0, 64, .ro, 0, .any⟩]⟩]

/-- Field tables of the TIM_ block, part 1. -/
def tim0Regs : List RegDesc := [
  -- TIM_CTL (Table TIM-9): SRC
  ⟨0x100000, [],
    [⟨0, 3, .rw, 0, .within 0 4⟩]⟩,
  -- TIM_STAT (Table TIM-9): STATE, HOLD_EXP, COARSE, SRC_LOST, CFG_ERR, ADJ_BUSY, ADJ_REFUSED
  ⟨0x100008, [],
    [⟨0, 2, .ro, 0, .any⟩,
     ⟨2, 1, .ro, 0, .any⟩,
     ⟨3, 1, .ro, 1, .any⟩,
     ⟨4, 1, .w1c, 0, .any⟩,
     ⟨5, 1, .w1c, 0, .any⟩,
     ⟨6, 1, .ro, 0, .any⟩,
     ⟨7, 1, .w1c, 0, .any⟩]⟩,
  -- TIM_RATE (Table TIM-9): RATE
  ⟨0x100010, [],
    [⟨0, 40, .rw, 0, .clampS (-140737488355) 140737488355⟩]⟩,
  -- TIM_ADJ (Table TIM-9): OFFSET, MODE, GO
  ⟨0x100018, [],
    [⟨0, 48, .rw, 0, .any⟩,
     ⟨48, 1, .rw, 0, .any⟩,
     ⟨63, 1, .wo, 0, .any⟩]⟩,
  -- TIM_SET_SEC (Table TIM-9): SEC
  ⟨0x100028, [],
    [⟨0, 48, .rw, 0, .any⟩]⟩,
  -- TIM_SET_NS (Table TIM-9): FRAC, NS, GO
  ⟨0x100030, [],
    [⟨0, 16, .rw, 0, .any⟩,
     ⟨16, 32, .rw, 0, .within 0 999999999⟩,
     ⟨63, 1, .wo, 0, .any⟩]⟩,
  -- TIM_SERVO_CFG (Table TIM-9): KP_SH, KI_SH, LOCK_THR, SLEW_PPM, SRC_TIMEOUT, STEP_THR
  ⟨0x100040, [],
    [⟨0, 5, .rw, 2, .any⟩,
     ⟨5, 5, .rw, 6, .any⟩,
     ⟨16, 8, .rw, 20, .within 1 255⟩,
     ⟨24, 8, .rw, 50, .clamp 1 100⟩,
     ⟨32, 16, .rw, 15000, .within 1 65535⟩,
     ⟨48, 16, .rw, 1000, .any⟩]⟩,
  -- TIM_SERVO_IN (Table TIM-9): THETA
  ⟨0x100048, [],
    [⟨0, 48, .wo, 0, .any⟩]⟩,
  -- TIM_SERVO_OFS (Table TIM-9): THETA, SEQ
  ⟨0x100050, [],
    [⟨0, 48, .ro, 0, .any⟩,
     ⟨48, 16, .ro, 0, .any⟩]⟩,
  -- TIM_SERVO_INTEG (Table TIM-9): INTEG
  ⟨0x100058, [],
    [⟨0, 40, .ro, 0, .any⟩]⟩,
  -- TIM_HOLD_CFG (Table TIM-9): HOLD_MAX
  ⟨0x100060, [],
    [⟨0, 32, .rw, 14400, .any⟩]⟩,
  -- TIM_PPSIN_CFG (Table TIM-10): EN, POL, FILT_NS, WIN
  ⟨0x100080, [],
    [⟨0, 1, .rw, 0, .any⟩,
     ⟨1, 1, .rw, 0, .any⟩,
     ⟨8, 8, .rw, 16, .within 1 255⟩,
     ⟨16, 16, .rw, 10, .within 1 65535⟩]⟩,
  -- TIM_PPSIN_CAP (Table TIM-10): CAP
  ⟨0x100088, [],
    [⟨0, 64, .ro, 0, .any⟩]⟩,
  -- TIM_PPSOUT_CFG (Table TIM-10): EN, SQUELCH, OFFSET, WIDTH
  ⟨0x100090, [],
    [⟨0, 1, .rw, 0, .any⟩,
     ⟨1, 1, .rw, 1, .any⟩,
     ⟨8, 24, .rw, 0, .any⟩,
     ⟨32, 20, .rw, 100000, .clamp 1 500000⟩]⟩,
  -- TIM_CLK10_CFG (Table TIM-10): EN, SQUELCH, OFFSET
  ⟨0x100098, [],
    [⟨0, 1, .rw, 0, .any⟩,
     ⟨1, 1, .rw, 1, .any⟩,
     ⟨8, 8, .rw, 0, .clampS (-50) 50⟩]⟩,
  -- TIM_PTM_CTL (Table TIM-10): EN, AUTO, REQ, PERIOD, VALID
  ⟨0x1000a0, [],
    [⟨0, 1, .rw, 0, .any⟩,
     ⟨1, 1, .rw, 0, .any⟩,
     ⟨2, 1, .wo, 0, .any⟩,
     ⟨16, 10, .rw, 10, .within 1 1000⟩,
     ⟨63, 1, .ro, 0, .any⟩]⟩,
  -- TIM_PTM_LOCAL (Table TIM-10): T1
  ⟨0x1000a8, [],
    [⟨0, 64, .ro, 0, .any⟩]⟩,
  -- TIM_PTM_MASTER (Table TIM-10): TM
  ⟨0x1000b0, [],
    [⟨0, 64, .ro, 0, .any⟩]⟩,
  -- TIM_PTM_DELAY (Table TIM-10): DELAY, SEQ
  ⟨0x1000b8, [],
    [⟨0, 32, .ro, 0, .any⟩,
     ⟨48, 16, .ro, 0, .any⟩]⟩,
  -- TIM_SNAPT_SEC (Table TIM-10): SEC
  ⟨0x1000c0, [],
    [⟨0, 48, .rw, 0, .any⟩]⟩,
  -- TIM_SNAPT_NS (Table TIM-10): NS
  ⟨0x1000c8, [],
    [⟨0, 32, .rw, 0, .within 0 999999999⟩]⟩,
  -- TIM_SNAPT_CTL (Table TIM-10): ARM, CANCEL, SCOPE, RING, CLEAR, ID
  ⟨0x1000d0, [],
    [⟨0, 1, .wo, 0, .any⟩,
     ⟨1, 1, .wo, 0, .any⟩,
     ⟨2, 3, .rw, 0, .any⟩,
     ⟨5, 1, .rw, 0, .any⟩,
     ⟨6, 1, .rw, 0, .any⟩,
     ⟨8, 8, .rw, 0, .any⟩]⟩,
  -- TIM_SNAPT_STAT (Table TIM-10): STATE, ID, FAIL, STEPPED
  ⟨0x1000d8, [],
    [⟨0, 2, .ro, 0, .any⟩,
     ⟨8, 8, .ro, 0, .any⟩,
     ⟨16, 4, .ro, 0, .any⟩,
     ⟨20, 1, .ro, 0, .any⟩]⟩,
  -- TIM_PPSIN_REJ_CNT (Table TIM-11): CNT
  ⟨0x100100, [],
    [⟨0, 64, .rc, 0, .any⟩]⟩]

/-- Field tables of the TIM_ block, part 2. -/
def tim1Regs : List RegDesc := [
  -- TIM_ADJ_REF_CNT (Table TIM-11): CNT
  ⟨0x100108, [],
    [⟨0, 64, .rc, 0, .any⟩]⟩,
  -- TIM_HOLD_CNT (Table TIM-11): CNT
  ⟨0x100110, [],
    [⟨0, 64, .rc, 0, .any⟩]⟩,
  -- TIM_PTM_TO_CNT (Table TIM-11): CNT
  ⟨0x100118, [],
    [⟨0, 64, .rc, 0, .any⟩]⟩,
  -- TIM_SAMP_REJ_CNT (Table TIM-11): CNT
  ⟨0x100120, [],
    [⟨0, 64, .rc, 0, .any⟩]⟩,
  -- TIM_PORT_CFG (Table TIM-11): PTP_EN, TRANSPORT, ONE_STEP, TC
  ⟨0x101000, [(36, 0x20)],
    [⟨0, 1, .rw, 0, .any⟩,
     ⟨1, 3, .rw, 7, .any⟩,
     ⟨4, 1, .rw, 0, .any⟩,
     ⟨5, 2, .rw, 0, .within 0 2⟩]⟩,
  -- TIM_TS_SHIM (Table TIM-11): RX, TX, RX_CLAMPED, TX_CLAMPED
  ⟨0x101008, [(36, 0x20)],
    [⟨0, 16, .rw, 0, .clampS (-16000) 16000⟩,
     ⟨16, 16, .rw, 0, .clampS (-16000) 16000⟩,
     ⟨32, 1, .ro, 0, .any⟩,
     ⟨33, 1, .ro, 0, .any⟩]⟩,
  -- TIM_PORT_LDLY (Table TIM-11): LDLY
  ⟨0x101010, [(36, 0x20)],
    [⟨0, 32, .rw, 0, .any⟩]⟩,
  -- TIM_TS_FUSE (Table TIM-11): RX, TX
  ⟨0x102000, [(36, 0x8)],
    [⟨0, 16, .ro, 0, .any⟩,
     ⟨16, 16, .ro, 0, .any⟩]⟩]

/-- Field tables of the TIM_ block. -/
def timRegs : List RegDesc := tim0Regs ++ tim1Regs

/-- Field tables of the CAL_ block. -/
def calRegs : List RegDesc := [
  -- CAL_CTL (Table CAL-13): EN, RING, FIRST_BANK
  ⟨0x200000, [],
    [⟨0, 1, .rw, 0, .any⟩,
     ⟨1, 1, .rw, 0, .any⟩,
     ⟨2, 2, .rw, 0, .any⟩]⟩,
  -- CAL_STAT (Table CAL-13): RUN, STOPPING, REF, REF_CODE, WR_REF, SLICE_OUT
  ⟨0x200008, [],
    [⟨0, 1, .ro, 0, .any⟩,
     ⟨1, 1, .ro, 0, .any⟩,
     ⟨2, 1, .w1c, 0, .any⟩,
     ⟨4, 4, .ro, 0, .any⟩,
     ⟨8, 1, .w1c, 0, .any⟩,
     ⟨12, 4, .ro, 0, .any⟩]⟩,
  -- CAL_START_SEC (Table CAL-13): SEC
  ⟨0x200010, [],
    [⟨0, 48, .rw, 0, .any⟩]⟩,
  -- CAL_START_NS (Table CAL-13): NS
  ⟨0x200018, [],
    [⟨0, 32, .rw, 0, .within 0 999999999⟩]⟩,
  -- CAL_FETCH_LEAD (Table CAL-13): LEAD
  ⟨0x200020, [],
    [⟨0, 32, .rw, 20000, .within 2000 1000000⟩]⟩,
  -- CAL_CMD (Table CAL-13): OP, BANK, SRC, GO
  ⟨0x200028, [],
    [⟨0, 2, .rw, 0, .any⟩,
     ⟨4, 2, .rw, 0, .any⟩,
     ⟨8, 2, .rw, 0, .any⟩,
     ⟨63, 1, .wo, 0, .any⟩]⟩,
  -- CAL_ACT (Table CAL-13): BANK, AT_CYC, CANCEL, GO
  ⟨0x200030, [],
    [⟨0, 2, .rw, 0, .any⟩,
     ⟨8, 48, .rw, 0, .any⟩,
     ⟨62, 1, .wo, 0, .any⟩,
     ⟨63, 1, .wo, 0, .any⟩]⟩,
  -- CAL_ACT_STAT (Table CAL-13): STATE, BANK, AT_CYC
  ⟨0x200038, [],
    [⟨0, 2, .ro, 0, .any⟩,
     ⟨2, 2, .ro, 0, .any⟩,
     ⟨16, 48, .ro, 0, .any⟩]⟩,
  -- CAL_BANK_CYC (Table CAL-14): CYC_NS
  ⟨0x200100, [(4, 0x20)],
    [⟨0, 30, .rw, 1000000, .within 31250 1000000000⟩]⟩,
  -- CAL_BANK_HP (Table CAL-14): HP
  ⟨0x200108, [(4, 0x20)],
    [⟨0, 13, .rw, 1, .within 1 4096⟩]⟩,
  -- CAL_BANK_STAT (Table CAL-14): STATE, VAL_CODE, VAL_PORT, VAL_INDEX
  ⟨0x200110, [(4, 0x20)],
    [⟨0, 3, .ro, 0, .any⟩,
     ⟨4, 4, .ro, 0, .any⟩,
     ⟨8, 6, .ro, 0, .any⟩,
     ⟨16, 18, .ro, 0, .any⟩]⟩,
  -- CAL_GEN (Table CAL-14): COMMITTED, TAKEN, TAKEN_VALID
  ⟨0x200118, [(4, 0x20)],
    [⟨0, 16, .ro, 0, .any⟩,
     ⟨16, 16, .ro, 0, .any⟩,
     ⟨32, 1, .ro, 0, .any⟩]⟩,
  -- CAL_ECC_CNT (Table CAL-15): CNT
  ⟨0x200200, [],
    [⟨0, 64, .rc, 0, .any⟩]⟩,
  -- CAL_VAL_FAIL_CNT (Table CAL-15): CNT
  ⟨0x200208, [],
    [⟨0, 64, .rc, 0, .any⟩]⟩,
  -- CAL_WR_REF_CNT (Table CAL-15): CNT
  ⟨0x200210, [],
    [⟨0, 64, .rc, 0, .any⟩]⟩,
  -- CAL_DIR (Table CAL-14): BASE, COUNT
  ⟨0x201000, [(4, 0x200), (36, 0x8)],
    [⟨0, 18, .rw, 0, .any⟩,
     ⟨32, 19, .rw, 0, .within 0 262144⟩]⟩,
  -- CAL_PORT_CFG (Table CAL-15): SCHED_EN, FILL, GUARD_NS, HOLD_ADV
  ⟨0x202000, [(36, 0x40)],
    [⟨0, 1, .rw, 0, .any⟩,
     ⟨1, 1, .rw, 0, .any⟩,
     ⟨16, 16, .rw, 200, .any⟩,
     ⟨32, 16, .rw, 2000, .any⟩]⟩,
  -- CAL_LAST_LATE (Table CAL-15): STREAM, CAUSE, HCYC, VALID
  ⟨0x202008, [(36, 0x40)],
    [⟨0, 18, .ro, 0, .any⟩,
     ⟨20, 4, .ro, 0, .any⟩,
     ⟨24, 12, .ro, 0, .any⟩,
     ⟨63, 1, .w1c, 0, .any⟩]⟩,
  -- CAL_LAUNCH_CNT (Table CAL-15): CNT
  ⟨0x202010, [(36, 0x40)],
    [⟨0, 64, .rc, 0, .any⟩]⟩,
  -- CAL_LATE_CNT (Table CAL-15): CNT
  ⟨0x202018, [(36, 0x40)],
    [⟨0, 64, .rc, 0, .any⟩]⟩,
  -- CAL_EMPTY_CNT (Table CAL-15): CNT
  ⟨0x202020, [(36, 0x40)],
    [⟨0, 64, .rc, 0, .any⟩]⟩,
  -- CAL_HELD_CNT (Table CAL-15): CNT
  ⟨0x202028, [(36, 0x40)],
    [⟨0, 64, .rc, 0, .any⟩]⟩]

/-- Field tables of the PRE_ block. -/
def preRegs : List RegDesc := [
  -- PRE_PORT_CFG (Table PRE-11): EN, VERIFY_DIS, ADD_FRAG, NEST_EN, VERIFY_TIME, REASM_TO, RESTART
  ⟨0x300000, [(36, 0x100)],
    [⟨0, 1, .rw, 0, .any⟩,
     ⟨1, 1, .rw, 0, .any⟩,
     ⟨2, 2, .rw, 0, .any⟩,
     ⟨4, 1, .rw, 0, .any⟩,
     ⟨8, 8, .rw, 10, .within 1 128⟩,
     ⟨16, 16, .rw, 1000, .within 1 65535⟩,
     ⟨63, 1, .wo, 0, .any⟩]⟩,
  -- PRE_CLASS_MAP (Table PRE-11): MAP
  ⟨0x300008, [(36, 0x100)],
    [⟨0, 16, .rw, 21845, .any⟩]⟩,
  -- PRE_PORT_STAT (Table PRE-11): VERIFY_ST, ACTIVE, NEST_ST, PEER_NEST, HOLD, PEER_ADD_FRAG, TX_ADD_FRAG, SUSP_P, SUSP_X, CFG_ERR, NR_SEEN
  ⟨0x300010, [(36, 0x100)],
    [⟨0, 3, .ro, 0, .any⟩,
     ⟨3, 1, .ro, 0, .any⟩,
     ⟨4, 2, .ro, 0, .any⟩,
     ⟨6, 1, .ro, 0, .any⟩,
     ⟨7, 1, .ro, 0, .any⟩,
     ⟨8, 2, .ro, 0, .any⟩,
     ⟨10, 2, .ro, 0, .any⟩,
     ⟨12, 1, .ro, 0, .any⟩,
     ⟨13, 1, .ro, 0, .any⟩,
     ⟨14, 1, .w1c, 0, .any⟩,
     ⟨15, 1, .ro, 0, .any⟩]⟩,
  -- PRE_FRAG_TX_CNT (Table PRE-12): CNT
  ⟨0x300040, [(36, 0x100)],
    [⟨0, 64, .rc, 0, .any⟩]⟩,
  -- PRE_FRAG_RX_CNT (Table PRE-12): CNT
  ⟨0x300048, [(36, 0x100)],
    [⟨0, 64, .rc, 0, .any⟩]⟩,
  -- PRE_HOLD_CNT (Table PRE-12): CNT
  ⟨0x300050, [(36, 0x100)],
    [⟨0, 64, .rc, 0, .any⟩]⟩,
  -- PRE_ASM_OK_CNT (Table PRE-12): CNT
  ⟨0x300058, [(36, 0x100)],
    [⟨0, 64, .rc, 0, .any⟩]⟩,
  -- PRE_ASM_ERR_CNT (Table PRE-12): CNT
  ⟨0x300060, [(36, 0x100)],
    [⟨0, 64, .rc, 0, .any⟩]⟩,
  -- PRE_SMD_ERR_CNT (Table PRE-12): CNT
  ⟨0x300068, [(36, 0x100)],
    [⟨0, 64, .rc, 0, .any⟩]⟩,
  -- PRE_REASM_TO_CNT (Table PRE-12): CNT
  ⟨0x300070, [(36, 0x100)],
    [⟨0, 64, .rc, 0, .any⟩]⟩,
  -- PRE_STOMP_CNT (Table PRE-12): CNT
  ⟨0x300078, [(36, 0x100)],
    [⟨0, 64, .rc, 0, .any⟩]⟩,
  -- PRE_VERIFY_FAIL_CNT (Table PRE-12): CNT
  ⟨0x300080, [(36, 0x100)],
    [⟨0, 64, .rc, 0, .any⟩]⟩,
  -- PRE_NEST_CNT (Table PRE-12): CNT
  ⟨0x300088, [(36, 0x100)],
    [⟨0, 64, .rc, 0, .any⟩]⟩,
  -- PRE_TX_ABORT_CNT (Table PRE-12): CNT
  ⟨0x300090, [(36, 0x100)],
    [⟨0, 64, .rc, 0, .any⟩]⟩,
  -- PRE_CUT_DEFER_CNT (Table PRE-12): CNT
  ⟨0x300098, [(36, 0x100)],
    [⟨0, 64, .rc, 0, .any⟩]⟩]

/-- Field tables of the STR_ block. -/
def strRegs : List RegDesc := [
  -- STR_STAT (Table STR-12): HALF_OUT, WR_REF, CMD_REF, CNT_STALL, CFG_ERR
  ⟨0x400008, [],
    [⟨0, 2, .ro, 0, .any⟩,
     ⟨2, 1, .w1c, 0, .any⟩,
     ⟨3, 1, .w1c, 0, .any⟩,
     ⟨4, 1, .ro, 0, .any⟩,
     ⟨5, 1, .w1c, 0, .any⟩]⟩,
  -- STR_CMD (Table STR-12): STREAM, OP, GO
  ⟨0x400010, [],
    [⟨0, 18, .rw, 0, .any⟩,
     ⟨18, 2, .rw, 0, .within 1 2⟩,
     ⟨63, 1, .wo, 0, .any⟩]⟩,
  -- STR_CNT_SEL (Table STR-12): STREAM, CLEAR, GO
  ⟨0x400020, [],
    [⟨0, 18, .rw, 0, .any⟩,
     ⟨32, 1, .rw, 1, .any⟩,
     ⟨63, 1, .wo, 0, .any⟩]⟩,
  -- STR_CNT_STAT (Table STR-12): BUSY, DONE, FAIL, OVR, STREAM
  ⟨0x400028, [],
    [⟨0, 1, .ro, 0, .any⟩,
     ⟨1, 1, .w1c, 0, .any⟩,
     ⟨2, 1, .w1c, 0, .any⟩,
     ⟨3, 1, .w1c, 0, .any⟩,
     ⟨8, 18, .ro, 0, .any⟩]⟩,
  -- STR_CNT_DATA (Table STR-12): CNT
  ⟨0x400040, [(8, 0x8)],
    [⟨0, 64, .ro, 0, .any⟩]⟩,
  -- STR_LE_PROF (Table STR-12): TEST_MS, RESET_MS
  ⟨0x400100, [(8, 0x8)],
    [⟨0, 16, .rw, 2000, .within 1 65535⟩,
     ⟨16, 16, .rw, 30000, .any⟩]⟩,
  -- STR_INVALID_CNT (Table STR-13): CNT
  ⟨0x400200, [],
    [⟨0, 64, .rc, 0, .any⟩]⟩,
  -- STR_FENCE_DROP_CNT (Table STR-13): CNT
  ⟨0x400208, [],
    [⟨0, 64, .rc, 0, .any⟩]⟩,
  -- STR_HALF_OUT_CNT (Table STR-13): CNT
  ⟨0x400210, [],
    [⟨0, 64, .rc, 0, .any⟩]⟩,
  -- STR_WR_REF_CNT (Table STR-13): CNT
  ⟨0x400218, [],
    [⟨0, 64, .rc, 0, .any⟩]⟩,
  -- STR_LATENT_CNT (Table STR-13): CNT
  ⟨0x400220, [],
    [⟨0, 64, .rc, 0, .any⟩]⟩,
  -- STR_LE_RESET_CNT (Table STR-13): CNT
  ⟨0x400228, [],
    [⟨0, 64, .rc, 0, .any⟩]⟩,
  -- STR_ECC_CNT (Table STR-13): CNT
  ⟨0x400230, [],
    [⟨0, 64, .rc, 0, .any⟩]⟩,
  -- STR_CNT_LOST_CNT (Table STR-13): CNT
  ⟨0x400238, [],
    [⟨0, 64, .rc, 0, .any⟩]⟩,
  -- STR_RTAG_UNK_CNT (Table STR-13): CNT
  ⟨0x400240, [],
    [⟨0, 64, .rc, 0, .any⟩]⟩,
  -- STR_PORT_CFG (Table STR-12): ID_NULL, ID_SMAC, ID_IP, RTAG_RX, RTAG_UNK_DROP
  ⟨0x401000, [(36, 0x8)],
    [⟨0, 1, .rw, 0, .any⟩,
     ⟨1, 1, .rw, 0, .any⟩,
     ⟨2, 1, .rw, 0, .any⟩,
     ⟨3, 1, .rw, 1, .any⟩,
     ⟨4, 1, .rw, 0, .any⟩]⟩]

/-- Field tables of the RNG_ block, part 1. -/
def rng0Regs : List RegDesc := [
  -- RNG_GLB_CFG (Table RNG-15): MAIN
  ⟨0x500000, [],
    [⟨0, 1, .rw, 0, .any⟩]⟩,
  -- RNG_MAC (Table RNG-15): ADDR
  ⟨0x500008, [],
    [⟨0, 48, .rw, 0, .any⟩]⟩,
  -- RNG_MS_CTL (Table RNG-16): BANK, GO
  ⟨0x500010, [],
    [⟨0, 2, .rw, 0, .any⟩,
     ⟨63, 1, .wo, 0, .any⟩]⟩,
  -- RNG_MS_STAT (Table RNG-16): STATE, RESULT, MS_ID, BANK, MS_SRC, MISS_ID
  ⟨0x500018, [],
    [⟨0, 3, .ro, 0, .any⟩,
     ⟨4, 4, .ro, 0, .any⟩,
     ⟨8, 8, .ro, 0, .any⟩,
     ⟨16, 2, .ro, 0, .any⟩,
     ⟨18, 6, .ro, 0, .any⟩,
     ⟨24, 6, .ro, 0, .any⟩]⟩,
  -- RNG_BAR_CTL (Table RNG-16): ID, ARRIVE
  ⟨0x500020, [],
    [⟨0, 16, .rw, 0, .any⟩,
     ⟨63, 1, .wo, 0, .any⟩]⟩,
  -- RNG_BAR_STAT (Table RNG-16): ID, WAITING, DONE
  ⟨0x500028, [],
    [⟨0, 16, .ro, 0, .any⟩,
     ⟨16, 1, .ro, 0, .any⟩,
     ⟨17, 1, .w1c, 0, .any⟩]⟩,
  -- RNG_BC_CTL (Table RNG-16): LEN, ATT, GO
  ⟨0x500030, [],
    [⟨0, 7, .rw, 64, .within 1 64⟩,
     ⟨8, 1, .rw, 0, .any⟩,
     ⟨63, 1, .wo, 0, .any⟩]⟩,
  -- RNG_BC_STAT (Table RNG-16): RX_CNT, TX_BUSY, RX_SRC, RX_LEN, RX_RING, POP
  ⟨0x500038, [],
    [⟨0, 5, .ro, 0, .any⟩,
     ⟨5, 1, .ro, 0, .any⟩,
     ⟨6, 6, .ro, 0, .any⟩,
     ⟨12, 7, .ro, 0, .any⟩,
     ⟨19, 4, .ro, 0, .any⟩,
     ⟨63, 1, .wo, 0, .any⟩]⟩,
  -- RNG_BC_TX (Table RNG-16): DATA
  ⟨0x500040, [(8, 0x8)],
    [⟨0, 64, .rw, 0, .any⟩]⟩,
  -- RNG_BC_RX (Table RNG-16): DATA
  ⟨0x500080, [(8, 0x8)],
    [⟨0, 64, .ro, 0, .any⟩]⟩,
  -- RNG_BC_LOST_CNT (Table RNG-17): CNT
  ⟨0x5000c0, [],
    [⟨0, 64, .rc, 0, .any⟩]⟩,
  -- RNG_CTL (Table RNG-15): EN, INSERT, CS_EN, CH, NODE_ID, RING, HALT, RESTART
  ⟨0x500100, [(2, 0x100)],
    [⟨0, 1, .rw, 0, .any⟩,
     ⟨1, 1, .rw, 0, .any⟩,
     ⟨2, 1, .rw, 0, .any⟩,
     ⟨3, 1, .rw, 0, .any⟩,
     ⟨4, 6, .rw, 0, .any⟩,
     ⟨12, 4, .rw, 0, .any⟩,
     ⟨62, 1, .wo, 0, .any⟩,
     ⟨63, 1, .wo, 0, .any⟩]⟩,
  -- RNG_CYC_CFG (Table RNG-15): CYC_NS, CSEG_NS
  ⟨0x500108, [(2, 0x100)],
    [⟨0, 30, .rw, 1000000, .within 31250 1000000000⟩,
     ⟨32, 30, .rw, 125000, .within 2000 500000000⟩]⟩,
  -- RNG_BE_CFG (Table RNG-15): BE_START, BE_END
  ⟨0x500110, [(2, 0x100)],
    [⟨0, 30, .rw, 125000, .any⟩,
     ⟨32, 30, .rw, 1000000, .any⟩]⟩,
  -- RNG_TIMING (Table RNG-15): PREC_WIN, CORR_LIM, LISTEN_CYC, LOSS_CYC
  ⟨0x500118, [(2, 0x100)],
    [⟨0, 16, .rw, 50, .within 10 10000⟩,
     ⟨16, 16, .rw, 20, .any⟩,
     ⟨32, 16, .rw, 8, .within 2 65535⟩,
     ⟨48, 8, .rw, 3, .within 1 255⟩]⟩,
  -- RNG_FED_CFG (Table RNG-15): LEVEL, REF, SNAP_RELAY, BC_RELAY
  ⟨0x500120, [(2, 0x100)],
    [⟨0, 4, .rw, 0, .any⟩,
     ⟨4, 1, .rw, 0, .any⟩,
     ⟨5, 1, .rw, 0, .any⟩,
     ⟨6, 1, .rw, 0, .any⟩]⟩,
  -- RNG_STAT (Table RNG-15): STATE, JOINED, INSERTED, CSEG_SHORT, MODE_MISMATCH, CFG_ERR, CORR_RUN, MEMBER_CNT, COLD_ID
  ⟨0x500128, [(2, 0x100)],
    [⟨0, 3, .ro, 0, .any⟩,
     ⟨3, 1, .ro, 0, .any⟩,
     ⟨4, 1, .ro, 0, .any⟩,
     ⟨5, 1, .w1c, 0, .any⟩,
     ⟨6, 1, .ro, 0, .any⟩,
     ⟨7, 1, .w1c, 0, .any⟩,
     ⟨8, 2, .ro, 0, .any⟩,
     ⟨16, 7, .ro, 0, .any⟩,
     ⟨24, 6, .ro, 0, .any⟩]⟩,
  -- RNG_CORR (Table RNG-15): THETA, SEQ
  ⟨0x500130, [(2, 0x100)],
    [⟨0, 48, .ro, 0, .any⟩,
     ⟨48, 16, .ro, 0, .any⟩]⟩,
  -- RNG_MEMBERS (Table RNG-15): MEMBERS
  ⟨0x500138, [(2, 0x100)],
    [⟨0, 64, .ro, 0, .any⟩]⟩,
  -- RNG_PASSIVE_CNT (Table RNG-17): CNT
  ⟨0x500140, [(2, 0x100)],
    [⟨0, 64, .rc, 0, .any⟩]⟩,
  -- RNG_LISTEN_CNT (Table RNG-17): CNT
  ⟨0x500148, [(2, 0x100)],
    [⟨0, 64, .rc, 0, .any⟩]⟩,
  -- RNG_CS_CNT (Table RNG-17): CNT
  ⟨0x500150, [(2, 0x100)],
    [⟨0, 64, .rc, 0, .any⟩]⟩,
  -- RNG_CS_ABORT_CNT (Table RNG-17): CNT
  ⟨0x500158, [(2, 0x100)],
    [⟨0, 64, .rc, 0, .any⟩]⟩,
  -- RNG_MS_ABANDON_CNT (Table RNG-17): CNT
  ⟨0x500160, [(2, 0x100)],
    [⟨0, 64, .rc, 0, .any⟩]⟩]

/-- Field tables of the RNG_ block, part 2. -/
def rng1Regs : List RegDesc := [
  -- RNG_MODE_DIV_CNT (Table RNG-17): CNT
  ⟨0x500168, [(2, 0x100)],
    [⟨0, 64, .rc, 0, .any⟩]⟩,
  -- RNG_PORT_CFG (Table RNG-15): LDLY_INIT
  ⟨0x501000, [(4, 0x100)],
    [⟨0, 32, .rw, 0, .within 0 1000000⟩]⟩,
  -- RNG_LDLY (Table RNG-15): LDLY, VALID
  ⟨0x501008, [(4, 0x100)],
    [⟨0, 32, .ro, 0, .any⟩,
     ⟨32, 1, .ro, 0, .any⟩]⟩,
  -- RNG_CIRCUIT (Table RNG-15): CIRC, VALID
  ⟨0x501010, [(4, 0x100)],
    [⟨0, 32, .ro, 0, .any⟩,
     ⟨32, 1, .ro, 0, .any⟩]⟩,
  -- RNG_RX_OK_CNT (Table RNG-17): CNT
  ⟨0x501040, [(4, 0x100)],
    [⟨0, 64, .rc, 0, .any⟩]⟩,
  -- RNG_WIN_REJ_CNT (Table RNG-17): CNT
  ⟨0x501048, [(4, 0x100)],
    [⟨0, 64, .rc, 0, .any⟩]⟩,
  -- RNG_FMT_REJ_CNT (Table RNG-17): CNT
  ⟨0x501050, [(4, 0x100)],
    [⟨0, 64, .rc, 0, .any⟩]⟩,
  -- RNG_GUARD_CUT_CNT (Table RNG-17): CNT
  ⟨0x501058, [(4, 0x100)],
    [⟨0, 64, .rc, 0, .any⟩]⟩,
  -- RNG_RETURN_CNT (Table RNG-17): CNT
  ⟨0x501060, [(4, 0x100)],
    [⟨0, 64, .rc, 0, .any⟩]⟩,
  -- RNG_DROP_CNT (Table RNG-17): CNT
  ⟨0x501068, [(4, 0x100)],
    [⟨0, 64, .rc, 0, .any⟩]⟩]

/-- Field tables of the RNG_ block. -/
def rngRegs : List RegDesc := rng0Regs ++ rng1Regs

/-- Field tables of the SOL_ block. -/
def solRegs : List RegDesc := [
  -- SOL_CTL (Table SOL-9): EN, HOST_RATE
  ⟨0x600000, [],
    [⟨0, 1, .rw, 0, .any⟩,
     ⟨8, 8, .rw, 200, .within 1 200⟩]⟩,
  -- SOL_STAT (Table SOL-9): STATE, QDEPTH, HEAD, LOCK_BANK, LOCK_VALID, FOREIGN, HEAD_LOST, CFG_ERR, QFULL
  ⟨0x600008, [],
    [⟨0, 2, .ro, 0, .any⟩,
     ⟨2, 5, .ro, 0, .any⟩,
     ⟨7, 2, .ro, 0, .any⟩,
     ⟨9, 2, .ro, 0, .any⟩,
     ⟨11, 1, .ro, 0, .any⟩,
     ⟨12, 1, .w1c, 0, .any⟩,
     ⟨13, 1, .w1c, 0, .any⟩,
     ⟨14, 1, .w1c, 0, .any⟩,
     ⟨15, 1, .w1c, 0, .any⟩]⟩,
  -- SOL_CMD (Table SOL-9): SUBMIT, ABORT, ACTIVATE
  ⟨0x600010, [],
    [⟨0, 1, .wo, 0, .any⟩,
     ⟨1, 1, .wo, 0, .any⟩,
     ⟨2, 1, .wo, 0, .any⟩]⟩,
  -- SOL_FILE_ADDR (Table SOL-9): ADDR
  ⟨0x600018, [],
    [⟨0, 35, .rw, 0, .within 1073741824 2147483647⟩]⟩,
  -- SOL_FILE_LEN (Table SOL-9): LEN
  ⟨0x600020, [],
    [⟨0, 32, .rw, 0, .within 64 16777280⟩]⟩,
  -- SOL_RES_STAT (Table SOL-9): COUNT, POP
  ⟨0x600028, [],
    [⟨0, 5, .ro, 0, .any⟩,
     ⟨63, 1, .wo, 0, .any⟩]⟩,
  -- SOL_ACT_STAT (Table SOL-9): RESULT, BANK
  ⟨0x600030, [],
    [⟨0, 3, .ro, 0, .any⟩,
     ⟨3, 2, .ro, 0, .any⟩]⟩,
  -- SOL_REQ (Table SOL-9): WORD
  ⟨0x600040, [(8, 0x8)],
    [⟨0, 64, .rw, 0, .any⟩]⟩,
  -- SOL_RES[0] (Table SOL-10): TAG, CODE, VAL_CODE, BANK, BASE, BASE_MOVED, GEN
  ⟨0x600080, [],
    [⟨0, 16, .ro, 0, .any⟩,
     ⟨16, 4, .ro, 0, .any⟩,
     ⟨20, 4, .ro, 0, .any⟩,
     ⟨24, 2, .ro, 0, .any⟩,
     ⟨26, 2, .ro, 0, .any⟩,
     ⟨28, 1, .ro, 0, .any⟩,
     ⟨32, 16, .ro, 0, .any⟩]⟩,
  -- SOL_RES[1] (Table SOL-10): INDEX, PHASE, OFS
  ⟨0x600088, [],
    [⟨0, 18, .ro, 0, .any⟩,
     ⟨18, 12, .ro, 0, .any⟩,
     ⟨32, 30, .ro, 0, .any⟩]⟩,
  -- SOL_JOB_OK_CNT (Table SOL-9): CNT
  ⟨0x600100, [],
    [⟨0, 64, .rc, 0, .any⟩]⟩,
  -- SOL_REFUSE_CNT (Table SOL-9): CNT
  ⟨0x600108, [],
    [⟨0, 64, .rc, 0, .any⟩]⟩,
  -- SOL_FOREIGN_CNT (Table SOL-9): CNT
  ⟨0x600110, [],
    [⟨0, 64, .rc, 0, .any⟩]⟩,
  -- SOL_ABORT_CNT (Table SOL-9): CNT
  ⟨0x600118, [],
    [⟨0, 64, .rc, 0, .any⟩]⟩]

/-- Field tables of the SDS_ block. -/
def sdsRegs : List RegDesc := [
  -- SDS_MODE (Table MAC-8): MODE, RETRAIN
  ⟨0x1000000, [(36, 0x10000)],
    [⟨0, 3, .rw, 0, .within 0 6⟩,
     ⟨63, 1, .wo, 0, .any⟩]⟩,
  -- SDS_POL (Table MAC-8): TX_INV, RX_INV
  ⟨0x1000008, [(36, 0x10000)],
    [⟨0, 4, .rw, 0, .any⟩,
     ⟨4, 4, .rw, 0, .any⟩]⟩,
  -- SDS_LANE_STAT (Table MAC-8): SIG0, CDR_LOCK0, ADAPT_DONE0, SAT0, SIG1, CDR_LOCK1, ADAPT_DONE1, SAT1, SIG2, CDR_LOCK2, ADAPT_DONE2, SAT2, SIG3, CDR_LOCK3, ADAPT_DONE3, SAT3
  ⟨0x1000010, [(36, 0x10000)],
    [⟨0, 1, .ro, 0, .any⟩,
     ⟨1, 1, .ro, 0, .any⟩,
     ⟨2, 1, .ro, 0, .any⟩,
     ⟨3, 1, .ro, 0, .any⟩,
     ⟨4, 1, .ro, 0, .any⟩,
     ⟨5, 1, .ro, 0, .any⟩,
     ⟨6, 1, .ro, 0, .any⟩,
     ⟨7, 1, .ro, 0, .any⟩,
     ⟨8, 1, .ro, 0, .any⟩,
     ⟨9, 1, .ro, 0, .any⟩,
     ⟨10, 1, .ro, 0, .any⟩,
     ⟨11, 1, .ro, 0, .any⟩,
     ⟨12, 1, .ro, 0, .any⟩,
     ⟨13, 1, .ro, 0, .any⟩,
     ⟨14, 1, .ro, 0, .any⟩,
     ⟨15, 1, .ro, 0, .any⟩]⟩,
  -- SDS_EQ_FUSE (Table MAC-8): TX_PRE, TX_MAIN, TX_POST, RX_CTLE
  ⟨0x1000100, [(36, 0x10000), (4, 0x10)],
    [⟨0, 8, .ro, 0, .any⟩,
     ⟨8, 8, .ro, 0, .any⟩,
     ⟨16, 8, .ro, 0, .any⟩,
     ⟨24, 8, .ro, 0, .any⟩]⟩,
  -- SDS_EQ_SHIM (Table MAC-8): TX_PRE, TX_MAIN, TX_POST, RX_CTLE, CLAMPED
  ⟨0x1000108, [(36, 0x10000), (4, 0x10)],
    [⟨0, 8, .rw, 0, .clampS (-8) 8⟩,
     ⟨8, 8, .rw, 0, .clampS (-16) 16⟩,
     ⟨16, 8, .rw, 0, .clampS (-16) 16⟩,
     ⟨24, 8, .rw, 0, .clampS (-4) 4⟩,
     ⟨32, 4, .ro, 0, .any⟩]⟩]

/-- Field tables of the PCS_ block. -/
def pcsRegs : List RegDesc := [
  -- PCS_CFG (Table MAC-8): FEC, AN_EN, LINK_UP_MS, LINK_DN_US
  ⟨0x1400000, [(36, 0x10000)],
    [⟨0, 2, .rw, 0, .any⟩,
     ⟨2, 1, .rw, 1, .any⟩,
     ⟨16, 16, .rw, 100, .any⟩,
     ⟨32, 16, .rw, 10, .any⟩]⟩,
  -- PCS_STAT (Table MAC-8): LINK, LOCK, ALIGN, AN_DONE, SPEED, HI_BER, LOC_FAULT, REM_FAULT, AN_FAIL, LINK_CHG, RATE_CHG, CFG_ERR, REF
  ⟨0x1400008, [(36, 0x10000)],
    [⟨0, 1, .ro, 0, .any⟩,
     ⟨1, 1, .ro, 0, .any⟩,
     ⟨2, 1, .ro, 0, .any⟩,
     ⟨3, 1, .ro, 0, .any⟩,
     ⟨4, 3, .ro, 0, .any⟩,
     ⟨7, 1, .ro, 0, .any⟩,
     ⟨8, 1, .ro, 0, .any⟩,
     ⟨9, 1, .ro, 0, .any⟩,
     ⟨10, 1, .ro, 0, .any⟩,
     ⟨11, 1, .w1c, 0, .any⟩,
     ⟨12, 1, .w1c, 0, .any⟩,
     ⟨13, 1, .w1c, 0, .any⟩,
     ⟨14, 1, .w1c, 0, .any⟩]⟩,
  -- PCS_LINK_DOWN_CNT (Table MAC-11): CNT
  ⟨0x1400100, [(36, 0x10000)],
    [⟨0, 64, .rc, 0, .any⟩]⟩,
  -- PCS_BLK_ERR_CNT (Table MAC-11): CNT
  ⟨0x1400108, [(36, 0x10000)],
    [⟨0, 64, .rc, 0, .any⟩]⟩,
  -- PCS_HIBER_CNT (Table MAC-11): CNT
  ⟨0x1400110, [(36, 0x10000)],
    [⟨0, 64, .rc, 0, .any⟩]⟩,
  -- PCS_FEC_CORR_CNT (Table MAC-11): CNT
  ⟨0x1400118, [(36, 0x10000)],
    [⟨0, 64, .rc, 0, .any⟩]⟩,
  -- PCS_FEC_UNCORR_CNT (Table MAC-11): CNT
  ⟨0x1400120, [(36, 0x10000)],
    [⟨0, 64, .rc, 0, .any⟩]⟩,
  -- PCS_FEC_SYM_CNT (Table MAC-11): CNT
  ⟨0x1400128, [(36, 0x10000)],
    [⟨0, 64, .rc, 0, .any⟩]⟩]

/-- Field tables of the MAC_ block, part 1. -/
def mac0Regs : List RegDesc := [
  -- MAC_CFG (Table MAC-9): TX_EN, RX_EN, FILT_MODE, BC_ACC, MC_ALL, MAX_LEN
  ⟨0x1800000, [(36, 0x10000)],
    [⟨0, 1, .rw, 0, .any⟩,
     ⟨1, 1, .rw, 0, .any⟩,
     ⟨2, 1, .rw, 0, .any⟩,
     ⟨3, 1, .rw, 1, .any⟩,
     ⟨4, 1, .rw, 0, .any⟩,
     ⟨16, 14, .rw, 1518, .within 1518 9216⟩]⟩,
  -- MAC_STAT (Table MAC-9): PAUSED, TX_LPI, RX_LPI, XOFF, CFG_ERR
  ⟨0x1800008, [(36, 0x10000)],
    [⟨0, 1, .ro, 0, .any⟩,
     ⟨1, 1, .ro, 0, .any⟩,
     ⟨2, 1, .ro, 0, .any⟩,
     ⟨3, 1, .ro, 0, .any⟩,
     ⟨4, 1, .w1c, 0, .any⟩]⟩,
  -- MAC_VLAN_CFG (Table MAC-9): PVID, DEF_PCP, SVLAN, ACCEPT, EG_UNTAG
  ⟨0x1800010, [(36, 0x10000)],
    [⟨0, 12, .rw, 1, .within 1 4094⟩,
     ⟨12, 3, .rw, 0, .any⟩,
     ⟨16, 1, .rw, 0, .any⟩,
     ⟨17, 2, .rw, 0, .within 0 2⟩,
     ⟨19, 1, .rw, 0, .any⟩]⟩,
  -- MAC_PAUSE_CFG (Table MAC-9): RX_EN, RX_ON_SCHED, EXP, TX_EN, TX_QUANTA
  ⟨0x1800018, [(36, 0x10000)],
    [⟨0, 1, .rw, 1, .any⟩,
     ⟨1, 1, .rw, 0, .any⟩,
     ⟨2, 1, .rw, 0, .any⟩,
     ⟨3, 1, .rw, 0, .any⟩,
     ⟨16, 16, .rw, 65535, .within 1 65535⟩]⟩,
  -- MAC_EEE_CFG (Table MAC-9): EN, CLAMPED, TW_NS, IDLE_US
  ⟨0x1800020, [(36, 0x10000)],
    [⟨0, 1, .rw, 0, .any⟩,
     ⟨1, 1, .ro, 0, .any⟩,
     ⟨16, 16, .rw, 0, .any⟩,
     ⟨32, 16, .rw, 10, .any⟩]⟩,
  -- MAC_RX_BUF (Table MAC-9): LIMIT_KIB, XOFF_KIB, XON_KIB
  ⟨0x1800028, [(36, 0x10000)],
    [⟨0, 16, .rw, 1024, .within 16 16384⟩,
     ⟨16, 16, .rw, 768, .any⟩,
     ⟨32, 16, .rw, 512, .any⟩]⟩,
  -- MAC_UC_ADDR (Table MAC-9): ADDR, VALID
  ⟨0x1800040, [(36, 0x10000), (8, 0x8)],
    [⟨0, 48, .rw, 0, .any⟩,
     ⟨63, 1, .rw, 0, .any⟩]⟩,
  -- MAC_MC_ADDR (Table MAC-9): ADDR, VALID
  ⟨0x1800080, [(36, 0x10000), (8, 0x8)],
    [⟨0, 48, .rw, 0, .any⟩,
     ⟨63, 1, .rw, 0, .any⟩]⟩,
  -- MAC_RX_OK_CNT (Table MAC-11): CNT
  ⟨0x1800100, [(36, 0x10000)],
    [⟨0, 64, .rc, 0, .any⟩]⟩,
  -- MAC_RX_OCT_CNT (Table MAC-11): CNT
  ⟨0x1800108, [(36, 0x10000)],
    [⟨0, 64, .rc, 0, .any⟩]⟩,
  -- MAC_RX_UC_CNT (Table MAC-11): CNT
  ⟨0x1800110, [(36, 0x10000)],
    [⟨0, 64, .rc, 0, .any⟩]⟩,
  -- MAC_RX_MC_CNT (Table MAC-11): CNT
  ⟨0x1800118, [(36, 0x10000)],
    [⟨0, 64, .rc, 0, .any⟩]⟩,
  -- MAC_RX_BC_CNT (Table MAC-11): CNT
  ⟨0x1800120, [(36, 0x10000)],
    [⟨0, 64, .rc, 0, .any⟩]⟩,
  -- MAC_RX_PAUSE_CNT (Table MAC-11): CNT
  ⟨0x1800128, [(36, 0x10000)],
    [⟨0, 64, .rc, 0, .any⟩]⟩,
  -- MAC_RX_MACCTL_CNT (Table MAC-11): CNT
  ⟨0x1800130, [(36, 0x10000)],
    [⟨0, 64, .rc, 0, .any⟩]⟩,
  -- MAC_RX_FCS_CNT (Table MAC-11): CNT
  ⟨0x1800138, [(36, 0x10000)],
    [⟨0, 64, .rc, 0, .any⟩]⟩,
  -- MAC_RX_CODE_CNT (Table MAC-11): CNT
  ⟨0x1800140, [(36, 0x10000)],
    [⟨0, 64, .rc, 0, .any⟩]⟩,
  -- MAC_RX_RUNT_CNT (Table MAC-11): CNT
  ⟨0x1800148, [(36, 0x10000)],
    [⟨0, 64, .rc, 0, .any⟩]⟩,
  -- MAC_RX_FRAG_CNT (Table MAC-11): CNT
  ⟨0x1800150, [(36, 0x10000)],
    [⟨0, 64, .rc, 0, .any⟩]⟩,
  -- MAC_RX_OVERSIZE_CNT (Table MAC-11): CNT
  ⟨0x1800158, [(36, 0x10000)],
    [⟨0, 64, .rc, 0, .any⟩]⟩,
  -- MAC_RX_JABBER_CNT (Table MAC-11): CNT
  ⟨0x1800160, [(36, 0x10000)],
    [⟨0, 64, .rc, 0, .any⟩]⟩,
  -- MAC_RX_ACCEPT_CNT (Table MAC-11): CNT
  ⟨0x1800168, [(36, 0x10000)],
    [⟨0, 64, .rc, 0, .any⟩]⟩,
  -- MAC_RX_FILT_CNT (Table MAC-11): CNT
  ⟨0x1800170, [(36, 0x10000)],
    [⟨0, 64, .rc, 0, .any⟩]⟩,
  -- MAC_RX_OVF_CNT (Table MAC-11): CNT
  ⟨0x1800178, [(36, 0x10000)],
    [⟨0, 64, .rc, 0, .any⟩]⟩]

/-- Field tables of the MAC_ block, part 2. -/
def mac1Regs : List RegDesc := [
  -- MAC_RX_LPI_CNT (Table MAC-11): CNT
  ⟨0x1800180, [(36, 0x10000)],
    [⟨0, 64, .rc, 0, .any⟩]⟩,
  -- MAC_RX_RESGRP_CNT (Table MAC-11): CNT
  ⟨0x1800188, [(36, 0x10000)],
    [⟨0, 64, .rc, 0, .any⟩]⟩,
  -- MAC_RX_BIN_CNT (Table MAC-11): CNT
  ⟨0x1800200, [(36, 0x10000), (7, 0x8)],
    [⟨0, 64, .rc, 0, .any⟩]⟩,
  -- MAC_TX_OK_CNT (Table MAC-11): CNT
  ⟨0x1800280, [(36, 0x10000)],
    [⟨0, 64, .rc, 0, .any⟩]⟩,
  -- MAC_TX_OCT_CNT (Table MAC-11): CNT
  ⟨0x1800288, [(36, 0x10000)],
    [⟨0, 64, .rc, 0, .any⟩]⟩,
  -- MAC_TX_UC_CNT (Table MAC-11): CNT
  ⟨0x1800290, [(36, 0x10000)],
    [⟨0, 64, .rc, 0, .any⟩]⟩,
  -- MAC_TX_MC_CNT (Table MAC-11): CNT
  ⟨0x1800298, [(36, 0x10000)],
    [⟨0, 64, .rc, 0, .any⟩]⟩,
  -- MAC_TX_BC_CNT (Table MAC-11): CNT
  ⟨0x18002a0, [(36, 0x10000)],
    [⟨0, 64, .rc, 0, .any⟩]⟩,
  -- MAC_TX_PAUSE_CNT (Table MAC-11): CNT
  ⟨0x18002a8, [(36, 0x10000)],
    [⟨0, 64, .rc, 0, .any⟩]⟩,
  -- MAC_TX_LEN_DROP_CNT (Table MAC-11): CNT
  ⟨0x18002b0, [(36, 0x10000)],
    [⟨0, 64, .rc, 0, .any⟩]⟩,
  -- MAC_TX_PAD_CNT (Table MAC-11): CNT
  ⟨0x18002b8, [(36, 0x10000)],
    [⟨0, 64, .rc, 0, .any⟩]⟩,
  -- MAC_TX_LPI_CNT (Table MAC-11): CNT
  ⟨0x18002c0, [(36, 0x10000)],
    [⟨0, 64, .rc, 0, .any⟩]⟩,
  -- MAC_TX_LPI_US_CNT (Table MAC-11): CNT
  ⟨0x18002c8, [(36, 0x10000)],
    [⟨0, 64, .rc, 0, .any⟩]⟩,
  -- MAC_TX_BIN_CNT (Table MAC-11): CNT
  ⟨0x1800300, [(36, 0x10000), (7, 0x8)],
    [⟨0, 64, .rc, 0, .any⟩]⟩,
  -- MAC_MDIO_CFG (Table MAC-10): DIV, PRE_SUP
  ⟨0x1c00000, [(4, 0x20)],
    [⟨0, 8, .rw, 99, .within 19 255⟩,
     ⟨8, 1, .rw, 0, .any⟩]⟩,
  -- MAC_MDIO_CMD (Table MAC-10): DATA, REG, PHY, OP, C45, GO
  ⟨0x1c00008, [(4, 0x20)],
    [⟨0, 16, .rw, 0, .any⟩,
     ⟨16, 5, .rw, 0, .any⟩,
     ⟨21, 5, .rw, 0, .any⟩,
     ⟨26, 2, .rw, 0, .any⟩,
     ⟨28, 1, .rw, 0, .any⟩,
     ⟨63, 1, .wo, 0, .any⟩]⟩,
  -- MAC_MDIO_STAT (Table MAC-10): RDATA, BUSY, DONE, NOACK, OVR, CFG_ERR
  ⟨0x1c00010, [(4, 0x20)],
    [⟨0, 16, .ro, 0, .any⟩,
     ⟨16, 1, .ro, 0, .any⟩,
     ⟨17, 1, .w1c, 0, .any⟩,
     ⟨18, 1, .w1c, 0, .any⟩,
     ⟨19, 1, .w1c, 0, .any⟩,
     ⟨20, 1, .w1c, 0, .any⟩]⟩,
  -- MAC_SMB_CFG (Table MAC-10): FAST, PEC
  ⟨0x1c00100, [(2, 0x40)],
    [⟨0, 1, .rw, 0, .any⟩,
     ⟨1, 1, .rw, 0, .any⟩]⟩,
  -- MAC_SMB_CMD (Table MAC-10): ADDR, OFFSET, LEN, OP, GO
  ⟨0x1c00108, [(2, 0x40)],
    [⟨0, 7, .rw, 0, .any⟩,
     ⟨8, 8, .rw, 0, .any⟩,
     ⟨16, 6, .rw, 1, .within 1 32⟩,
     ⟨22, 2, .rw, 0, .within 0 2⟩,
     ⟨63, 1, .wo, 0, .any⟩]⟩,
  -- MAC_SMB_STAT (Table MAC-10): BUSY, DONE, NACK, TIMEOUT, ARB_LOST, PEC_ERR, OVR, CFG_ERR, COUNT
  ⟨0x1c00110, [(2, 0x40)],
    [⟨0, 1, .ro, 0, .any⟩,
     ⟨1, 1, .w1c, 0, .any⟩,
     ⟨2, 1, .w1c, 0, .any⟩,
     ⟨3, 1, .w1c, 0, .any⟩,
     ⟨4, 1, .w1c, 0, .any⟩,
     ⟨5, 1, .w1c, 0, .any⟩,
     ⟨6, 1, .w1c, 0, .any⟩,
     ⟨7, 1, .w1c, 0, .any⟩,
     ⟨8, 6, .ro, 0, .any⟩]⟩,
  -- MAC_SMB_DATA (Table MAC-10): DATA
  ⟨0x1c00120, [(2, 0x40), (4, 0x8)],
    [⟨0, 64, .rw, 0, .any⟩]⟩]

/-- Field tables of the MAC_ block. -/
def macRegs : List RegDesc := mac0Regs ++ mac1Regs

/-- Field tables of the FWD_ block, part 1. -/
def fwd0Regs : List RegDesc := [
  -- FWD_CFG (Table FWD-11): ROUTE_EN, NOROUTE_HOST, RECON, FAB_DEPTH, RING_FLOOD_EN, RING_FLOOD_PORT
  ⟨0x2000000, [],
    [⟨0, 1, .rw, 0, .any⟩,
     ⟨1, 1, .rw, 0, .any⟩,
     ⟨2, 2, .rw, 0, .within 0 2⟩,
     ⟨4, 4, .rw, 2, .within 1 15⟩,
     ⟨8, 1, .rw, 1, .any⟩,
     ⟨9, 6, .rw, 33, .within 32 35⟩]⟩,
  -- FWD_STAT (Table FWD-11): MAIN_OUT, CFG_ERR, XS_OVF, CLR_REF
  ⟨0x2000008, [(4, 0x100000)],
    [⟨0, 1, .ro, 0, .any⟩,
     ⟨1, 1, .w1c, 0, .any⟩,
     ⟨2, 1, .w1c, 0, .any⟩,
     ⟨3, 1, .w1c, 0, .any⟩]⟩,
  -- FWD_AGE_CFG (Table FWD-11): SWEEP_MS, TICK_MS, AGE_TICKS, SCAN_MS
  ⟨0x2000010, [],
    [⟨0, 16, .rw, 10000, .within 1 65535⟩,
     ⟨16, 16, .rw, 1000, .within 1 65535⟩,
     ⟨32, 15, .rw, 300, .within 1 32767⟩,
     ⟨48, 16, .rw, 10000, .within 1000 65535⟩]⟩,
  -- FWD_MOVE_CFG (Table FWD-11): HOLD_MS
  ⟨0x2000018, [],
    [⟨0, 16, .rw, 5000, .within 1 65535⟩]⟩,
  -- FWD_CLR (Table FWD-11): DYN, STAT, DGEN, SGEN, DYN_READY, STAT_READY
  ⟨0x2000020, [],
    [⟨0, 1, .wo, 0, .any⟩,
     ⟨1, 1, .wo, 0, .any⟩,
     ⟨8, 4, .ro, 0, .any⟩,
     ⟨12, 4, .ro, 0, .any⟩,
     ⟨16, 1, .ro, 1, .any⟩,
     ⟨17, 1, .ro, 1, .any⟩]⟩,
  -- FWD_RMAC (Table FWD-11): ADDR, VALID
  ⟨0x2000028, [],
    [⟨0, 48, .rw, 0, .any⟩,
     ⟨63, 1, .rw, 0, .any⟩]⟩,
  -- FWD_TBL_CMD (Table FWD-11): OP, GO
  ⟨0x2000040, [],
    [⟨0, 3, .rw, 0, .within 1 4⟩,
     ⟨63, 1, .wo, 0, .any⟩]⟩,
  -- FWD_TBL_KEY (Table FWD-11): MAC, VID
  ⟨0x2000048, [],
    [⟨0, 48, .rw, 0, .any⟩,
     ⟨48, 12, .rw, 0, .any⟩]⟩,
  -- FWD_TBL_DATA (Table FWD-11): WORD1
  ⟨0x2000050, [],
    [⟨0, 64, .rw, 0, .any⟩]⟩,
  -- FWD_TBL_STAT (Table FWD-11): BUSY, DONE, OVR, RESULT, OWNER, STATIC
  ⟨0x2000058, [],
    [⟨0, 1, .ro, 0, .any⟩,
     ⟨1, 1, .w1c, 0, .any⟩,
     ⟨2, 1, .w1c, 0, .any⟩,
     ⟨4, 3, .ro, 0, .any⟩,
     ⟨8, 2, .ro, 0, .any⟩,
     ⟨10, 1, .ro, 0, .any⟩]⟩,
  -- FWD_TSQ_CTL (Table FWD-12): EN, REPAIR, RATE, REGIONS
  ⟨0x2000080, [],
    [⟨0, 1, .rw, 0, .any⟩,
     ⟨1, 1, .rw, 0, .any⟩,
     ⟨8, 8, .rw, 16, .within 1 255⟩,
     ⟨16, 8, .rw, 0, .any⟩]⟩,
  -- FWD_TSQ_STAT (Table FWD-12): RUN, PAUSED, ERR, CFG_ERR, REGION, PASSES
  ⟨0x2000088, [],
    [⟨0, 1, .ro, 0, .any⟩,
     ⟨1, 1, .ro, 0, .any⟩,
     ⟨2, 1, .w1c, 0, .any⟩,
     ⟨3, 1, .w1c, 0, .any⟩,
     ⟨4, 3, .ro, 0, .any⟩,
     ⟨16, 32, .ro, 0, .any⟩]⟩,
  -- FWD_TSQ_MISS (Table FWD-12): OFFSET, REGION, REPAIRED, VALID
  ⟨0x2000090, [],
    [⟨0, 30, .ro, 0, .any⟩,
     ⟨30, 3, .ro, 0, .any⟩,
     ⟨33, 1, .ro, 0, .any⟩,
     ⟨63, 1, .w1c, 0, .any⟩]⟩,
  -- FWD_TSQ_ADDR (Table FWD-12): BAR4_OFS, LEN, MODE
  ⟨0x2000100, [(8, 0x20)],
    [⟨0, 30, .rw, 0, .any⟩,
     ⟨32, 27, .rw, 0, .within 1 67108864⟩,
     ⟨59, 2, .rw, 0, .within 0 1⟩]⟩,
  -- FWD_TSQ_HOST (Table FWD-12): ADDR
  ⟨0x2000108, [(8, 0x20)],
    [⟨0, 64, .rw, 0, .any⟩]⟩,
  -- FWD_TSQ_MASK (Table FWD-12): MASK
  ⟨0x2000110, [(8, 0x20)],
    [⟨0, 64, .rw, 18446744073709551615, .any⟩]⟩,
  -- FWD_TSQ_WMASK (Table FWD-12): WMASK
  ⟨0x2000118, [(8, 0x20)],
    [⟨0, 8, .rw, 255, .any⟩]⟩,
  -- FWD_PORT_CFG (Table FWD-11): LEARN, ING_FILT, HOST_QP, HOST_EN, DEF_VID
  ⟨0x2001000, [(36, 0x8)],
    [⟨0, 1, .rw, 1, .any⟩,
     ⟨1, 1, .rw, 1, .any⟩,
     ⟨2, 16, .rw, 0, .any⟩,
     ⟨18, 1, .rw, 0, .any⟩,
     ⟨19, 12, .rw, 1, .any⟩]⟩,
  -- FWD_LEARN_CNT (Table FWD-13): CNT
  ⟨0x2002000, [(4, 0x100000)],
    [⟨0, 64, .rc, 0, .any⟩]⟩,
  -- FWD_LEARN_DROP_CNT (Table FWD-13): CNT
  ⟨0x2002008, [(4, 0x100000)],
    [⟨0, 64, .rc, 0, .any⟩]⟩,
  -- FWD_MOVE_CNT (Table FWD-13): CNT
  ⟨0x2002010, [(4, 0x100000)],
    [⟨0, 64, .rc, 0, .any⟩]⟩,
  -- FWD_MOVE_REF_CNT (Table FWD-13): CNT
  ⟨0x2002018, [(4, 0x100000)],
    [⟨0, 64, .rc, 0, .any⟩]⟩,
  -- FWD_PIN_CNT (Table FWD-13): CNT
  ⟨0x2002020, [(4, 0x100000)],
    [⟨0, 64, .rc, 0, .any⟩]⟩,
  -- FWD_CACHE_AGE_CNT (Table FWD-13): CNT
  ⟨0x2002028, [(4, 0x100000)],
    [⟨0, 64, .rc, 0, .any⟩]⟩]

/-- Field tables of the FWD_ block, part 2. -/
def fwd1Regs : List RegDesc := [
  -- FWD_CACHE_EVICT_CNT (Table FWD-13): CNT
  ⟨0x2002030, [(4, 0x100000)],
    [⟨0, 64, .rc, 0, .any⟩]⟩,
  -- FWD_MAIN_AGE_CNT (Table FWD-13): CNT
  ⟨0x2002038, [(4, 0x100000)],
    [⟨0, 64, .rc, 0, .any⟩]⟩,
  -- FWD_MAIN_FULL_CNT (Table FWD-13): CNT
  ⟨0x2002040, [(4, 0x100000)],
    [⟨0, 64, .rc, 0, .any⟩]⟩,
  -- FWD_XS_CNT (Table FWD-13): CNT
  ⟨0x2002048, [(4, 0x100000)],
    [⟨0, 64, .rc, 0, .any⟩]⟩,
  -- FWD_XS_LOST_CNT (Table FWD-13): CNT
  ⟨0x2002050, [(4, 0x100000)],
    [⟨0, 64, .rc, 0, .any⟩]⟩,
  -- FWD_FLOOD_CNT (Table FWD-13): CNT
  ⟨0x2002058, [(4, 0x100000)],
    [⟨0, 64, .rc, 0, .any⟩]⟩,
  -- FWD_VLAN_DROP_CNT (Table FWD-13): CNT
  ⟨0x2002060, [(4, 0x100000)],
    [⟨0, 64, .rc, 0, .any⟩]⟩,
  -- FWD_NO_DEST_CNT (Table FWD-13): CNT
  ⟨0x2002068, [(4, 0x100000)],
    [⟨0, 64, .rc, 0, .any⟩]⟩,
  -- FWD_ROUTE_CNT (Table FWD-13): CNT
  ⟨0x2002070, [(4, 0x100000)],
    [⟨0, 64, .rc, 0, .any⟩]⟩,
  -- FWD_ROUTE_EXC_CNT (Table FWD-13): CNT
  ⟨0x2002078, [(4, 0x100000)],
    [⟨0, 64, .rc, 0, .any⟩]⟩,
  -- FWD_FAB_DROP_CNT (Table FWD-13): CNT
  ⟨0x2002080, [(4, 0x100000)],
    [⟨0, 64, .rc, 0, .any⟩]⟩,
  -- FWD_HBM_SKIP_CNT (Table FWD-13): CNT
  ⟨0x2002088, [(4, 0x100000)],
    [⟨0, 64, .rc, 0, .any⟩]⟩,
  -- FWD_ECC_CORR_CNT (Table FWD-13): CNT
  ⟨0x2002090, [(4, 0x100000)],
    [⟨0, 64, .rc, 0, .any⟩]⟩,
  -- FWD_ECC_UNCORR_CNT (Table FWD-13): CNT
  ⟨0x2002098, [(4, 0x100000)],
    [⟨0, 64, .rc, 0, .any⟩]⟩,
  -- FWD_HOST_CNT (Table FWD-13): CNT
  ⟨0x20020a0, [(4, 0x100000)],
    [⟨0, 64, .rc, 0, .any⟩]⟩,
  -- FWD_TSQ_MISM_CNT (Table FWD-13): CNT
  ⟨0x20020b0, [(4, 0x100000)],
    [⟨0, 64, .rc, 0, .any⟩]⟩,
  -- FWD_TSQ_REPAIR_CNT (Table FWD-13): CNT
  ⟨0x20020b8, [(4, 0x100000)],
    [⟨0, 64, .rc, 0, .any⟩]⟩,
  -- FWD_VLAN (Table FWD-11): MEMBERS, LEARN_EN, FLOOD_UC, FLOOD_MC, HOST_COPY, VALID
  ⟨0x2080000, [(4096, 0x8)],
    [⟨0, 36, .rw, 0, .any⟩,
     ⟨36, 1, .rw, 1, .any⟩,
     ⟨37, 1, .rw, 1, .any⟩,
     ⟨38, 1, .rw, 1, .any⟩,
     ⟨39, 1, .rw, 0, .any⟩,
     ⟨63, 1, .rw, 0, .any⟩]⟩,
  -- FWD_MCG (Table FWD-11): PORTS, HOST
  ⟨0x2088000, [(4096, 0x8)],
    [⟨0, 36, .rw, 0, .any⟩,
     ⟨36, 1, .rw, 0, .any⟩]⟩]

/-- Field tables of the FWD_ block. -/
def fwdRegs : List RegDesc := fwd0Regs ++ fwd1Regs

/-- Field tables of the HQ_ block. -/
def hqRegs : List RegDesc := [
  -- HQ_AQ_SQ_BASE (Table HQS-13): ADDR
  ⟨0x3010000, [(4, 0x100)],
    [⟨12, 52, .rw, 0, .any⟩]⟩,
  -- HQ_AQ_CQ_BASE (Table HQS-13): ADDR
  ⟨0x3010008, [(4, 0x100)],
    [⟨12, 52, .rw, 0, .any⟩]⟩,
  -- HQ_AQ_CFG (Table HQS-13): EN, IEN, SQ_LOG, CQ_LOG, PASID_EN, PASID
  ⟨0x3010010, [(4, 0x100)],
    [⟨0, 1, .rw, 0, .any⟩,
     ⟨1, 1, .rw, 1, .any⟩,
     ⟨4, 4, .rw, 4, .within 4 12⟩,
     ⟨8, 4, .rw, 4, .within 4 12⟩,
     ⟨12, 1, .rw, 0, .any⟩,
     ⟨32, 20, .rw, 0, .any⟩]⟩,
  -- HQ_AQ_STAT (Table HQS-13): READY, CFG_ERR, DB_ERR, XLATE, SQ_HEAD, CQ_TAIL
  ⟨0x3010018, [(4, 0x100)],
    [⟨0, 1, .ro, 0, .any⟩,
     ⟨1, 1, .w1c, 0, .any⟩,
     ⟨2, 1, .w1c, 0, .any⟩,
     ⟨3, 1, .w1c, 0, .any⟩,
     ⟨16, 16, .ro, 0, .any⟩,
     ⟨32, 16, .ro, 0, .any⟩]⟩,
  -- HQ_AQ_DB (Table HQS-13): SQ_TAIL, CQ_HEAD
  ⟨0x3010020, [(4, 0x100)],
    [⟨0, 32, .wo, 0, .any⟩,
     ⟨32, 32, .wo, 0, .any⟩]⟩,
  -- HQ_CFG (Table HQS-14): CT_EN, CT_THR, L1_GUARD_US
  ⟨0x3011000, [],
    [⟨0, 1, .rw, 1, .any⟩,
     ⟨16, 14, .rw, 2048, .within 256 9224⟩,
     ⟨32, 16, .rw, 50, .any⟩]⟩,
  -- HQ_STAT (Table HQS-14): CFG_ERR, TRK_FULL
  ⟨0x3011008, [],
    [⟨0, 1, .w1c, 0, .any⟩,
     ⟨1, 1, .ro, 0, .any⟩]⟩,
  -- HQ_QCNT_SEL (Table HQS-14): QP, CLEAR, GO
  ⟨0x3011010, [],
    [⟨0, 16, .rw, 0, .any⟩,
     ⟨32, 1, .rw, 1, .any⟩,
     ⟨63, 1, .wo, 0, .any⟩]⟩,
  -- HQ_QCNT_STAT (Table HQS-14): BUSY, DONE, FAIL, OVR
  ⟨0x3011018, [],
    [⟨0, 1, .ro, 0, .any⟩,
     ⟨1, 1, .w1c, 0, .any⟩,
     ⟨2, 1, .w1c, 0, .any⟩,
     ⟨3, 1, .w1c, 0, .any⟩]⟩,
  -- HQ_QCNT_DATA (Table HQS-14): CNT
  ⟨0x3011040, [(7, 0x8)],
    [⟨0, 64, .ro, 0, .any⟩]⟩,
  -- HQ_ENTRY_CNT (Table HQS-15): CNT
  ⟨0x3011100, [],
    [⟨0, 64, .rc, 0, .any⟩]⟩,
  -- HQ_CQE_CNT (Table HQS-15): CNT
  ⟨0x3011108, [],
    [⟨0, 64, .rc, 0, .any⟩]⟩,
  -- HQ_DB_ERR_CNT (Table HQS-15): CNT
  ⟨0x3011110, [],
    [⟨0, 64, .rc, 0, .any⟩]⟩,
  -- HQ_PHASE_ERR_CNT (Table HQS-15): CNT
  ⟨0x3011118, [],
    [⟨0, 64, .rc, 0, .any⟩]⟩,
  -- HQ_OVF_CNT (Table HQS-15): CNT
  ⟨0x3011120, [],
    [⟨0, 64, .rc, 0, .any⟩]⟩,
  -- HQ_RX_DROP_CNT (Table HQS-15): CNT
  ⟨0x3011128, [],
    [⟨0, 64, .rc, 0, .any⟩]⟩,
  -- HQ_TRK_FULL_CNT (Table HQS-15): CNT
  ⟨0x3011130, [],
    [⟨0, 64, .rc, 0, .any⟩]⟩,
  -- HQ_CT_RETRY_CNT (Table HQS-15): CNT
  ⟨0x3011138, [],
    [⟨0, 64, .rc, 0, .any⟩]⟩,
  -- HQ_DATA_ERR_CNT (Table HQS-15): CNT
  ⟨0x3011140, [],
    [⟨0, 64, .rc, 0, .any⟩]⟩,
  -- HQ_XLATE_CNT (Table HQS-15): CNT
  ⟨0x3011148, [],
    [⟨0, 64, .rc, 0, .any⟩]⟩,
  -- HQ_CNT_LOST_CNT (Table HQS-15): CNT
  ⟨0x3011150, [],
    [⟨0, 64, .rc, 0, .any⟩]⟩,
  -- HQ_QSTAT (Table HQS-14): SQ_DONE, SQ_EN, CQ_EN, KIND, HELD, OVF_PEND, ERR, DB_ERR, PF, VF, CQ_TAIL
  ⟨0x3080000, [(65536, 0x8)],
    [⟨0, 16, .ro, 0, .any⟩,
     ⟨16, 1, .ro, 0, .any⟩,
     ⟨17, 1, .ro, 0, .any⟩,
     ⟨18, 2, .ro, 0, .any⟩,
     ⟨20, 1, .ro, 0, .any⟩,
     ⟨21, 1, .ro, 0, .any⟩,
     ⟨22, 1, .ro, 0, .any⟩,
     ⟨23, 1, .ro, 0, .any⟩,
     ⟨24, 2, .ro, 0, .any⟩,
     ⟨26, 8, .ro, 0, .any⟩,
     ⟨34, 16, .ro, 0, .any⟩]⟩]

/-- Field tables of the DMA_ block. -/
def dmaRegs : List RegDesc := [
  -- DMA_CR_BASE (Table DMA-12): SP, ADDR
  ⟨0x3100800, [(16, 0x20)],
    [⟨0, 1, .rw, 0, .any⟩,
     ⟨12, 52, .rw, 0, .any⟩]⟩,
  -- DMA_CR_CFG (Table DMA-12): LOG, PF, IEN, VEC, PASID_EN, EN, PASID
  ⟨0x3100808, [(16, 0x20)],
    [⟨0, 5, .rw, 4, .within 4 16⟩,
     ⟨5, 2, .rw, 0, .any⟩,
     ⟨7, 1, .rw, 0, .any⟩,
     ⟨8, 11, .rw, 0, .any⟩,
     ⟨19, 1, .rw, 0, .any⟩,
     ⟨20, 1, .rw, 0, .any⟩,
     ⟨32, 20, .rw, 0, .any⟩]⟩,
  -- DMA_CR_HEAD (Table DMA-12): HEAD
  ⟨0x3100810, [(16, 0x20)],
    [⟨0, 16, .rw, 0, .any⟩]⟩,
  -- DMA_CR_STAT (Table DMA-12): TAIL, FULL, OVF_PEND, ERR
  ⟨0x3100818, [(16, 0x20)],
    [⟨0, 16, .ro, 0, .any⟩,
     ⟨16, 1, .ro, 0, .any⟩,
     ⟨17, 1, .w1c, 0, .any⟩,
     ⟨18, 1, .ro, 0, .any⟩]⟩,
  -- DMA_SH_CHAIN (Table DMA-11): SP, ADDR
  ⟨0x3101000, [(64, 0x100)],
    [⟨0, 1, .rw, 0, .any⟩,
     ⟨6, 58, .rw, 0, .any⟩]⟩,
  -- DMA_SH_CFG (Table DMA-11): OWN_PF, PASID_EN, AUTO_HO, CQ_SEL, WEIGHT, CQ, PASID
  ⟨0x3101008, [(64, 0x100)],
    [⟨0, 2, .rw, 0, .any⟩,
     ⟨2, 1, .rw, 0, .any⟩,
     ⟨3, 1, .rw, 0, .any⟩,
     ⟨4, 1, .rw, 0, .any⟩,
     ⟨8, 4, .rw, 1, .within 1 15⟩,
     ⟨16, 16, .rw, 0, .any⟩,
     ⟨32, 20, .rw, 0, .any⟩]⟩,
  -- DMA_CH_CHAIN (Table DMA-11): SP, ADDR
  ⟨0x3101010, [(64, 0x100)],
    [⟨0, 1, .ro, 0, .any⟩,
     ⟨6, 58, .ro, 0, .any⟩]⟩,
  -- DMA_CH_CFG (Table DMA-11): OWN_PF, PASID_EN, AUTO_HO, CQ_SEL, WEIGHT, CQ, PASID
  ⟨0x3101018, [(64, 0x100)],
    [⟨0, 2, .ro, 0, .any⟩,
     ⟨2, 1, .ro, 0, .any⟩,
     ⟨3, 1, .ro, 0, .any⟩,
     ⟨4, 1, .ro, 0, .any⟩,
     ⟨8, 4, .ro, 1, .any⟩,
     ⟨16, 16, .ro, 0, .any⟩,
     ⟨32, 20, .ro, 0, .any⟩]⟩,
  -- DMA_CH_CMD (Table DMA-11): OP, GO
  ⟨0x3101020, [(64, 0x100)],
    [⟨0, 3, .rw, 0, .within 1 6⟩,
     ⟨63, 1, .wo, 0, .any⟩]⟩,
  -- DMA_CH_STAT (Table DMA-11): STATE, HO_PEND, REF, REF_CODE, TGT_LOST, DSEQ
  ⟨0x3101028, [(64, 0x100)],
    [⟨0, 3, .ro, 0, .any⟩,
     ⟨3, 1, .ro, 0, .any⟩,
     ⟨4, 1, .w1c, 0, .any⟩,
     ⟨5, 3, .ro, 0, .any⟩,
     ⟨8, 1, .w1c, 0, .any⟩,
     ⟨16, 16, .ro, 0, .any⟩]⟩,
  -- DMA_GEN (Table DMA-11): COMMITTED, TAKEN, TAKEN_VALID
  ⟨0x3101030, [(64, 0x100)],
    [⟨0, 16, .ro, 0, .any⟩,
     ⟨16, 16, .ro, 0, .any⟩,
     ⟨32, 1, .ro, 0, .any⟩]⟩,
  -- DMA_ERR_ADDR (Table DMA-11): ADDR
  ⟨0x3101038, [(64, 0x100)],
    [⟨0, 64, .ro, 0, .any⟩]⟩,
  -- DMA_ERR_INFO (Table DMA-11): DIR, SP, KIND, FINAL, DSEQ, VALID
  ⟨0x3101040, [(64, 0x100)],
    [⟨0, 1, .ro, 0, .any⟩,
     ⟨1, 1, .ro, 0, .any⟩,
     ⟨2, 3, .ro, 0, .any⟩,
     ⟨5, 1, .ro, 0, .any⟩,
     ⟨16, 16, .ro, 0, .any⟩,
     ⟨63, 1, .ro, 0, .any⟩]⟩,
  -- DMA_DESC_CNT (Table DMA-14): CNT
  ⟨0x3101080, [(64, 0x100)],
    [⟨0, 64, .rc, 0, .any⟩]⟩,
  -- DMA_BYTE_CNT (Table DMA-14): CNT
  ⟨0x3101088, [(64, 0x100)],
    [⟨0, 64, .rc, 0, .any⟩]⟩,
  -- DMA_ERR_CNT (Table DMA-14): CNT
  ⟨0x3101090, [(64, 0x100)],
    [⟨0, 64, .rc, 0, .any⟩]⟩,
  -- DMA_XWAIT_CNT (Table DMA-14): CNT
  ⟨0x3101098, [(64, 0x100)],
    [⟨0, 64, .rc, 0, .any⟩]⟩,
  -- DMA_REC_DROP_CNT (Table DMA-14): CNT
  ⟨0x31010a0, [(64, 0x100)],
    [⟨0, 64, .rc, 0, .any⟩]⟩]

/-- Field tables of the XLT_ block. -/
def xltRegs : List RegDesc := [
  -- XLT_CFG (Table DMA-13): PRG_TO_MS, FLUSH
  ⟨0x3200000, [],
    [⟨0, 16, .rw, 2000, .within 100 65535⟩,
     ⟨63, 1, .wo, 0, .any⟩]⟩,
  -- XLT_STAT (Table DMA-13): RF, CFG_ERR, FLUSH_BUSY
  ⟨0x3200008, [],
    [⟨0, 4, .ro, 0, .any⟩,
     ⟨4, 1, .w1c, 0, .any⟩,
     ⟨5, 1, .ro, 0, .any⟩]⟩,
  -- XLT_FAIL_ADDR (Table DMA-13): ADDR
  ⟨0x3200010, [],
    [⟨0, 64, .ro, 0, .any⟩]⟩,
  -- XLT_FAIL_INFO (Table DMA-13): RID, PASID, PASID_V, ENGINE, CAUSE, WRITE, VALID
  ⟨0x3200018, [],
    [⟨0, 16, .ro, 0, .any⟩,
     ⟨16, 20, .ro, 0, .any⟩,
     ⟨36, 1, .ro, 0, .any⟩,
     ⟨37, 2, .ro, 0, .any⟩,
     ⟨39, 3, .ro, 0, .any⟩,
     ⟨42, 1, .ro, 0, .any⟩,
     ⟨63, 1, .w1c, 0, .any⟩]⟩,
  -- XLT_ATS_REQ_CNT (Table DMA-14): CNT
  ⟨0x3200100, [],
    [⟨0, 64, .rc, 0, .any⟩]⟩,
  -- XLT_ATC_MISS_CNT (Table DMA-14): CNT
  ⟨0x3200108, [],
    [⟨0, 64, .rc, 0, .any⟩]⟩,
  -- XLT_PRG_CNT (Table DMA-14): CNT
  ⟨0x3200110, [],
    [⟨0, 64, .rc, 0, .any⟩]⟩,
  -- XLT_PRG_TO_CNT (Table DMA-14): CNT
  ⟨0x3200118, [],
    [⟨0, 64, .rc, 0, .any⟩]⟩,
  -- XLT_INV_CNT (Table DMA-14): CNT
  ⟨0x3200120, [],
    [⟨0, 64, .rc, 0, .any⟩]⟩,
  -- XLT_FAIL_CNT (Table DMA-14): CNT
  ⟨0x3200128, [],
    [⟨0, 64, .rc, 0, .any⟩]⟩]

/-- Field tables of the MBX_ block. -/
def mbxRegs : List RegDesc := [
  -- MBX_CFG (Table MBX-12): IEN, VEC
  ⟨0x4010000, [(16, 0x20)],
    [⟨0, 1, .rw, 0, .any⟩,
     ⟨1, 11, .rw, 0, .any⟩]⟩,
  -- MBX_DB (Table MBX-12): GO
  ⟨0x4010008, [(16, 0x20)],
    [⟨63, 1, .wo, 0, .any⟩]⟩,
  -- MBX_STAT (Table MBX-12): BUSY, DONE, OVR, WR_BUSY, OWNER, CFG_ERR, SEQ
  ⟨0x4010010, [(16, 0x20)],
    [⟨0, 1, .ro, 0, .any⟩,
     ⟨1, 1, .w1c, 0, .any⟩,
     ⟨2, 1, .w1c, 0, .any⟩,
     ⟨3, 1, .w1c, 0, .any⟩,
     ⟨4, 3, .ro, 0, .any⟩,
     ⟨7, 1, .w1c, 0, .any⟩,
     ⟨16, 16, .ro, 0, .any⟩]⟩,
  -- MBX_FW_STAT (Table MBX-13): STATE, SLOT, SVN_FUSE, WDOG_CNT, HOLD_CAUSE, VERSION
  ⟨0x4020000, [],
    [⟨0, 2, .ro, 0, .any⟩,
     ⟨2, 1, .ro, 0, .any⟩,
     ⟨3, 7, .ro, 0, .any⟩,
     ⟨16, 8, .ro, 0, .any⟩,
     ⟨24, 4, .ro, 0, .any⟩,
     ⟨32, 32, .ro, 0, .any⟩]⟩,
  -- MBX_UNLOCK (Table MBX-13): BLOCKS, TEST
  ⟨0x4020008, [],
    [⟨0, 23, .ro, 0, .any⟩,
     ⟨32, 1, .ro, 0, .any⟩]⟩,
  -- MBX_LEASE (Table MBX-13): HOLDER, REMAIN_S, FAILS, LOCKOUT
  ⟨0x4020100, [(23, 0x8)],
    [⟨0, 3, .ro, 0, .any⟩,
     ⟨16, 12, .ro, 0, .any⟩,
     ⟨28, 2, .ro, 0, .any⟩,
     ⟨30, 1, .ro, 0, .any⟩]⟩,
  -- MBX_CMD_CNT (Table MBX-13): CNT
  ⟨0x4020200, [],
    [⟨0, 64, .rc, 0, .any⟩]⟩,
  -- MBX_ERR_CNT (Table MBX-13): CNT
  ⟨0x4020208, [],
    [⟨0, 64, .rc, 0, .any⟩]⟩,
  -- MBX_OWN_ERR_CNT (Table MBX-13): CNT
  ⟨0x4020210, [],
    [⟨0, 64, .rc, 0, .any⟩]⟩,
  -- MBX_UNLOCK_FAIL_CNT (Table MBX-13): CNT
  ⟨0x4020218, [],
    [⟨0, 64, .rc, 0, .any⟩]⟩]

/-- Field tables of the BEN_ block. -/
def benRegs : List RegDesc := [
  -- BEN_GRP_STAT (Table BEN-9): STATE
  ⟨0x5000000, [(8, 0x10)],
    [⟨0, 3, .ro, 0, .any⟩]⟩,
  -- BEN_ENTRY (Table BEN-9): ADDR
  ⟨0x5000008, [(8, 0x10)],
    [⟨2, 38, .ro, 0, .any⟩]⟩,
  -- BEN_QP_CFG (Table BEN-9): FIRST, COUNT
  ⟨0x5000100, [],
    [⟨0, 16, .rw, 0, .within 0 16383⟩,
     ⟨16, 13, .rw, 0, .within 0 4096⟩]⟩,
  -- BEN_STAT (Table BEN-9): CFG_ERR
  ⟨0x5000108, [],
    [⟨0, 1, .w1c, 0, .any⟩]⟩,
  -- BEN_AQ_SQ_BASE (Table BEN-9 (fields of Table HQS-13)): ADDR
  ⟨0x5000200, [],
    [⟨12, 52, .rw, 0, .any⟩]⟩,
  -- BEN_AQ_CQ_BASE (Table BEN-9 (fields of Table HQS-13)): ADDR
  ⟨0x5000208, [],
    [⟨12, 52, .rw, 0, .any⟩]⟩,
  -- BEN_AQ_CFG (Table BEN-9): EN, IEN, SQ_LOG, CQ_LOG, HART
  ⟨0x5000210, [],
    [⟨0, 1, .rw, 0, .any⟩,
     ⟨1, 1, .rw, 1, .any⟩,
     ⟨4, 4, .rw, 4, .within 4 12⟩,
     ⟨8, 4, .rw, 4, .within 4 12⟩,
     ⟨13, 5, .rw, 0, .any⟩]⟩,
  -- BEN_AQ_STAT (Table BEN-9 (fields of Table HQS-13)): READY, CFG_ERR, DB_ERR, XLATE, SQ_HEAD, CQ_TAIL
  ⟨0x5000218, [],
    [⟨0, 1, .ro, 0, .any⟩,
     ⟨1, 1, .w1c, 0, .any⟩,
     ⟨2, 1, .w1c, 0, .any⟩,
     ⟨3, 1, .w1c, 0, .any⟩,
     ⟨16, 16, .ro, 0, .any⟩,
     ⟨32, 16, .ro, 0, .any⟩]⟩,
  -- BEN_AQ_DB (Table BEN-9 (fields of Table HQS-13)): SQ_TAIL, CQ_HEAD
  ⟨0x5000220, [],
    [⟨0, 32, .wo, 0, .any⟩,
     ⟨32, 32, .wo, 0, .any⟩]⟩,
  -- BEN_TIMECMP (Table BEN-9): CMP
  ⟨0x5001000, [(32, 0x8)],
    [⟨0, 64, .rw, 18446744073709551615, .any⟩]⟩,
  -- BEN_MSIP (Table BEN-9): MSIP
  ⟨0x5001100, [(32, 0x8)],
    [⟨0, 1, .rw, 0, .any⟩]⟩,
  -- BEN_IRQ (Table BEN-9): CQ, MBX, AQ, IE
  ⟨0x5001200, [(32, 0x8)],
    [⟨0, 1, .w1c, 0, .any⟩,
     ⟨1, 1, .w1c, 0, .any⟩,
     ⟨2, 1, .w1c, 0, .any⟩,
     ⟨16, 3, .rw, 0, .any⟩]⟩,
  -- BEN_ACC_FAULT_CNT (Table BEN-9): CNT
  ⟨0x5001800, [],
    [⟨0, 64, .rc, 0, .any⟩]⟩,
  -- BEN_ECC_CNT (Table BEN-9): CNT
  ⟨0x5001808, [],
    [⟨0, 64, .rc, 0, .any⟩]⟩]

/-- Field tables of the FLT_ block. -/
def fltRegs : List RegDesc := [
  -- FLT_CFG (Table FLT-11): PIN_MIN, IRQ_EN, IRQ_PF, IRQ_VEC
  ⟨0x6000000, [],
    [⟨0, 2, .rw, 1, .any⟩,
     ⟨8, 4, .rw, 14, .any⟩,
     ⟨16, 2, .rw, 0, .any⟩,
     ⟨18, 11, .rw, 0, .any⟩]⟩,
  -- FLT_STAT (Table FLT-11): STICKY, PIN, OVF, CFG_ERR
  ⟨0x6000008, [],
    [⟨0, 4, .w1c, 0, .any⟩,
     ⟨4, 1, .ro, 0, .any⟩,
     ⟨5, 1, .w1c, 0, .any⟩,
     ⟨6, 1, .w1c, 0, .any⟩]⟩,
  -- FLT_Q_HEAD (Table FLT-11): MSG
  ⟨0x6000010, [],
    [⟨0, 64, .ro, 0, .any⟩]⟩,
  -- FLT_Q_TIME (Table FLT-11): TIME
  ⟨0x6000018, [],
    [⟨0, 64, .ro, 0, .any⟩]⟩,
  -- FLT_Q_STAT (Table FLT-11): COUNT, POP
  ⟨0x6000020, [],
    [⟨0, 11, .ro, 0, .any⟩,
     ⟨63, 1, .wo, 0, .any⟩]⟩,
  -- FLT_FENCE_CFG (Table FLT-11): AUTO_MS, AUTO_MAX
  ⟨0x6000028, [],
    [⟨0, 16, .rw, 1000, .any⟩,
     ⟨16, 4, .rw, 3, .within 1 15⟩]⟩,
  -- FLT_FENCE_REL (Table FLT-11): ISLAND, GO
  ⟨0x6000030, [],
    [⟨0, 6, .rw, 0, .any⟩,
     ⟨63, 1, .wo, 0, .any⟩]⟩,
  -- FLT_HALT_CMD (Table FLT-11): CONFIRM, GO
  ⟨0x6000038, [],
    [⟨0, 32, .rw, 0, .any⟩,
     ⟨63, 1, .wo, 0, .any⟩]⟩,
  -- FLT_ISL_STAT (Table FLT-11): FENCED, AUTO_PEND, ATTEMPTS, LAST_KIND, FENCES
  ⟨0x6000100, [(48, 0x8)],
    [⟨0, 1, .ro, 0, .any⟩,
     ⟨1, 1, .ro, 0, .any⟩,
     ⟨2, 4, .ro, 0, .any⟩,
     ⟨8, 8, .ro, 0, .any⟩,
     ⟨16, 16, .ro, 0, .any⟩]⟩,
  -- FLT_SEV (Table FLT-11): CLASS_0, CLASS_1, CLASS_2, CLASS_3, CLASS_4, CLASS_5, CLASS_6, CLASS_7, CLASS_8, CLASS_9, CLASS_10, CLASS_11, CLASS_12, CLASS_13, CLASS_14, CLASS_15
  ⟨0x6001000, [(23, 0x80), (16, 0x8)],
    [⟨0, 4, .rw, 0, .within 0 3⟩,
     ⟨4, 4, .rw, 0, .within 0 3⟩,
     ⟨8, 4, .rw, 0, .within 0 3⟩,
     ⟨12, 4, .rw, 0, .within 0 3⟩,
     ⟨16, 4, .rw, 0, .within 0 3⟩,
     ⟨20, 4, .rw, 0, .within 0 3⟩,
     ⟨24, 4, .rw, 0, .within 0 3⟩,
     ⟨28, 4, .rw, 0, .within 0 3⟩,
     ⟨32, 4, .rw, 0, .within 0 3⟩,
     ⟨36, 4, .rw, 0, .within 0 3⟩,
     ⟨40, 4, .rw, 0, .within 0 3⟩,
     ⟨44, 4, .rw, 0, .within 0 3⟩,
     ⟨48, 4, .rw, 0, .within 0 3⟩,
     ⟨52, 4, .rw, 0, .within 0 3⟩,
     ⟨56, 4, .rw, 0, .within 0 3⟩,
     ⟨60, 4, .rw, 0, .within 0 3⟩]⟩,
  -- FLT_MSG_CNT (Table FLT-11): CNT
  ⟨0x6002000, [],
    [⟨0, 64, .rc, 0, .any⟩]⟩,
  -- FLT_LOST_CNT (Table FLT-11): CNT
  ⟨0x6002008, [],
    [⟨0, 64, .rc, 0, .any⟩]⟩,
  -- FLT_FENCE_CNT (Table FLT-11): CNT
  ⟨0x6002010, [],
    [⟨0, 64, .rc, 0, .any⟩]⟩,
  -- FLT_CLASS_CNT (Table FLT-11): CNT
  ⟨0x6002018, [(4, 0x8)],
    [⟨0, 64, .rc, 0, .any⟩]⟩,
  -- FLT_ESC_CNT (Table FLT-11): CNT
  ⟨0x6002038, [],
    [⟨0, 64, .rc, 0, .any⟩]⟩]

/-- Field tables of the JIG_ block. -/
def jigRegs : List RegDesc := [
  -- JIG_CTL (Table FLT-12): EN, ALLOW_HALT
  ⟨0x6100000, [],
    [⟨0, 1, .rw, 0, .any⟩,
     ⟨1, 1, .rw, 0, .any⟩]⟩,
  -- JIG_STAT (Table FLT-12): ACTIVE, CFG_ERR
  ⟨0x6100008, [],
    [⟨0, 1, .ro, 0, .any⟩,
     ⟨1, 1, .w1c, 0, .any⟩]⟩,
  -- JIG_INJ (Table FLT-12): MSG
  ⟨0x6100010, [],
    [⟨0, 64, .wo, 0, .any⟩]⟩,
  -- JIG_INJ_CNT (Table FLT-12): CNT
  ⟨0x6100018, [],
    [⟨0, 64, .rc, 0, .any⟩]⟩,
  -- JIG_RULE_CFG (Table FLT-12): ARM, DIR, ACTION, CMODE, TARGET, MKIND, EVERY, LIMIT
  ⟨0x6100100, [(16, 0x20)],
    [⟨0, 1, .rw, 0, .any⟩,
     ⟨1, 1, .rw, 0, .any⟩,
     ⟨2, 4, .rw, 0, .any⟩,
     ⟨6, 2, .rw, 0, .any⟩,
     ⟨8, 6, .rw, 0, .any⟩,
     ⟨14, 2, .rw, 0, .any⟩,
     ⟨16, 16, .rw, 1, .any⟩,
     ⟨32, 32, .rw, 0, .any⟩]⟩,
  -- JIG_RULE_MATCH (Table FLT-12): VALUE
  ⟨0x6100108, [(16, 0x20)],
    [⟨0, 18, .rw, 0, .any⟩]⟩,
  -- JIG_RULE_PARAM (Table FLT-12): OFFSET, K, DELAY_NS
  ⟨0x6100110, [(16, 0x20)],
    [⟨0, 14, .rw, 0, .any⟩,
     ⟨16, 4, .rw, 1, .any⟩,
     ⟨32, 32, .rw, 1000, .any⟩]⟩,
  -- JIG_HIT_CNT (Table FLT-12): CNT
  ⟨0x6100118, [(16, 0x20)],
    [⟨0, 64, .rc, 0, .any⟩]⟩]

/-- Field tables of the PWR_ block. -/
def pwrRegs : List RegDesc := [
  -- PWR_CTL (Table PWR-13): TARGET, GO
  ⟨0x7000000, [],
    [⟨0, 2, .rw, 0, .within 0 3⟩,
     ⟨63, 1, .wo, 0, .any⟩]⟩,
  -- PWR_STAT (Table PWR-13): STATE, BUSY, STBY_ARMED, REF, REF_CODE, STBY_CAUSE
  ⟨0x7000008, [],
    [⟨0, 2, .ro, 0, .any⟩,
     ⟨2, 1, .ro, 0, .any⟩,
     ⟨3, 1, .ro, 0, .any⟩,
     ⟨4, 1, .w1c, 0, .any⟩,
     ⟨5, 3, .ro, 0, .any⟩,
     ⟨8, 2, .ro, 0, .any⟩]⟩,
  -- PWR_DOM_STAT (Table PWR-13): ON
  ⟨0x7000010, [],
    [⟨0, 64, .ro, 18446744073709551615, .any⟩]⟩]

/-- Field tables of the CLK_ block. -/
def clkRegs : List RegDesc := [
  -- CLK_STAT (Table PWR-13): REF_OK, PCIE_ALT, INT_OSC, KEEP_RC
  ⟨0x7100000, [],
    [⟨0, 4, .ro, 15, .any⟩,
     ⟨4, 1, .ro, 0, .any⟩,
     ⟨5, 1, .ro, 0, .any⟩,
     ⟨6, 1, .ro, 0, .any⟩]⟩,
  -- CLK_LOSS_CNT (Table PWR-13): CNT
  ⟨0x7100100, [(4, 0x8)],
    [⟨0, 64, .rc, 0, .any⟩]⟩]

/-- Field tables of the RST_ block. -/
def rstRegs : List RegDesc := [
  -- RST_CFG (Table PWR-13): PERST_SCOPE
  ⟨0x7200000, [],
    [⟨0, 1, .rw, 0, .any⟩]⟩,
  -- RST_CAUSE (Table PWR-13): CAUSE
  ⟨0x7200008, [],
    [⟨0, 4, .ro, 0, .any⟩]⟩,
  -- RST_HALT_MSG (Table FLT-11): MSG
  ⟨0x7208000, [],
    [⟨0, 64, .ro, 0, .any⟩]⟩,
  -- RST_HALT_TIME (Table FLT-11): TIME
  ⟨0x7208008, [],
    [⟨0, 64, .ro, 0, .any⟩]⟩,
  -- RST_HALT_STAT (Table FLT-11): VALID, ACTIVE, HALT_CNT
  ⟨0x7208010, [],
    [⟨0, 1, .w1c, 0, .any⟩,
     ⟨1, 1, .ro, 0, .any⟩,
     ⟨16, 16, .ro, 0, .any⟩]⟩]

/-- Field tables of the CALB_ block. -/
def calbRegs : List RegDesc := [
  -- CALB_STAT (Table PWR-13): DONE, FUSE_ERR, CFG_ERR
  ⟨0x7300000, [],
    [⟨0, 1, .ro, 0, .any⟩,
     ⟨1, 7, .ro, 0, .any⟩,
     ⟨8, 1, .w1c, 0, .any⟩]⟩]

/-- Field tables of the SMON_ block. -/
def smonRegs : List RegDesc := [
  -- SMON_STAT (Table PWR-13): WARN, KEEP_WARN, LAST_RAIL, DIP_CNT, MIN_MV
  ⟨0x7400000, [],
    [⟨0, 1, .ro, 0, .any⟩,
     ⟨1, 1, .ro, 0, .any⟩,
     ⟨2, 4, .ro, 0, .any⟩,
     ⟨16, 16, .ro, 0, .any⟩,
     ⟨32, 16, .ro, 0, .any⟩]⟩,
  -- SMON_CLR (Table PWR-13): GO
  ⟨0x7400008, [],
    [⟨63, 1, .wo, 0, .any⟩]⟩,
  -- SMON_RAIL (Table PWR-13): NOM_MV, WARN_MV, RST_MV, BELOW_WARN, BELOW_RST
  ⟨0x7400100, [(10, 0x8)],
    [⟨0, 16, .ro, 0, .any⟩,
     ⟨16, 16, .ro, 0, .any⟩,
     ⟨32, 16, .ro, 0, .any⟩,
     ⟨48, 1, .ro, 0, .any⟩,
     ⟨49, 1, .ro, 0, .any⟩]⟩,
  -- SMON_LONG_CNT (Table PWR-13): CNT
  ⟨0x7400200, [],
    [⟨0, 64, .rc, 0, .any⟩]⟩,
  -- SMON_RST_CNT (Table PWR-13): CNT
  ⟨0x7400208, [],
    [⟨0, 64, .rc, 0, .any⟩]⟩]

end Sys2Proof.Machine.RegTable
end

