-- ==== Sys2Proof/Config.lean ====
section
/-! DEFINITION. The free values of the model: what the specification leaves open.  None of them has a body, so nothing can be proved
about which value it is.  Each is applied to the counter `Dev.free`, so every use gets a value of its own. -/

namespace Sys2Proof.Config

/-- Whether a quotient that is not exact is rounded up in the servo update (R37 states no rounding). -/
opaque roundUp : Nat → Bool

/-- The 48-bit sample of a time difference that does not fit 48 bits (Table TIM-9 states no value). -/
opaque thetaOut : Nat → BitVec 48

/-- An octet or a word whose value the specification does not state. -/
opaque freeWord : Nat → Word

/-- A choice among `n` alternatives the specification leaves open. -/
opaque pick : Nat → Nat → Nat

/-- Whether the octets of a firmware slot carry a signature that verifies under a key whose hash is fused in the key slot its header names
(R373): the keys are fuses the specification gives no value of. -/
opaque imageGenuine : List Byte → Bool

/-- Whether a fused key slot is revoked (R373). -/
opaque keyRevoked : Nat → Bool

/-- The timestamp fuses of a port in a lane mode at a rate, bits 31:0 of `TIM_TS_FUSE` (R49): receive and transmit delay. -/
opaque tsFuse : Nat → Nat → Nat → BitVec 32

/-- The equalisation fuses of a port's lane in a lane mode, bits 31:0 of `SDS_EQ_FUSE` (Table MAC-8). -/
opaque eqFuse : Nat → Nat → Nat → BitVec 32

end Sys2Proof.Config
end

