-- ==== Sys2Proof/Machine/State.lean ====
section
/-! DEFINITION. The state of the device as plain data: every register (by its BAR0 address), every memory, and the state the chapters
of the specification give their engines beyond registers. -/

namespace Sys2Proof.Machine

/-! ### What the device sends to the outside -/

/-- The address a host request carries (R362): the engine's own, or the one its translation gives. -/
inductive HostAddr where
  | untranslated (addr : Nat)
  | translated (addr : Nat)
  deriving DecidableEq, Repr

/-- Something that left the device.  The outside world is no part of the machine; this record lets a statement say what was sent. -/
inductive Out where
  /-- an mPacket on a port's wire: port, SMD octet, frag count octet of a continuation, the octets after it, its 4-octet check value
  included (R103, R105) -/
  | wire (port smd : Nat) (frag : Option Nat) (octets : List Byte)
  /-- an MSI-X message: function number, vector (R330) -/
  | msix (fn vec : Nat)
  /-- a write to host memory: routing ID, PASID (none where it carries none), address, octets -/
  | hostWrite (rid : Nat) (pasid : Option Nat) (addr : HostAddr) (data : List Byte)
  /-- a read request to host memory: routing ID, PASID, address, length -/
  | hostRead (rid : Nat) (pasid : Option Nat) (addr : HostAddr) (len : Nat)
  /-- a PCIe message by name: 0 PTM Request, 1 ERR_FATAL, 2 PME, 3 ATS Translation Request, 4 Page Request,
  5 Invalidate Completion, 6 PASID/PRG stop marker, 7 ERR_NONFATAL; with its arguments -/
  | pcie (code : Nat) (args : List Nat)
  /-- an MDIO frame on bus `bus` (the 32 bits after the preamble) -/
  | mdio (bus : Nat) (preamble : Bool) (frame : Nat)
  /-- an SMBus transaction on bus `bus`: octets driven by the device -/
  | smb (bus : Nat) (octets : List Byte)
  /-- the 9 clocks that follow a timeout on SMBus `bus` (R267) -/
  | smbClocks (bus : Nat)
  /-- remote fault ordered sets on a port's wire, in place of frames, begin or end (R243) -/
  | remoteFault (port : Nat) (on : Bool)
  deriving DecidableEq, Repr

/-! ### Chapter 14: fault collector and Jig -/

/-- A fault message on its way to the collector (Table FLT-1, R413): the clock instant at which it arrives, SOURCE, KIND, ADDRESS,
and whether the Jig injected it (R426). -/
structure WireMsg where
  at_ : Nat
  src : Nat
  kind : Nat
  addr : Nat
  inj : Bool
  deriving DecidableEq, Repr

/-- How a frame was received: an error code or a marked block in it (R239), its ingress stamp, the instant (`up`) of its first octet, and the
ports (one bit each) on which a frame that has not ended yet was being received then. -/
structure RxMark where
  code : Bool := false
  stamp : Nat := 0
  beg : Nat := 0
  during : Nat := 0
  deriving DecidableEq, Repr

/-- A frame or mPacket the Jig holds (R425): rule, port, remaining frames to pass (reorder), release instant, octets, receive. -/
structure JigHeld where
  rule : Nat
  port : Nat
  left : Nat
  due : Nat
  smd : Nat
  octets : List Byte
  frag : Nat
  mark : RxMark
  rx : Bool
  reorder : Bool
  deriving DecidableEq, Repr

/-- The fault collector and the Jig beyond their registers (chapter 14).  The queue itself is `State.fq`. -/
structure Flt where
  /-- messages raised and not yet handled by the collector, in the order raised -/
  wire : List WireMsg := []
  /-- islands with an automatic release scheduled: island, due instant (R415) -/
  autoAt : Sparse Nat := []
  /-- islands released and in their reset: island, instant of release -/
  resetting : Sparse Nat := []
  /-- island, instant of its last fence: the acknowledge wait of R413 counts from it -/
  fencedAt : Sparse Nat := []
  /-- island, message that fenced it last -/
  fencedBy : Sparse Word := []
  /-- island, instant since which it has been unfenced (ATTEMPTS_CLEAR, R415) -/
  freeSince : Sparse Nat := []
  /-- messages lost since OVF was clear, the overflow message still owed (R422) -/
  owed : Bool := false
  lost : Nat := 0
  /-- island, instant of the last fault that named it for a fence (R416) -/
  struckAt : Sparse Nat := []
  /-- class, instant of its last message (R419) -/
  classAt : Sparse Nat := []
  /-- the instant of the last write of the severity table, and its words as they stood before the writes of that instant (R416) -/
  sevAt : Nat := 0
  sevWas : Sparse Word := []
  /-- Jig rule, matching frames counted since ARM was set -/
  matches_ : Sparse Nat := []
  /-- Jig rule, actions since ARM was set -/
  acts : Sparse Nat := []
  /-- frames held by Jig rules, oldest first -/
  held : List JigHeld := []
  deriving DecidableEq, Repr

/-! ### Chapter 2: time base -/

/-- The time base beyond its registers (chapter 2).  Time within a second is held in units of 2^-48 ns (R32). -/
structure Tim where
  /-- SEC, 48 bits -/
  sec : Nat := 0
  /-- NS and fraction: nanoseconds × 2^48 + fraction, below 10^9 × 2^48 -/
  sub : Nat := 0
  /-- local time elapsed since power-on in 2^-48 ns; no step or SET moves it: every interval counts on it -/
  up : Nat := 0
  /-- remainder of the slew in progress, signed, 2^-48 ns (R38) -/
  slew : Int := 0
  /-- the servo's integral term before the clamp (R37) -/
  integ : Int := 0
  /-- the next applied sample is a first sample (R37, Table TIM-3) -/
  first : Bool := true
  /-- consecutive samples within LOCK_THR in acquire -/
  goodRun : Nat := 0
  /-- consecutive samples beyond LOCK_THR in locked -/
  badRun : Nat := 0
  /-- instant of the previous accepted sample (R36) -/
  lastAcc : Option Nat := none
  /-- instant of the previous applied sample (τ of R37) -/
  lastApp : Nat := 0
  /-- instant at which the SRC_TIMEOUT count restarted (R37) -/
  srcSince : Nat := 0
  /-- instant of entry to holdover -/
  holdSince : Nat := 0
  /-- instant of the last accepted step or SET (R40) -/
  steppedAt : Option Nat := none
  /-- instant of the servo's last phase correction, the slew it replaced and the step it made (R40) -/
  corrAt : Option Nat := none
  corrSlew : Int := 0
  corrStep : Int := 0
  /-- instant at which the outstanding PTM request was sent, and its local send time t1 -/
  ptmSent : Option Nat := none
  ptmT1 : Nat := 0
  ptmMiss : Nat := 0
  /-- instant of the last periodic PTM request -/
  ptmLast : Nat := 0
  /-- instant of the previous accepted PPS_IN edge (R55) -/
  ppsLast : Option Nat := none
  /-- PPS_OUT and CLK10M_OUT levels and the instant each last changed (R56, R57) -/
  ppsOut : Bool := false
  ppsAt : Nat := 0
  clk10 : Bool := false
  clk10At : Nat := 0
  /-- the pulse on PPS_OUT was in progress at a step and completes its width (R57) -/
  ppsKeep : Bool := false
  /-- last egress and ingress stamp of each port, local time in 2^-48 ns (snapshot groups 1, 2) -/
  egress : Sparse Nat := []
  ingress : Sparse Nat := []
  /-- the instant of the newest stamps, and the ports that took one then, egress (true) or ingress (R40) -/
  stampUp : Nat := 0
  stampPorts : List (Bool × Nat) := []
  /-- the armed scheduled snapshot: T in local time, its SCOPE, CLEAR and RING (R59) -/
  snapT : Nat := 0
  snapScope : Nat := 0
  snapClear : Bool := false
  snapRing : Bool := false
  /-- the image words captured at T, HBM address and word, until they stand in HBM (R60, R400) -/
  snapImage : List (Nat × Word) := []
  snapBytes : List Host.Cell := []
  /-- T fell in Quiet: no image and no header are written (R429) -/
  snapQuiet : Bool := false
  /-- the value the keep domain stored, and the instant at which it was stored (R44) -/
  keepTime : Option Nat := none
  keepAt : Nat := 0
  deriving DecidableEq, Repr

/-! ### Chapters 10 and 11: host link, work queues, translation -/

/-- The state of the PCIe link (R335, Table HQS-9). -/
inductive Link where
  | down | l0 | l0p | recovery | l1 | l1sub
  deriving DecidableEq, Repr

/-- A submission entry in flight: from its fetch to its retirement (R324). -/
structure Sqe where
  /-- its number since the queue was created; the ring index is this modulo 2^LOG -/
  n : Nat
  words : List Word
  /-- the entry could not be read: OPC 0x00 in its completion -/
  unread : Bool := false
  /-- it has been executed under its OPC -/
  run : Bool := false
  /-- its frame data are being read -/
  reading : Bool := false
  /-- status once finished, CAUSE, TS, and word 1 of an RX completion -/
  status : Option Nat := none
  cause : Nat := 0
  ts : Word := 0
  rx : Word := 0
  /-- frame in the packet buffer -/
  frame : Option Nat := none
  /-- copies still to end, and how each ended one did: port, status, cause, egress stamp (R321) -/
  left : Nat := 0
  res : List (Nat × Nat × Nat × Word) := []
  /-- cut through; to be retried after a page response, the retry counted (R336) -/
  cut : Bool := false
  retried : Bool := false
  recounted : Bool := false
  /-- the sequence number its frame took, once it has taken one (R141) -/
  numbered : Option (Option Nat) := none
  deriving DecidableEq, Repr

/-- A submission queue (R312–R316).  `fetched` and `done` count entries since creation. -/
structure Sq where
  fn : Nat
  base : Nat
  log : Nat
  kind : Nat
  cq : Nat
  ifMax : Nat
  pasid : Option Nat
  wb : Nat
  tail : Nat := 0
  /-- entries the calendar has claimed (TX_SCHED queues) -/
  claimed : Nat := 0
  fetched : Nat := 0
  done : Nat := 0
  /-- read of the next entry: 0 none, 1 waits for translation, 2 issued -/
  rd : Nat := 0
  flight : List Sqe := []
  err : Bool := false
  /-- DESTROY_SQ in progress -/
  drain : Bool := false
  /-- an RX buffer write waits for a page response (R336) -/
  rxStall : Bool := false
  wbAt : Option Nat := none
  /-- completion queues whose interrupt waits for the writeback word (R317) -/
  msi : List Nat := []
  wbOwed : Bool := false
  deriving DecidableEq, Repr

/-- A completion queue.  `tail` and `head` count entries since creation. -/
structure Cq where
  fn : Nat
  base : Nat
  log : Nat
  vec : Nat
  ien : Bool
  timer : Nat
  count : Nat
  pasid : Option Nat
  /-- the PASID word 3 of CREATE_CQ gave -/
  pasidNum : Nat := 0
  tail : Nat := 0
  head : Nat := 0
  unrep : Nat := 0
  timerAt : Option Nat := none
  /-- completions are held (R325) -/
  held : Bool := false
  ovf : Bool := false
  /-- its memory waits for a page response; it failed (R328) -/
  stall : Bool := false
  err : Bool := false
  /-- submission queues whose next retirement is held here, in order; 65536 + c for DMA channel c -/
  order : List Nat := []
  deriving DecidableEq, Repr

/-- A PCIe function: PF f is number f, VF n of PF f is number f + 4 n (Table HQS-2). -/
structure Fn where
  d3 : Bool := false
  /-- instant at which its last FLR ends (R338) -/
  resetEnd : Nat := 0
  pmeEn : Bool := false
  pmeStatus : Bool := false
  ats : Bool := false
  pri : Bool := false
  msixEn : Bool := false
  fnMask : Bool := false
  /-- MSI-X table: words 0 and 1 of a vector; an unlisted vector is masked -/
  table : Sparse (Word × Word) := []
  pba : List Nat := []
  first : Nat := 0
  quota : Nat := 0
  /-- Max Payload Size 128 · 2^mps, Max Read Request Size 128 · 2^mrrs octets (R308, R349) -/
  mps : Nat := 0
  mrrs : Nat := 2
  /-- tags beyond 8 bits, LTR, and error messages enabled (Table HQS-1) -/
  bigTags : Bool := false
  ltr : Bool := false
  errEn : Bool := false
  /-- AER Uncorrectable Error Status; Received Master Abort and Target Abort of the Status register (R337) -/
  aer : Word := 0
  masterAbort : Bool := false
  targetAbort : Bool := false
  /-- Outstanding Page Request Allocation (R364) -/
  prAlloc : Nat := 0
  deriving DecidableEq, Repr

/-- The admin queue beyond its registers: indexes count entries since it was enabled. -/
structure Aq where
  ready : Bool := false
  /-- set at EN = 1, until READY -/
  starting : Bool := false
  stopping : Bool := false
  tail : Nat := 0
  head : Nat := 0
  cqTail : Nat := 0
  cqHead : Nat := 0
  /-- a DESTROY_SQ in progress: queue pair, TAG, number of the admin entry -/
  drain : Option (Nat × Nat × Nat) := none
  /-- the registers of a VF's admin queue (in its BAR0 at 0x1000–0x1020) -/
  sqBase : Word := 0
  cqBase : Word := 0
  cfg : Word := 0x442
  stat : Word := 0
  /-- OUT of the command at the head failed its translation -/
  outBad : Bool := false
  /-- the command at the head is in progress: OUT waits for its translation -/
  busy : Bool := false
  deriving DecidableEq, Repr

/-- The host link and the queues beyond their registers. -/
structure Hq where
  link : Link := .down
  ptmEn : Bool := false
  /-- L1 PM Substates Control enables L1.2 -/
  l12En : Bool := false
  fns : Sparse Fn := []
  /-- submission queues that an FLR destroyed, with their function: launches find them held until it ends (R338) -/
  flrSqs : Sparse Nat := []
  sqs : Sparse Sq := []
  cqs : Sparse Cq := []
  /-- admin queues of PF0–PF3, of VFs by function number, 5000 for the Bench -/
  aqs : Sparse Aq := []
  /-- doorbells ignored since creation, by queue pair -/
  dbErr : List Nat := []
  /-- the queue counter capture in progress, and counter updates that wait for the store (R342) -/
  capture : Option (Nat × List Word) := none
  stalled : List (Nat × Nat × Nat) := []
  /-- received frames waiting to be written to a buffer: frame, queue pair, entry number -/
  rxWait : List (Nat × Nat × Nat) := []
  deriving DecidableEq, Repr

/-- Which engine access a translation serves (Table DMA-8). -/
inductive Want where
  | sqRead (q : Nat) | frame (q n : Nat) | cqWrite (q : Nat) | wback (q : Nat) | rxWrite (q n : Nat)
  | aqSq (f : Nat) | aqCq (f : Nat) | aqOut (f : Nat)
  | dmaDesc (c : Nat) | dmaIdx (c : Nat) | dmaSrc (c : Nat) | dmaDst (c : Nat) | dmaRec (c : Nat) | tsq
  deriving DecidableEq, Repr

/-- A host access that waits for translation: who, as which requester, which page-aligned address, write; `sent` = its Translation
Request is out; `prg` = it waits for a page response; `again` = retried after Success; `via` = the Translation Request of another access that
waited for the same page response serves it too (R364). -/
structure XWait where
  want : Want
  rid : Nat
  pasid : Option Nat
  addr : Nat
  write : Bool
  sent : Bool := false
  prg : Bool := false
  again : Bool := false
  via : Bool := false
  deriving DecidableEq, Repr

/-- A translation held by the ATC (R363): routing ID, PASID, first address, length, read and write permission, translated first address. -/
structure AtcEntry where
  rid : Nat
  pasid : Option Nat
  base : Nat
  size : Nat
  r : Bool
  w : Bool
  phys : Nat
  deriving DecidableEq, Repr

/-- A page request: routing ID, PASID, page, whether the host's allocation has let it go, the instant it was sent. -/
structure Prg where
  rid : Nat
  pasid : Option Nat
  page : Nat
  sent : Bool := false
  at_ : Nat := 0
  deriving DecidableEq, Repr

/-- A host read under way (R366): whose; how far it goes (the number of the entry, the octets of a side, region and index of the Try-square);
DSEQ and generation of a channel's descriptor. -/
structure Busy where
  want : Want
  mark : Nat := 0
  seq : Nat := 0
  deriving DecidableEq, Repr

/-- An invalidation whose completion is owed (R366): ITag and routing ID, none for a flush, and the accesses under way when it was taken. -/
structure Inval where
  tag : Option (Nat × Nat)
  busy : List Busy
  deriving DecidableEq, Repr

/-- The translation unit (R362–R369). -/
structure Xlt where
  /-- most recently used first -/
  atc : List AtcEntry := []
  waits : List XWait := []
  prgs : List Prg := []
  /-- invalidations whose completion is still owed, oldest first -/
  invs : List Inval := []
  deriving DecidableEq, Repr

/-! ### Frames in the packet buffer (chapters 3, 5, 8, 9) -/

/-- A frame stored in the packet buffer. -/
structure Frame where
  /-- destination address up to the last octet before the FCS -/
  octets : List Byte := []
  /-- stream ID (R138) and sequence number (R141, R145) -/
  stream : Option Nat := none
  seq : Option Nat := none
  /-- receiving port; none for a host submission -/
  rx : Option Nat := none
  /-- packet buffer bank = slice -/
  bank : Nat := 0
  /-- ingress stamp, local time in 2^-48 ns (R48) -/
  stamp : Nat := 0
  /-- instant (`up`) at which the pipeline received it (R281) -/
  born : Nat := 0
  /-- local mark of the address filter (R252) -/
  loc : Bool := false
  /-- priority and VID (R254) -/
  prio : Nat := 0
  vid : Nat := 1
  /-- the submission entry it came from: queue pair and entry number in the SQ's order -/
  entry : Option (Nat × Nat) := none
  /-- wholly stored, tag actions set -/
  ready : Bool := true
  /-- length with FCS, known before the octets of a host frame have all arrived -/
  total : Nat := 0
  /-- destinations on which it is still to be sent -/
  dests : List Nat := []
  /-- deliveries to the host not yet made -/
  hosts : Nat := 0
  /-- the submission entry asks for an egress stamp (R48) -/
  wantStamp : Bool := false
  /-- cut-through host frame, and whether its data fetch has faulted (Table PRE-9) -/
  cut : Bool := false
  fault : Bool := false
  /-- a fabric frame of a scheduled stream waiting to be bound (R83, R301) -/
  fabric : Bool := false
  /-- received on an edge port with RTAG_RX = 0: octets that look like an R-TAG are payload (R144) -/
  noRtag : Bool := false
  /-- the inner frame of a DATA frame received on a ring port: SRC, HOPS, BE of its header (R174) -/
  dove : Option (Nat × Nat × Nat) := none
  deriving DecidableEq, Repr

/-- What a transmitter is sending. -/
inductive TxKind where
  /-- a frame of the packet buffer -/
  | frame (id : Nat)
  | verify | respond | announce | annResp | pause
  /-- a control frame of the Dovetail logic -/
  | control (bcast : Bool)
  deriving DecidableEq, Repr

/-- A transmission on the wire, or suspended (chapters 3, 4). -/
structure Tx where
  kind : TxKind
  /-- 0 preemptable, 1 express, 2 critical -/
  cls : Nat
  /-- a scheduled launch -/
  sched : Bool := false
  /-- octets from the destination address to before the check value, as sent -/
  octets : List Byte
  /-- octets of the frame sent in earlier mPackets -/
  sent : Nat := 0
  /-- start with SMD-S or SMD-XS; which may be cut (R101) -/
  frag : Bool := false
  cuttable : Bool := false
  /-- frame count, and number of this mPacket within the frame (R104) -/
  fc : Nat := 0
  mp : Nat := 0
  /-- express encoding of nested pre-emption (SMD-XS) -/
  nest : Bool := false
  /-- instant (`up`) at which the first bit of this mPacket is on the wire, and that instant in local time -/
  start : Nat
  local_ : Nat
  /-- egress stamp of the frame's first mPacket (R47, R49, R124) -/
  stamp : Nat := 0
  /-- octets of frame data this mPacket ends after, with an mCRC (R113) or with a stomp (R125) -/
  cutTo : Option Nat := none
  stompAt : Option Nat := none
  /-- instant (`up`) of the cut request, and whether critical traffic made it -/
  cutAt : Option Nat := none
  cutCrit : Bool := false
  /-- minimum data octets of a non-final fragment, fixed at the frame's start (R112, R113) -/
  fmin : Nat := 60
  /-- guardian limit, local time (Table RNG-9) -/
  limit : Option Nat := none
  /-- Jig rule acting on this mPacket: 1 + rule number (R425) -/
  jig : Nat := 0
  deriving DecidableEq, Repr

/-- A control frame of the Dovetail logic waiting for its port: octets without FCS; the own SYNC or COLDSTART takes TX_TIME as it leaves; a
forwarded frame adds its residence, from ingress stamp and link delay of the port it came in by (R178, Table RNG-4). -/
structure Ctl where
  octets : List Byte
  own : Bool
  fwd : Option (Nat × Nat) := none
  /-- a BCAST: limited by the best-effort window -/
  bcast : Bool := false
  deriving DecidableEq, Repr

/-- A raised hold (R116): it covers express too where critical; the launch instant and the release instant, local time. -/
structure Hold where
  crit : Bool
  at_ : Nat
  until_ : Nat
  deriving DecidableEq, Repr

/-- An open reassembly (R122). -/
structure Ctx where
  fc : Nat
  next : Nat
  octets : List Byte
  /-- the initial fragment's; an error code of any fragment -/
  mark : RxMark
  since : Nat
  timeout : Nat
  deriving DecidableEq, Repr

/-- A port beyond its registers (chapters 3, 4, 8). -/
structure PortSt where
  /-- frames waiting, in arrival order: priority, frame -/
  queue : List (Nat × Nat) := []
  cur : Option Tx := none
  /-- instant from which a new transmission may start (inter-frame gap) -/
  gapEnd : Nat := 0
  suspP : Option Tx := none
  suspX : Option Tx := none
  /-- frame counts of the next preemptable and express frame (R104) -/
  fcP : Nat := 0
  fcX : Nat := 0
  holds : List Hold := []
  /-- verification: attempts, instant the timer started (none while the verify has not left), responds owed (R107, R108) -/
  vTry : Nat := 0
  vSent : Option Nat := none
  vTime : Nat := 0
  respond : Nat := 0
  /-- nested announcement: attempts, an announce owed, timer, announce responses owed (R110) -/
  nTry : Nat := 0
  nOwed : Bool := false
  nSent : Option Nat := none
  nTime : Nat := 0
  annResp : Nat := 0
  /-- the encoding the transmitter uses: nested (R111) -/
  nested : Bool := false
  /-- reassembly contexts, and continuations to discard until the next initial fragment (Table PRE-7) -/
  ctxP : Option Ctx := none
  ctxX : Option Ctx := none
  skipP : Bool := false
  skipX : Bool := false
  /-- end of the received pause in force (R258) -/
  pauseEnd : Option Nat := none
  /-- PAUSE frames owed: quanta; instant of the last one sent (R261) -/
  pauseOwed : Option Nat := none
  /-- control frames waiting for the wire, oldest first (R178) -/
  ctl : List Ctl := []
  pauseLast : Nat := 0
  /-- instant of LPI entry; instant at which a wake completes (R92, R263) -/
  lpiSince : Option Nat := none
  wakeEnd : Option Nat := none
  /-- instant from which the wire has been idle -/
  idleSince : Nat := 0
  /-- the wake time in force for LPI, ns (R92, R263) -/
  tw : Nat := 0
  /-- rate at which the link was last up in the lane mode, Mb/s (R234) -/
  lastRate : Option Nat := none
  /-- rate last negotiated in the lane mode, Mb/s (R236) -/
  negRate : Option Nat := none
  /-- instant from which the link's conditions can have held again; instant at which one of them failed, the link still up (R243) -/
  goodSince : Nat := 0
  failSince : Option Nat := none
  /-- RX_CTLE shims of lanes 0 to 3 that the last adaptation took in (R245) -/
  rxShims : List (BitVec 8) := []
  /-- launches or holds whose reserved interval was released early: launch instant, local time (R86) -/
  released : List Nat := []
  deriving DecidableEq, Repr

/-! ### Chapter 5: streams -/

/-- The stream engine beyond its table and registers. -/
structure Strm where
  /-- streams whose fence bit is set (R155) -/
  fenced : List Nat := []
  /-- counter updates waiting for the counter store: stream, counter, amount (R160) -/
  stalled : List (Nat × Nat × Nat) := []
  /-- the capture in progress: stream and values (R158) -/
  capture : Option (Nat × List Word) := none
  /-- the millisecond of the last recovery scan -/
  scanMs : Nat := 0
  /-- latent-error profile, instant of its last test and of its last reset, local time (R153) -/
  tested : Sparse Nat := []
  cleared : Sparse Nat := []
  deriving DecidableEq, Repr

/-! ### Chapter 3: the calendar -/

/-- The parameters of a bank: CYC_NS, HP and the CAL_DIR words by port (Table CAL-14). -/
structure CalPar where
  cyc : Nat := 1000000
  hp : Nat := 1
  dir : List Word := []
  deriving DecidableEq, Repr

/-- A mode bank beyond its registers. -/
structure CalBank where
  /-- committed copy -/
  par : CalPar := {}
  /-- parameters captured by the COMMIT, or taken by the COPY, in progress -/
  cap : CalPar := {}
  /-- state to return to when validation fails -/
  back : Nat := 0
  /-- source of the COPY in progress -/
  src : Option Nat := none
  /-- instant (`up`) at which the commit or copy was accepted -/
  since : Nat := 0
  deriving DecidableEq, Repr

/-- A bank supplying entries: its parameters, the local begin of its cycle `num`, and the instants it supplies. -/
structure CalSrc where
  bank : Nat
  par : CalPar
  beg : Nat
  num : Nat
  from_ : Nat
  until_ : Option Nat := none
  deriving DecidableEq, Repr

/-- A pending activation: bank, boundary B in local time, CYCNUM at B; a start (R81); accepted through CAL_ACT. -/
structure CalPend where
  bank : Nat
  at_ : Nat
  cyc : Nat
  start : Bool
  act : Bool
  deriving DecidableEq, Repr

/-- One instance of a stream's data for the launches that share it (R142). -/
structure Inst where
  stream : Nat
  cyc : Nat
  key : Nat
  /-- queue pair and entry number of a host source, once the entry is taken -/
  entry : Option (Nat × Nat) := none
  qp : Option Nat := none
  /-- no entry came: held or empty -/
  none_ : Bool := false
  frame : Option Nat := none
  /-- the entry taken held no frame: 1 its fetch failed, 2 any other status; back-pressure held the fetch -/
  lost : Nat := 0
  held : Bool := false
  /-- copies discarded before the entry was read: port, status, cause, stamp -/
  res : List (Nat × Nat × Nat × Word) := []
  /-- copies not yet launched or discarded -/
  left : Nat
  deriving DecidableEq, Repr

/-- A launch that has been fetched: port, entry index, stream, L (local time), HCYC, CYCNUM, and where it stands. -/
structure Launch where
  port : Nat
  idx : Nat
  stream : Nat
  at_ : Nat
  hcyc : Nat
  cyc : Nat
  key : Nat
  resLen : Nat
  cls : Nat
  armed : Bool := false
  deriving DecidableEq, Repr

/-- The calendar beyond its registers. -/
structure Cal where
  banks : Sparse CalBank := []
  cur : Option CalSrc := none
  prev : Option CalSrc := none
  pend : Option CalPend := none
  /-- Bs of a stop in progress -/
  stopAt : Option Nat := none
  /-- port configurations not yet in force: port, B, word; and the words still in force (R98) -/
  cfgPend : List (Nat × Nat × Word) := []
  cfgOld : Sparse Word := []
  /-- slices revalidating: instant (`up`) of its start; slices that resume at a boundary (R96) -/
  reval : Sparse Nat := []
  resume : Sparse Nat := []
  insts : List Inst := []
  launches : List Launch := []
  deriving DecidableEq, Repr

/-! ### Chapter 6: the ring -/

/-- A SYNC or COLDSTART as received: receiving port, and the fields the rules use.  `theta` is θj in 2^-48 ns (R177). -/
structure RSync where
  port : Nat
  src : Nat
  hops : Nat
  cold : Bool
  theta : Int
  cyc : Nat
  st : Nat
  ref : Bool
  bank : Nat
  msId : Nat
  msOp : Nat
  msBank : Nat
  msSrc : Nat
  msCyc : Nat
  barId : Nat
  barArr : Bool
  snapV : Bool
  snapId : Nat
  snapClear : Bool
  snapScope : Nat
  snapT : Word
  deriving DecidableEq, Repr

/-- A snapshot announcement to be carried by the next SYNC (R202, R206). -/
structure Ann where
  id : Nat
  scope : Nat
  clear : Bool
  t : Word
  deriving DecidableEq, Repr

/-- A mode switch a member takes part in (R197–R199): cycle P, MS_ID, MS_SRC, MS_BANK, MS_CYC; own proposal; the bank is SCHEDULED here; it
is acknowledged; committed; the senders of acknowledgements. -/
structure Switch where
  p : Nat
  id : Nat
  src : Nat
  bank : Nat
  cyc : Nat
  own : Bool
  offer : Bool
  ack : Bool
  commit : Bool := false
  acks : List Nat := []
  deriving DecidableEq, Repr

/-- An attachment, or the membership of a joined node, beyond its registers. -/
structure RAtt where
  /-- listen count, and the greatest boundary index it has passed in this stay (R190) -/
  listen : Nat := 0
  passed : Nat := 0
  /-- a SYNC or COLDSTART was received since entry to LISTEN; ring time was adopted since -/
  heard : Bool := false
  adopted : Bool := false
  /-- collection window: its end (`up`), and the frames in it (R187) -/
  winEnd : Option Nat := none
  win : List RSync := []
  /-- accepted frames of the current control segment; senders of SYNC frames rejected by the window in it -/
  seg : List RSync := []
  rej : List Nat := []
  /-- index (local time div C) of the last boundary handled, and the number of control segment ends handled -/
  cycle : Nat := 0
  segDone : Nat := 0
  losses : Nat := 0
  /-- another node was in MEMBERS at the last segment with an accepted frame -/
  prevMem : Bool := false
  clique : Nat := 0
  /-- ring mode of the last control segment (R194) -/
  mode : Option Nat := none
  /-- cycles of INTEGRATE without a SYNC from an ACTIVE sender -/
  noAct : Nat := 0
  /-- the last cycle validly observed (R186), and |θ| was within CORR_LIM in it -/
  valid : Option (Nat × Bool) := none
  /-- cycles in which COLDSTART was sent; end of the wait after an abort (`up`) -/
  cs : Nat := 0
  abortAt : Option Nat := none
  /-- an own SYNC was sent in the current cycle, and it carried BAR_ARR -/
  sent : Bool := false
  barSent : Bool := false
  /-- the switch in progress; MS_ID of the next own proposal; a committed switch seen: bank and cycle of B (R194) -/
  sw : Option Switch := none
  msNext : Nat := 1
  seen : Option (Nat × Nat) := none
  /-- barrier arrival: instant (`up`) from which a boundary carries it; complete at the next boundary (R200) -/
  barAt : Option Nat := none
  barDue : Bool := false
  /-- announcement owed to the next SYNC -/
  ann : Option Ann := none
  deriving DecidableEq, Repr

/-- A control frame to be forwarded: egress port, ingress port, ingress stamp and instant due (local), octets without FCS. -/
structure RFwd where
  port : Nat
  from_ : Nat
  stamp : Nat
  due : Nat
  octets : List Byte
  deriving DecidableEq, Repr

/-- A broadcast waiting for its window: attachment, SEQ, LEN, ORIG_RING of a relay (R206), payload. -/
structure RBc where
  att : Nat
  seq : Nat
  len : Nat
  fed : Option Nat
  data : List Byte
  deriving DecidableEq, Repr

/-- A received broadcast: SRC, ORIG_RING, LEN, payload. -/
structure RBcRx where
  src : Nat
  ring : Nat
  len : Nat
  data : List Byte
  deriving DecidableEq, Repr

/-- The ring beyond its registers. -/
structure Ring where
  att0 : RAtt := {}
  att1 : RAtt := {}
  fwds : List RFwd := []
  bcs : List RBc := []
  bcRx : List RBcRx := []
  /-- instant (`up`) at which the pin of an attachment rose -/
  pinAt : Sparse Nat := []
  /-- last SEQ queued by SRC × 16 + ORIG_RING -/
  bcLast : Sparse Nat := []
  bcNum : Nat := 0
  /-- RNG_BE_CFG words still in force until the next boundary (R168) -/
  beOld : Sparse Word := []
  /-- by port: egress stamp of the own SYNC, by cycle: (cycle, stamp); the last two -/
  sentAt : Sparse (List (Nat × Nat)) := []
  /-- by port: ingress stamp of the neighbour's own SYNC: (cycle, stamp); the last two -/
  peerAt : Sparse (List (Nat × Nat)) := []
  /-- by port: senders of SYNC frames accepted in the last control segment, and whether any frame was (Table RNG-13) -/
  rxv : Sparse Nat := []
  rxAny : List Nat := []
  deriving DecidableEq, Repr


/-! ### Chapter 8: management buses -/

/-- An MDIO frame in progress: instant (`up`) at which it began, `MAC_MDIO_CMD` and `MAC_MDIO_CFG` at its GO. -/
structure MdioRun where
  at_ : Nat
  cmd : Word
  cfg : Word
  deriving DecidableEq, Repr

/-- The management controllers beyond their registers: MDIO frames in progress by bus; by SMBus controller, `MAC_SMB_CMD` and `MAC_SMB_CFG` at the
GO of the transaction in progress, and whether 9 clocks are owed after a timeout (R267). -/
structure Mgmt where
  mdio : Sparse MdioRun := []
  smb : Sparse (Word × Word) := []
  smbClear : List Nat := []
  deriving DecidableEq, Repr

/-! ### Chapter 8: reception -/

/-- A frame received: port, instant (`up`) of its first octet and of its end, octets it held while it was received and held from then on, its
number in the packet buffer where it was stored, and the instant of its release (R264). -/
structure Recv where
  port : Nat
  beg : Nat
  fin : Nat
  most : Nat
  len : Nat
  frame : Option Nat
  gone : Option Nat
  deriving DecidableEq, Repr

/-- What reception refers back to: values that the registers governing it held before a write, newest first, with the instant of the write and
the register's address (R251, R268, R270); and the frames received that are held, or were until lately (R264). -/
structure Rxb where
  hist : List (Nat × Nat × Word) := []
  log : List Recv := []
  deriving DecidableEq, Repr

/-! ### Chapter 9: forwarding -/

/-- A cross-slice report (R283): MAC, VID, slice, its port, the main table's port. -/
structure XsRep where
  mac : Nat
  vid : Nat
  slice : Nat
  port : Nat
  mainPort : Nat
  deriving DecidableEq, Repr

/-- A word read of the Try-square that waits for its shadow word: region, word index, device word as read. -/
structure TsqRead where
  region : Nat
  idx : Nat
  word : Word
  /-- its translation is done and the read issued -/
  sent : Bool := false
  /-- the device's word holds an uncorrectable error -/
  bad : Bool := false
  /-- the shadow's words, where they returned during a supply warning -/
  got : Option (List Word) := none
  deriving DecidableEq, Repr

/-- A main-table read made for a frame's source or destination lookup (R276): frame, slice, key (VID × 2^48 + MAC); its result once it has
returned: none = miss, else word 1 and STATIC. -/
structure MainRead where
  frame : Nat
  slice : Nat
  key : Nat
  src : Bool
  res : Option (Option (Word × Bool)) := none
  deriving DecidableEq, Repr

/-- A table command in progress (R291): the instant (`up`) at which DONE is set, RESULT, and what LOOKUP answers: word 1, OWNER, STATIC. -/
structure TblRun where
  due : Nat
  result : Nat
  look : Option (Word × Nat × Bool)
  deriving DecidableEq, Repr

/-- Forwarding beyond its registers and tables. -/
structure Fwd where
  /-- frames stored and waiting for their pass through the pipeline of their slice, oldest first -/
  wait : List Nat := []
  /-- main-table reads, outstanding or returned to a frame that still waits; at most 256 of a slice outstanding (R273) -/
  lookups : List MainRead := []
  /-- learning queues: slice, key, port; by slice, instant (`up`) of the last commit (R278) -/
  learn : List (Nat × Nat × Nat) := []
  learnAt : Sparse Nat := []
  /-- the Joiner's report queue, oldest first (R283) -/
  reports : List XsRep := []
  /-- by slice: next cache entry the sweeper visits -/
  sweep : Sparse Nat := []
  /-- by slice: instant (`up`) at which that entry is due -/
  sweepAt : Sparse Nat := []
  /-- compare-and-removes issued on the caches: slice, entry, key -/
  cacheRem : List (Nat × Nat × Nat) := []
  /-- next main-table entry the scan visits, passes completed, instant (`up`) at which that entry is due -/
  scan : Nat := 0
  passes : Nat := 0
  scanAt : Nat := 0
  /-- instant (`up`) since which the main table has been out (R277) -/
  outSince : Option Nat := none
  /-- the command of `FWD_TBL_CMD` in progress (R291) -/
  tbl : Option TblRun := none
  /-- passes that must be completed before DGEN and SGEN can be bumped again; none before the first bump (R290) -/
  dynAt : Option Nat := none
  statAt : Option Nat := none
  /-- compare-and-removes issued on the main table: entry, key, TS -/
  mainRem : List (Nat × Nat × Nat) := []
  /-- Try-square: region and word it reads next, instant (`up`) of the last word read, words that wait for their shadow -/
  tsqRegion : Nat := 0
  tsqIdx : Nat := 0
  tsqAt : Nat := 0
  tsqReads : List TsqRead := []
  /-- the configuration the running pass uses: CTL, then ADDR, HOST, MASK, WMASK of the eight regions (R294); empty = no pass runs -/
  tsqCfg : List Word := []
  deriving DecidableEq, Repr

/-! ### Chapter 11: DMA -/

/-- One side of a descriptor, in octets of the descriptor: beats issued, beats answered, and the octets up to the first beat not
answered well. -/
structure DmaSide where
  iss : Nat := 0
  ack : Nat := 0
  done : Nat := 0
  deriving DecidableEq, Repr

/-- The earliest failing beat of a descriptor (R359): its side (0 index, 1 source, 2 destination, 3 descriptor), address, space, kind,
offset in the descriptor; the last beat of its side. -/
structure DmaErr where
  side : Nat
  addr : Nat
  sp : Bool
  kind : Nat
  ofs : Nat
  final : Bool
  /-- its place in the order of issue -/
  seq : Nat
  deriving DecidableEq, Repr

/-- A completion record that is held (R355): its words without PHASE, the IRQ flag, and whether the channel halts with it. -/
structure DmaRec where
  w0 : Nat
  w1 : Nat
  w2 : Nat
  w3 : Nat
  irq : Bool
  halt : Bool
  deriving DecidableEq, Repr

/-- A DMA channel beyond its registers. -/
structure Chan where
  /-- the committed copy (R356) -/
  comChain : Word := 0
  comCfg : Word := 0x100
  /-- address word of the current descriptor (bit 0 its space) and its words; no words while it is unread -/
  desc : Word := 0
  ws : List Word := []
  /-- the descriptor read ahead: 0 none, 1 to be issued, 2 issued, 3 here, 4 failed; its address word, words, error kind -/
  rd : Nat := 0
  rdAt : Word := 0
  rdWs : List Word := []
  rdErr : Nat := 0
  idx : DmaSide := {}
  src : DmaSide := {}
  dst : DmaSide := {}
  /-- octets read from the source and not known to be written (COMPARE: not compared); COMPARE: octets of the destination -/
  hold : List Byte := []
  holdD : List Byte := []
  /-- GATHER: offsets of the elements from `src.done` on -/
  offs : List Nat := []
  /-- COMPARE: octets found equal, and the offset of the first difference -/
  eq : Nat := 0
  mism : Option Nat := none
  /-- sides that wait for a page response -/
  xw : List Nat := []
  /-- the runs of beats issued, in order: side, first octet, end (R359) -/
  runs : List (Nat × Nat × Nat) := []
  /-- STOPPING: the ABORTED record is written when the beats outstanding have completed (R354) -/
  abortRec : Bool := false
  err : Option DmaErr := none
  held : Option DmaRec := none
  /-- the target queue was destroyed (R355) -/
  lost : Bool := false
  deriving DecidableEq, Repr

/-- A device ring beyond its registers: records written and released since EN was set, channels whose record is held, in order, and
whether a record found it full. -/
structure DmaRing where
  tail : Nat := 0
  head : Nat := 0
  order : List Nat := []
  ovf : Bool := false
  deriving DecidableEq, Repr

/-- The DMA engine. -/
structure Dma where
  ch : Sparse Chan := []
  rings : Sparse DmaRing := []
  deriving DecidableEq, Repr

/-! ### Chapter 7: the solver -/

/-- A request of the solver's queue: its eight words, the file registers as they stood at SUBMIT, and whether clearing EN has aborted it
(R229). -/
structure SolReq where
  words : List Word
  fileAddr : Nat
  fileLen : Nat
  aborted : Bool := false
  deriving DecidableEq, Repr

/-- The job in progress (Table SOL-1): its request, target and base bank, its phase (0 the copy of the head bank, or the checks of a FULL job,
are under way; 1 COMMIT issued; 2 the job has ended), its result code, INDEX, PHASE and OFS (none = the specification states no value),
the records it created, the streams it makes pending end, BASE_MOVED, and an ABORT that waits for the next phase boundary. -/
structure SolJob where
  req : SolReq
  target : Nat
  base : Nat
  phase : Nat := 0
  code : Nat := 0
  index : Option Nat := none
  psel : Option Nat := none
  ofs : Option Nat := none
  wrote : List Nat := []
  ends : List Nat := []
  moved : Bool := false
  /-- the copy into the target has been issued, or the target written -/
  touched : Bool := false
  abort : Bool := false
  deriving DecidableEq, Repr

/-- The solver beyond its registers. -/
structure Sol where
  queue : List SolReq := []
  job : Option SolJob := none
  /-- posted results, oldest first -/
  results : List (Word × Word) := []
  /-- it holds Bench group 0 (R210) -/
  taken : Bool := false
  /-- successful jobs so far, and by bank the number of the job whose result it holds with its GEN -/
  jobs : Nat := 0
  owns : Sparse (Nat × Nat) := []
  /-- pending-end streams: stream, number of the job that removed it (R226) -/
  ends : List (Nat × Nat) := []
  deriving DecidableEq, Repr

/-! ### Chapter 12: the Joiner -/

/-- A W command that has released the Joiner (R379): its mailbox, OPC, SEQ, and the instant (`up`) of its Max. -/
structure MbxWait where
  m : Nat
  opc : Nat
  seq : Nat
  due : Nat
  deriving DecidableEq, Repr

/-- A prefix of the routing table (Table MBX-8, ROUTE_ADD): family, length, address bits, trie entry result word. -/
structure Route where
  v6 : Bool
  plen : Nat
  addr : Nat
  res : Word
  deriving DecidableEq, Repr

/-- The Joiner beyond its registers (chapter 12). -/
structure Mbx where
  /-- GOs pending, in the order in which they are to be executed: mailbox, instant (`up`) of the GO (R378, R379) -/
  go : List (Nat × Nat) := []
  waits : List MbxWait := []
  /-- the token store: token by block, 0 where unlisted (R382) -/
  tokens : Sparse Nat := []
  /-- ends of leases and of lockouts by block (`up`) -/
  leaseEnd : Sparse Nat := []
  lockEnd : Sparse Nat := []
  /-- octets of the QSPI flash (Table MBX-1) -/
  flash : List Host.Cell := []
  /-- fused security version (R375) -/
  svn : Nat := 0
  /-- the slot whose last FW_VERIFY passed and that has not been written since (R375) -/
  verified : Option Nat := none
  /-- the Joiner restart after FW_RESTART and the device reset after DEVICE_RESET: instants (`up`) at which they start -/
  restartAt : Option Nat := none
  resetAt : Option Nat := none
  /-- instants (`up`) of the latest Joiner watchdog resets, newest first; the third within 60 s boots the other slot alone (R391) -/
  wdogAt : List Nat := []
  bootOther : Bool := false
  /-- the boot to come, or the boot hold, follows a reset of the other islands too (R374, R439); a watchdog reset is still to be reported -/
  coreBoot : Bool := true
  wdogOwed : Bool := false
  /-- PTP_INSTANCE and PTP_PORT as last written: argument word 0 by instance and by port -/
  ptpInst : Sparse Word := []
  ptpPort : Sparse Word := []
  /-- the prefixes of the routing table, the trie nodes and tail blocks in use: the path each stands for (family and bits), by its number -/
  routes : List Route := []
  nodes : Sparse (Nat × Nat) := []
  tails : Sparse (Nat × Nat) := []
  deriving DecidableEq, Repr

/-! ### Chapter 15: the power sequencer and the supply monitor -/

/-- The keep domain and the sequencer beyond their registers. -/
structure Pwr where
  /-- the transition in progress: its target state (Table PWR-3) -/
  goal : Option Nat := none
  /-- the dip timer: the instant (`up`) at which the warning came into force (R435, R436) -/
  dipAt : Option Nat := none
  /-- instant since which every core rail has been above its warning threshold -/
  okSince : Nat := 0
  /-- the device is in Keep; VDD_KEEP fell below its reset threshold -/
  keep : Bool := false
  keepLost : Bool := false
  /-- a core rail crossed its reset threshold (R437) -/
  crossed : Bool := false
  /-- PERST# is asserted; it was asserted during the entry of a commanded Standby, which is then left at once (R442) -/
  perst : Bool := false
  leave : Bool := false
  /-- islands 33 and 45, or with `resetAll` every island but 32, 46 and 47, are held in reset until this instant (`up`; R441, Table PWR-8) -/
  resetUntil : Nat := 0
  resetAll : Bool := false
  deriving DecidableEq, Repr

/-! ### The device -/

/-- Everything of the block but the fault queue and the queue of commands. -/
structure Dev where
  /-- registers by the BAR0 address of their 64-bit word; an unlisted register holds its reset value -/
  regs : Sparse Word := []
  /-- the holding words of RC counters by the counter's address; listed = valid (R12) -/
  hold : Sparse Word := []
  /-- memory by device address (Table BEN-3); an unlisted octet reads 0 -/
  mem : List Host.Cell := []
  /-- addresses of 8-octet words that hold an uncorrectable error -/
  bad : List Nat := []
  /-- addresses of 8-octet words that hold a single-bit error not yet corrected -/
  soft : List Nat := []
  /-- data returned by the last read -/
  rdata : Word := 0
  /-- what the device sent to the outside, newest first -/
  out : List Out := []
  /-- free values used so far (the model's own field) -/
  free : Nat := 0
  /-- the accepted snapshot GO not yet captured: group, index (R22) -/
  snap : Option (Nat × Nat) := none
  tim : Tim := {}
  flt : Flt := {}
  hq : Hq := {}
  xlt : Xlt := {}
  cal : Cal := {}
  rng : Ring := {}
  str : Strm := {}
  mgmt : Mgmt := {}
  rxb : Rxb := {}
  fwd : Fwd := {}
  dma : Dma := {}
  sol : Sol := {}
  mbx : Mbx := {}
  pwr : Pwr := {}
  /-- ports by number -/
  ports : Sparse PortSt := []
  /-- the packet buffer: frames by their number, and the next number (the model's own) -/
  frames : Sparse Frame := []
  nextFrame : Nat := 1
  deriving DecidableEq, Repr

/-- Why the machine stops with a fault: a block has no stop of its own. -/
inductive Fault where
  /-- the command carries operands that no sender can form.  No meaning raises it: every command, such a one too, answers a next
  state.  Safe. -/
  | illFormed
  deriving DecidableEq, Repr

/-- Why the machine refuses a command. -/
inductive Refusal where
  /-- the command has no meaning yet; raised by the dispatch alone, and by no arm of it now.  Safe. -/
  | notModelled (mnemonic : String)
  deriving DecidableEq, Repr

/-- The machine: the device, the fault queue of 1,024 entries (message, compact arrival time; oldest first; R421), and the commands
that wait, first in, first out. -/
structure State where
  dev : Dev := {}
  fq : List (Word × Word) := []
  pending : List Instr := []
  deriving DecidableEq, Repr

/-- The machine right after power-on reset: every register at its reset value, memory with nothing listed, every engine idle. -/
def State.reset : State := {}

end Sys2Proof.Machine
end

