-- ==== Sys2Proof/Machine/Regs.lean ====
section
/-! DEFINITION. The register file: which register an address names, what it holds at reset (the Reset column of the field tables),
which island and which block own it (Table ARC-14), and reading and writing words and fields. -/

namespace Sys2Proof.Machine

/-! ### Which register an address names -/

/-- The indexes that turn an offset from a register's base into one of its copies, none where it is no copy. -/
def copyIdx : List (Nat × Nat) → Nat → Option (List Nat)
  | [], off => if off = 0 then some [] else none
  | (cnt, str) :: t, off =>
    if off / str < cnt then (copyIdx t (off % str)).map (fun l => off / str :: l) else none

/-- The indexes of the copy of register `r` at address `a`. -/
def RegDesc.idxAt (r : RegDesc) (a : Nat) : Option (List Nat) :=
  if a < r.base then none else copyIdx r.dims (a - r.base)

/-- The first register of a table that has a copy at `a`. -/
def findReg : List RegDesc → Nat → Option (RegDesc × List Nat)
  | [], _ => none
  | r :: t, a =>
    match r.idxAt a with
    | some l => some (r, l)
    | none => findReg t a

/-- The block code k of Table ARC-14 (R410) that owns a BAR0 address, none outside every block. -/
def blockOf (a : Nat) : Option Nat :=
  if a < 0x100000 then some 0
  else if a < 0x700000 then some (a / 0x100000)
  else if a < 0x1000000 then none
  else if a < 0x1240000 then some 7
  else if a < 0x1400000 then none
  else if a < 0x1640000 then some 8
  else if a < 0x1800000 then none
  else if a < 0x1A40000 then some 9
  else if a < 0x1C00000 then none
  else if a < 0x1D00000 then some 9
  else if a < 0x2000000 then none
  else if a < 0x2400000 then some 10
  else if a < 0x3000000 then none
  else if a < 0x3100000 then some 11
  else if a < 0x3200000 then some 12
  else if a < 0x3300000 then some 13
  else if a < 0x4000000 then none
  else if a < 0x4100000 then some 14
  else if a < 0x5000000 then none
  else if a < 0x5100000 then some 15
  else if a < 0x6000000 then none
  else if a < 0x6100000 then some 16
  else if a < 0x6200000 then some 17
  else if a < 0x7000000 then none
  else if a < 0x7100000 then some 18
  else if a < 0x7200000 then some 19
  else if a < 0x7300000 then some 20
  else if a < 0x7400000 then some 21
  else if a < 0x7500000 then some 22
  else none

/-- The field tables of a block. -/
def blockRegs : Nat → List RegDesc
  | 0 => RegTable.glbRegs
  | 1 => RegTable.timRegs
  | 2 => RegTable.calRegs
  | 3 => RegTable.preRegs
  | 4 => RegTable.strRegs
  | 5 => RegTable.rngRegs
  | 6 => RegTable.solRegs
  | 7 => RegTable.sdsRegs
  | 8 => RegTable.pcsRegs
  | 9 => RegTable.macRegs
  | 10 => RegTable.fwdRegs
  | 11 => RegTable.hqRegs
  | 12 => RegTable.dmaRegs
  | 13 => RegTable.xltRegs
  | 14 => RegTable.mbxRegs
  | 15 => RegTable.benRegs
  | 16 => RegTable.fltRegs
  | 17 => RegTable.jigRegs
  | 18 => RegTable.pwrRegs
  | 19 => RegTable.clkRegs
  | 20 => RegTable.rstRegs
  | 21 => RegTable.calbRegs
  | _ => RegTable.smonRegs

/-- The register whose 64-bit word lies at `a`, with its copy's indexes. -/
def regAt (a : Nat) : Option (RegDesc × List Nat) :=
  match blockOf a with
  | none => none
  | some k => findReg (blockRegs k) a

/-! ### Reset values -/

/-- The word the Reset column of a field table spells. -/
def fieldReset (l : List Fld) : Nat := l.foldl (fun n f => n + fld f.lo f.wid f.rst) 0

/-- Classes of Table FLT-3 that are not Note, as the severity table shows them at reset: word `j` of block `k`. -/
def sevReset : Nat → Nat → Nat
  | 0, 0 => 0x222220
  | 1, 1 => 0x10
  | 2, 1 => 0x202
  | 4, 1 => 0x2
  | 5, 1 => 0x110002
  | 10, 1 => 0x1000
  | 11, 1 => 0x1
  | 14, 1 => 0x1
  | 15, 1 => 0x1
  | 19, 1 => 0x1
  | 22, 1 => 0x1
  | _, _ => 0

/-- Nominal value, warning and reset threshold of a rail, mV (Table PWR-4). -/
def railMv (r : Nat) : Nat × Nat × Nat :=
  [(750, 720, 690), (850, 816, 782), (900, 864, 828), (1200, 1152, 1104), (900, 864, 828), (1200, 1152, 1104), (1100, 1056, 1012),
   (400, 384, 368), (1800, 1728, 1656), (1800, 1710, 1620)].getD r (0, 0, 0)

/-- Reset values that depend on the copy: the channel of an attachment, the owner of a mailbox, VLAN 1, the severity table, the fixed
fields of the ring ports, fields that edge or ring ports read as 0, and the fused thresholds of the rails. -/
def specialReset (a : Nat) : Option Nat :=
  if a = Reg.rngCtl 1 then some 8
  else if Reg.mbxStat 0 ≤ a ∧ a < Reg.mbxStat 16 ∧ (a - Reg.mbxStat 0) % 0x20 = 0 then
    some (fld 4 3 ((a - Reg.mbxStat 0) / 0x20 / 4))
  else if a = Reg.fwdVlan 1 then some (0xFFFFFFFFF + 2 ^ 36 + 2 ^ 37 + 2 ^ 38 + 2 ^ 63)
  else if Reg.fltSev 0 0 ≤ a ∧ a < Reg.fltSev 23 0 then
    some (sevReset ((a - Reg.fltSev 0 0) / 0x80) ((a - Reg.fltSev 0 0) % 0x80 / 8))
  else if a = Reg.sdsMode 32 ∨ a = Reg.sdsMode 33 ∨ a = Reg.sdsMode 34 ∨ a = Reg.sdsMode 35 then some 6
  else if a = Reg.pcsCfg 32 ∨ a = Reg.pcsCfg 33 ∨ a = Reg.pcsCfg 34 ∨ a = Reg.pcsCfg 35 then
    some (3 + 2 ^ 2 + fld 16 16 100 + fld 32 16 10)
  else if a = Reg.macCfg 32 ∨ a = Reg.macCfg 33 ∨ a = Reg.macCfg 34 ∨ a = Reg.macCfg 35 then
    some (2 ^ 3 + fld 16 14 9262)
  else if Reg.timPortCfg 32 ≤ a ∧ a < Reg.timPortCfg 36 ∧ (a - Reg.timPortCfg 0) % 0x20 = 0 then some 0
  else if Reg.fwdPortCfg 0 ≤ a ∧ a < Reg.fwdPortCfg 32 then some 3
  else if Reg.smonRail 0 ≤ a ∧ a < Reg.smonRail 10 then
    let m := railMv ((a - Reg.smonRail 0) / 8)
    some (fld 0 16 m.1 + fld 16 16 m.2.1 + fld 32 16 m.2.2)
  else none

/-- What the 64-bit register word at `a` holds at power-on reset; 0 where no register lies there. -/
def resetOf (a : Nat) : Word :=
  match specialReset a with
  | some n => BitVec.ofNat 64 n
  | none =>
    match regAt a with
    | some (r, _) => BitVec.ofNat 64 (fieldReset r.flds)
    | none => 0

/-! ### Islands (Table ARC-14, ARC-16, R16) -/

/-- The slice of a port (Table ARC-16). -/
def sliceOf (p : Nat) : Nat := if p < 32 then p / 8 else p - 32

/-- The transmit MAC island of an edge port, the ring PCS island of a ring port (R268). -/
def txIsland (p : Nat) : Nat := if p < 32 then 4 * (p / 8) + 1 else 16 + (p - 32)

/-- The receive MAC island of an edge port, the ring PCS island of a ring port. -/
def rxIsland (p : Nat) : Nat := if p < 32 then 4 * (p / 8) else 16 + (p - 32)

/-- The SerDes island of a port (Table ARC-16). -/
def sdsIsland (p : Nat) : Nat := if p < 32 then 20 + p / 4 else 28 + (p - 32)

/-- The calendar island of a slice. -/
def calIsland (s : Nat) : Nat := 4 * s + 3

/-- The forwarding island of a slice. -/
def fwdIsland (s : Nat) : Nat := 4 * s + 2

/-! ### Reading and writing the register file -/

/-- The 64-bit register word at `a`. -/
def Dev.rd (d : Dev) (a : Nat) : Word := Sparse.getD d.regs a (resetOf a)

/-- The device with the register word at `a` replaced; a register back at its reset value is not listed. -/
def Dev.wr (d : Dev) (a : Nat) (v : Word) : Dev := { d with regs := Sparse.setD d.regs a (resetOf a) v }

/-- A field of the register at `a`. -/
def Dev.gf (d : Dev) (a lo w : Nat) : Nat := getF (d.rd a) lo w

/-- One bit of the register at `a`. -/
def Dev.gb (d : Dev) (a i : Nat) : Bool := getB (d.rd a) i

/-- The device with one field of a register replaced. -/
def Dev.sf (d : Dev) (a lo w v : Nat) : Dev := d.wr a (setF (d.rd a) lo w v)

/-- The device with one bit of a register set or cleared. -/
def Dev.sb (d : Dev) (a i : Nat) (b : Bool) : Dev := d.wr a (setB (d.rd a) i b)

/-- The registers at addresses in `lo`–`hi` back at their reset values, their holding words invalid. -/
def Dev.clearRegs (d : Dev) (lo hi : Nat) : Dev :=
  { d with regs := d.regs.filter (fun e => e.1 < lo || hi ≤ e.1), hold := d.hold.filter (fun e => e.1 < lo || hi ≤ e.1) }

/-! ### Islands that hold registers -/

/-- Island `i` is in a hot reset or a device reset that still runs (R441, Table PWR-8). -/
def Dev.inReset (d : Dev) (i : Nat) : Bool :=
  decide (d.tim.up < d.pwr.resetUntil) && (i == 33 || i == 45 || (d.pwr.resetAll && i != 32 && i != 46 && i != 47))

/-- The island serves its units: powered and clocked, not fenced (R17, Table ARC-10), and not held in reset by PERST#, a hot or a device reset
(R441), by Keep (R438) or by a Halt (R417). -/
def Dev.islandOk (d : Dev) (i : Nat) : Bool :=
  getB (d.rd Reg.glbIslandUp) i && !(getB (d.rd Reg.glbIslandFenced) i)
  && !(d.pwr.perst && (i == 32 || i == 33 || i == 45)) && !(d.inReset i) && (i == 47 || !d.pwr.keep)
  && (i == 32 || i == 33 || i == 47 || !(getB (d.rd Reg.rstHaltStat) 1))

/-- The island is fenced. -/
def Dev.fenced (d : Dev) (i : Nat) : Bool := getB (d.rd Reg.glbIslandFenced) i

/-- The first island of a list that is up and not fenced, the first of all where none is (R97, R161, R208, R307, R408). -/
def Dev.firstOk (d : Dev) (l : List Nat) : Nat := (l.find? d.islandOk).getD (l.headD 0)

/-- The island that owns the register at BAR0 address `a` (Table ARC-14, R97, R161, R163, R208, R268, R269, R307, R408, R447).  DESIGN CHOICE:
an offset outside the blocks, or outside every instance of a block, counts as the hub's own, island 33, and reads 0 (log entry 152). -/
def Dev.islandOf (d : Dev) (a : Nat) : Nat :=
  match blockOf a with
  | none => 33
  | some 0 => 33
  | some 1 => 46
  | some 2 =>
    if a < 0x201000 then d.firstOk [3, 7, 11, 15]
    else if a < 0x202000 then (if (a - 0x201000) % 0x200 / 8 < 36 ∧ a < 0x201800 then calIsland (sliceOf ((a - 0x201000) % 0x200 / 8)) else 33)
    else if a < 0x202000 + 36 * 0x40 then calIsland (sliceOf ((a - 0x202000) / 0x40)) else 33
  | some 3 => if a < 0x300000 + 36 * 0x100 then txIsland ((a - 0x300000) / 0x100) else 33
  | some 4 => d.firstOk [3, 7, 11, 15]
  | some 5 =>
    if a < 0x500100 then d.firstOk [16, 17, 18, 19]
    else if a < 0x500300 then d.firstOk [16 + 2 * ((a - 0x500100) / 0x100), 17 + 2 * ((a - 0x500100) / 0x100)]
    else if 0x501000 ≤ a ∧ a < 0x501400 then 16 + (a - 0x501000) / 0x100 else 33
  | some 6 => 44
  | some 7 => sdsIsland ((a - 0x1000000) / 0x10000)
  | some 8 => txIsland ((a - 0x1400000) / 0x10000)
  | some 9 => if a < 0x1C00000 then txIsland ((a - 0x1800000) / 0x10000) else 44
  | some 10 =>
    if a < 0x2002000 ∧ a ≠ Reg.fwdStat 0 ∨ (0x2080000 ≤ a ∧ a < 0x2090000) then d.firstOk [2, 6, 10, 14]
    else fwdIsland ((a - 0x2000000) / 0x100000)
  | some 11 => 33
  | some 12 => 45
  | some 13 => 45
  | some 14 => 44
  | some 15 => d.firstOk [36, 37, 38, 39, 40, 41, 42, 43]
  | some 20 => if a = 0x7208000 ∨ a = 0x7208008 ∨ a = 0x7208010 ∨ a = Reg.rstCause then 47 else 44
  | some 22 => 47
  | some _ => 44

/-! ### Counters -/

/-- A 64-bit counter advanced by `n`; it wraps at 2^64 (R10, Table SCO-6). -/
def Dev.addCnt (d : Dev) (a n : Nat) : Dev := d.wr a (BitVec.ofNat 64 ((d.rd a).toNat + n))

/-- A counter advanced by one. -/
def Dev.inc (d : Dev) (a : Nat) : Dev := d.addCnt a 1

end Sys2Proof.Machine
end

