-- ==== Sys2Proof/Machine/Ops.lean ====
section
/-! DEFINITION. The named operations that the meanings of every family share: memory, outside outputs, free values, raising a fault
message, local time and its advance, failed and refused register accesses (R17, R24, R27, R28). -/

namespace Sys2Proof.Machine

/-- The outcome of a command that changes the device alone. -/
def onDev (f : Dev → Dev) (s : State) : Host.Outcome State Fault Refusal := .next { s with dev := f s.dev }

/-! ### Memory (device addresses of Table BEN-3) -/

/-- The octet at device address `a`; an octet that nothing wrote reads 0 (Table PWR-10: zeroed at power-on). -/
def Dev.ldB (d : Dev) (a : Nat) : Byte := Sparse.getD d.mem a 0

/-- One octet written. -/
def Dev.stB (d : Dev) (a : Nat) (b : Byte) : Dev := { d with mem := Sparse.setD d.mem a 0 b }

/-- The `n` octets from `a` upward. -/
def Dev.ldN (d : Dev) (a : Nat) : Nat → List Byte
  | 0 => []
  | n + 1 => d.ldB a :: Dev.ldN d (a + 1) n

/-- Memory with octets written from `a` upward. -/
def putOctets (m : List Host.Cell) (a : Nat) : List Byte → List Host.Cell
  | [] => m
  | b :: t => putOctets (Sparse.setD m a 0 b) (a + 1) t

/-- Octets written from `a` upward. -/
def Dev.stN (d : Dev) (a : Nat) (l : List Byte) : Dev := { d with mem := putOctets d.mem a l }

/-- The little-endian 64-bit word at `a` (R8). -/
def Dev.ldW (d : Dev) (a : Nat) : Word := BitVec.ofNat 64 (leNat (d.ldN a 8))

/-- A 64-bit word written little-endian at `a` (R8).  A write makes the word's error check good again. -/
def Dev.stW (d : Dev) (a : Nat) (v : Word) : Dev :=
  { d with mem := putOctets d.mem a (leBytes 8 v.toNat), bad := d.bad.filter (· != a), soft := d.soft.filter (· != a) }

/-- Words written upward from `a`, 8 octets apart. -/
def Dev.stWs (d : Dev) (a : Nat) : List Word → Dev
  | [] => d
  | v :: t => Dev.stWs (d.stW a v) (a + 8) t

/-- The `n` words from `a` upward. -/
def Dev.ldWs (d : Dev) (a : Nat) : Nat → List Word
  | 0 => []
  | n + 1 => d.ldW a :: Dev.ldWs d (a + 8) n

/-- The words in `lo`–`hi` forgotten: they read 0 again. -/
def Dev.clearMem (d : Dev) (lo hi : Nat) : Dev :=
  { d with mem := d.mem.filter (fun c => c.1 < lo || hi ≤ c.1), bad := d.bad.filter (fun a => a < lo || hi ≤ a)
           soft := d.soft.filter (fun a => a < lo || hi ≤ a) }

/-- Does the word at `a` hold an uncorrectable error? -/
def Dev.isBad (d : Dev) (a : Nat) : Bool := d.bad.contains a

/-- The device address of a BAR4 offset (Table ARC-15, BEN-3, BEN-4): the main forwarding table lies in HBM, everything else in the
BAR4 image. -/
def bar4Addr (off : Nat) : Nat := if 0x20000000 ≤ off then off - 0x20000000 else 0x1040000000 + off

/-- Base of the BAR0 image (Table BEN-3). -/
def bar0Image : Nat := 0x1000000000

/-! ### Outside, free values -/

/-- Something sent to the outside. -/
def Dev.emit (d : Dev) (o : Out) : Dev := { d with out := o :: d.out }

/-- One free value used up. -/
def Dev.useFree (d : Dev) : Dev := { d with free := d.free + 1 }

/-! ### Fault messages (R409, R410) -/

/-- SOURCE of block code `k` and unit `u` (R410). -/
def srcCode (k u : Nat) : Nat := if k < 15 then k * 256 + u % 256 else 0xF00 + (k - 15) * 32 + u % 32

/-- A fault message sent to the collector (R409): block code, unit, KIND, ADDRESS. -/
def Dev.raise (d : Dev) (k u kind addr : Nat) : Dev :=
  { d with flt := { d.flt with wire := d.flt.wire ++ [⟨d.tim.up, srcCode k u, kind, addr % 2 ^ 40, false⟩] } }

/-! ### Halt -/

/-- The device is in Halt (R417). -/
def Dev.halted (d : Dev) : Bool := d.gb Reg.rstHaltStat 1

/-! ### Local time (R31, R32, R34, R35) -/

/-- One nanosecond in the unit of the time base, 2^-48 ns. -/
def nsU : Nat := 2 ^ 48

/-- One second in 2^-48 ns. -/
def secU : Nat := 1000000000 * 2 ^ 48

/-- One microsecond in 2^-48 ns. -/
def usU : Nat := 1000 * 2 ^ 48

/-- One millisecond in 2^-48 ns. -/
def msU : Nat := 1000000 * 2 ^ 48

/-- Local time in 2^-48 ns since the epoch. -/
def Tim.now (t : Tim) : Nat := t.sec * secU + t.sub

/-- Local time of the device. -/
def Dev.now (d : Dev) : Nat := d.tim.now

/-- The time base set to a local time; SEC wraps at 2^48 (R31). -/
def Tim.setNow (t : Tim) (x : Nat) : Tim := { t with sec := x / secU % 2 ^ 48, sub := x % secU }

/-- The compact timestamp of a local time (R34). -/
def compact (x : Nat) : Word :=
  BitVec.ofNat 64 (fld 48 16 (x / secU) + fld 16 32 (x % secU / nsU) + fld 0 16 (x % nsU / 2 ^ 32))

/-- A captured instant: a multiple of 250 ps (R35). -/
def stampOf (x : Nat) : Nat := x - x % 2 ^ 46

/-- The two words of snapshot groups 0 to 2 (Table ARC-7). -/
def timeWords (x : Nat) : List Word :=
  [BitVec.ofNat 64 (x / secU % 2 ^ 48), BitVec.ofNat 64 (fld 16 32 (x % secU / nsU) + fld 0 16 (x % nsU / 2 ^ 32))]

/-- The limit of the effective rate: 500 ppm in 2^-48 (R32, R37). -/
def rateLim : Int := 140737488355

/-- `TIM_RATE.RATE` as a signed number. -/
def Dev.rate (d : Dev) : Int := toSigned 40 (d.gf Reg.timRate 0 40)

/-- What the slew adds to the rate, in 2^-48 (R38): SLEW_PPM, reduced where rate and slew together would pass the clamp. -/
def Dev.slewRate (d : Dev) : Int :=
  let u : Int := (d.gf Reg.timServoCfg 24 8 * 2 ^ 48 / 1000000 : Nat)
  if d.tim.slew = 0 then 0
  else if 0 < d.tim.slew then (if d.rate + u > rateLim then (if rateLim - d.rate < 0 then 0 else rateLim - d.rate) else u)
  else -(if d.rate - u < -rateLim then (if d.rate + rateLim < 0 then 0 else d.rate + rateLim) else u)

/-- What `n` clocks of island 46 move by slewing: the slew's share, at most its remainder. -/
def Dev.slewMove (d : Dev) (n : Nat) : Int :=
  if d.tim.slew.natAbs ≤ n * d.slewRate.natAbs then d.tim.slew else n * d.slewRate

/-- `n` clocks of island 46 (R32): each adds 1 ns × (1 + r). -/
def Dev.clocks (d : Dev) (n : Nat) : Dev :=
  let base : Int := n * ((2 ^ 48 : Nat) + clampI (-rateLim) rateLim d.rate)
  let mv := d.slewMove n
  let adv := (base + mv).toNat
  let t : Tim := { d.tim.setNow (d.tim.now + adv) with up := d.tim.up + adv, slew := d.tim.slew - mv }
  let d1 := { d with tim := t }
  if d.tim.slew ≠ 0 ∧ t.slew = 0 then d1.sb Reg.timStat 6 false else d1

/-- Clocks until the slew in progress has moved by its remainder; none where it never does. -/
def Dev.slewClocks (d : Dev) : Option Nat :=
  if d.tim.slew = 0 then some 0
  else if d.slewRate = 0 then none
  else some ((d.tim.slew.natAbs + d.slewRate.natAbs - 1) / d.slewRate.natAbs)

/-- The least number of clocks in which local time moves by at least `x`. -/
def Dev.clocksFor (d : Dev) (x : Nat) : Nat :=
  let r0 : Nat := ((2 ^ 48 : Nat) + clampI (-rateLim) rateLim d.rate).toNat
  let r1 : Nat := (((2 ^ 48 : Nat) : Int) + clampI (-rateLim) rateLim d.rate + d.slewRate).toNat
  match d.slewClocks with
  | none => (x + r0 - 1) / r0
  | some m =>
    let whole : Int := m * r0 + d.tim.slew
    if x ≤ (m - 1) * r1 then (x + r1 - 1) / r1
    else if (x : Int) ≤ whole then m
    else m + (x - whole.toNat + r0 - 1) / r0

/-- Time passes until the elapsed count reaches `t`; nothing happens where it already has. -/
def Dev.waitUp (d : Dev) (t : Nat) : Dev := if t ≤ d.tim.up then d else d.clocks (d.clocksFor (t - d.tim.up))

/-- Time passes until local time reaches `x`; nothing happens where it already has. -/
def Dev.waitLocal (d : Dev) (x : Nat) : Dev := if x ≤ d.now then d else d.clocks (d.clocksFor (x - d.now))

/-! ### Register accesses that fail or are refused -/

/-- REQ of Table ARC-11. -/
def reqCode : Req → Nat
  | .pf n => n.val
  | .bench => 4
  | .joiner => 5

/-- Bits 42:0 of `GLB_ACC_ERR` for a failed access. -/
def accRecord (r : Req) (bar4 write : Bool) (off kind isl : Nat) : Nat :=
  fld 0 30 off + fld 30 1 (bit write) + fld 31 1 (bit bar4) + fld 32 2 kind + fld 34 3 (reqCode r) + fld 37 6 isl

/-- A failed access (R24): recorded where no record is held, counted, reported as `GLB_` kind 0x10, whose ADDRESS is of this access even where an
earlier record is held (log entry 153). -/
def Dev.accFail (d : Dev) (r : Req) (bar4 write : Bool) (off kind isl : Nat) : Dev :=
  let rec_ := accRecord r bar4 write off kind isl
  let d1 := if d.gb Reg.glbAccErr 63 then d else d.wr Reg.glbAccErr (BitVec.ofNat 64 (rec_ + 2 ^ 63))
  (d1.inc Reg.glbAccErrCnt).raise 0 isl 0x10 (rec_ % 2 ^ 37)

/-- A write refused for want of the unlock (R27, R28, R341): dropped, counted, reported as `GLB_` kind 0x11. -/
def Dev.lockRefuse (d : Dev) (off isl : Nat) : Dev := (d.inc Reg.glbLockWrCnt).raise 0 isl 0x11 off

/-- Block `k` is unlocked and `r` is its holder (R27, R383); the Joiner firmware is not bound by unlocks. -/
def Dev.unlockedBy (d : Dev) (k : Nat) (r : Req) : Bool :=
  match r with
  | .joiner => true
  | _ => getB (d.rd Reg.mbxUnlock) k && (d.gf (Reg.mbxLease k) 0 3 == reqCode r)

/-- Writes that need no unlock (R27, R341, R401): the snapshot and error registers, the mailboxes, a function's own admin registers, and
for the Bench its timer, interrupt and admin registers. -/
def unlockFree (r : Req) (a : Nat) : Bool :=
  a == Reg.glbSnapCtl || a == Reg.glbSnapStat || a == Reg.glbAccErr
  || (Reg.mbxCfg 0 - 0x10000 ≤ a && a < 0x4100000)
  || (match r with
      | .pf n => Reg.hqAqSqBase n.val ≤ a && a < Reg.hqAqSqBase n.val + 0x100
      | .bench => (Reg.benAqSqBase ≤ a && a ≤ Reg.benAqDb) || (0x5001000 ≤ a && a < 0x5001800)
      | .joiner => true)

/-- `a` is an admin register of another PF than `r`: no unlock of `HQ_` opens it (R341). -/
def foreignAdmin (r : Req) (a : Nat) : Bool :=
  match r with
  | .pf n => Reg.hqAqSqBase 0 ≤ a && a < Reg.hqAqSqBase 4 && !(Reg.hqAqSqBase n.val ≤ a && a < Reg.hqAqSqBase n.val + 0x100)
  | _ => false

/-- A write to a register may take effect (R27, R341). -/
def Dev.mayWrite (d : Dev) (r : Req) (a : Nat) : Bool :=
  !(foreignAdmin r a) && (unlockFree r a || (match blockOf a with | some k => d.unlockedBy k r | none => true))

/-- During a Halt only `GLB_` and the halt record answer (R417). -/
def haltReadable (a : Nat) : Bool := a < 0x100000 || a == Reg.rstHaltMsg || a == Reg.rstHaltTime || a == Reg.rstHaltStat

/-- The access cannot reach its register now (R17, R417). -/
def Dev.unreachable (d : Dev) (a : Nat) : Bool := !(d.islandOk (d.islandOf a)) || (d.halted && !(haltReadable a))

/-- A software write of a BAR0 register: it ends at once at an island that is down or fenced (R17), is refused without the unlock (R27),
and otherwise has the effect `f`. -/
def Dev.gate (d : Dev) (r : Req) (a : Nat) (f : Dev → Dev) : Dev :=
  if d.unreachable a then d.accFail r false true a 2 (d.islandOf a)
  else if d.mayWrite r a then f d
  else d.lockRefuse a (d.islandOf a)

end Sys2Proof.Machine
end

