-- ==== Sys2Proof/Machine/Access.lean ====
section
/-! DEFINITION. What a permitted software write does to one register by its field table (Table SCO-6, R11, R63 and the range rule of
each block): out-of-range values, clamps, write-one-to-clear, and where each block shows an ignored write. -/

namespace Sys2Proof.Machine

/-- Is the value of a written field in range, where a value out of range makes the write ignored? -/
def Fld.inRange (f : Fld) (v : Word) : Bool :=
  match f.acc, f.rng with
  | .rw, .within lo hi => decide (lo ≤ getF v f.lo f.wid ∧ getF v f.lo f.wid ≤ hi)
  | _, _ => true

/-- The value a field stores of what was written: clamped where its Meaning states a clamp. -/
def Fld.stored (f : Fld) (v : Word) : Nat :=
  match f.rng with
  | .clamp lo hi => clampN lo hi (getF v f.lo f.wid)
  | .clampS lo hi => ofSigned f.wid (clampI lo hi (toSigned f.wid (getF v f.lo f.wid)))
  | _ => getF v f.lo f.wid

/-- One field after a write of `v` over the stored word `x` (Table SCO-6). -/
def Fld.write (f : Fld) (v x : Word) : Word :=
  match f.acc with
  | .rw => setF x f.lo f.wid (f.stored v)
  | .w1c => setF x f.lo f.wid (getF x f.lo f.wid &&& (2 ^ f.wid - 1 - getF v f.lo f.wid))
  | .w1s => setF x f.lo f.wid (getF x f.lo f.wid ||| getF v f.lo f.wid)
  | .ro => x
  | .rc => x
  | .wo => x

/-- A register word after a write of `v` (Table SCO-6). -/
def writeFlds (l : List Fld) (v x : Word) : Word := l.foldl (fun y f => f.write v y) x

/-- Every written field is in range. -/
def fldsOk (l : List Fld) (v : Word) : Bool := l.all (fun f => f.inRange v)

/-- The bit that shows an ignored write (CFG_ERR, REF) of the block that owns `a`: its register and bit (R63, R97, R127, R161, R208,
R230, R269, R307, R341, R371, R392, R408, R427, R447). -/
def cfgErrAt (a : Nat) : Option (Nat × Nat) :=
  match blockOf a with
  | some 1 => some (Reg.timStat, 5)
  | some 3 => some (Reg.prePortStat ((a - 0x300000) / 0x100), 14)
  | some 4 => some (Reg.strStat, 5)
  | some 5 =>
    some (Reg.rngStat (if 0x500200 ≤ a ∧ a < 0x500300 then 1 else if 0x501200 ≤ a then 1 else 0), 7)
  | some 6 => some (Reg.solStat, 14)
  | some 7 => some (Reg.pcsStat ((a - 0x1000000) / 0x10000), 13)
  | some 8 => some (Reg.pcsStat ((a - 0x1400000) / 0x10000), 13)
  | some 9 =>
    if a < 0x1C00000 then some (Reg.macStat ((a - 0x1800000) / 0x10000), 4)
    else if a < 0x1C00100 then some (Reg.macMdioStat ((a - 0x1C00000) / 0x20), 20)
    else some (Reg.macSmbStat ((a - 0x1C00100) / 0x40), 7)
  | some 10 => if Reg.fwdTsqCtl ≤ a ∧ a < Reg.fwdTsqAddr 8 then some (Reg.fwdTsqStat, 3) else
      some (Reg.fwdStat ((a - 0x2000000) / 0x100000), 1)
  | some 11 => if Reg.hqAqSqBase 0 ≤ a ∧ a < Reg.hqAqSqBase 4 then some (Reg.hqAqStat ((a - Reg.hqAqSqBase 0) / 0x100), 1) else
      some (Reg.hqStat, 0)
  | some 13 => some (Reg.xltStat, 4)
  | some 14 => if Reg.mbxCfg 0 ≤ a ∧ a < Reg.mbxCfg 16 then some (Reg.mbxStat ((a - Reg.mbxCfg 0) / 0x20), 7) else none
  | some 15 => if Reg.benAqSqBase ≤ a ∧ a ≤ Reg.benAqDb then some (Reg.benAqStat, 1) else some (Reg.benStat, 0)
  | some 16 => some (Reg.fltStat, 6)
  | some 17 => some (Reg.jigStat, 1)
  | some 21 => some (Reg.calbStat, 8)
  | _ => none

/-- An ignored write is shown in the block's status (CFG_ERR).  `CAL_` and `DMA_` show REF and REF_CODE instead (R97, R371). -/
def Dev.cfgErr (d : Dev) (a : Nat) : Dev :=
  match cfgErrAt a with
  | some (r, i) => d.sb r i true
  | none => d

/-- A refused calendar command or write: REF and its code (R97). -/
def Dev.calRef (d : Dev) (code : Nat) : Dev := (d.sb Reg.calStat 2 true).sf Reg.calStat 4 4 code

/-- A refused command or write of a DMA channel: REF and its code (R371). -/
def Dev.dmaRef (d : Dev) (c code : Nat) : Dev := (d.sb (Reg.dmaChStat c) 4 true).sf (Reg.dmaChStat c) 5 3 code

/-- A refused power request: REF and its code (R431). -/
def Dev.pwrRef (d : Dev) (code : Nat) : Dev := (d.sb Reg.pwrStat 4 true).sf Reg.pwrStat 5 3 code

/-- A write ignored for a value out of range, shown as its block shows it. -/
def Dev.outOfRange (d : Dev) (a : Nat) : Dev :=
  match blockOf a with
  | some 2 => d.calRef 7
  | some 12 => if 0x3101000 ≤ a then d.dmaRef ((a - 0x3101000) / 0x100) 4 else d
  | some 18 => d.pwrRef 5
  | _ => d.cfgErr a

/-- A permitted write of `v` to the register at `a` by its field table alone: ignored as a whole where a field is out of range. -/
def Dev.wrReg (d : Dev) (a : Nat) (v : Word) : Dev :=
  match regAt a with
  | none => d
  | some (r, _) => if fldsOk r.flds v then d.wr a (writeFlds r.flds v (d.rd a)) else d.outOfRange a

/-- Would a write of `v` to the register at `a` be in range? -/
def inRangeAt (a : Nat) (v : Word) : Bool :=
  match regAt a with
  | none => true
  | some (r, _) => fldsOk r.flds v

end Sys2Proof.Machine
end

