-- ==== Sys2Proof/Machine/Frames.lean ====
section
/-! DEFINITION. Octets of frames: CRC-32, FCS and check values (R105), addresses, tags, EtherType, and the tag actions of egress
(Tables STR-6, STR-7, R144, R247, R249, R254, R256). -/

namespace Sys2Proof.Machine

/-! ### CRC-32 (R105, IEEE 802.3) -/

/-- One bit step of the reflected CRC-32. -/
def crcStep (c : Nat) : Nat := if c % 2 = 1 then (c / 2) ^^^ 0xEDB88320 else c / 2

/-- One octet taken into the CRC. -/
def crcByte (c : Nat) (b : Byte) : Nat :=
  crcStep (crcStep (crcStep (crcStep (crcStep (crcStep (crcStep (crcStep (c ^^^ b.toNat))))))))

/-- CRC-32 of octets. -/
def crc32 (l : List Byte) : Nat := l.foldl crcByte 0xFFFFFFFF ^^^ 0xFFFFFFFF

/-- The four octets of a valid FCS at the end of `l`, in the order sent. -/
def fcsOf (l : List Byte) : List Byte := leBytes 4 (crc32 l)

/-- The mCRC: F XOR 0x0000_FFFF, which inverts the two octets sent last. -/
def mcrcOf (l : List Byte) : List Byte := leBytes 4 (crc32 l ^^^ 0xFFFF0000)

/-- The stomp: F XOR 0xFFFF_FFFF. -/
def stompOf (l : List Byte) : List Byte := leBytes 4 (crc32 l ^^^ 0xFFFFFFFF)

/-- A received frame without its FCS. -/
def body (l : List Byte) : List Byte := l.take (l.length - 4)

/-- The received frame ends with a good FCS. -/
def fcsGood (l : List Byte) : Bool := l.drop (l.length - 4) == fcsOf (body l)

/-! ### Fields -/

/-- Two octets at `o`, most significant first. -/
def be16 (l : List Byte) (o : Nat) : Nat := beNat ((l.drop o).take 2)

/-- The destination address as a 48-bit number, first octet highest. -/
def daOf (l : List Byte) : Nat := beNat (l.take 6)

/-- The source address. -/
def saOf (l : List Byte) : Nat := beNat ((l.drop 6).take 6)

/-- The I/G bit of an address. -/
def isGroup (a : Nat) : Bool := a.testBit 40

/-- The broadcast address. -/
def bcastAddr : Nat := 0xFFFFFFFFFFFF

/-! ### Tags (R144, R247) -/

/-- A tag after the source address. -/
inductive Tag where
  | vlan (ofs tpid tci : Nat)
  | rtag (ofs seq : Nat)
  deriving DecidableEq, Repr

/-- A VLAN tag stands at `o`. -/
def isVlan (svlan : Bool) (l : List Byte) (o : Nat) : Bool :=
  be16 l o == 0x8100 || (svlan && be16 l o == 0x88A8)

/-- The tags of a frame from offset `o` on: at most `v` VLAN tags and one R-TAG, up to the first position that holds neither. -/
def tagsAt (svlan rtag : Bool) (l : List Byte) : Nat → Nat → Bool → List Tag
  | 0, _, _ => []
  | n + 1, o, seen =>
    if isVlan svlan l o && decide (1 ≤ n) then .vlan o (be16 l o) (be16 l (o + 2)) :: tagsAt svlan rtag l n (o + 4) seen
    else if rtag && !seen && be16 l o == 0xF1C1 then .rtag o (be16 l (o + 4)) :: tagsAt svlan rtag l n (o + 6) true
    else []

/-- The recognised tags of a frame: VLAN tags at the first two tag positions, an R-TAG at any of the first three (R144, R247). -/
def tagsOf (svlan rtag : Bool) (l : List Byte) : List Tag := tagsAt svlan rtag l 3 12 false

/-- Octets a tag takes. -/
def Tag.len : Tag → Nat
  | .vlan _ _ _ => 4
  | .rtag _ _ => 6

/-- The sequence number of the R-TAG, where there is one. -/
def rtagSeq (ts : List Tag) : Option Nat :=
  ts.findSome? (fun t => match t with | .rtag _ q => some q | .vlan _ _ _ => none)

/-- Offset of the R-TAG, where there is one. -/
def rtagOfs (ts : List Tag) : Option Nat :=
  ts.findSome? (fun t => match t with | .rtag o _ => some o | .vlan _ _ _ => none)

/-- The outer VLAN tag: offset and TCI. -/
def outerVlan (ts : List Tag) : Option (Nat × Nat) :=
  ts.findSome? (fun t => match t with | .vlan o _ c => some (o, c) | .rtag _ _ => none)

/-- Offset just after the last VLAN tag, 12 where there is none (R146). -/
def afterVlans (ts : List Tag) : Nat :=
  ts.foldl (fun o t => match t with | .vlan p _ _ => max o (p + 4) | .rtag _ _ => o) 12

/-- Offset just after all recognised tags. -/
def afterTags (ts : List Tag) : Nat := 12 + (ts.map Tag.len).sum

/-- The EtherType after the recognised tags. -/
def etherType (ts : List Tag) (l : List Byte) : Nat := be16 l (afterTags ts)

/-! ### Rewriting tags (Table STR-7) -/

/-- `n` octets at `o` removed. -/
def cutAtOfs (l : List Byte) (o n : Nat) : List Byte := l.take o ++ l.drop (o + n)

/-- Octets inserted at `o`. -/
def insertAt (l : List Byte) (o : Nat) (x : List Byte) : List Byte := l.take o ++ x ++ l.drop o

/-- Octets at `o` overwritten. -/
def overwriteAt (l : List Byte) (o : Nat) (x : List Byte) : List Byte := l.take o ++ x ++ l.drop (o + x.length)

/-- An R-TAG with a sequence number (Table STR-6). -/
def rtagOctets (q : Nat) : List Byte := beBytes 2 0xF1C1 ++ [0, 0] ++ beBytes 2 q

/-- A TCI of PCP, DEI and VID. -/
def tciOf (pcp dei vid : Nat) : Nat := fld 13 3 pcp + fld 12 1 dei + fld 0 12 vid

/-- VLAN_MODE applied (Table STR-7); `rt`: an R-TAG is recognised in the frame. -/
def vlanAction (rt : Bool) (mode tci : Nat) (l : List Byte) : List Byte :=
  match mode, outerVlan (tagsOf true rt l) with
  | 1, some (o, _) => overwriteAt l (o + 2) (beBytes 2 tci)
  | 1, none => insertAt l 12 (beBytes 2 0x8100 ++ beBytes 2 tci)
  | 2, some (o, _) => cutAtOfs l o 4
  | _, _ => l

/-- RTAG_MODE applied with the frame's number (Table STR-7): a tagless frame of a stream without generation has no number. -/
def rtagAction (rt : Bool) (mode : Nat) (seq : Option Nat) (l : List Byte) : List Byte :=
  let ts := tagsOf true rt l
  match mode, rtagOfs ts, seq with
  | 1, some o, some q => overwriteAt l (o + 4) (beBytes 2 q)
  | 1, none, some q => insertAt l (afterVlans ts) (rtagOctets q)
  | 2, some o, _ => cutAtOfs l o 6
  | _, _, _ => l

/-- Octets of 0x00 up to 60 before the FCS (R249). -/
def padTo60 (l : List Byte) : List Byte := l ++ List.replicate (60 - l.length) 0

/-- The frame without its R-TAG (ring egress, R146). -/
def dropRtag (rt : Bool) (l : List Byte) : List Byte :=
  match rtagOfs (tagsOf true rt l) with
  | some o => cutAtOfs l o 6
  | none => l

/-- The size bin of R271. -/
def sizeBin (n : Nat) : Nat :=
  if n ≤ 64 then 0 else if n ≤ 127 then 1 else if n ≤ 255 then 2 else if n ≤ 511 then 3 else if n ≤ 1023 then 4
  else if n ≤ 1518 then 5 else 6

/-! ### The packet buffer -/

/-- The frame with number `i`. -/
def Dev.frame (d : Dev) (i : Nat) : Option Frame := Sparse.find d.frames i

/-- A frame put in the packet buffer under a new number. -/
def Dev.newFrame (d : Dev) (f : Frame) : Nat × Dev :=
  (d.nextFrame, { d with frames := Sparse.put d.frames d.nextFrame f, nextFrame := d.nextFrame + 1 })

/-- A stored frame changed. -/
def Dev.setFrame (d : Dev) (i : Nat) (f : Frame) : Dev := { d with frames := Sparse.put d.frames i f }

/-- The length of a frame with its FCS. -/
def Frame.len (f : Frame) : Nat := if f.ready then f.octets.length + 4 else f.total

/-- Octets held for frames received on port `p` (R264). -/
def Dev.heldFor (d : Dev) (p : Nat) : Nat := (d.frames.map (fun e => if e.2.rx = some p then e.2.len else 0)).sum

/-- Octets held in packet buffer bank `b`. -/
def Dev.bankUsed (d : Dev) (b : Nat) : Nat := (d.frames.map (fun e => if e.2.bank = b then e.2.len else 0)).sum

/-! ### Ports -/

/-- The state of port `p` beyond its registers. -/
def Dev.port (d : Dev) (p : Nat) : PortSt := Sparse.getD d.ports p {}

/-- The state of a port replaced. -/
def Dev.setPort (d : Dev) (p : Nat) (x : PortSt) : Dev := { d with ports := Sparse.setD d.ports p {} x }

/-- R261: a PAUSE frame is owed where the octets held for the port rose above XOFF_KIB, or fell to XON_KIB. -/
def Dev.pauseCheck (d : Dev) (p : Nat) : Dev :=
  let held := d.heldFor p
  let xoff := d.gb (Reg.macStat p) 3
  if 32 ≤ p ∨ d.gb (Reg.macPauseCfg p) 3 = false then d
  else if xoff = false ∧ d.gf (Reg.macRxBuf p) 16 16 * 1024 < held then
    (d.sb (Reg.macStat p) 3 true).setPort p { (d.port p) with pauseOwed := some (d.gf (Reg.macPauseCfg p) 16 16) }
  else if xoff ∧ held ≤ d.gf (Reg.macRxBuf p) 32 16 * 1024 then
    (d.sb (Reg.macStat p) 3 false).setPort p { (d.port p) with pauseOwed := some 0 }
  else d

/-- A frame released: its octets are free again (R264), which may end a sent pause of its receiving port. -/
def Dev.dropFrame (d : Dev) (i : Nat) : Dev :=
  let e : Dev := { d with
    frames := Sparse.del d.frames i
    rxb := { d.rxb with log := d.rxb.log.map (fun e => if e.frame = some i ∧ e.gone = none then { e with gone := some d.tim.up } else e) } }
  match (d.frame i).bind (fun f => f.rx) with
  | some p => e.pauseCheck p
  | none => e

/-- A frame with nothing left to be sent or delivered is released. -/
def Dev.reap (d : Dev) (i : Nat) : Dev :=
  match d.frame i with
  | some f => if f.dests = [] ∧ f.hosts = 0 ∧ f.fabric = false then d.dropFrame i else d
  | none => d

/-- Quad `p / 4` is merged, and `p` is not its port 4q: its registers read 0 and ignore writes (R29, R129). -/
def Dev.mergedAway (d : Dev) (p : Nat) : Bool := decide (p < 32) && p % 4 != 0 && d.gf (Reg.sdsMode (p / 4 * 4)) 0 3 == 6

/-- Link up (R243). -/
def Dev.linkUp (d : Dev) (p : Nat) : Bool := d.gb (Reg.pcsStat p) 0

/-- The rate of a port in Mb/s (R234, R237): 0 where the mode has none. -/
def Dev.portRate (d : Dev) (p : Nat) : Nat :=
  match d.gf (Reg.sdsMode p) 0 3 with
  | 1 => 1000
  | 2 => if d.gb (Reg.pcsCfg p) 2 then (d.port p).lastRate.getD 1000 else 1000
  | 3 => if d.gb (Reg.pcsCfg p) 2 then (d.port p).lastRate.getD 10000 else 10000
  | 4 => 10000
  | 5 => 25000
  | 6 => 100000
  | _ => 0

/-- The wire time of `n` octets at `r` Mb/s, in 2^-48 ns. -/
def octetTime (r n : Nat) : Nat := n * 8000 * nsU / r

/-- W(n) of R70 on port `p`: n octets, preamble, SFD and gap. -/
def Dev.wireTime (d : Dev) (p n : Nat) : Nat := octetTime (d.portRate p) (n + 20)

/-- The size limit of a frame with these tags on an edge port (R247). -/
def Dev.maxLen (d : Dev) (p : Nat) (ts : List Tag) : Nat := d.gf (Reg.macCfg p) 16 14 + 4 * ts.length

/-- `MAC_VLAN_CFG.SVLAN`. -/
def Dev.svlan (d : Dev) (p : Nat) : Bool := d.gb (Reg.macVlanCfg p) 16

/-- `STR_PORT_CFG.RTAG_RX`. -/
def Dev.rtagRx (d : Dev) (p : Nat) : Bool := d.gb (Reg.strPortCfg p) 3

end Sys2Proof.Machine
end

