-- ==== Sys2Proof/Machine/Snapshot.lean ====
section
/-! DEFINITION. Scheduled counter snapshots: capture of the counters in scope at T, and the image in HBM (R59–R62, R159, R400,
Table BEN-5). -/

namespace Sys2Proof.Machine

/-- Base of the snapshot image region in HBM (Table BEN-4). -/
def snapBase : Nat := 0x22000000

/-- The register at `a` is a 64-bit RC counter. -/
def isCounter (a : Nat) : Bool :=
  match regAt a with
  | some (r, _) => r.flds == [⟨0, 64, .rc, 0, .any⟩]
  | none => false

/-- The place of a port counter in the image (Table BEN-5), none where the register is no port counter. -/
def portImage (a : Nat) : Option Nat :=
  match blockOf a with
  | some 9 =>
    if a < 0x1C00000 then
      some (snapBase + 0x1000000 + (a - 0x1800000) / 0x10000 * 0x4000 + (a - 0x1800000) % 0x10000)
    else none
  | some 8 => some (snapBase + 0x1000000 + (a - 0x1400000) / 0x10000 * 0x4000 + 0x1000 + (a - 0x1400000) % 0x10000)
  | some 3 => some (snapBase + 0x1000000 + (a - 0x300000) / 0x100 * 0x4000 + 0x2000 + (a - 0x300000) % 0x100)
  | some 2 =>
    if 0x202000 ≤ a then
      some (snapBase + 0x1000000 + (a - 0x202000) / 0x40 * 0x4000 + 0x3000 + (a - 0x202000) % 0x40)
    else none
  | _ => none

/-- The place of a ring counter in the image (Table BEN-5). -/
def ringImage (a : Nat) : Option Nat := if blockOf a = some 5 then some (snapBase + 0x1800000 + (a - 0x500000)) else none

/-- The place in the image of the register at `a` under SCOPE: bit 0 port counters, bit 1 stream counters, bit 2 ring counters. -/
def imagePlace (scope a : Nat) : Option Nat :=
  if isCounter a then
    (if scope.testBit 0 then portImage a else none).orElse (fun _ => if scope.testBit 2 then ringImage a else none)
  else none

/-- The image words of the registers in scope: an unlisted counter is 0. -/
def Dev.regImage (d : Dev) (scope : Nat) : List (Nat × Word) :=
  d.regs.filterMap (fun e => (imagePlace scope e.1).map (fun p => (p, e.2)))

/-- The octets of the stream counter store (Table BEN-4), moved to their place in the image (R159). -/
def Dev.streamImage (d : Dev) (scope : Nat) : List Host.Cell :=
  if scope.testBit 1 then
    (d.mem.filter (fun c => 0x20000000 ≤ c.1 && c.1 < 0x21000000)).map (fun c => (c.1 + 0x2000000, c.2))
  else []

/-- The counters in scope cleared, as by the reads at T (R60). -/
def Dev.clearScope (d : Dev) (scope : Nat) : Dev :=
  let d1 := { d with regs := d.regs.filter (fun e => (imagePlace scope e.1).isNone) }
  if scope.testBit 1 then d1.clearMem 0x20000000 0x21000000 else d1

/-- `TIM_SNAPT_STAT.STATE`: 0 idle, 1 armed, 2 capturing, 3 done. -/
def Dev.snaptState (d : Dev) : Nat := d.gf Reg.timSnaptStat 0 2

/-- The counter stores and the image region can be reached (R397, R429). -/
def Dev.hbmOk (d : Dev) : Bool := d.islandOk 34 && d.islandOk 35 && d.gf Reg.pwrStat 0 2 == 0

/-- Capture at T (R60): every counter in scope takes its value for the image, and with CLEAR is cleared. -/
def Dev.snapCapture (d : Dev) (stepped : Bool) : Dev :=
  let sc := d.tim.snapScope
  let d1 := { d with tim := { d.tim with snapImage := d.regImage sc, snapBytes := d.streamImage sc, snapQuiet := !d.hbmOk } }
  let d2 := if d.tim.snapClear then d1.clearScope sc else d1
  (d2.sf Reg.timSnaptStat 0 2 2).sb Reg.timSnaptStat 20 stepped

/-- The parts of the image region that SCOPE fills, emptied. -/
def Dev.emptyImage (d : Dev) (scope : Nat) : Dev :=
  let d1 := if scope.testBit 1 then d.clearMem snapBase (snapBase + 0x1000000) else d
  let d2 := if scope.testBit 0 then d1.clearMem (snapBase + 0x1000000) (snapBase + 0x1000000 + 36 * 0x4000) else d1
  if scope.testBit 2 then d2.clearMem (snapBase + 0x1800000) (snapBase + 0x1802000) else d2

/-- Header word 0 of the image (Table BEN-5). -/
def Dev.imageHeader (d : Dev) : Word :=
  BitVec.ofNat 64 (fld 0 8 (d.gf Reg.timSnaptStat 8 8) + fld 8 3 d.tim.snapScope + fld 11 1 (bit d.tim.snapClear)
    + fld 12 1 (d.gf Reg.timSnaptStat 20 1))

/-- The complete image with its header, written last (R400). -/
def Dev.writeImage (d : Dev) : Dev :=
  let d1 := d.emptyImage d.tim.snapScope
  let d2 := d.tim.snapImage.foldl (fun x e => x.stW e.1 e.2) d1
  let d3 := d.tim.snapBytes.foldl (fun x c => x.stB c.1 c.2) d2
  (d3.stW (snapBase + 0x1802000) d.imageHeader).stW (snapBase + 0x1802008) (compact d.tim.snapT)

/-- Ring boundaries and control segment ends that a step skips are not passed, and those behind it come again (R190). -/
def RAtt.skip (r : RAtt) (now cyc seg : Nat) : RAtt :=
  if cyc = 0 then r else { r with cycle := now / cyc, segDone := (now + cyc - seg) / cyc }

/-- Both attachments after a step. -/
def Dev.skipRing (d : Dev) : Dev :=
  let c := fun a => d.gf (Reg.rngCycCfg a) 0 30 * nsU
  let s := fun a => d.gf (Reg.rngCycCfg a) 32 30 * nsU
  { d with rng := { d.rng with att0 := d.rng.att0.skip d.now (c 0) (s 0), att1 := d.rng.att1.skip d.now (c 1) (s 1) } }

/-- The scanners' places after a step: the millisecond visited last is the one before the present time (R151, R153). -/
def Dev.skipScan (d : Dev) : Dev :=
  { d with str := { d.str with scanMs := (d.now + msU - 1) / msU - 1, tested := [], cleared := [] } }

/-- What follows a step or SET of local time: the places of the ring and of the scanners, and a capture at once where local time passed T
(R62). -/
def Dev.afterStep (d : Dev) : Dev :=
  let d1 := d.skipRing.skipScan
  if d.snaptState = 1 ∧ d.tim.snapT ≤ d.now then d1.snapCapture true else d1

/-- SNAPT_CAPTURE (R60): local time reaches T. -/
def snaptCapture (d : Dev) : Dev :=
  if d.snaptState = 1 then (d.waitLocal d.tim.snapT).snapCapture false else d

/-- SNAPT_IMAGE_DONE (R400): the image stands in HBM; a capture in Quiet wrote none (R429). -/
def snaptImageDone (d : Dev) : Dev :=
  if d.snaptState = 2 then
    let d1 := if d.tim.snapQuiet then d else d.writeImage
    ({ d1 with tim := { d1.tim with snapImage := [], snapBytes := [] } }).sf Reg.timSnaptStat 0 2 3
  else d

/-- Meaning of SNAPT_CAPTURE. -/
def execSnaptCapture (s : State) : Host.Outcome State Fault Refusal := onDev snaptCapture s

/-- Meaning of SNAPT_IMAGE_DONE. -/
def execSnaptImageDone (s : State) : Host.Outcome State Fault Refusal := onDev snaptImageDone s

end Sys2Proof.Machine
end

