-- ==== Sys2Proof/Machine/Streams.lean ====
section
/-! DEFINITION. Chapter 5: stream records, sequence generation, recovery, latent-error detection, stream counters. -/

namespace Sys2Proof.Machine

/-! ### Records (Table STR-1) -/

/-- Device address of word `k` of the record of stream `s` (R130, Table BEN-3). -/
def strWord (s k : Nat) : Nat := 0x1042000000 + s * 0x40 + k * 8

/-- Word `k` of the record of stream `s`. -/
def Dev.sw (d : Dev) (s k : Nat) : Word := d.ldW (strWord s k)

/-- A field of word `k` of a record. -/
def Dev.sg (d : Dev) (s k lo w : Nat) : Nat := getF (d.sw s k) lo w

/-- Word `k` of a record written by the hardware. -/
def Dev.setSw (d : Dev) (s k : Nat) (v : Word) : Dev := d.stW (strWord s k) v

/-- A field of a record changed by the hardware. -/
def Dev.ss (d : Dev) (s k lo w v : Nat) : Dev := d.setSw s k (setF (d.sw s k) lo w v)

/-- The half of the stream table a stream belongs to (R130). -/
def halfOf (s : Nat) : Nat := if s < 131072 then 0 else 1

/-- The calendar island of a half. -/
def halfIsland (h : Nat) : Nat := if h = 0 then 3 else 11

def Dev.sType (d : Dev) (s : Nat) : Nat := d.sg s 0 0 2
def Dev.sClass (d : Dev) (s : Nat) : Nat := d.sg s 0 2 2
def Dev.sFabric (d : Dev) (s : Nat) : Bool := d.sg s 0 4 1 == 1
def Dev.sGen (d : Dev) (s : Nat) : Bool := d.sg s 0 5 1 == 1
def Dev.sRcv (d : Dev) (s : Nat) : Bool := d.sg s 0 6 1 == 1
def Dev.sResLen (d : Dev) (s : Nat) : Nat := d.sg s 0 10 14
def Dev.sHistLen (d : Dev) (s : Nat) : Nat := d.sg s 0 24 11
def Dev.sHistExt (d : Dev) (s : Nat) : Nat := d.sg s 0 35 18
def Dev.sPorts (d : Dev) (s : Nat) : Nat := d.sg s 2 0 36

/-- The stream launches on more than one port (R142). -/
def Dev.sReplicated (d : Dev) (s : Nat) : Bool := decide (1 < ((List.range 36).filter (fun p => (d.sPorts s).testBit p)).length)

/-- How many extension records a history length takes (R133, Table STR-3). -/
def extCount (w : Nat) : Nat := (w - 64 + 447) / 448

/-- Record `e` is an extension record of stream `s`, in its half (R133, Table STR-2). -/
def Dev.extMine (d : Dev) (s e : Nat) : Bool := decide (e < 262144) && halfOf e == halfOf s && d.sType e == 2 && d.sg e 0 2 18 == s

/-- The extension records of a vector history meet R133. -/
def Dev.extOk (d : Dev) (s : Nat) : Bool := (List.range (extCount (d.sHistLen s))).all (fun j => d.extMine s (d.sHistExt s + j))

/-- R132 but for the PORTS bit and the fence. -/
def Dev.recOk (d : Dev) (s : Nat) : Bool :=
  d.sType s == 1 && d.sClass s != 3 && d.sg s 1 16 2 != 3 && d.sg s 1 18 2 != 3
  && decide (64 ≤ d.sResLen s ∧ d.sResLen s ≤ 9232)
  && (!(d.sRcv s && d.sg s 0 7 1 == 0) || (decide (1 ≤ d.sHistLen s ∧ d.sHistLen s ≤ 1024) && d.extOk s))
  && (d.sg s 1 36 1 == 0 || d.sg s 1 37 2 != 0)

/-- The stream's fence bit (R155). -/
def Dev.strFenced (d : Dev) (s : Nat) : Bool := d.str.fenced.contains s

/-- A record is valid for port `p` (R132). -/
def Dev.recValid (d : Dev) (s p : Nat) : Bool := d.recOk s && (d.sPorts s).testBit p && !d.strFenced s

/-! ### Counters (Table STR-8, R157, R160) -/

/-- Counter `k` of stream `s` in the counter store (Table BEN-4). -/
def cntAddr (s k : Nat) : Nat := 0x20000000 + s * 0x40 + k * 8

/-- A counter of a stream advanced in the counter store. -/
def Dev.cntAdd (d : Dev) (s k n : Nat) : Dev := d.stW (cntAddr s k) (BitVec.ofNat 64 ((d.ldW (cntAddr s k)).toNat + n))

/-- A counter of a stream advanced; while the counter store is unavailable the update waits, at most 4,096 in each island (R160).  The
counters of a stream that has ended stop (R137). -/
def Dev.strCount (d : Dev) (s k n : Nat) : Dev :=
  if d.sType s ≠ 1 ∨ n = 0 then d
  else if d.hbmOk then d.cntAdd s k n
  else if (d.str.stalled.filter (fun e => halfOf e.1 == halfOf s)).length < 4096 then
    { d with str := { d.str with stalled := d.str.stalled ++ [(s, k, n)] } }
  else d.inc Reg.strCntLostCnt

/-- The waiting updates written once the counter store is back (R160). -/
def Dev.flushStalled (d : Dev) : Dev :=
  (d.str.stalled.foldl (fun (x : Dev) e => x.cntAdd e.1 e.2.1 e.2.2) { d with str := { d.str with stalled := [] } }).sb Reg.strStat 4 false

/-! ### Fencing a stream (R155) -/

/-- The stream's fence bit set; its fabric frames not yet bound are discarded and counted. -/
def Dev.setFence (d : Dev) (s : Nat) : Dev :=
  if d.strFenced s then d
  else
    (d.frames.filter (fun e => e.2.fabric && e.2.stream == some s)).foldl (fun (x : Dev) e => (x.dropFrame e.1).inc Reg.strFenceDropCnt)
      { d with str := { d.str with fenced := s :: d.str.fenced } }

/-- The stream is fenced and the fault raised. -/
def Dev.fenceStream (d : Dev) (s : Nat) : Dev := if d.strFenced s then d else (d.setFence s).raise 4 (halfOf s) 0x10 s

/-- A single-bit error of the word at `a` is corrected in place and counted once. -/
def Dev.scrub (d : Dev) (a cnt : Nat) : Dev :=
  if d.soft.contains a then ({ d with soft := d.soft.filter (· != a) }).inc cnt else d

/-- The words the engine reads of a stream: its record, and with a vector history its extension records (R133). -/
def Dev.strRecWords (d : Dev) (s : Nat) : List Nat :=
  (s :: (if d.sRcv s && d.sg s 0 7 1 == 0 then (List.range (extCount (d.sHistLen s))).map (fun j => d.sHistExt s + j) else [])).flatMap
    (fun e => (List.range 8).map (strWord e))

/-- The record holds an uncorrectable error. -/
def Dev.recBad (d : Dev) (s : Nat) : Bool := (d.strRecWords s).any d.isBad

/-- The record is read: single-bit errors are corrected and counted, an uncorrectable error fences the stream (R155); while its half is out of
service nothing is read (R156). -/
def Dev.readRec (d : Dev) (s : Nat) : Dev :=
  if d.gb Reg.strStat (halfOf s) then d
  else
    let d1 := (d.strRecWords s).foldl (fun x a => x.scrub a Reg.strEccCnt) d
    if d.recBad s then d1.fenceStream s else d1

/-- Why a frame or launch of a stream is not taken (R139, R155, R156). -/
inductive Bar where
  | none | halfOut | fenced | invalid
  deriving DecidableEq, Repr

/-- The state of a record for a received frame (port none) or for a launch on a port. -/
def Dev.strBar (d : Dev) (s : Nat) (p : Option Nat) : Bar :=
  if d.gb Reg.strStat (halfOf s) then .halfOut
  else if !(d.recOk s) || (match p with | some q => !((d.sPorts s).testBit q) | Option.none => false) then .invalid
  else if d.strFenced s then .fenced
  else .none

/-- The device counter of a barred frame or launch. -/
def Dev.countBar (d : Dev) : Bar → Dev
  | .none => d
  | .halfOut => d.inc Reg.strHalfOutCnt
  | .fenced => d.inc Reg.strFenceDropCnt
  | .invalid => d.inc Reg.strInvalidCnt

/-! ### History (R133, R147) -/

/-- The history bits of a stream as a number, bit i = bit i. -/
def Dev.hist (d : Dev) (s : Nat) : Nat :=
  let w := d.sHistLen s
  let ext := (List.range (extCount w)).foldl (fun n j =>
    (List.range 7).foldl (fun m k => m + (d.sw (d.sHistExt s + j) (k + 1)).toNat * 2 ^ (64 + 448 * j + 64 * k)) n) 0
  ((d.sw s 5).toNat + ext) % 2 ^ w

/-- The history bits written back: word 5, and with ALG = 0 those extension records that are the stream's own (R133, R148). -/
def Dev.setHist (d : Dev) (s n : Nat) : Dev :=
  let d1 := d.setSw s 5 (BitVec.ofNat 64 n)
  if d.sg s 0 7 1 = 1 then d1
  else
    (List.range (extCount (d.sHistLen s))).foldl (fun x j =>
      if d.extMine s (d.sHistExt s + j) then
        (List.range 7).foldl (fun y k => y.setSw (d.sHistExt s + j) (k + 1) (BitVec.ofNat 64 (n >>> (64 + 448 * j + 64 * k)))) x
      else x) d1

/-- Every history bit of a stream. -/
def Dev.allOnes (d : Dev) (s : Nat) : Nat := 2 ^ d.sHistLen s - 1

/-- R151: recovery reset: TAKE_ANY and every history bit set, RESETS counted. -/
def Dev.recoveryReset (d : Dev) (s : Nat) : Dev := ((d.ss s 3 32 1 1).setHist s (d.allOnes s)).strCount s 6 1

/-! ### Recovery (R147–R149) -/

/-- A frame passes recovery (R149): PASSED, LE_PASSED and REM_MS. -/
def Dev.rcvPass (d : Dev) (s : Nat) : Dev :=
  ((d.strCount s 0 1).ss s 4 0 16 (min 65535 (d.sg s 4 0 16 + 1))).ss s 3 34 11 (d.sg s 0 53 11)

/-- A duplicate (R149): DISCARDED and LE_DISC. -/
def Dev.rcvDup (d : Dev) (s : Nat) : Dev := (d.strCount s 1 1).ss s 4 16 16 (min 65535 (d.sg s 4 16 16 + 1))

/-- How many history bits from `lo` to `hi − 1` are 0. -/
def zerosIn (h lo hi : Nat) : Nat := ((List.range (hi - lo)).filter (fun i => !(h.testBit (lo + i)))).length

/-- The vector algorithm (R147): pass or discard, and the device after. -/
def Dev.vectorRcv (d : Dev) (s q : Nat) : Bool × Dev :=
  let w := d.sHistLen s
  let h := d.hist s
  let dd := toSigned 16 (q + 65536 - d.sg s 3 16 16)
  if d.sg s 3 32 1 = 1 then
    (true, (((d.ss s 3 16 16 q).ss s 3 32 1 0).setHist s (d.allOnes s)).rcvPass s)
  else if (w : Int) ≤ dd ∨ dd ≤ -(w : Int) then (false, d.strCount s 3 1)
  else if dd ≤ 0 then
    if h.testBit dd.natAbs then (false, d.rcvDup s)
    else (true, ((d.setHist s (h ||| 2 ^ dd.natAbs)).strCount s 2 1).rcvPass s)
  else
    let n := dd.natAbs
    let d1 := if n ≠ 1 then d.strCount s 2 1 else d
    let d2 := d1.strCount s 4 (zerosIn h (w - n) w)
    (true, ((d2.setHist s ((h * 2 ^ n + 1) % 2 ^ w)).ss s 3 16 16 q).rcvPass s)

/-- The match algorithm (R148). -/
def Dev.matchRcv (d : Dev) (s q : Nat) : Bool × Dev :=
  let cur := d.sg s 3 16 16
  if d.sg s 3 32 1 = 1 then (true, ((d.ss s 3 16 16 q).ss s 3 32 1 0).rcvPass s)
  else if q = cur then (false, d.rcvDup s)
  else
    let d1 := if (q + 65536 - cur) % 65536 ≠ 1 then d.strCount s 2 1 else d
    (true, (d1.ss s 3 16 16 q).rcvPass s)

/-- Recovery of a received frame of stream `s` (R145, R149): its number, none for a tagless frame. -/
def Dev.recover (d : Dev) (s : Nat) (q : Option Nat) : Bool × Dev :=
  match q with
  | none =>
    let d1 := d.strCount s 5 1
    if d.sg s 0 8 1 = 1 then (true, d1.rcvPass s) else (false, d1)
  | some n => if d.sg s 0 7 1 = 0 then d.vectorRcv s n else d.matchRcv s n

/-- R141 with the PASSED count of a stream without recovery (Table STR-8): the number a frame takes, and the device after. -/
def Dev.assignSeq (d : Dev) (s : Nat) (carried : Option Nat) (counted : Bool) : Option Nat × Dev :=
  let d1 := if d.sRcv s ∨ counted = false then d else d.strCount s 0 1
  if d.sGen s then (some (d1.sg s 3 0 16), d1.ss s 3 0 16 (d1.sg s 3 0 16 + 1)) else (carried, d1)

/-! ### Writing a record (R134–R137) -/

/-- R134: the stream is initialised as word 0 is written with TYPE 0b01. -/
def Dev.initStream (d : Dev) (s : Nat) : Dev :=
  let d1 : Dev := { d with str := { d.str with fenced := d.str.fenced.filter (· != s), stalled := d.str.stalled.filter (fun e => e.1 != s) } }
  let d2 := d1.setSw s 3 (BitVec.ofNat 64 (fld 32 1 1 + fld 34 11 (d.sg s 0 53 11)))
  let d3 := ((d2.setSw s 4 0).setSw s 6 0).setSw s 7 0
  let d4 := d3.setHist s (d3.allOnes s)
  (List.range 8).foldl (fun x k => x.stW (cntAddr s k) 0) d4

/-- R137: TYPE 0b00 ends the stream: its fabric frames not yet bound are discarded and counted. -/
def Dev.endStream (d : Dev) (s : Nat) : Dev :=
  let gone := d.frames.filter (fun e => e.2.fabric && e.2.stream == some s)
  gone.foldl (fun x e => (x.dropFrame e.1).inc Reg.strInvalidCnt) d

/-- Dropped record write (R135). -/
def Dev.strWrRef (d : Dev) : Dev := (d.sb Reg.strStat 2 true).inc Reg.strWrRefCnt

/-- A software write of word `k` of record `s` would be dropped (R135). -/
def Dev.recLocked (d : Dev) (s k : Nat) : Bool :=
  (d.sType s == 1 && decide (3 ≤ k)) || (d.sType s == 2 && d.sType (d.sg s 0 2 18) == 1)

/-- A software write of word `k` of record `s` (R134–R137). -/
def Dev.writeRec (d : Dev) (s k : Nat) (v : Word) : Dev :=
  let t := d.sType s
  if d.recLocked s k then d.strWrRef
  else
    let d1 := d.setSw s k v
    if k = 0 then
      if t ≠ 1 ∧ getF v 0 2 = 1 then d1.initStream s
      else if t = 1 ∧ getF v 0 2 = 0 then d1.endStream s
      else if t = 1 ∧ getF v 0 2 = 1 ∧ (getF v 7 1 ≠ d.sg s 0 7 1 ∨ getF v 24 11 ≠ d.sHistLen s ∨ getF v 35 18 ≠ d.sHistExt s) then
        d1.recoveryReset s
      else d1
    else d1

/-- A read of word `k` of record `s`: the parts private to hardware read as free values (R131). -/
def Dev.recShow (d : Dev) (s k : Nat) : Word × Dev :=
  let v := d.sw s k
  if d.sType s = 1 ∧ 6 ≤ k then (Config.freeWord d.free, d.useFree)
  else if d.sType s = 1 ∧ k = 4 then (setF v 32 32 (getF (Config.freeWord d.free) 32 32), d.useFree)
  else (v, d)

/-- A software access to a BAR4 word: R17 at its island, R28 without the unlock of block `k` (requester firmware not bound). -/
def Dev.gate4 (d : Dev) (r : Req) (off isl k : Nat) (f : Dev → Dev) : Dev :=
  if !(d.islandOk isl) || d.halted then d.accFail r true true off 2 isl
  else if d.unlockedBy k r then f d
  else d.lockRefuse off isl

/-- STREAM_RECORD_WRITE (R135): through BAR4 or from the Bench. -/
def Dev.recWrite4 (d : Dev) (r : Req) (s k : Nat) (v : Word) : Dev :=
  d.gate4 r (0x2000000 + s * 0x40 + k * 8) (halfIsland (halfOf s)) 4 (fun x => x.writeRec s k v)

/-! ### Scanner (R151, R153) -/

/-- Streams with a word listed in the table; every other record reads 0. -/
def Dev.strIds (d : Dev) : List Nat :=
  ((d.mem.filter (fun c => 0x1042000000 ≤ c.1 && c.1 < 0x1043000000)).map (fun c => (c.1 - 0x1042000000) / 0x40)).dedup

/-- The records the scanner visits: in halves in service, stream records that meet a condition. -/
def Dev.scanIds (d : Dev) (f : Nat → Bool) : List Nat :=
  d.strIds.filter (fun s => d.sType s == 1 && !(d.gb Reg.strStat (halfOf s)) && f s)

/-- A visit of the scanner reads the record (R155) and acts on it unless it is in error. -/
def Dev.scanVisitRec (d : Dev) (s : Nat) (act : Dev → Dev) : Dev := if d.recBad s then d.readRec s else act (d.readRec s)

/-- One recovery visit (R151): REM_MS counts down, and a record that reaches 0 is reset. -/
def Dev.recoveryVisit (d : Dev) (s : Nat) : Dev :=
  d.scanVisitRec s (fun x =>
    let rem := x.sg s 3 34 11
    if rem = 0 then x else if rem = 1 then (x.ss s 3 34 11 0).recoveryReset s else x.ss s 3 34 11 (rem - 1))

/-- Local time in milliseconds since the epoch. -/
def Dev.nowMs (d : Dev) : Nat := d.now / msU

/-- RECOVERY_SCAN (R151): at the next whole millisecond not yet visited. -/
def recoveryScan (d : Dev) : Dev :=
  let ms := max (d.str.scanMs + 1) ((d.now + msU - 1) / msU)
  let d1 := d.waitLocal (ms * msU)
  let d2 := { d1 with str := { d1.str with scanMs := ms } }
  (d2.scanIds (fun s => d2.sRcv s && d2.sg s 0 53 11 != 0)).foldl Dev.recoveryVisit d2

/-- One latent-error test (R153). -/
def Dev.latentVisit (d : Dev) (s : Nat) : Dev :=
  d.scanVisitRec s (fun x =>
    let passed := x.sg s 4 0 16
    let disc := x.sg s 4 16 16
    let dd : Int := (passed * x.sg s 1 37 2 : Nat) - (disc : Int)
    if x.sg s 1 42 8 < dd.natAbs ∧ passed ≠ 65535 ∧ disc ≠ 65535 then
      ((x.ss s 3 33 1 1).raise 4 (halfOf s) 0x11 s).inc Reg.strLatentCnt
    else x)

/-- Streams with latent-error detection under profile `k` (R153). -/
def Dev.latentIds (d : Dev) (k : Nat) : List Nat :=
  d.scanIds (fun s => d.sRcv s && d.sg s 1 36 1 == 1 && d.sg s 1 39 3 == k)

/-- The next local instant at or after now that is a multiple of `per` ms since the epoch, the instant `done` apart. -/
def Dev.nextMultiple (d : Dev) (per : Nat) (done : Option Nat) : Nat :=
  let t := (d.now + per * msU - 1) / (per * msU) * (per * msU)
  if done = some t then t + per * msU else t

/-- The streams of profile `k` are tested at local instant `t`. -/
def Dev.latentRun (d : Dev) (k t : Nat) : Dev :=
  (d.latentIds k).foldl Dev.latentVisit { d with str := { d.str with tested := Sparse.put d.str.tested k t } }

/-- LATENT_TEST (R153) of profile `k`: at its next instant not yet tested. -/
def latentTest (k : Nat) (d : Dev) : Dev :=
  let t := d.nextMultiple (d.gf (Reg.strLeProf k) 0 16) (Sparse.find d.str.tested k)
  (d.waitLocal t).latentRun k t

/-- Latent-error state of a stream cleared: both counts and LATENT. -/
def Dev.latentClear (d : Dev) (s : Nat) : Dev := (d.ss s 4 0 32 0).ss s 3 33 1 0

/-- LATENT_PROFILE_RESET (R153) of profile `k` at its next instant not yet handled; RESET_MS 0 = none.  A test due at that instant is made
first. -/
def latentProfileReset (k : Nat) (d : Dev) : Dev :=
  let per := d.gf (Reg.strLeProf k) 16 16
  if per = 0 then d
  else
    let t := d.nextMultiple per (Sparse.find d.str.cleared k)
    let d1 := d.waitLocal t
    let due := t % (d.gf (Reg.strLeProf k) 0 16 * msU) = 0 ∧ Sparse.find d.str.tested k ≠ some t
    let d2 := if due then d1.latentRun k t else d1
    let d3 : Dev := { d2 with str := { d2.str with cleared := Sparse.put d2.str.cleared k t } }
    (d3.latentIds k).foldl (fun x s => (x.latentClear s).inc Reg.strLeResetCnt) d3

/-! ### STR_CMD, counter capture -/

/-- A write of `STR_CMD` (R151, R153, R161). -/
def Dev.wrStrCmd (d : Dev) (v : Word) : Dev :=
  if inRangeAt Reg.strCmd v then
    let d1 := d.wrReg Reg.strCmd v
    let s := getF v 0 18
    if getB v 63 then
      if d1.recOk s ∧ d1.strFenced s = false then (if getF v 18 2 = 1 then d1.recoveryReset s else d1.latentClear s)
      else d1.sb Reg.strStat 3 true
    else d1
  else d.outOfRange Reg.strCmd

/-- A write of `STR_CNT_SEL` (R158): GO captures the eight counters of STREAM, and with CLEAR = 1 clears them. -/
def Dev.wrCntSel (d : Dev) (v : Word) : Dev :=
  if getB v 63 then
    if d.gb Reg.strCntStat 0 then d.sb Reg.strCntStat 3 true
    else
      let d1 := d.wrReg Reg.strCntSel v
      let s := getF v 0 18
      if d.gb Reg.strStat (halfOf s) ∨ d.gb Reg.strStat 4 ∨ d.hbmOk = false then d1.sb Reg.strCntStat 2 true
      else
        let vals := d1.ldWs (cntAddr s 0) 8
        let d2 : Dev := if getB v 32 then d1.stWs (cntAddr s 0) (List.replicate 8 0) else d1
        let d3 := { d2 with str := { d2.str with capture := some (s, vals) } }
        ((d3.sb Reg.strCntStat 0 true).sb Reg.strCntStat 1 false).sb Reg.strCntStat 2 false
  else d.wrReg Reg.strCntSel v

/-- Consecutive register words from `a` written. -/
def Dev.wrs (d : Dev) (a : Nat) : List Word → Dev
  | [] => d
  | v :: t => Dev.wrs (d.wr a v) (a + 8) t

/-- STREAM_CAPTURE_DONE (R158). -/
def streamCaptureDone (d : Dev) : Dev :=
  match d.str.capture with
  | none => d
  | some (s, vals) =>
    let d1 := { (d.wrs (Reg.strCntData 0) vals) with str := { d.str with capture := none } }
    ((d1.sb Reg.strCntStat 0 false).sb Reg.strCntStat 1 true).sf Reg.strCntStat 8 18 s

/-! ### Meanings -/

/-- Meaning of STREAM_RECORD_WRITE. -/
def execStreamRecordWrite (r : Req) (st : BitVec 18) (k : Fin 8) (v : Word) (s : State) : Host.Outcome State Fault Refusal :=
  onDev (fun d => d.recWrite4 r st.toNat k.val v) s

/-- Meaning of RECOVERY_SCAN. -/
def execRecoveryScan (s : State) : Host.Outcome State Fault Refusal := onDev recoveryScan s

/-- Meaning of LATENT_TEST. -/
def execLatentTest (k : Fin 8) (s : State) : Host.Outcome State Fault Refusal := onDev (latentTest k.val) s

/-- Meaning of LATENT_PROFILE_RESET. -/
def execLatentProfileReset (k : Fin 8) (s : State) : Host.Outcome State Fault Refusal := onDev (latentProfileReset k.val) s

/-- The word `STR_CMD` takes for an operation on a stream with GO. -/
def strCmdWord (op st : Nat) : Word := BitVec.ofNat 64 (fld 0 18 st + fld 18 2 op + fld 63 1 1)

/-- Meaning of RESET_RCV: a write of `STR_CMD` with OP 0b01 and GO = 1. -/
def execResetRcv (r : Req) (st : BitVec 18) (s : State) : Host.Outcome State Fault Refusal :=
  onDev (fun d => d.gate r Reg.strCmd (fun x => x.wrStrCmd (strCmdWord 1 st.toNat))) s

/-- Meaning of CLEAR_LATENT: a write of `STR_CMD` with OP 0b10 and GO = 1. -/
def execClearLatent (r : Req) (st : BitVec 18) (s : State) : Host.Outcome State Fault Refusal :=
  onDev (fun d => d.gate r Reg.strCmd (fun x => x.wrStrCmd (strCmdWord 2 st.toNat))) s

/-- Meaning of STREAM_COUNTER_CAPTURE: a write of `STR_CNT_SEL` with GO = 1. -/
def execStreamCounterCapture (r : Req) (v : Word) (s : State) : Host.Outcome State Fault Refusal :=
  onDev (fun d => d.gate r Reg.strCntSel (fun x => x.wrCntSel (setB v 63 true))) s

/-- Meaning of STREAM_CAPTURE_DONE. -/
def execStreamCaptureDone (s : State) : Host.Outcome State Fault Refusal := onDev streamCaptureDone s

end Sys2Proof.Machine
end

