-- ==== Sys2Proof/Machine/CalBase.lean ====
section
/-! DEFINITION. Chapter 3, what the wire and the calendar share: banks, entries, port configuration in force (R98), reserved intervals
(R70, R88, R169), and the places of the ring in them (R163, R167). -/

namespace Sys2Proof.Machine

/-! ### Banks and entries (Tables CAL-1, CAL-2, CAL-4) -/

/-- The state of a bank beyond its registers. -/
def Dev.bank (d : Dev) (b : Nat) : CalBank := Sparse.getD d.cal.banks b {}

/-- That state replaced. -/
def Dev.setBank (d : Dev) (b : Nat) (x : CalBank) : Dev := { d with cal := { d.cal with banks := Sparse.setD d.cal.banks b {} x } }

/-- `CAL_BANK_STAT[b].STATE` (Table CAL-4). -/
def Dev.bankSt (d : Dev) (b : Nat) : Nat := d.gf (Reg.calBankStat b) 0 3

/-- A bank enters a state. -/
def Dev.setBankSt (d : Dev) (b st : Nat) : Dev := d.sf (Reg.calBankStat b) 0 3 st

/-- Device address of entry `i` of segment `s` of bank `b` (Table CAL-1). -/
def entryAddr (b s i : Nat) : Nat := bar4Addr (b * 0x800000 + s * 0x200000 + i * 8)

/-- The nine ports of a slice. -/
def slicePorts (s : Nat) : List Nat := (List.range 8).map (fun i => 8 * s + i) ++ [32 + s]

/-- First index and count of the region of port `p` (Table CAL-14). -/
def CalPar.region (c : CalPar) (p : Nat) : Nat × Nat :=
  (getF (c.dir.getD p 0) 0 18, getF (c.dir.getD p 0) 32 19)

def eOfs (e : Word) : Nat := getF e 0 30
def eCyc (e : Word) : Nat := getF e 30 12
def eArg (e : Word) : Nat := getF e 42 18
def eKind (e : Word) : Nat := getF e 60 2

/-- The entries of port `p` in a bank: index and word, in index order. -/
def Dev.entries (d : Dev) (b : Nat) (c : CalPar) (p : Nat) : List (Nat × Word) :=
  let r := c.region p
  (List.range r.2).map (fun i => (r.1 + i, d.ldW (entryAddr b (sliceOf p) (r.1 + i))))

/-- The shadow parameters of a bank as its registers hold them (R73). -/
def Dev.shadowPar (d : Dev) (b : Nat) : CalPar :=
  { cyc := d.gf (Reg.calBankCyc b) 0 30, hp := d.gf (Reg.calBankHp b) 0 13
    dir := (List.range 36).map (fun p => d.rd (Reg.calDir b p)) }

/-- `CAL_STAT.RUN`. -/
def Dev.running (d : Dev) : Bool := d.gb Reg.calStat 0

/-- `CAL_CTL.RING`. -/
def Dev.calRing (d : Dev) : Bool := d.gb Reg.calCtl 1

/-- The calendar of slice `s` is fenced or revalidating (R95). -/
def Dev.sliceOut (d : Dev) (s : Nat) : Bool := d.gb Reg.calStat (12 + s)

/-- The active bank. -/
def Dev.activeBank (d : Dev) : Option Nat := d.cal.cur.map (fun c => c.bank)

/-- `CAL_FETCH_LEAD` in 2^-48 ns. -/
def Dev.leadU (d : Dev) : Nat := d.gf Reg.calFetchLead 0 32 * nsU

/-- The hand-over point of a boundary (R76); 0 where it lies before the epoch. -/
def Dev.handOver (d : Dev) (b : Nat) : Nat := b - (d.leadU + 2000 * nsU)

/-! ### Port configuration in force (R98) -/

/-- `CAL_PORT_CFG[p]` in force for the instant `l` (local time). -/
def Dev.portCfgAt (d : Dev) (p l : Nat) : Word :=
  match (d.cal.cfgPend.filter (fun e => e.1 == p && decide (e.2.1 ≤ l))).getLast? with
  | some e => e.2.2
  | none => Sparse.getD d.cal.cfgOld p (d.rd (Reg.calPortCfg p))

/-- SCHED_EN in force now (R67, R258). -/
def Dev.schedEn (d : Dev) (p : Nat) : Bool := getB (d.portCfgAt p d.now) 0

/-- GUARD_NS in force now, 2^-48 ns. -/
def Dev.guardU (d : Dev) (p : Nat) : Nat := getF (d.portCfgAt p d.now) 16 16 * nsU

/-- HOLD_ADV in force now, 2^-48 ns. -/
def Dev.holdAdvU (d : Dev) (p : Nat) : Nat := getF (d.portCfgAt p d.now) 32 16 * nsU

/-! ### The ring (R163, R164, R167) -/

/-- The attachment of a ring port (Table RNG-1). -/
def attOf (p : Nat) : Nat := (p - 32) / 2

/-- The other port of the attachment. -/
def otherPort (p : Nat) : Nat := if p % 2 = 0 then p + 1 else p - 1

/-- The two attachments name one ring (R163). -/
def Dev.sameRing (d : Dev) : Bool :=
  d.gb (Reg.rngCtl 0) 0 && d.gb (Reg.rngCtl 1) 0 && d.gf (Reg.rngCtl 0) 12 4 == d.gf (Reg.rngCtl 1) 12 4

/-- The node is joined, its two node IDs agreeing. -/
def Dev.joined (d : Dev) : Bool := d.sameRing && d.gf (Reg.rngCtl 0) 4 6 == d.gf (Reg.rngCtl 1) 4 6

/-- The lower-numbered attachment whose ring PCS islands are up and not fenced: it holds the membership of a joined node (R163). -/
def Dev.holder (d : Dev) : Nat :=
  if d.islandOk 16 && d.islandOk 17 then 0 else if d.islandOk 18 && d.islandOk 19 then 1 else 0

/-- The attachment whose registers and state govern attachment `a`: the holder for a joined node. -/
def Dev.memOf (d : Dev) (a : Nat) : Nat := if d.joined then d.holder else a

/-- The main attachment (R164); on a joined node the membership. -/
def Dev.mainAtt (d : Dev) : Nat := d.memOf (d.gf Reg.rngGlbCfg 0 1)

/-- `RNG_STAT[a].STATE` (Table RNG-7). -/
def Dev.rngSt (d : Dev) (a : Nat) : Nat := d.gf (Reg.rngStat (d.memOf a)) 0 3

/-- The bypass pin of attachment `a` is high. -/
def Dev.inserted (d : Dev) (a : Nat) : Bool := d.gb (Reg.rngStat a) 4

/-- CYC_NS of attachment `a` in 2^-48 ns. -/
def Dev.ringC (d : Dev) (a : Nat) : Nat := d.gf (Reg.rngCycCfg (d.memOf a)) 0 30 * nsU

/-- CSEG_NS of attachment `a` in 2^-48 ns. -/
def Dev.ringSeg (d : Dev) (a : Nat) : Nat := d.gf (Reg.rngCycCfg (d.memOf a)) 32 30 * nsU

/-- The ring boundary at or before local time `x` (R167). -/
def Dev.ringBegin (d : Dev) (a x : Nat) : Nat := if d.ringC a = 0 then x else x / d.ringC a * d.ringC a

/-- The number of the cycle that holds local time `x` (R167). -/
def Dev.ringNum (d : Dev) (a x : Nat) : Nat := if d.ringC a = 0 then 0 else x / d.ringC a % 2 ^ 48

/-- The attachment is inserted and neither OFF nor HALTED: the control segment is reserved on its ports (R169), frames are received and
forwarded. -/
def Dev.ringLive (d : Dev) (a : Nat) : Bool := d.inserted a && d.rngSt a != 0 && d.rngSt a != 6

/-- The attachment is ACTIVE or PASSIVE with MODE_MISMATCH = 0: launches take place (R172). -/
def Dev.ringLaunch (d : Dev) (a : Nat) : Bool :=
  (d.rngSt a == 4 || d.rngSt a == 5) && !(d.gb (Reg.rngStat (d.memOf a)) 6)

/-! ### Reserved intervals (R70, R88, R169) -/

/-- A reserved interval of a port: its start and end in local time, the class it counts as (0 preemptable, 1 express, 2 critical), and
whether a launch reserves it. -/
structure Resv where
  at_ : Nat
  until_ : Nat
  cls : Nat
  launch : Bool
  deriving DecidableEq, Repr

/-- The class of a stream on a port (R100: critical counts as express on an edge port). -/
def Dev.launchCls (d : Dev) (p s : Nat) : Nat := if p < 32 then min 1 (d.sClass s) else d.sClass s

/-- The interval of an entry whose instant is `l`. -/
def Dev.resvOf (d : Dev) (p : Nat) (e : Word) (l : Nat) : Resv :=
  if eKind e = 1 then ⟨l, l + d.wireTime p (d.sResLen (eArg e)), d.launchCls p (eArg e), true⟩
  else ⟨l, l + 8 * eArg e * nsU, if p < 32 then 1 else 2, false⟩

/-- The local instant of an entry in cycle number `n` of a source. -/
def CalSrc.instant (c : CalSrc) (e : Word) (n : Int) : Int :=
  (c.beg : Int) + (n - c.num) * (c.par.cyc * nsU : Nat) + (eOfs e * nsU : Nat)

/-- The source supplies the instant. -/
def CalSrc.covers (c : CalSrc) (l : Int) : Bool :=
  decide ((c.from_ : Int) ≤ l) && (match c.until_ with | some u => decide (l < (u : Int)) | none => true)

/-- The least cycle number from `n` on whose hyperperiod index is the entry's. -/
def CalSrc.nextCyc (c : CalSrc) (e : Word) (n : Int) : Int := n + ((eCyc e : Int) - n) % (c.par.hp : Int)

/-- The greatest cycle number up to `n` whose hyperperiod index is the entry's. -/
def CalSrc.lastCyc (c : CalSrc) (e : Word) (n : Int) : Int := n - (n - (eCyc e : Int)) % (c.par.hp : Int)

/-- The cycle number whose instant of this entry is the last at or before `x`, disregarding the hyperperiod index. -/
def CalSrc.cycAt (c : CalSrc) (e : Word) (x : Int) : Int :=
  (c.num : Int) + (x - (c.beg : Int) - (eOfs e * nsU : Nat)) / ((c.par.cyc * nsU : Nat) : Int)

/-- The first instant of an entry at or after `x`. -/
def CalSrc.first (c : CalSrc) (e : Word) (x : Nat) : Option Nat :=
  let from_ : Int := max x c.from_
  let l := c.instant e (c.nextCyc e (c.cycAt e (from_ - 1) + 1))
  if c.covers l then some l.toNat else none

/-- The last instant of an entry at or before `x`. -/
def CalSrc.last (c : CalSrc) (e : Word) (x : Nat) : Option Nat :=
  let l := c.instant e (c.lastCyc e (c.cycAt e x))
  if c.covers l then some l.toNat else none

/-- The bank SCHEDULED or HANDED for a boundary, as a source from that boundary on (R88). -/
def Dev.pendSrc (d : Dev) : Option CalSrc :=
  d.cal.pend.map (fun q => { bank := q.bank, par := (d.bank q.bank).par, beg := q.at_, num := q.cyc, from_ := q.at_ })

/-- The active bank's source, up to the boundary of a stop in progress (R82). -/
def Dev.curSrc (d : Dev) : Option CalSrc := d.cal.cur.map (fun c => { c with until_ := d.cal.stopAt })

/-- Every source of intervals (R88). -/
def Dev.srcs (d : Dev) : List CalSrc := [d.cal.prev, d.curSrc, d.pendSrc].filterMap id

/-- The launch and hold entries of a port in a source. -/
def Dev.srcEntries (d : Dev) (c : CalSrc) (p : Nat) : List Word :=
  ((d.entries c.bank c.par p).map (fun e => e.2)).filter (fun e => eKind e == 1 || eKind e == 2)

/-- Intervals of the calendar on port `p` picked by `f` out of each entry; none while the slice is out, or without SCHED_EN. -/
def Dev.calResv (d : Dev) (p : Nat) (f : CalSrc → Word → Option Nat) : List Resv :=
  if d.sliceOut (sliceOf p) then []
  else d.srcs.flatMap (fun c => (d.srcEntries c p).filterMap (fun e =>
    match f c e with
    | some l => if getB (d.portCfgAt p l) 0 then some (d.resvOf p e l) else none
    | none => none))

/-- The control segment that begins at `b`, as a critical hold (R169). -/
def Dev.segResv (d : Dev) (p b : Nat) : List Resv :=
  if 32 ≤ p ∧ d.ringLive (attOf p) then [⟨b, b + d.ringSeg (attOf p), 2, false⟩] else []

/-- The first instant of an entry at or after `x` that still reserves its interval: a launch at `x` itself that was released does not (R86). -/
def Dev.firstResv (d : Dev) (p x : Nat) (c : CalSrc) (e : Word) : Option Nat :=
  match c.first e x with
  | some l => if l = x ∧ eKind e = 1 ∧ (d.port p).released.contains l then c.first e (x + 1) else some l
  | none => none

/-- The next reserved interval of each entry at or after `x`, and the next control segment. -/
def Dev.resvAfter (d : Dev) (p x : Nat) : List Resv :=
  let b := d.ringBegin (attOf p) x
  d.calResv p (d.firstResv p x) ++ d.segResv p (if b = x then x else b + d.ringC (attOf p))

/-- The latest reserved interval of each entry that began at or before `x`, and the control segment that did. -/
def Dev.resvBefore (d : Dev) (p x : Nat) : List Resv :=
  d.calResv p (fun c e => c.last e x) ++ d.segResv p (d.ringBegin (attOf p) x)

/-- The earliest of some intervals. -/
def earliest : List Resv → Option Resv
  | [] => none
  | r :: t => match earliest t with
    | some q => if q.at_ < r.at_ then some q else some r
    | none => some r

/-- N of R88: the port's next reserved interval at or after `x`. -/
def Dev.nextResv (d : Dev) (p x : Nat) : Option Resv := earliest (d.resvAfter p x)

/-- The reserved intervals in which `x` lies, those released early (R86) apart. -/
def Dev.resvAt (d : Dev) (p x : Nat) : List Resv :=
  (d.resvBefore p x).filter (fun r => decide (r.at_ ≤ x ∧ x < r.until_) && !(r.launch && (d.port p).released.contains r.at_))

/-- The boundary at or before `x` and the next one, of the cycles the calendar runs or will run by. -/
def Dev.nextBoundary (d : Dev) : Option (Nat × Nat) :=
  d.cal.cur.map (fun c => (c.beg + c.par.cyc * nsU, (c.num + 1) % 2 ^ 48))

end Sys2Proof.Machine
end

