-- ==== Sys2Proof/Machine/HqCore.lean ====
section
/-! DEFINITION. What the host queues share (chapter 10) and how an access is translated (R362–R364): functions, interrupts, queue
counters, completion entries, the end of an entry and its retirement, delivery of a received frame. -/

namespace Sys2Proof.Machine

/-! ### Functions (Table HQS-2) -/

/-- The Bench, as a function of its own (R404). -/
def benchFn : Nat := 5000

/-- A function's state. -/
def Dev.fn (d : Dev) (f : Nat) : Fn := Sparse.getD d.hq.fns f {}

/-- The function is in an FLR (R338). -/
def Dev.fnResetting (d : Dev) (f : Nat) : Bool := decide (d.tim.up < (d.fn f).resetEnd)

/-- A function's state changed. -/
def Dev.modFn (d : Dev) (f : Nat) (g : Fn → Fn) : Dev := { d with hq := { d.hq with fns := Sparse.setD d.hq.fns f {} (g (d.fn f)) } }

/-- The PF a function belongs to. -/
def pfOf (f : Nat) : Nat := if f = benchFn then 0 else f % 4

/-- Routing ID relative to the bus number assigned to the device (Table HQS-2). -/
def ridOf (f : Nat) : Nat := if f = benchFn then 0 else if f < 4 then f else (1 + f % 4) * 256 + f / 4 - 1

/-- The function of a routing ID. -/
def fnOfRid (r : Nat) : Nat := if r < 256 then r else (r / 256 - 1) + 4 * (r % 256 + 1)

/-- The link carries transactions. -/
def Dev.linkL0 (d : Dev) : Bool := d.hq.link == .l0 || d.hq.link == .l0p

/-- Host memory of the function can be reached now: the link is in L0 (R335); the Bench uses device memory (R405). -/
def Dev.reach (d : Dev) (f : Nat) : Bool := d.islandOk 33 && (f == benchFn || d.linkL0)

/-- An ATC entry that grants an access. -/
def AtcEntry.grants (e : AtcEntry) (rid : Nat) (pasid : Option Nat) (a : Nat) (write : Bool) : Bool :=
  e.rid == rid && e.pasid == pasid && decide (e.base ≤ a ∧ a < e.base + e.size) && (if write then e.w else e.r)

/-- The address a request of function `f` carries (R362): translated with ATS Enable set, the engine's own with it clear. -/
def Dev.hostAddr (d : Dev) (f : Nat) (pasid : Option Nat) (a : Nat) (write : Bool) : HostAddr :=
  if (d.fn f).ats then
    match d.xlt.atc.find? (fun e => e.grants (ridOf f) pasid a write) with
    | some e => .translated (e.phys + (a - e.base))
    | none => .untranslated a
  else .untranslated a

/-- A run of octets cut into requests of at most `max` octets, none across a 4 KiB boundary (R349); the first argument bounds their number. -/
def requests (max : Nat) : Nat → Nat → Nat → List (Nat × Nat)
  | 0, _, _ => []
  | k + 1, a, len =>
    if len = 0 then []
    else
      let n := min len (min max (4096 - a % 4096))
      (a, n) :: requests max k (a + n) (len - n)

/-- One read request of function `f`. -/
def Dev.hostRead (d : Dev) (f : Nat) (pasid : Option Nat) (a len : Nat) : Dev :=
  d.emit (.hostRead (ridOf f) pasid (d.hostAddr f pasid a false) len)

/-- One write request of function `f`. -/
def Dev.hostWrite (d : Dev) (f : Nat) (pasid : Option Nat) (a : Nat) (data : List Byte) : Dev :=
  d.emit (.hostWrite (ridOf f) pasid (d.hostAddr f pasid a true) data)

/-- The read requests for a run of octets, of up to Max Read Request Size each. -/
def Dev.hostReads (d : Dev) (f : Nat) (pasid : Option Nat) (a len : Nat) : Dev :=
  (requests (128 * 2 ^ (d.fn f).mrrs) (len / 128 + len / 4096 + 2) a len).foldl (fun (x : Dev) e => x.hostRead f pasid e.1 e.2) d

/-- The write requests for a run of octets, of up to Max Payload Size each. -/
def Dev.hostWrites (d : Dev) (f : Nat) (pasid : Option Nat) (a : Nat) (data : List Byte) : Dev :=
  (requests (128 * 2 ^ (d.fn f).mps) (data.length / 128 + data.length / 4096 + 2) a data.length).foldl
    (fun (x : Dev) e => x.hostWrite f pasid e.1 ((data.drop (e.1 - a)).take e.2)) d

/-- Data written to a function's memory: host memory through the link, or the customer region for the Bench. -/
def Dev.memWrite (d : Dev) (f : Nat) (pasid : Option Nat) (a : Nat) (data : List Byte) : Dev :=
  if f = benchFn then d.stN a data else d.hostWrite f pasid a data

/-! ### Interrupts (R329, R330) -/

/-- Words 0 and 1 of a vector's MSI-X table entry; masked until written. -/
def Fn.vector (x : Fn) (v : Nat) : Word × Word := Sparse.getD x.table v (0, 0x100000000)

/-- The message of vector `v` may be sent now (R330, R333). -/
def Fn.open_ (x : Fn) (v : Nat) : Bool := x.msixEn && !x.fnMask && !(getB (x.vector v).2 32) && !x.d3

/-- A firing of a vector (R330); for the Bench it sets CQ in BEN_IRQ (R404). -/
def Dev.fire (d : Dev) (f v : Nat) : Dev :=
  if f = benchFn then d.sb (Reg.benIrq v) 0 true
  else if (d.fn f).open_ v then d.emit (.msix f v)
  else d.modFn f (fun x => { x with pba := if x.pba.contains v then x.pba else x.pba ++ [v] })

/-- Messages pending in the PBA that may be sent now are sent (R330). -/
def Dev.sendPba (d : Dev) (f : Nat) : Dev :=
  let x := d.fn f
  let go := x.pba.filter (fun v => x.open_ v)
  go.foldl (fun (y : Dev) v => y.emit (.msix f v)) (d.modFn f (fun x => { x with pba := x.pba.filter (fun v => !(x.open_ v)) }))

/-! ### Translation (R362–R364) -/

/-- The 4 KiB pages an access touches, by the first address of each. -/
def pagesOf (a len : Nat) : List Nat := (List.range ((a % 4096 + len + 4095) / 4096)).map (fun i => (a / 4096 + i) * 4096)

/-- A used entry moved to the front (R363: least recent use). -/
def Xlt.touch (x : Xlt) (e : AtcEntry) : Xlt := { x with atc := e :: x.atc.filter (· != e) }

/-- Translation Requests sent for the waiting accesses, oldest first: at most 256 outstanding (R363); the first argument bounds how many. -/
def Dev.atsPump : Nat → Dev → Dev
  | 0, d => d
  | k + 1, d =>
    match d.xlt.waits.find? (fun w => !w.sent && !w.prg && !w.via) with
    | none => d
    | some w =>
      if 256 ≤ (d.xlt.waits.filter (fun x => x.sent)).length then d
      else
        let write := w.write || d.xlt.waits.any (fun x => x.via && x.rid == w.rid && x.pasid == w.pasid && x.addr / 4096 == w.addr / 4096 && x.write)
        let d1 : Dev := { d with xlt := { d.xlt with waits := d.xlt.waits.map (fun x => if x = w then { x with sent := true } else x) } }
        Dev.atsPump k ((d1.inc Reg.xltAtsReqCnt).emit
          (.pcie 3 [w.rid, match w.pasid with | some p => p + 1 | none => 0, w.addr, bit write]))

/-- The Translation Requests that may be sent now. -/
def Dev.atsGo (d : Dev) : Dev := Dev.atsPump 256 d

/-- Page Requests a PF's functions have outstanding. -/
def Dev.prgsOut (d : Dev) (pf : Nat) : Nat := (d.xlt.prgs.filter (fun p => p.sent && pfOf (fnOfRid p.rid) == pf)).length

/-- Page Requests sent in order, up to the host's allocation and the capacity of 512 (R364); the first argument bounds how many. -/
def Dev.prgPump : Nat → Dev → Dev
  | 0, d => d
  | k + 1, d =>
    match d.xlt.prgs.find? (fun p => !p.sent && decide (d.prgsOut (pfOf (fnOfRid p.rid)) < min 512 (d.fn (pfOf (fnOfRid p.rid))).prAlloc)) with
    | none => d
    | some p =>
      let on := fun (w : XWait) => w.prg && w.rid == p.rid && w.pasid == p.pasid && w.addr / 4096 == p.page
      let d1 : Dev := { d with xlt := { d.xlt with prgs := d.xlt.prgs.map (fun x => if x = p then { x with sent := true, at_ := d.tim.up } else x) } }
      Dev.prgPump k ((d1.inc Reg.xltPrgCnt).emit (.pcie 4 [p.rid, (match p.pasid with | some n => n + 1 | none => 0), p.page,
        bit (d.xlt.waits.any (fun w => on w && !w.write)), bit (d.xlt.waits.any (fun w => on w && w.write)), 1]))

/-- The Page Requests that may be sent now. -/
def Dev.prgGo (d : Dev) : Dev := Dev.prgPump (d.xlt.prgs.length + 1) d

/-- One page of an access: true where it may proceed.  A miss asks for its translation and the access waits. -/
def Dev.xlatePage (d : Dev) (f : Nat) (w : XWait) : Bool × Dev :=
  if !((d.fn f).ats) then (true, d)
  else match d.xlt.atc.find? (fun e => e.grants w.rid w.pasid w.addr w.write) with
    | some e => (true, { d with xlt := d.xlt.touch e })
    | none => (false, (({ d with xlt := { d.xlt with waits := d.xlt.waits ++ [w] } }).inc Reg.xltAtcMissCnt).atsGo)

/-- The pages of an access one after another, up to the first that has to wait. -/
def Dev.xlatePages (d : Dev) (f : Nat) (w : XWait) : List Nat → Bool × Dev
  | [] => (true, d)
  | p :: t =>
    match d.xlatePage f { w with addr := p } with
    | (true, d1) => Dev.xlatePages d1 f w t
    | (false, d1) => (false, d1)

/-- An access of an engine for a function: true where it may proceed now.  While one waits for the same purpose nothing more is sent.  The
Bench's queue memory is not translated (R405). -/
def Dev.xlate (d : Dev) (f : Nat) (want : Want) (pasid : Option Nat) (a len : Nat) (write : Bool) : Bool × Dev :=
  if f = benchFn then (true, d)
  else if d.islandOk 45 = false ∨ d.xlt.waits.any (fun w => w.want == want) then (false, d)
  else d.xlatePages f { want := want, rid := ridOf f, pasid := pasid, addr := a, write := write } (pagesOf a (max 1 len))

/-! ### Regions of the Try-square (R302, R304) -/

/-- Word `j` of region `k` of the Try-square's configuration in force. -/
def Dev.tsqC (d : Dev) (k j : Nat) : Word := d.fwd.tsqCfg.getD (1 + 4 * k + j) 0

/-- Region `k` of the Try-square runs in list mode. -/
def Dev.tsqList (d : Dev) (k : Nat) : Bool := getF (d.tsqC k 0) 59 2 == 1

/-! ### Entry fields (Table HQS-4) -/

def Sqe.w (e : Sqe) (k : Nat) : Word := e.words.getD k 0
def Sqe.opc (e : Sqe) : Nat := if e.unread then 0 else getF (e.w 0) 0 8
def Sqe.nocmp (e : Sqe) : Bool := !e.unread && getB (e.w 0) 9
def Sqe.tsReq (e : Sqe) : Bool := !e.unread && getB (e.w 0) 10
def Sqe.strV (e : Sqe) : Bool := getB (e.w 0) 11
def Sqe.stream (e : Sqe) : Nat := getF (e.w 0) 12 18
def Sqe.port (e : Sqe) : Nat := getF (e.w 0) 30 6
def Sqe.slice (e : Sqe) : Nat := getF (e.w 0) 36 2
def Sqe.prio (e : Sqe) : Nat := getF (e.w 0) 38 3
def Sqe.vid (e : Sqe) : Nat := getF (e.w 0) 41 12
def Sqe.len (e : Sqe) : Nat := getF (e.w 1) 0 14
def Sqe.tag (e : Sqe) : Nat := if e.unread then 0 else getF (e.w 1) 32 32
def Sqe.addr (e : Sqe) : Nat := (e.w 2).toNat

/-! ### Queues -/

def Dev.sq (d : Dev) (q : Nat) : Option Sq := Sparse.find d.hq.sqs q
def Dev.cq (d : Dev) (q : Nat) : Option Cq := Sparse.find d.hq.cqs q

/-- `2^LOG`. -/
def Sq.size (s : Sq) : Nat := 2 ^ s.log
def Cq.size (c : Cq) : Nat := 2 ^ c.log

/-- The CQ is full (R313), or counts as full (R328). -/
def Cq.full (c : Cq) : Bool := c.tail - c.head == c.size - 1 || c.stall || c.err

/-- The completions of SQ `s` are held: its CQ holds completions, or its function is in D3hot (R325, R333). -/
def Dev.sqHeld (d : Dev) (s : Sq) : Bool :=
  (match d.cq s.cq with | some c => c.held || c.err || c.stall | none => true) || s.rxStall || (d.fn s.fn).d3

/-- `HQ_QSTAT[q]` as the queues stand (Table HQS-14). -/
def Dev.qstatOf (d : Dev) (q : Nat) : Nat :=
  let s := d.sq q
  let c := d.cq q
  let f := match s, c with | some x, _ => x.fn | none, some y => y.fn | none, none => 0
  let heldS := match s with | some x => d.sqHeld x | none => false
  let heldC := match c with | some y => y.held | none => false
  let ovfS := match s with | some x => (match d.cq x.cq with | some y => y.ovf | none => false) | none => false
  let ovfC := match c with | some y => y.ovf | none => false
  let err := (match s with | some x => x.err | none => false) || (match c with | some y => y.err | none => false)
  fld 0 16 (match s with | some x => x.done % x.size | none => 0) + fld 16 1 (bit s.isSome) + fld 17 1 (bit c.isSome)
    + fld 18 2 (match s with | some x => x.kind | none => 0) + fld 20 1 (bit (heldS || heldC)) + fld 21 1 (bit (ovfS || ovfC))
    + fld 22 1 (bit err) + fld 23 1 (bit (d.hq.dbErr.contains q)) + fld 24 2 (pfOf f)
    + fld 26 8 (if f = benchFn then 0 else f / 4) + fld 34 16 (match c with | some y => y.tail % y.size | none => 0)

/-- `HQ_QSTAT[q]` brought up to date. -/
def Dev.syncQ (d : Dev) (q : Nat) : Dev := d.wr (Reg.hqQstat q) (BitVec.ofNat 64 (d.qstatOf q))

/-- The submission queues that target a completion queue. -/
def Dev.feeders (d : Dev) (c : Nat) : List Nat := (d.hq.sqs.filter (fun e => e.2.cq == c)).map (fun e => e.1)

/-- The status of a completion queue's pair and of every SQ that targets it brought up to date. -/
def Dev.syncC (d : Dev) (c : Nat) : Dev := ((d.feeders c).foldl (fun (x : Dev) q => x.syncQ q) d).syncQ c

/-- A submission queue changed. -/
def Dev.modSq (d : Dev) (q : Nat) (g : Sq → Sq) : Dev :=
  match d.sq q with
  | some s => ({ d with hq := { d.hq with sqs := Sparse.put d.hq.sqs q (g s) } }).syncQ q
  | none => d

/-- A completion queue changed. -/
def Dev.modCq (d : Dev) (q : Nat) (g : Cq → Cq) : Dev :=
  match d.cq q with
  | some c => ({ d with hq := { d.hq with cqs := Sparse.put d.hq.cqs q (g c) } }).syncC q
  | none => d

/-- Entry number `n` of queue `q` while in flight. -/
def Dev.sqe (d : Dev) (q n : Nat) : Option Sqe := (d.sq q).bind (fun s => s.flight.find? (fun e => e.n == n))

/-- Entry number `n` of queue `q` changed. -/
def Dev.modSqe (d : Dev) (q n : Nat) (g : Sqe → Sqe) : Dev :=
  d.modSq q (fun s => { s with flight := s.flight.map (fun e => if e.n = n then g e else e) })

/-! ### Queue counters (Table HQS-15, R342) -/

/-- Counter `k` of queue pair `q` in the queue counter store (Table BEN-4). -/
def qcntAddr (q k : Nat) : Nat := 0x21000000 + q * 0x40 + k * 8

/-- A queue counter advanced; while the store is unavailable the update waits, at most 4,096. -/
def Dev.qCount (d : Dev) (q k n : Nat) : Dev :=
  if n = 0 then d
  else if d.hbmOk then d.stW (qcntAddr q k) (BitVec.ofNat 64 ((d.ldW (qcntAddr q k)).toNat + n))
  else if d.hq.stalled.length < 4096 then { d with hq := { d.hq with stalled := d.hq.stalled ++ [(q, k, n)] } }
  else d.inc Reg.hqCntLostCnt

/-- The waiting updates written once the store is back. -/
def Dev.flushQ (d : Dev) : Dev :=
  d.hq.stalled.foldl (fun (x : Dev) e => x.qCount e.1 e.2.1 e.2.2) { d with hq := { d.hq with stalled := [] } }

/-! ### Completion entries (R312, R317, R325, R329) -/

/-- The submission queues of CQ `q` whose writeback word is still to be written for entries it holds. -/
def Dev.owing (d : Dev) (q : Nat) : List Nat := (d.feeders q).filter (fun n => (d.sq n).any (fun s => s.wbOwed))

/-- A message of CQ `q` waits for the writeback words of the submission queues `l`. -/
def Dev.fireAfter (d : Dev) (q : Nat) (l : List Nat) : Dev := l.foldl (fun (x : Dev) n => x.modSq n (fun s => { s with msi := s.msi ++ [q] })) d

/-- CQ `q` fires: at once, or after the writeback words of the SQs whose entries it reports (R317): the one whose retirement caused it, or every
one that owes its word. -/
def Dev.fireCq (d : Dev) (q : Nat) (sq : Option Nat) : Dev :=
  match d.cq q with
  | none => d
  | some c =>
    match sq.bind (fun n => (d.sq n).map (fun s => (n, s.wb))) with
    | some (n, w) => if w = 0 then d.fire c.fn c.vec else d.fireAfter q [n]
    | none => if d.owing q = [] then d.fire c.fn c.vec else d.fireAfter q (d.owing q)

/-- The writeback word of a queue is written: a message that waits for no other word is sent. -/
def Dev.firePast (d : Dev) (q : Nat) : Dev :=
  match d.cq q with
  | some c => if d.hq.sqs.any (fun e => e.2.msi.contains q) then d else d.fire c.fn c.vec
  | none => d

/-- UNREP counts an entry written to CQ `q`, and the interrupt fires where it is due (R329). -/
def Dev.unrep (d : Dev) (q : Nat) (sq : Option Nat) : Dev :=
  match d.cq q with
  | none => d
  | some c =>
    let n := c.unrep + 1
    if c.ien ∧ (c.count ≤ n ∨ c.timer = 0) then
      (d.modCq q (fun x => { x with unrep := 0, timerAt := none })).fireCq q sq
    else d.modCq q (fun x => { x with unrep := n
                                      timerAt := if x.timerAt.isNone then some (d.tim.up + c.timer * usU) else x.timerAt })

/-- PHASE of the entry with number `n` in a ring of 2^log (R312). -/
def phaseOf (n log : Nat) : Nat := if n / 2 ^ log % 2 = 0 then 1 else 0

/-- Four words as octets. -/
def wordsOctets (l : List Word) : List Byte := l.flatMap (fun w => leBytes 8 w.toNat)

/-- A completion entry written to CQ `q` (words without PHASE). -/
def Dev.putCqe (d : Dev) (q : Nat) (sq : Option Nat) (w0 w1 w2 w3 : Nat) : Dev :=
  match d.cq q with
  | none => d
  | some c =>
    let ws := [BitVec.ofNat 64 (w0 + fld 16 1 (phaseOf c.tail c.log)), BitVec.ofNat 64 w1, BitVec.ofNat 64 w2, BitVec.ofNat 64 w3]
    let d1 := d.memWrite c.fn c.pasid (c.base + c.tail % c.size * 32) (wordsOctets ws)
    (((d1.modCq q (fun x => { x with tail := x.tail + 1 })).inc Reg.hqCqeCnt).qCount q 1 1).unrep q sq

/-- A completion or record that finds CQ `q` full: HELD, OVF_PEND, the counters and the overflow interrupt, in that clock (R325). -/
def Dev.overflow (d : Dev) (q : Nat) : Dev :=
  match d.cq q with
  | none => d
  | some c =>
    if c.held then d
    else
      let d1 := ((d.modCq q (fun x => { x with held := true, ovf := true })).inc Reg.hqOvfCnt).qCount q 5 1
      (d1.modCq q (fun x => { x with unrep := 0, timerAt := none })).fire c.fn c.vec

/-- A queue or channel waits its turn at a held CQ. -/
def Dev.waitCq (d : Dev) (c who : Nat) : Dev :=
  d.modCq c (fun x => { x with order := if x.order.contains who then x.order else x.order ++ [who] })

/-- R333: a function in D3hot with PME_En = 1 and a CQ that holds unreleased entries or held completions sends a PM_PME message, once. -/
def Dev.pmeCheck (d : Dev) (f : Nat) : Dev :=
  let x := d.fn f
  if x.d3 ∧ x.pmeEn ∧ x.pmeStatus = false
      ∧ d.hq.cqs.any (fun e => e.2.fn == f && (decide (e.2.head < e.2.tail) || !e.2.order.isEmpty)) then
    (d.modFn f (fun y => { y with pmeStatus := true })).emit (.pcie 2 [ridOf f])
  else d

/-- The entry takes a completion entry when it retires (R317). -/
def Sqe.posts (s : Sq) (e : Sqe) : Bool := !(s.kind != 1 && e.nocmp && e.status == some 0)

/-- The completion entry of `e` of queue `q` written (Table HQS-5). -/
def Dev.postSqe (d : Dev) (q : Nat) (s : Sq) (e : Sqe) : Dev :=
  let st := e.status.getD 0
  let name := if s.fn < 4 ∨ s.fn = benchFn then q else q - (d.fn s.fn).first
  let w0 := fld 0 16 ((e.n + 1) % s.size) + fld 24 8 st + fld 32 16 name + fld 48 8 e.opc
  let w1 := if s.kind = 1 then e.rx.toNat else if st = 1 then e.cause else 0
  let d1 := d.putCqe s.cq (some q) w0 w1 e.ts.toNat e.tag
  if st = 0 then d1 else if st = 1 then d1.qCount q 3 1 else d1.qCount q 4 1

/-- The oldest entry of queue `q` leaves flight: SQ_DONE advances and the counters follow (R316). -/
def Dev.dropHead (d : Dev) (q : Nat) (e : Sqe) : Dev :=
  ((d.modSq q (fun x => { x with flight := x.flight.drop 1, done := e.n + 1, wbOwed := x.wb != 0 })).inc Reg.hqEntryCnt).qCount q 0 1

/-- Memory of a function's queues can be written or read: device memory of the Bench must lie in the customer region and answer (R404,
R405); host memory is judged by translation. -/
def Dev.memOk (d : Dev) (f a len : Nat) : Bool :=
  f != benchFn || (d.hbmOk && decide (0x80000000 ≤ a ∧ a + len ≤ 0x600000000))

/-- The memory of CQ `q` failed: it is in ERROR, its completions stay held, and the fault is raised (R328). -/
def Dev.cqFail (d : Dev) (q : Nat) : Dev := (d.modCq q (fun x => { x with err := true, stall := false })).raise 11 0 0x10 q

/-- The oldest entry of queue `q` retires where it is finished and may (R316, R317): its completion is written, or held. -/
def Dev.retire (d : Dev) (q : Nat) : Dev :=
  match d.sq q with
  | none => d
  | some s =>
    match s.flight.head? with
    | none => d
    | some e =>
      if e.status.isNone ∨ d.reach s.fn = false then d
      else match d.cq s.cq with
        | none => d
        | some c =>
          if (d.fn s.fn).d3 then ((d.waitCq s.cq q).syncQ q).pmeCheck s.fn
          else if c.held then d.waitCq s.cq q
          else if e.posts s then
            if c.full then (d.overflow s.cq).waitCq s.cq q
            else if d.memOk s.fn (c.base + c.tail % c.size * 32) 32 = false then d.cqFail s.cq
            else
              match d.xlate s.fn (.cqWrite s.cq) c.pasid (c.base + c.tail % c.size * 32) 32 true with
              | (true, d1) => (d1.postSqe q s e).dropHead q e
              | (false, d1) => d1.waitCq s.cq q
          else d.dropHead q e

/-! ### The end of an entry -/

/-- Entry `n` of queue `q` is finished with a status (Table HQS-6). -/
def Dev.endSqe (d : Dev) (q n st cause : Nat) (ts : Word) : Dev :=
  match d.sqe q n with
  | none => d
  | some e =>
    if e.status.isSome then d
    else
      let d0 := d.modSqe q n (fun x => { x with status := some st, cause := cause, ts := ts, reading := false, run := true })
      let d1 : Dev := { d0 with cal := { d0.cal with insts := d0.cal.insts.map (fun i =>
        if i.entry = some (q, n) ∧ i.frame.isNone then { i with lost := if st = 6 ∨ st = 7 then 1 else 2 } else i) } }
      if st = 6 then d1.inc Reg.hqXlateCnt else if st = 7 then d1.inc Reg.hqDataErrCnt else d1

/-- The outcome on the lowest-numbered port that satisfies `f`. -/
def lowest (l : List (Nat × Nat × Nat × Word)) (f : Nat × Nat × Nat × Word → Bool) : Option (Nat × Nat × Nat × Word) :=
  (l.filter f).foldl (fun best x => match best with | none => some x | some b => if x.1 < b.1 then some x else some b) none

/-- One copy of an entry's frame ended on a port: sent in full (status 0, with its egress stamp) or not.  With the last copy the entry is
finished (R321). -/
def Dev.copyEnd (d : Dev) (en : Option (Nat × Nat)) (port st cause : Nat) (stamp : Word) : Dev :=
  match en with
  | none => d
  | some (q, n) =>
    match d.sqe q n with
    | none => d
    | some e =>
      let res := e.res ++ [(port, st, cause, stamp)]
      let d1 := d.modSqe q n (fun x => { x with res := res, left := x.left - 1 })
      if 1 < e.left then d1
      else
        let ts := match lowest res (fun r => r.2.1 == 0) with
          | some r => if e.tsReq then r.2.2.2 else 0
          | none => 0
        match lowest res (fun r => r.2.1 != 0) with
        | none => d1.endSqe q n 0 0 ts
        | some r => d1.endSqe q n r.2.1 r.2.2.1 ts

/-! ### Delivery to a queue pair (R323) -/

/-- A received frame for queue pair `q` is dropped whole. -/
def Dev.rxDrop (d : Dev) (id q : Nat) : Dev :=
  let d1 := (d.inc Reg.hqRxDropCnt)
  let d2 := if (d1.sq q).isSome ∨ (d1.cq q).isSome then d1.qCount q 2 1 else d1
  match d2.frame id with
  | some f => (d2.setFrame id { f with hosts := f.hosts - 1 }).reap id
  | none => d2

/-- Word 1 of an RX completion (Table HQS-5). -/
def rxWord (f : Frame) : Word :=
  BitVec.ofNat 64 (fld 0 14 f.octets.length + fld 14 6 (f.rx.getD 0) + fld 20 1 (bit f.stream.isSome) + fld 21 18 (f.stream.getD 0)
    + fld 39 12 f.vid + fld 51 3 f.prio + fld 54 1 (bit f.loc))

/-- The frame is written to its buffer, and the buffer's entry is finished. -/
def Dev.rxStore (d : Dev) (id q n : Nat) : Dev :=
  match d.frame id, d.sq q, d.sqe q n with
  | some f, some s, some e =>
    let d1 := (if s.fn = benchFn then d.stN e.addr f.octets else d.hostWrites s.fn s.pasid e.addr f.octets).modSqe q n (fun x => { x with rx := rxWord f })
    let d2 := d1.endSqe q n 0 0 (compact f.stamp)
    (d2.setFrame id { f with hosts := f.hosts - 1 }).reap id
  | _, _, _ => d

/-- The frame is written, or waits: for the link (R335), or for the translation of its buffer with the RX SQ held at it (R336). -/
def Dev.rxWrite (d : Dev) (id q n : Nat) : Dev :=
  let wait := fun (x : Dev) => { x with hq := { x.hq with rxWait := x.hq.rxWait ++ [(id, q, n)] } }
  match d.frame id, d.sq q, d.sqe q n with
  | some f, some s, some e =>
    if d.reach s.fn = false then wait d
    else match d.xlate s.fn (.rxWrite q n) s.pasid e.addr f.octets.length true with
      | (true, d1) => d1.rxStore id q n
      | (false, d1) => wait d1
  | _, _, _ => d

/-- Received frames that waited for the link are written, those that wait for a translation apart. -/
def Dev.rxRetry (d : Dev) : Dev :=
  let go := d.hq.rxWait.filter (fun e => !(d.xlt.waits.any (fun w => w.want == .rxWrite e.2.1 e.2.2)))
  go.foldl (fun (x : Dev) e => x.rxWrite e.1 e.2.1 e.2.2) { d with hq := { d.hq with rxWait := d.hq.rxWait.filter (fun e => !(go.contains e)) } }

/-- Forwarding delivers frame `id` to queue pair `q`: the next fetched RX_BUF entry takes it, or it is dropped (R323). -/
def Dev.deliver (d : Dev) (id q : Nat) : Dev :=
  match d.frame id with
  | none => d
  | some f =>
    let d0 := d.setFrame id { f with hosts := f.hosts + 1 }
    match d0.sq q with
    | none => d0.rxDrop id q
    | some s =>
      if s.kind ≠ 1 ∨ s.err ∨ d0.sqHeld s ∨ s.drain ∨ (d0.fn s.fn).d3 ∨ d0.fnResetting s.fn then d0.rxDrop id q
      else match s.flight.find? (fun e => e.run && e.status.isNone && e.frame.isNone) with
        | none => d0.rxDrop id q
        | some e =>
          if e.len < f.octets.length then d0.rxDrop id q
          else (d0.modSqe q e.n (fun x => { x with frame := some id })).rxWrite id q e.n

end Sys2Proof.Machine
end

