-- ==== Sys2Proof/Machine/JigRules.lean ====
section
/-! DEFINITION. Chapter 14: which Jig rule meets a frame (R424, R425) and what a corrupting rule makes of its octets (Table FLT-9). -/

namespace Sys2Proof.Machine

/-- `JIG_STAT.ACTIVE` (R424). -/
def Dev.jigActive (d : Dev) : Bool := d.gb Reg.jigStat 0

/-- The target of a rule takes in port `p`: the port itself, channel A or channel B. -/
def jigTarget (t p : Nat) : Bool := t == p || (t == 36 && (p == 32 || p == 33)) || (t == 37 && (p == 34 || p == 35))

/-- The MKIND condition of rule `n` for a frame's octets on port `p` (Table FLT-12).  A rule with MKIND ≠ 0 matches express frames and
initial fragments only (`first`). -/
def Dev.jigMatches (d : Dev) (n p : Nat) (tx : Bool) (octets : List Byte) (stream : Option Nat) (first : Bool) : Bool :=
  let cfg := d.rd (Reg.jigRuleCfg n)
  let v := d.gf (Reg.jigRuleMatch n) 0 18
  getB cfg 0 && getB cfg 1 == tx && jigTarget (getF cfg 8 6) p
    && (match getF cfg 14 2 with
        | 0 => true
        | 1 => first && decide (32 ≤ p) && be16 octets 12 == 0x88B5 && beNat ((octets.drop 14).take 1) % 16 == v % 16
        | 2 => first && stream == some v
        | _ => first && etherType (tagsOf (d.svlan p) (d.rtagRx p) octets) octets == v % 65536)

/-- The rule that acts on a frame: the lowest armed rule that matches counts the match and acts on every EVERY-th; at LIMIT it disarms. -/
def Dev.jigRule (d : Dev) (p : Nat) (tx : Bool) (octets : List Byte) (stream : Option Nat) (first : Bool) : Option Nat × Dev :=
  if !d.jigActive then (none, d)
  else match (List.range 16).find? (fun n => d.jigMatches n p tx octets stream first) with
    | none => (none, d)
    | some n =>
      let m := Sparse.getD d.flt.matches_ n 0 + 1
      let d1 := { d with flt := { d.flt with matches_ := Sparse.put d.flt.matches_ n m } }
      if m % d.gf (Reg.jigRuleCfg n) 16 16 = 0 then
        let a := Sparse.getD d1.flt.acts n 0 + 1
        let d2 := ({ d1 with flt := { d1.flt with acts := Sparse.put d1.flt.acts n a } }).inc (Reg.jigHitCnt n)
        let lim := d.gf (Reg.jigRuleCfg n) 32 32
        (some n, if lim ≠ 0 ∧ lim ≤ a then d2.sb (Reg.jigRuleCfg n) 0 false else d2)
      else (none, d1)

/-- ACTION of a rule. -/
def Dev.jigAction (d : Dev) (n : Nat) : Nat := d.gf (Reg.jigRuleCfg n) 2 4

/-- The octet at `o` with its bit 0 inverted. -/
def flipOctet (l : List Byte) (o : Nat) : List Byte := overwriteAt l o [(l.getD o 0) ^^^ 1]

/-- Table FLT-9, Corrupt, on an mPacket: `pre` the frame's octets of earlier mPackets, `l` its own, `check` its check value as it would be
sent.  Answers the octets with their check value. -/
def Dev.jigCorrupt (d : Dev) (n : Nat) (pre l check : List Byte) : List Byte :=
  let o := min (d.gf (Reg.jigRuleParam n) 0 14) (l.length - 1)
  match d.gf (Reg.jigRuleCfg n) 6 2 with
  | 0 =>
    let l1 := flipOctet l o
    l1 ++ (if check = fcsOf (pre ++ l) then fcsOf (pre ++ l1) else if check = mcrcOf (pre ++ l) then mcrcOf (pre ++ l1) else check)
  | 1 => flipOctet l o ++ check
  | _ => l.take (o + 1) ++ stompOf (pre ++ l.take (o + 1))

end Sys2Proof.Machine
end

