-- ==== Sys2Proof/Machine/Egress.lean ====
section
/-! DEFINITION. The octets a frame has as it leaves a port: tag actions, padding and the length limit (R146, R249, R250, R256), the
Dovetail DATA frame (R173–R175), PTP insertion (R45, R46), and egress and ingress stamps (R47–R49). -/

namespace Sys2Proof.Machine

/-! ### Stamps (R47–R49) -/

/-- Fuse plus shim of a direction in 2^-48 ns: `o` 0 receive, 16 transmit (R49); the shim is signed (R50), the fuse is a delay. -/
def Dev.tsCal (d : Dev) (p o : Nat) : Int :=
  ((d.gf (Reg.timTsFuse p) o 16 : Nat) + toSigned 16 (d.gf (Reg.timTsShim p) o 16)) * (2 ^ 46 : Nat)

/-- The egress stamp of a frame whose first bit is captured at local time `x`: the message point is 8 octets later (R47, R49). -/
def Dev.egressStamp (d : Dev) (p x : Nat) : Nat :=
  ((stampOf (x + octetTime (d.portRate p) 8) : Nat) + d.tsCal p 16 : Int).toNat

/-- The egress stamp of a frame launched at L: its first bit leaves at L at the plane of the stamps, delays applied (R85). -/
def Dev.launchStamp (d : Dev) (p l : Nat) : Nat := stampOf (l + octetTime (d.portRate p) 8)

/-- The ingress stamp of a frame whose message point is captured at local time `x` (R49). -/
def Dev.ingressStamp (d : Dev) (p x : Nat) : Nat := ((stampOf x : Nat) - d.tsCal p 0 : Int).toNat

/-! ### PTP messages (Table TIM-4, R45, R46) -/

/-- Offset of the PTP message in a frame and of its UDP header, where it is a PTP event message of transport bit `t` (1 IEEE 802.3,
2 UDP over IPv4, 3 UDP over IPv6) enabled in `tr`; `port` is the UDP port. -/
def ptpAt (tr port : Nat) (l : List Byte) : Option (Nat × Option (Nat × Bool)) :=
  let o := afterTags (tagsOf true true l) + 2
  let et := be16 l (o - 2)
  let b := fun i => (l.getD i 0).toNat
  if et = 0x88F7 then (if tr.testBit 0 then some (o, none) else none)
  else if et = 0x0800 then
    let u := o + b o % 16 * 4
    if tr.testBit 1 ∧ b (o + 9) = 17 ∧ be16 l (u + 2) = port then some (u + 8, some (u, false)) else none
  else if et = 0x86DD then
    if tr.testBit 2 ∧ b (o + 6) = 17 ∧ be16 l (o + 42) = port then some (o + 48, some (o + 40, true)) else none
  else none

/-- The PTP event message of a frame on an edge port with PTP_EN = 1: message offset, UDP header. -/
def Dev.ptpOf (d : Dev) (p : Nat) (l : List Byte) : Option (Nat × Option (Nat × Bool)) :=
  if p < 32 ∧ d.gb (Reg.timPortCfg p) 0 then
    match ptpAt (d.gf (Reg.timPortCfg p) 1 3) 319 l with
    | some x => if (l.getD x.1 0).toNat % 16 < 4 then some x else none
    | none => none
  else none

/-- Ones' complement sum of 16-bit words. -/
def onesSum (l : List Byte) : Nat → Nat
  | 0 => 0
  | n + 1 => beNat ((l.take 1) ++ ((l.drop 1).take 1) ++ (if l.length = 1 then [0] else [])) + onesSum (l.drop 2) n

/-- The UDP checksum of the datagram at `u` of a frame. -/
def udpSum (v6 : Bool) (l : List Byte) (u : Nat) : Nat :=
  let len := be16 l (u + 4)
  let ips := if v6 then (l.drop (u - 32)).take 32 else (l.drop (afterTags (tagsOf true true l) + 14)).take 8
  let dgram := overwriteAt ((l.drop u).take len) 6 [0, 0]
  let s := onesSum ips 16 + 17 + len + onesSum dgram (dgram.length / 2 + 1)
  let f := s % 65536 + s / 65536
  let g := f % 65536 + f / 65536
  if g = 65535 then 65535 else 65535 - g

/-- The UDP checksum recomputed, where there is one. -/
def fixUdp (l : List Byte) : Option (Nat × Bool) → List Byte
  | some (u, v6) => overwriteAt l (u + 6) (beBytes 2 (udpSum v6 l u))
  | none => l

/-- correctionField advanced by `x` (2^-16 ns). -/
def addCorrection (l : List Byte) (o x : Nat) : List Byte :=
  overwriteAt l (o + 8) (beBytes 8 ((beNat ((l.drop (o + 8)).take 8) + x) % 2 ^ 64))

/-- R46 for a frame forwarded between edge ports, R45 for a Sync with twoStepFlag = 0 on a port with ONE_STEP = 1: the octets as they leave
with egress stamp `s`. -/
def Dev.ptpFix (d : Dev) (p : Nat) (f : Frame) (s : Nat) (l : List Byte) : List Byte :=
  match d.ptpOf p l with
  | none => l
  | some (o, udp) =>
    let ty := (l.getD o 0).toNat % 16
    let tc := d.gf (Reg.timPortCfg p) 5 2
    let residence := (s - f.stamp) / 2 ^ 32
    let l1 := match f.rx with
      | some i =>
        if i < 32 ∧ tc = 1 ∧ ty < 2 then addCorrection l o residence
        else if i < 32 ∧ tc = 2 ∧ ty = 0 then addCorrection l o (residence + d.gf (Reg.timPortLdly i) 0 32)
        else l
      | none => l
    let l2 := if d.gb (Reg.timPortCfg p) 4 ∧ ty = 0 ∧ (l.getD (o + 6) 0).toNat.testBit 1 = false then
        addCorrection (overwriteAt l1 (o + 34) (beBytes 6 (s / secU) ++ beBytes 4 (s % secU / nsU))) o (s % nsU / 2 ^ 32)
      else l1
    if l2 = l then l else fixUdp l2 udp

/-- A Pdelay message of a transport that edge port `q` recognises: it is not forwarded (R46). -/
def Dev.isPdelay (d : Dev) (q : Nat) (l : List Byte) : Bool :=
  decide (q < 32) && d.gb (Reg.timPortCfg q) 0
  && ((match ptpAt (d.gf (Reg.timPortCfg q) 1 3) 319 l with
       | some x => let ty := (l.getD x.1 0).toNat % 16; ty == 2 || ty == 3 || ty == 10
       | none => false)
    || (match ptpAt (d.gf (Reg.timPortCfg q) 1 3) 320 l with
       | some x => (l.getD x.1 0).toNat % 16 == 10
       | none => false))

/-! ### Tag actions, padding, limit -/

/-- The TCI a stream record inserts (Table STR-1). -/
def Dev.strTci (d : Dev) (s : Nat) : Nat := tciOf (d.sg s 1 32 3) (d.sg s 1 35 1) (d.sg s 1 20 12)

/-- Edge egress of a frame before padding: Table STR-7 for a stream, R256 for any other frame. -/
def Dev.edgeTags (d : Dev) (p : Nat) (f : Frame) (l : List Byte) : List Byte :=
  match f.stream with
  | some s => rtagAction (!f.noRtag) (d.sg s 1 16 2) f.seq (vlanAction (!f.noRtag) (d.sg s 1 18 2) (d.strTci s) l)
  | none =>
    match outerVlan (tagsOf (d.svlan p) (d.rtagRx p && !f.noRtag) l) with
    | some (o, tci) =>
      if d.gb (Reg.macVlanCfg p) 19 ∧ tci % 4096 = d.gf (Reg.macVlanCfg p) 0 12 then cutAtOfs l o 4 else l
    | none => l

/-- The channel of a ring port: 0 A, 1 B (R163). -/
def Dev.chanOf (d : Dev) (p : Nat) : Nat := if d.sameRing then attOf p else d.gf (Reg.rngCtl (attOf p)) 3 1

/-- The Dovetail header (Table RNG-3) of a frame sent on port `p`. -/
def Dev.doveHeader (d : Dev) (p ty src hops be cyc ofs dly seq stream : Nat) : List Byte :=
  let a := d.memOf (attOf p)
  let ring := d.gf (Reg.rngCtl a) 12 4
  let bank := (d.activeBank.getD 0)
  beBytes 6 (0x03DF70000000 + ring) ++ beBytes 6 (d.gf Reg.rngMac 0 48) ++ beBytes 2 0x88B5
    ++ beBytes 1 (16 + ty) ++ beBytes 1 (fld 2 6 src + fld 1 1 (d.chanOf p) + fld 0 1 (if p % 2 = 0 then 1 else 0))
    ++ beBytes 2 (fld 12 4 ring + fld 6 6 hops + fld 0 1 be) ++ beBytes 6 cyc
    ++ beBytes 4 (fld 30 2 bank + fld 0 30 ofs) ++ beBytes 4 dly ++ beBytes 2 seq ++ beBytes 3 (fld 6 18 stream) ++ [0]

/-- NODE_ID of the attachment of a ring port. -/
def Dev.nodeId (d : Dev) (a : Nat) : Nat := d.gf (Reg.rngCtl (d.memOf a)) 4 6

/-- The DATA frame of an inner frame (R174, R175) whose first bit leaves at local time `x`: `sched` for a launch. -/
def Dev.dataFrame (d : Dev) (p : Nat) (f : Frame) (sched : Bool) (x : Nat) (l : List Byte) : List Byte :=
  let a := attOf p
  let h := f.dove.getD (d.nodeId a, 0, bit (!sched))
  let hops := if f.dove.isSome then h.2.1 + 1 else 0
  let be := if sched then h.2.2 else 1
  let st := if be = 1 then 0 else f.stream.getD 0
  d.doveHeader p 3 h.1 hops be (d.ringNum a x) ((x - d.ringBegin a x) / nsU) 0 (f.seq.getD 0) st ++ l

/-- A frame's octets on port `p` without FCS, after tag actions and padding, before any PTP insertion.  `l` is the frame's octets. -/
def Dev.egressOf (d : Dev) (p : Nat) (f : Frame) (sched : Bool) (x : Nat) (l : List Byte) : List Byte :=
  if p < 32 then padTo60 (d.edgeTags p f l) else d.dataFrame p f sched x (padTo60 (dropRtag (!f.noRtag) l))

/-- A frame's octets, of a cut-through frame as far as they are known, up to its whole length. -/
def Frame.known (f : Frame) : List Byte :=
  if f.ready then f.octets else f.octets ++ List.replicate (f.total - 4 - f.octets.length) 0

/-- The octets that decide a frame's tags are at hand: two addresses, three tags and an EtherType. -/
def Frame.headKnown (f : Frame) : Bool := f.ready || decide (28 ≤ f.octets.length)

/-- The octets of a frame for egress on port `p` (without FCS). -/
def Dev.egress (d : Dev) (p : Nat) (f : Frame) (sched : Bool) (x : Nat) : List Byte :=
  d.egressOf p f sched x f.known

/-- Octets of padding were inserted (R249). -/
def Dev.padded (d : Dev) (p : Nat) (f : Frame) : Bool :=
  decide ((if p < 32 then d.edgeTags p f f.known else dropRtag (!f.noRtag) f.known).length < 60)

/-- The length of a frame on the wire of port `p`, FCS included. -/
def Dev.egressLen (d : Dev) (p : Nat) (f : Frame) : Nat := (d.egress p f false d.now).length + 4

/-- R250: the frame exceeds the limit of the egress port, an R-TAG counting whatever RTAG_RX holds; a cut-through frame is judged once its tags
are at hand. -/
def Dev.tooLong (d : Dev) (p : Nat) (f : Frame) : Bool :=
  if p < 32 then
    let l := d.egress p f false d.now
    f.headKnown && decide (d.maxLen p (tagsOf (d.svlan p) true l) < l.length + 4)
  else decide (9262 < d.egressLen p f)

/-- The frame is stamped at egress (R48). -/
def Dev.stamped (d : Dev) (p : Nat) (f : Frame) (l : List Byte) : Bool :=
  decide (32 ≤ p) || f.wantStamp || (d.ptpOf p l).isSome

end Sys2Proof.Machine
end

