-- ==== Sys2Proof/Machine/Ports.lean ====
section
/-! DEFINITION. The transmitter of a port (chapters 3, 4 and 8): what may start and when (R88–R91, R170), the order of choice (R115), the
start and the end of an mPacket (R103–R105, R112, R113), cut requests (R114), holds (R116), and what a transmission's end counts. -/

namespace Sys2Proof.Machine

/-! ### Status shown in PRE_PORT_STAT -/

/-- `PRE_PORT_STAT[p].ACTIVE` (R106). -/
def Dev.preActive (d : Dev) (p : Nat) : Bool := d.gb (Reg.prePortStat p) 3

/-- `NEST_ST` (Table PRE-4). -/
def Dev.nestSt (d : Dev) (p : Nat) : Nat := d.gf (Reg.prePortStat p) 4 2

/-- The effective addFragSize (R112). -/
def Dev.effFrag (d : Dev) (p : Nat) : Nat :=
  let k := d.gf (Reg.prePortCfg p) 2 2
  if d.nestSt p = 2 then max k (d.gf (Reg.prePortStat p) 8 2) else k

/-- HOLD, TX_ADD_FRAG, SUSP_P and SUSP_X brought up to date. -/
def Dev.syncPre (d : Dev) (p : Nat) : Dev :=
  let x := d.port p
  let a := Reg.prePortStat p
  (((d.sb a 7 (!x.holds.isEmpty)).sf a 10 2 (d.effFrag p)).sb a 12 x.suspP.isSome).sb a 13 x.suspX.isSome

/-- The encoding in use follows NEST_ST at a moment when no express frame is suspended (R111). -/
def Dev.nestNow (d : Dev) (p : Nat) (y : PortSt) : PortSt := if y.suspX.isSome then y else { y with nested := d.nestSt p == 2 }

/-- A port's state changed. -/
def Dev.modPort (d : Dev) (p : Nat) (g : PortSt → PortSt) : Dev := (d.setPort p (d.nestNow p (g (d.port p)))).syncPre p

/-! ### Lengths and instants of an mPacket -/

/-- Octets of frame data this mPacket carries. -/
def Tx.dataLen (t : Tx) : Nat :=
  match t.cutTo, t.stompAt with
  | _, some n => n
  | some n, none => n
  | none, none => t.octets.length - t.sent

/-- Octets of the frame not yet sent before this mPacket, FCS included. -/
def Tx.left (t : Tx) : Nat := t.octets.length - t.sent + 4

/-- Instant (`up`) at which the mPacket's last bit has left: header, data, check value. -/
def Dev.txEnd (d : Dev) (p : Nat) (t : Tx) : Nat := t.start + octetTime (d.portRate p) (t.dataLen + 12)

/-- The inter-frame gap of 12 octets. -/
def Dev.gapU (d : Dev) (p : Nat) : Nat := octetTime (d.portRate p) 12

/-- Octets of frame data of the mPacket on the wire at instant `u`, rounded up to an octet boundary. -/
def Dev.sentAt (d : Dev) (p : Nat) (t : Tx) (u : Nat) : Nat :=
  (((u - t.start) * d.portRate p + 8000 * nsU - 1) / (8000 * nsU)) - 8

/-- The SMD octet of an mPacket (Table PRE-2). -/
def Tx.smd (t : Tx) : Nat :=
  match t.kind with
  | .verify => 0x07
  | .respond => 0x19
  | .announce => 0x6B
  | .annResp => 0xBC
  | _ =>
    if !t.frag then 0xD5
    else if t.mp = 0 then
      (if t.nest then [0x34, 0x8B, 0xC8, 0x5D] else [0xE6, 0x4C, 0x7F, 0xB3]).getD (t.fc % 4) 0
    else (if t.nest then [0xA7, 0x1E, 0x73, 0xF8] else [0x61, 0x52, 0x2A, 0x9E]).getD (t.fc % 4) 0

/-- The frag count octet of a continuation (R104). -/
def Tx.fragOctet (t : Tx) : Option Nat := if t.frag ∧ t.mp ≠ 0 then some ([0xE6, 0x4C, 0x7F, 0xB3].getD ((t.mp - 1) % 4) 0) else none

/-- The frame data this mPacket carries, padded with 0x00 where a stomp ends it beyond the octets at hand (R125). -/
def Tx.data (t : Tx) : List Byte :=
  let l := (t.octets.drop t.sent).take t.dataLen
  l ++ List.replicate (t.dataLen - l.length) 0

/-- The check value that ends the mPacket (R105). -/
def Tx.check (t : Tx) : List Byte :=
  let l := t.octets.take t.sent ++ t.data
  match t.kind with
  | .verify | .respond | .announce | .annResp => mcrcOf l
  | _ => if t.stompAt.isSome then stompOf l else if t.cutTo.isSome then mcrcOf l else fcsOf l

/-! ### Holds and what may start -/

/-- A transmission of class `c` is covered by a hold raised now, or due at this instant (R116, R121). -/
def Dev.covered (d : Dev) (p c : Nat) (x : Nat) : Bool :=
  (d.port p).holds.any (fun h => decide (c < (if h.crit then 2 else 1)))
  || (d.preActive p && (match d.nextResv p x with
      | some r => decide (c < r.cls ∧ r.at_ ≤ x + d.holdAdvU p)
      | none => false))

/-- A received PAUSE acts on port `p` at local time `x` (R91, R258): RX_EN, and SCHED_EN = 0 or RX_ON_SCHED. -/
def Dev.pauseActs (d : Dev) (p x : Nat) : Bool :=
  d.gb (Reg.macPauseCfg p) 0 && (!(getB (d.portCfgAt p x) 0) || d.gb (Reg.macPauseCfg p) 1)

/-- A received pause is in force (R258). -/
def Dev.paused (d : Dev) (p : Nat) : Bool := d.gb (Reg.macStat p) 0 && d.pauseActs p d.now

/-- R90 and R118: a transmission of class `c` need not fit before a reserved launch of a higher class that clears the wire by its hold. -/
def Dev.waived (d : Dev) (p c : Nat) (r : Resv) : Bool :=
  r.launch && d.preActive p && ((c == 0 && decide (0 < r.cls)) || (c == 1 && (d.port p).nested && r.cls == 2))

/-- R88, R90, R93: a non-scheduled transmission of `m` octets and class `c` may start at local time `x` as far as reserved intervals go.
The edge ports of a slice whose calendar is out send without guard (R95). -/
def Dev.fitsResv (d : Dev) (p m c x : Nat) : Bool :=
  if p < 32 ∧ (d.schedEn p = false ∨ d.sliceOut (sliceOf p)) then true
  else (d.resvAt p x).isEmpty && (match d.nextResv p x with
    | none => true
    | some r => decide (x + d.wireTime p m + d.guardU p ≤ r.at_) || d.waived p c r)

/-- `RNG_BE_CFG[a]` in force (R168). -/
def Dev.beCfg (d : Dev) (a : Nat) : Word := Sparse.getD d.rng.beOld a (d.rd (Reg.rngBeCfg a))

/-- R170: on a ring port the transmission lies in the best-effort window. -/
def Dev.fitsWindow (d : Dev) (p m x : Nat) : Bool :=
  if p < 32 then true
  else
    let a := d.memOf (attOf p)
    let b := d.ringBegin a x
    decide (b + getF (d.beCfg a) 0 30 * nsU ≤ x)
    && decide (x + d.wireTime p m + d.guardU p ≤ b + getF (d.beCfg a) 32 30 * nsU)

/-- The receiver sees local fault on a port of 10 Gb/s or faster: remote fault is sent in place of frames (R243). -/
def Dev.remoteFault (d : Dev) (p : Nat) : Bool := d.gb (Reg.pcsStat p) 8 && decide (10000 ≤ d.portRate p)

/-- The port can transmit: link up and no remote fault to send, island up and not fenced, ring ports only while inserted (R165), not in LPI, wake
complete (R263). -/
def Dev.canSend (d : Dev) (p t : Nat) : Bool :=
  let x := d.port p
  d.linkUp p && !(d.remoteFault p) && d.islandOk (txIsland p) && (decide (p < 32) || d.inserted (attOf p))
  && x.lpiSince.isNone && (match x.wakeEnd with | some w => decide (w ≤ t) | none => true)

/-! ### What waits, and the order of choice (R89, R107, R110, R115, R261) -/

/-- Something a transmitter may start. -/
inductive Item where
  | ctl | pause | respond | verify | announce | annResp
  | cont (express : Bool)
  | new (prio id cls : Nat)
  deriving DecidableEq, Repr

/-- The class `PRE_CLASS_MAP[p]` gives a priority (R99). -/
def Dev.mapCls (d : Dev) (p prio : Nat) : Nat := d.gf (Reg.preClassMap p) (2 * (prio % 8)) 2

/-- The head of each priority's queue, highest priority first. -/
def Dev.heads (d : Dev) (p : Nat) : List Item :=
  [7, 6, 5, 4, 3, 2, 1, 0].filterMap (fun pr =>
    ((d.port p).queue.find? (fun e => e.1 == pr)).map (fun e => .new pr e.2 (d.mapCls p pr)))

/-- The class of an item. -/
def Item.cls : Item → Nat
  | .ctl => 2
  | .cont x => if x then 1 else 0
  | .new _ _ c => c
  | _ => 1

/-- The item is a frame of the packet buffer or of the ring, which may ask for a cut (R114); verify, respond, announce and PAUSE mPackets wait
for a frame boundary (R107, R110, R261). -/
def Item.isFrame : Item → Bool
  | .ctl | .cont _ | .new _ _ _ => true
  | _ => false

/-- Everything that waits, in the order of choice. -/
def Dev.items (d : Dev) (p : Nat) : List Item :=
  let x := d.port p
  let h := d.heads p
  (if x.ctl.isEmpty then [] else [.ctl])
  ++ (if x.pauseOwed.isSome && d.gb (Reg.macPauseCfg p) 3 then [.pause] else [])
  ++ h.filter (fun i => i.cls == 2)
  ++ (if x.suspX.isSome then [.cont true] else [])
  ++ (if x.respond = 0 then [] else [.respond])
  ++ (if d.gf (Reg.prePortStat p) 0 3 = 2 then [.verify] else [])
  ++ (if x.nOwed then [.announce] else [])
  ++ (if x.annResp = 0 then [] else [.annResp])
  ++ (if x.suspX.isSome then [] else h.filter (fun i => i.cls == 1))
  ++ (if x.suspP.isSome then [.cont false] else h.filter (fun i => i.cls == 0))

/-- Octets an item takes on the wire, FCS included. -/
def Dev.itemLen (d : Dev) (p : Nat) : Item → Nat
  | .ctl => 128
  | .pause => 64
  | .cont true => match (d.port p).suspX with | some t => t.left | none => 0
  | .cont false => match (d.port p).suspP with | some t => t.left | none => 0
  | .new _ id _ => match d.frame id with | some f => d.egressLen p f | none => 64
  | _ => 72

/-- The item is held: by a pause (Table MAC-5, R120), or covered by a hold (R116); a cut-through frame until its tags are at hand. -/
def Dev.itemHeld (d : Dev) (p x : Nat) (i : Item) : Bool :=
  match i with
  | .ctl => false
  | .new _ id c => d.paused p || d.covered p c x || !((d.frame id).all Frame.headKnown)
  | .cont _ => d.covered p i.cls x
  | _ => d.covered p 1 x

/-- The control frame that may start at local time `x`: the first that waits, an own BCAST only inside the best-effort window and between
reserved intervals (R201); any other starts as soon as the wire is free (R178). -/
def Dev.ctlReady (d : Dev) (p x : Nat) : Option Ctl :=
  (d.port p).ctl.find? (fun c => !(c.bcast && c.fwd.isNone) || (d.fitsResv p 128 2 x && d.fitsWindow p 128 x))

/-- The item may start at local time `x` by R88, R90 and R170. -/
def Dev.itemFits (d : Dev) (p x : Nat) (i : Item) : Bool :=
  match i with
  | .ctl => (d.ctlReady p x).isSome
  | _ => d.fitsResv p (d.itemLen p i) (if i.isFrame then i.cls else 2) x && d.fitsWindow p (d.itemLen p i) x

/-- A new frame of this class may not start while one of its class is suspended (R115). -/
def Dev.classBusy (d : Dev) (p c : Nat) : Bool := (c == 1 && (d.port p).suspX.isSome) || (c == 0 && (d.port p).suspP.isSome)

/-- The new frame that R89 lets start at local time `x`, of queue heads in order of priority: heads that are held, or whose class has a frame
suspended, are passed over; the first of the others starts if it fits, and with FILL = 1 the first that fits. -/
def Dev.pickNew (d : Dev) (p x : Nat) : List Item → Option Item
  | [] => none
  | i :: t =>
    if d.itemHeld p x i || d.classBusy p i.cls then Dev.pickNew d p x t
    else if d.itemFits p x i then some i
    else if getB (d.portCfgAt p x) 1 then Dev.pickNew d p x t
    else none

/-- What starts at local time `x` of the items `f` picks out (R115): the first that is not held and allowed, the new frame being the one R89
chooses among the heads `f` picks out. -/
def Dev.pickItem (d : Dev) (p x : Nat) (f : Item → Bool) : Option Item :=
  let n := d.pickNew p x ((d.heads p).filter f)
  ((d.items p).filter f).find? (fun i => match i with
    | .new _ _ _ => n == some i
    | _ => !(d.itemHeld p x i) && d.itemFits p x i)

/-! ### Starting -/

/-- `n` octets at `o` of a frame's octets replaced by a number, most significant first. -/
def patch (l : List Byte) (o n v : Nat) : List Byte := overwriteAt l o (beBytes n v)

/-- A control frame as it leaves at local time `x` with egress stamp `s`: TX_TIME, or ACC_DLY with the residence (R178). -/
def Ctl.leave (c : Ctl) (s : Nat) : List Byte :=
  let l1 := if c.own then patch c.octets 46 8 (compact s).toNat else c.octets
  match c.fwd with
  | some (st, dly) => patch l1 28 4 (min (2 ^ 32 - 1) (beNat ((l1.drop 28).take 4) + dly + (s - st) / 2 ^ 40))
  | none => l1

/-- The limit of a control frame (Table RNG-9), local time; none in LISTEN (R196). -/
def Dev.ctlLimit (d : Dev) (p : Nat) (bcast : Bool) (x : Nat) : Option Nat :=
  let a := d.memOf (attOf p)
  let b := d.ringBegin a x
  if d.rngSt (attOf p) = 1 then none
  else if bcast then some (b + getF (d.beCfg a) 32 30 * nsU - d.guardU p)
  else some (b + d.ringSeg a - d.guardU p)

/-- The limit of an own frame of a ring port (Table RNG-9). -/
def Dev.beLimit (d : Dev) (p x : Nat) : Option Nat :=
  if p < 32 then none
  else
    let a := d.memOf (attOf p)
    some (d.ringBegin a x + getF (d.beCfg a) 32 30 * nsU - d.guardU p)

/-- A Jig rule may act on the mPacket as it starts: a delay moves its start (Table FLT-9). -/
def Dev.jigStart (d : Dev) (p : Nat) (t : Tx) (stream : Option Nat) : Dev × Tx :=
  let first := !t.frag || t.mp == 0
  match d.jigRule p true (t.octets.drop t.sent) stream first with
  | (none, d1) => (d1, t)
  | (some n, d1) =>
    if d1.jigAction n = 4 then
      let dl := d1.gf (Reg.jigRuleParam n) 32 32 * nsU
      (d1, { t with start := t.start + dl, local_ := t.local_ + dl, stamp := if t.mp = 0 then t.stamp + dl else t.stamp })
    else (d1, { t with jig := n + 1 })

/-- A transmission put on the wire of port `p`. -/
def Dev.go (d : Dev) (p : Nat) (t : Tx) (stream : Option Nat) : Dev :=
  let r := d.jigStart p t stream
  r.1.modPort p (fun x => { x with cur := some r.2 })

/-- The same for octets that depend on the egress stamp, which a Jig delay moves. -/
def Dev.goStamped (d : Dev) (p : Nat) (t : Tx) (stream : Option Nat) (oct : Nat → List Byte) : Dev :=
  let r := d.jigStart p { t with octets := oct t.stamp } stream
  r.1.modPort p (fun x => { x with cur := some { r.2 with octets := oct r.2.stamp } })

/-- A stamp taken on port `p` in this clock is noted (R40). -/
def Tim.noteStamp (t : Tim) (egress : Bool) (p : Nat) : Tim :=
  if t.stampUp = t.up then { t with stampPorts := (egress, p) :: t.stampPorts } else { t with stampUp := t.up, stampPorts := [(egress, p)] }

/-- The last egress stamp of a port (snapshot group 1). -/
def Dev.noteEgress (d : Dev) (p s : Nat) : Dev :=
  { d with tim := ({ d.tim with egress := Sparse.put d.tim.egress p s }).noteStamp true p }

/-- The stamp of what port `p` has on its wire is its last egress stamp. -/
def Dev.noteTx (d : Dev) (p : Nat) : Dev := match (d.port p).cur with | some t => d.noteEgress p t.stamp | none => d

/-- A control frame starts, or is not sent where it would end past its limit (R178). -/
def Dev.startCtl (d : Dev) (p u x : Nat) : Dev :=
  match d.ctlReady p x with
  | none => d
  | some c =>
    let d1 := d.modPort p (fun y => { y with ctl := y.ctl.erase c })
    let s := d.egressStamp p x
    let lim := d.ctlLimit p c.bcast x
    if (match lim with | some l => decide (l < x + octetTime (d.portRate p) (c.octets.length + 12)) | none => false) then
      d1.inc (Reg.rngDropCnt (p - 32))
    else
      let d2 := (d1.goStamped p { kind := .control c.bcast, cls := 2, octets := [], start := u, local_ := x, stamp := s, limit := lim } none c.leave).noteTx p
      if c.own ∧ (c.octets.getD 14 0).toNat % 16 = 2 then
        let cyc := beNat ((c.octets.drop 18).take 6)
        let old := (Sparse.getD d2.rng.sentAt p []).take 1
        { d2 with rng := { d2.rng with sentAt := Sparse.put d2.rng.sentAt p ((cyc, Sparse.getD d2.tim.egress p s) :: old) } }
      else d2

/-- A PAUSE frame (R261); the specification gives no source address. -/
def pauseOctets (sa : Word) (quanta : Nat) : List Byte :=
  padTo60 (beBytes 6 0x0180C2000001 ++ beBytes 6 (sa.toNat % 2 ^ 48) ++ beBytes 2 0x8808 ++ beBytes 2 1 ++ beBytes 2 quanta)

/-- The 60 data octets of an announce or its response (R110). -/
def Dev.annOctets (d : Dev) (p : Nat) : List Byte :=
  [1, BitVec.ofNat 8 (d.gf (Reg.prePortCfg p) 2 2)] ++ List.replicate 58 0

/-- A new frame of class `c` starts: class fixed (R99), frame count taken (R104), fragment minimum fixed (R112). -/
def Dev.newTx (d : Dev) (p id : Nat) (f : Frame) (c : Nat) (sched : Bool) (u x : Nat) (stamp : Nat) (limit : Option Nat) : Dev :=
  let y := d.port p
  let act := d.preActive p
  let nest := y.nested && c == 1
  let frag := act && (c == 0 || nest)
  let fc := if nest then y.fcX else y.fcP
  let oct := fun (s : Nat) => d.ptpFix p f s (d.egress p f sched x)
  let l := oct stamp
  let t : Tx := { kind := .frame id, cls := c, sched := sched, octets := l, frag := frag, cuttable := frag && !sched, fc := fc
                  nest := nest, start := u, local_ := x, stamp := stamp, fmin := 64 * (1 + d.effFrag p) - 4, limit := limit }
  let d1 := if d.padded p f then d.inc (Reg.macTxPadCnt p) else d
  let d2 := d1.modPort p (fun z =>
    if !frag then z else if nest then { z with fcX := (z.fcX + 1) % 4 } else { z with fcP := (z.fcP + 1) % 4 })
  let d3 := d2.goStamped p t f.stream oct
  if d.stamped p f l then d3.noteTx p else d3

/-- An item starts on port `p` at instant `u`, local time `x`. -/
def Dev.startItem (d : Dev) (p u x : Nat) : Item → Dev
  | .ctl => d.startCtl p u x
  | .pause =>
    let q := (d.port p).pauseOwed.getD 0
    ((d.useFree).modPort p (fun y => { y with pauseOwed := none, pauseLast := u })).go p
      { kind := .pause, cls := 2, octets := pauseOctets (Config.freeWord d.free) q, start := u, local_ := x } none
  | .respond => (d.modPort p (fun y => { y with respond := y.respond - 1 })).go p
      { kind := .respond, cls := 2, octets := List.replicate 60 0, start := u, local_ := x } none
  | .verify => ((d.modPort p (fun y => { y with vTry := y.vTry + 1, vSent := none })).sf (Reg.prePortStat p) 0 3 3).go p
      { kind := .verify, cls := 2, octets := List.replicate 60 0, start := u, local_ := x } none
  | .announce => (d.modPort p (fun y => { y with nOwed := false, nTry := y.nTry + 1, nSent := none })).go p
      { kind := .announce, cls := 2, octets := d.annOctets p, start := u, local_ := x } none
  | .annResp => (d.modPort p (fun y => { y with annResp := y.annResp - 1 })).go p
      { kind := .annResp, cls := 2, octets := d.annOctets p, start := u, local_ := x } none
  | .cont ex =>
    match (if ex then (d.port p).suspX else (d.port p).suspP) with
    | none => d
    | some t =>
      let bad := match t.kind with
        | .frame id => (match d.frame id with | some f => f.fault | none => false)
        | _ => false
      let t1 : Tx := { t with start := u, local_ := x, cutTo := none, cutAt := none, cutCrit := false
                              stompAt := if bad then some (max 60 (t.octets.length - t.sent)) else none, limit := d.beLimit p x }
      (d.modPort p (fun y => if ex then { y with suspX := none } else { y with suspP := none })).go p t1 none
  | .new pr id c =>
    match d.frame id with
    | none => d.modPort p (fun y => { y with queue := y.queue.filter (fun e => e != (pr, id)) })
    | some f =>
      (d.modPort p (fun y => { y with queue := y.queue.filter (fun e => e != (pr, id)) })).newTx p id f c false u x (d.egressStamp p x)
        (d.beLimit p x)

/-! ### Frames leaving the queue without being sent -/

/-- The destination `p` of frame `id` is finished: its host entry learns how, and the frame is released with its last use. -/
def Dev.destDone (d : Dev) (p id st cause stamp : Nat) : Dev :=
  match d.frame id with
  | none => d
  | some f =>
    let ts := if st = 0 then compact stamp else 0
    let d1 := (d.setFrame id { f with dests := f.dests.erase p }).copyEnd f.entry p st cause ts
    d1.reap id

/-- A waiting frame of a fenced stream is discarded on every port where it waits (R155); its host entry learns DISCARD. -/
def Dev.fenceDrop (d : Dev) (id : Nat) : Dev :=
  (List.range 36).foldl (fun (x : Dev) p =>
    if (x.port p).queue.any (fun e => e.2 == id) then
      (x.modPort p (fun y => { y with queue := y.queue.filter (fun e => e.2 != id) })).destDone p id 8 0 0
    else x) (d.inc Reg.strFenceDropCnt)

/-- Frames of fenced streams that wait on port `p` are discarded (R155). -/
def Dev.purgeFenced (d : Dev) (p : Nat) : Dev :=
  let gone := (d.port p).queue.filter (fun e => match (d.frame e.2).bind (fun f => f.stream) with | some s => d.strFenced s | none => false)
  gone.foldl (fun (x : Dev) e => x.fenceDrop e.2) d

/-- Waiting frames that cannot be sent leave the queue: all of them while the link is down (status LINK), and heads over the limit
(R250, status LENGTH). -/
def Dev.purge (d : Dev) (p : Nat) : Dev :=
  if d.linkUp p = false then
    let gone := (d.port p).queue
    gone.foldl (fun (x : Dev) e => x.destDone p e.2 2 0 0) (d.modPort p (fun y => { y with queue := [], ctl := [] }))
  else
    let d0 := d.purgeFenced p
    let gone := (d0.port p).queue.filter (fun e => match d0.frame e.2 with | some f => d0.tooLong p f | none => true)
    gone.foldl (fun (x : Dev) e => (x.inc (Reg.macTxLenDropCnt p)).destDone p e.2 3 0 0)
      (d0.modPort p (fun y => { y with queue := y.queue.filter (fun e => !(gone.contains e)) }))

/-! ### Cut requests (R114) -/

/-- A cut is asked for on port `p` where the transmission on the wire may be cut by class `c`; while ACTIVE = 0 none is cut (R106). -/
def Dev.askCut (d : Dev) (p c : Nat) : Dev :=
  match (d.port p).cur with
  | some t =>
    if t.cuttable ∧ t.cls < c ∧ t.cutAt.isNone ∧ d.preActive p then
      d.modPort p (fun y => { y with cur := some { t with cutAt := some d.tim.up, cutCrit := c == 2 } })
    else d
  | none => d

/-- A frame of a higher class that is ready to start asks for a cut (R114). -/
def Dev.checkCut (d : Dev) (p : Nat) : Dev :=
  match (d.port p).cur with
  | none => d
  | some t =>
    if t.cuttable ∧ t.cutAt.isNone then
      match d.pickItem p d.now (fun i => i.isFrame && decide (t.cls < i.cls)) with
      | some i => d.askCut p i.cls
      | none => d
    else d

/-! ### Choosing -/

/-- The transmitter chooses what starts next among `f`'s items (R115), no earlier than the end of the gap and of a wake. -/
def Dev.chooseOf (d : Dev) (p : Nat) (f : Item → Bool) : Dev :=
  let d0 := (d.pauseCheck p).purge p
  let y := d0.port p
  if y.cur.isSome then d0
  else
    let u := max (max d0.tim.up y.gapEnd) (y.wakeEnd.getD 0)
    let x := d0.now + (u - d0.tim.up)
    if d0.canSend p u then
      match d0.pickItem p x f with
      | some i => d0.startItem p u x i
      | none => d0
    else d0

/-- Something that waits may have become ready: the transmitter chooses what starts next (R115), or, while it sends, a frame of a higher class
asks for a cut (R114). -/
def Dev.choose (d : Dev) (p : Nat) : Dev :=
  let d1 := d.chooseOf p (fun _ => true)
  if (d.port p).cur.isSome then d1.checkCut p else d1

/-- A frame joins the queue of port `p` (R89). -/
def Dev.enqueue (d : Dev) (p id : Nat) : Dev :=
  match d.frame id with
  | none => d
  | some f => (d.modPort p (fun y => { y with queue := y.queue ++ [(f.prio, id)] })).checkCut p

/-! ### The end of a transmission -/

/-- R271: a frame sent in full with its FCS. -/
def Dev.countSent (d : Dev) (p : Nat) (l : List Byte) : Dev :=
  let n := l.length + 4
  let d1 := ((d.inc (Reg.macTxOkCnt p)).addCnt (Reg.macTxOctCnt p) n).inc (Reg.macTxBinCnt p (sizeBin n))
  let da := daOf l
  if da = bcastAddr then d1.inc (Reg.macTxBcCnt p) else if isGroup da then d1.inc (Reg.macTxMcCnt p) else d1.inc (Reg.macTxUcCnt p)

/-- The mPacket as it leaves the device, after any Jig rule (R425). -/
def Dev.emitTx (d : Dev) (p : Nat) (t : Tx) : Dev :=
  if t.jig = 0 then d.emit (.wire p t.smd t.fragOctet (t.data ++ t.check))
  else if d.jigAction (t.jig - 1) = 1 then d
  else d.emit (.wire p t.smd t.fragOctet (d.jigCorrupt (t.jig - 1) (t.octets.take t.sent) t.data t.check))

/-- An instance's copy is finished; with the last one the frame is released (R142). -/
def Dev.instDone (d : Dev) (id : Nat) : Dev :=
  match d.cal.insts.find? (fun i => i.frame == some id) with
  | none => d
  | some i =>
    if 1 < i.left then
      { d with cal := { d.cal with insts := d.cal.insts.map (fun j => if j = i then { j with left := j.left - 1 } else j) } }
    else
      ({ d with cal := { d.cal with insts := d.cal.insts.filter (· != i) } }).dropFrame id

/-- A frame's transmission on port `p` is over: status, and its stamp where it was sent in full. -/
def Dev.txDone (d : Dev) (p : Nat) (t : Tx) (st cause : Nat) : Dev :=
  match t.kind with
  | .frame id =>
    match d.frame id with
    | none => d
    | some f =>
      let ts := if st = 0 then compact t.stamp else 0
      if t.sched then (d.copyEnd f.entry p st cause ts).instDone id
      else d.destDone p id st cause t.stamp
  | _ => d

/-- The wire of port `p` is free again after an mPacket that ended at `u`. -/
def Dev.wireFree (d : Dev) (p u : Nat) : Dev := d.modPort p (fun y => { y with cur := none, gapEnd := u + d.gapU p, idleSince := u + d.gapU p })

/-- The mPacket on the wire ends by itself: what it was decides what is counted and what follows (R104, R107, R110, R113, R125, R271). -/
def Dev.endTx (d : Dev) (p : Nat) (t : Tx) : Dev :=
  let d0 := (d.emitTx p t).wireFree p (d.txEnd p t)
  let d1 := if t.frag ∧ t.mp ≠ 0 then d0.inc (Reg.preFragTxCnt p) else d0
  match t.kind with
  | .verify => d1.modPort p (fun y => { y with vSent := some d1.tim.up, vTime := d1.gf (Reg.prePortCfg p) 8 8 })
  | .announce => d1.modPort p (fun y => { y with nSent := some d1.tim.up, nTime := d1.gf (Reg.prePortCfg p) 8 8 })
  | .respond => d1
  | .annResp => d1
  | .pause => d1.inc (Reg.macTxPauseCnt p)
  | .control _ => d1.countSent p t.octets
  | .frame _ =>
    if t.stompAt.isSome then (d1.inc (Reg.preStompCnt p)).txDone p t 2 0
    else if t.cutTo.isSome then
      let s : Tx := { t with sent := t.sent + t.dataLen, mp := t.mp + 1, cutTo := none, cutAt := none }
      d1.modPort p (fun y => if t.nest then { y with suspX := some s } else { y with suspP := some s })
    else
      (d1.countSent p t.octets).txDone p t 0 0

end Sys2Proof.Machine
end

