-- ==== Sys2Proof/Machine/Transmit.lean ====
section
/-! DEFINITION. Chapters 3, 4 and 8, transmission: frame starts and ends, cuts, holds, verification and announcement (Tables PRE-3,
PRE-4), PAUSE, LPI. -/

namespace Sys2Proof.Machine

/-! ### Ends, cuts, guardian -/

/-- The frame data of a cut-through frame have not all arrived (R322): its last mPacket cannot end yet. -/
def Dev.dataMissing (d : Dev) (t : Tx) : Bool :=
  match t.kind with
  | .frame id => t.cutTo.isNone && t.stompAt.isNone && (match d.frame id with | some f => f.cut && !f.ready | none => false)
  | _ => false

/-- The local instant at which the mPacket on the wire ends: by the present local time while it runs, by that of its start afterwards. -/
def Dev.txEndLocal (d : Dev) (p : Nat) (t : Tx) : Nat :=
  if d.tim.up < d.txEnd p t then d.now + (d.txEnd p t - d.tim.up) else t.local_ + (d.txEnd p t - t.start)

/-- The transmission would still run at its guardian limit, which stands in local time (R196). -/
def Dev.overLimit (d : Dev) (p : Nat) (t : Tx) : Bool :=
  match t.limit with
  | some l => decide (l < d.txEndLocal p t)
  | none => false

/-- GUARDIAN_CUT (R196): the transmission still running at its limit ends with a stomp, is counted, and is a scheduled-path fault of the
ring PCS island; a launched or other host frame completes with LINK. -/
def guardianCut (p : Nat) (d : Dev) : Dev :=
  match (d.port p).cur with
  | none => d
  | some t =>
    match t.limit with
    | none => d
    | some l =>
      if d.overLimit p t then
        let d0 := d.waitLocal l
        let k := max ((d0.tim.up - t.start) * d.portRate p / (8000 * nsU) - 12) (d.sentAt p t d.tim.up)
        let t1 : Tx := { t with stompAt := some (min k t.dataLen) }
        let d1 := ((d0.emitTx p t1).wireFree p d0.tim.up).inc (Reg.rngGuardCutCnt (p - 32))
        let addr := match t.kind with
          | .frame id => (match d.frame id with | some f => f.stream.getD 0 | none => 0)
          | _ => 0
        ((d1.inc (Reg.preStompCnt p)).txDone p t 2 0).raise 5 p 0x10 addr
      else d

/-- TRANSMISSION_END (R115): time passes until the mPacket on the wire ends; it is counted and the next item chosen. -/
def transmissionEnd (p : Nat) (d : Dev) : Dev :=
  match (d.port p).cur with
  | none => d
  | some t =>
    if d.dataMissing t then d
    else if d.overLimit p t then (guardianCut p d).choose p
    else ((d.waitUp (d.txEnd p t)).endTx p t).choose p

/-- The instant ahead at which a frame that does not fit now may start: the end of the hold interval that is next on an edge port (R88), or the
opening of the best-effort window on a ring port (R170); none where a launch comes first. -/
def Dev.nextOpen (d : Dev) (p : Nat) : Option Nat :=
  let n := d.nextResv p d.now
  if p < 32 then (match n with | some r => if r.launch then none else some r.until_ | none => none)
  else
    let a := d.memOf (attOf p)
    let o := d.ringBegin a d.now + getF (d.beCfg a) 0 30 * nsU
    let clear : Bool := match n with | some r => decide (o ≤ r.at_) | none => true
    if d.now < o ∧ clear then some o else none

/-- NONSCHED_FRAME_START (R88, R170): the wire is free; what R115 chooses starts.  Inside a reserved interval nothing starts before its end;
what does not fit before the next one waits as `nextOpen` says. -/
def nonschedFrameStart (p : Nat) (d : Dev) : Dev :=
  if (d.port p).cur.isSome then d
  else
    let d1 := d.choose p
    if (d1.port p).cur.isSome then d1
    else match (d1.resvAt p d1.now).getLast? with
      | some r => if d1.fitsResv p 64 1 d1.now then d1 else (d1.waitLocal r.until_).choose p
      | none =>
        match d1.nextOpen p with
        | some x => let d2 := (d1.waitLocal x).choose p; if (d2.port p).cur.isSome then d2 else d1
        | none => d1

/-- PREEMPT_CUT (R113, R114): the transmitter considers a cut from `k` octets of the mPacket on, a boundary its reaction time allows
(Table PRE-5: 4 to 16 ns), and cuts, or sends the frame to its end and counts a deferral. -/
def preemptCut (p k : Nat) (d : Dev) : Dev :=
  match (d.port p).cur with
  | none => d
  | some t =>
    match t.cutAt with
    | none => d
    | some a =>
      if t.cutTo.isSome ∨ t.stompAt.isSome then d
      else if d.preActive p = false then d.modPort p (fun y => { y with cur := some { t with cutAt := none } })
      else
        let k0 := clampN (d.sentAt p t (a + 4 * nsU)) (d.sentAt p t (a + 16 * nsU)) k
        let kk := max k0 t.fmin
        if kk < t.dataLen ∧ 64 + kk ≤ t.left then
          let d1 := d.modPort p (fun y => { y with cur := some { t with cutTo := some kk } })
          if t.nest ∧ t.cutCrit then d1.inc (Reg.preNestCnt p) else d1
        else if t.cuttable then
          (d.modPort p (fun y => { y with cur := some { t with cuttable := false } })).inc (Reg.preCutDeferCnt p)
        else d

/-! ### A transmitter that stops (Table PRE-9, R126, R165) -/

/-- A transmission is abandoned: a frame of the packet buffer ends with LINK; `counted` where the link was lost. -/
def Dev.dropTx (d : Dev) (p : Nat) (counted : Bool) : Option Tx → Dev
  | none => d
  | some t =>
    let isFrame := match t.kind with | .frame _ | .pause | .control _ => true | _ => false
    (if counted && isFrame then d.inc (Reg.preTxAbortCnt p) else d).txDone p t 2 0

/-- Port `p` transmits nothing from now on: what is on its wire, suspended, or waits as a control frame is gone. -/
def Dev.portStop (d : Dev) (p : Nat) (counted : Bool) : Dev :=
  let y := d.port p
  let quiet : PortSt → PortSt := fun z =>
    { z with cur := none, suspP := none, suspX := none, ctl := [], holds := [], respond := 0, annResp := 0, pauseOwed := none
             gapEnd := d.tim.up, idleSince := d.tim.up }
  let d1 := d.modPort p quiet
  ((d1.dropTx p counted y.cur).dropTx p counted y.suspP).dropTx p counted y.suspX

/-! ### Holds (R116, R117, R169) -/

/-- The next interval that raises a hold on port `p` and has none yet; one released at L (R86) raises its hold until then. -/
def Dev.nextHold (d : Dev) (p : Nat) : Option Resv :=
  earliest ((d.resvAfter p d.now).filter (fun r => decide (0 < r.cls) && !((d.port p).holds.any (fun h => h.at_ == r.at_))))

/-- PREEMPT_HOLD_RAISE (R116): at N − HOLD_ADV the hold is raised and asks for a cut of what it covers. -/
def preemptHoldRaise (p : Nat) (d : Dev) : Dev :=
  if d.preActive p then
    match d.nextHold p with
    | none => d
    | some r =>
      let d1 := d.waitLocal (r.at_ - d.holdAdvU p)
      let d2 := (d1.modPort p (fun y => { y with holds := y.holds ++ [⟨r.cls == 2, r.at_, r.until_⟩] })).inc (Reg.preHoldCnt p)
      d2.askCut p r.cls
  else d

/-- PREEMPT_HOLD_RELEASE (R117): at the end of the interval, or at L where the launch was discarded or found no frame (R86). -/
def preemptHoldRelease (p : Nat) (d : Dev) : Dev :=
  let due : Hold → Nat := fun h => if (d.port p).released.contains h.at_ then h.at_ else h.until_
  let first := (d.port p).holds.foldl (fun (best : Option Hold) h =>
    match best with | none => some h | some b => if due h < due b then some h else some b) none
  match first with
  | none => d
  | some h => ((d.waitLocal (due h)).modPort p (fun y => { y with holds := y.holds.erase h })).choose p

/-! ### Verification and announcement (Tables PRE-3, PRE-4) -/

/-- `VERIFY_ST`. -/
def Dev.verifySt (d : Dev) (p : Nat) : Nat := d.gf (Reg.prePortStat p) 0 3

/-- The port runs at 1 Gb/s or faster (R102). -/
def Dev.fastPort (d : Dev) (p : Nat) : Bool := decide (1000 ≤ d.portRate p)

/-- Verification goes OFF: a verify in progress is abandoned. -/
def Dev.verifyOff (d : Dev) (p : Nat) : Dev :=
  (d.modPort p (fun y => { y with vTry := 0, vSent := none })).sf (Reg.prePortStat p) 0 3 0

/-- A change of NEST_ST is brought to the transmitter (R111). -/
def Dev.nestSync (d : Dev) (p : Nat) : Dev := d.modPort p id

/-- Table PRE-4 from its Any row. -/
def Dev.nestEval (d : Dev) (p : Nat) : Dev :=
  let a := Reg.prePortStat p
  if d.preActive p = false ∨ d.gb (Reg.prePortCfg p) 4 = false then
    ((d.modPort p (fun y => { y with nTry := 0, nOwed := false, nSent := none, annResp := 0 })).sf a 4 2 0).sb a 6 false
  else if d.nestSt p = 0 then
    ((d.modPort p (fun y => { y with nTry := 0, nOwed := true, nSent := none })).sf a 4 2 1).sb a 15 false
  else d

/-- Tables PRE-3 and PRE-4 evaluated from their Any rows (R106, R128). -/
def Dev.preEval (d : Dev) (p : Nat) : Dev :=
  let en := d.gb (Reg.prePortCfg p) 0
  let up := d.linkUp p && d.fastPort p
  let d1 : Dev :=
    if !(en && up) then d.verifyOff p
    else if d.verifySt p = 0 then
      (if d.gb (Reg.prePortCfg p) 1 then d.sf (Reg.prePortStat p) 0 3 6
       else (d.modPort p (fun y => { y with vTry := 0, vSent := none })).sf (Reg.prePortStat p) 0 3 2)
    else d
  let act := en && up && (d1.verifySt p == 4 || d1.verifySt p == 6)
  ((d1.sb (Reg.prePortStat p) 3 act).nestEval p).nestSync p

/-- A write of `PRE_PORT_CFG[p]` (R127, R128, Tables PRE-3, PRE-4). -/
def Dev.wrPreCfg (d : Dev) (p : Nat) (v : Word) : Dev :=
  let a := Reg.prePortCfg p
  if d.mergedAway p then d
  else if inRangeAt a v then
    let held := d.gb a 1
    let d1 := d.wrReg a (if p < 32 then setB v 4 false else v)
    let off := (held != d1.gb a 1) || (getB v 63 && decide (4 ≤ d.verifySt p))
    let d2 := if off then (d1.verifyOff p).sb (Reg.prePortStat p) 3 false else d1
    let d3 := if off then d2.nestEval p else if getB v 63 ∧ d.nestSt p = 3 then d2.sf (Reg.prePortStat p) 4 2 0 else d2
    d3.preEval p
  else d.outOfRange a

/-- A write of `PRE_CLASS_MAP[p]`: a class code of 0b11, or of 0b10 on an edge port, is out of range (R127). -/
def Dev.wrClassMap (d : Dev) (p : Nat) (v : Word) : Dev :=
  let a := Reg.preClassMap p
  if d.mergedAway p then d
  else if (List.range 8).any (fun i => getF v (2 * i) 2 == 3 || (decide (p < 32) && getF v (2 * i) 2 == 2)) then d.outOfRange a
  else d.wrReg a v

/-- VERIFY_TIMEOUT (Table PRE-3). -/
def verifyTimeout (p : Nat) (d : Dev) : Dev :=
  match (d.port p).vSent with
  | none => d
  | some t =>
    if d.verifySt p = 3 then
      let d1 := (d.waitUp (t + (d.port p).vTime * msU)).modPort p (fun y => { y with vSent := none })
      if (d.port p).vTry < 3 then d1.sf (Reg.prePortStat p) 0 3 2
      else (((d1.sf (Reg.prePortStat p) 0 3 5).inc (Reg.preVerifyFailCnt p)).raise 3 p 0x10 0).preEval p
    else d

/-- ANNOUNCE_TIMEOUT (Table PRE-4). -/
def announceTimeout (p : Nat) (d : Dev) : Dev :=
  match (d.port p).nSent with
  | none => d
  | some t =>
    if d.nestSt p = 1 then
      let seen := d.gb (Reg.prePortStat p) 15
      if 3 ≤ (d.port p).nTry then
        let d1 := (d.waitUp (t + (d.port p).nTime * msU)).modPort p (fun y => { y with nSent := none })
        if seen = false ∨ d.gb (Reg.prePortStat p) 6 = false then (d1.sf (Reg.prePortStat p) 4 2 3).raise 3 p 0x11 0 else d1
      else if seen = false then
        (d.waitUp (t + (d.port p).nTime * msU)).modPort p (fun y => { y with nSent := none, nOwed := true })
      else d
    else d

/-- REASM_TIMEOUT (R123): the preemptable or the express context. -/
def reasmTimeout (p : Nat) (express : Bool) (d : Dev) : Dev :=
  match (if express then (d.port p).ctxX else (d.port p).ctxP) with
  | none => d
  | some c =>
    ((d.waitUp (c.since + c.timeout * usU)).modPort p (fun y => if express then { y with ctxX := none } else { y with ctxP := none })).inc
      (Reg.preReasmToCnt p)

/-! ### PAUSE (R258, R261) -/

/-- PAUSE_EXPIRY (R258). -/
def pauseExpiry (p : Nat) (d : Dev) : Dev :=
  match (d.port p).pauseEnd with
  | none => d
  | some t => (((d.waitUp t).modPort p (fun y => { y with pauseEnd := none })).sb (Reg.macStat p) 0 false).choose p

/-- PAUSE_REPEAT (R261): each TX_QUANTA / 2 quanta while the octets held stay above XON_KIB. -/
def pauseRepeat (p : Nat) (d : Dev) : Dev :=
  let q := d.gf (Reg.macPauseCfg p) 16 16
  if p < 32 ∧ d.gb (Reg.macPauseCfg p) 3 ∧ d.gb (Reg.macStat p) 3 ∧ d.gf (Reg.macRxBuf p) 32 16 * 1024 < d.heldFor p ∧ d.portRate p ≠ 0 then
    let d1 := d.waitUp ((d.port p).pauseLast + q * 512 * 1000 * nsU / (2 * d.portRate p))
    (d1.modPort p (fun y => { y with pauseOwed := some q })).chooseOf p (fun i => i == .pause)
  else d

/-! ### LPI (R92, R93, R263) -/

/-- The lane mode enters LPI (Table MAC-6). -/
def Dev.lpiMode (d : Dev) (p : Nat) : Bool :=
  decide (p < 32) && (match d.gf (Reg.sdsMode p) 0 3 with
    | 1 | 3 | 4 => true
    | 2 => d.portRate p == 1000
    | _ => false)

/-- LPI_ENTRY (R92, R263). -/
def lpiEntry (p : Nat) (d : Dev) : Dev :=
  let y := d.port p
  let d0 := d.waitUp (y.idleSince + d.gf (Reg.macEeeCfg p) 32 16 * usU)
  let tw := if d.schedEn p ∧ d.running then y.tw else d.gf (Reg.macEeeCfg p) 16 16
  let ok := d.gb (Reg.macEeeCfg p) 0 && d.lpiMode p && d.linkUp p && y.cur.isNone && y.lpiSince.isNone && y.suspP.isNone && y.suspX.isNone
    && (d.items p).isEmpty
  let fits := !(d.schedEn p) || d.sliceOut (sliceOf p) || ((d0.resvAt p d0.now).isEmpty && (match d0.nextResv p d0.now with
      | some r => decide (d0.now + (tw + 1000) * nsU ≤ r.at_)
      | none => true))
  if ok && fits then
    ((d0.modPort p (fun z => { z with lpiSince := some d0.tim.up, tw := tw })).sb (Reg.macStat p) 1 true).inc (Reg.macTxLpiCnt p)
  else d

/-- LPI_WAKE (R92): for a waiting frame at once, else no later than N − Tw − 1,000 ns. -/
def lpiWake (p : Nat) (d : Dev) : Dev :=
  match (d.port p).lpiSince with
  | none => d
  | some s =>
    let tw := (d.port p).tw
    let d0 : Dev := if (d.items p).isEmpty then
        (match d.nextResv p d.now with
         | some r => if d.schedEn p ∧ d.sliceOut (sliceOf p) = false then d.waitLocal (r.at_ - (tw + 1000) * nsU) else d
         | none => d)
      else d
    let d1 := d0.modPort p (fun z => { z with lpiSince := none, wakeEnd := some (d0.tim.up + tw * nsU) })
    (d1.sb (Reg.macStat p) 1 false).addCnt (Reg.macTxLpiUsCnt p) ((d0.tim.up - s) / usU)

/-- RX_LPI (R263): entries of the receiver to LPI are counted; nothing else follows. -/
def rxLpi (p : Nat) (enter : Bool) (d : Dev) : Dev :=
  if 32 ≤ p ∨ d.mergedAway p ∨ d.linkUp p = false then d
  else
    let was := d.gb (Reg.macStat p) 2
    let d1 := d.sb (Reg.macStat p) 2 enter
    if enter ∧ was = false then d1.inc (Reg.macRxLpiCnt p) else d1

/-! ### Meanings -/

/-- Meaning of TRANSMISSION_END. -/
def execTransmissionEnd (p : Port) (s : State) : Host.Outcome State Fault Refusal := onDev (transmissionEnd p.val) s

/-- Meaning of NONSCHED_FRAME_START. -/
def execNonschedFrameStart (p : Port) (s : State) : Host.Outcome State Fault Refusal := onDev (nonschedFrameStart p.val) s

/-- Meaning of GUARDIAN_CUT. -/
def execGuardianCut (p : Port) (s : State) : Host.Outcome State Fault Refusal := onDev (guardianCut p.val) s

/-- Meaning of PREEMPT_CUT. -/
def execPreemptCut (p : Port) (k : Nat) (s : State) : Host.Outcome State Fault Refusal := onDev (preemptCut p.val k) s

/-- Meaning of PREEMPT_HOLD_RAISE. -/
def execPreemptHoldRaise (p : Port) (s : State) : Host.Outcome State Fault Refusal := onDev (preemptHoldRaise p.val) s

/-- Meaning of PREEMPT_HOLD_RELEASE. -/
def execPreemptHoldRelease (p : Port) (s : State) : Host.Outcome State Fault Refusal := onDev (preemptHoldRelease p.val) s

/-- Meaning of VERIFY_SEND (R107). -/
def execVerifySend (p : Port) (s : State) : Host.Outcome State Fault Refusal :=
  onDev (fun d => d.chooseOf p.val (fun i => i == .verify)) s

/-- Meaning of VERIFY_TIMEOUT. -/
def execVerifyTimeout (p : Port) (s : State) : Host.Outcome State Fault Refusal := onDev (verifyTimeout p.val) s

/-- Meaning of RESPOND_SEND (R108). -/
def execRespondSend (p : Port) (s : State) : Host.Outcome State Fault Refusal :=
  onDev (fun d => d.chooseOf p.val (fun i => i == .respond)) s

/-- Meaning of ANNOUNCE_SEND (R110). -/
def execAnnounceSend (p : Port) (s : State) : Host.Outcome State Fault Refusal :=
  onDev (fun d => d.chooseOf p.val (fun i => i == .announce)) s

/-- Meaning of ANNOUNCE_RESPONSE_SEND (R110). -/
def execAnnounceResponseSend (p : Port) (s : State) : Host.Outcome State Fault Refusal :=
  onDev (fun d => d.chooseOf p.val (fun i => i == .annResp)) s

/-- Meaning of ANNOUNCE_TIMEOUT. -/
def execAnnounceTimeout (p : Port) (s : State) : Host.Outcome State Fault Refusal := onDev (announceTimeout p.val) s

/-- Meaning of PRE_PORT_CFG_WRITE. -/
def execPrePortCfgWrite (r : Req) (p : Port) (v : Word) (s : State) : Host.Outcome State Fault Refusal :=
  onDev (fun d => d.gate r (Reg.prePortCfg p.val) (fun x => x.wrPreCfg p.val v)) s

/-- Meaning of PREEMPT_RESTART: a write of `PRE_PORT_CFG[p]` with RESTART = 1. -/
def execPreemptRestart (r : Req) (p : Port) (v : Word) (s : State) : Host.Outcome State Fault Refusal :=
  onDev (fun d => d.gate r (Reg.prePortCfg p.val) (fun x => x.wrPreCfg p.val (setB v 63 true))) s

/-- Meaning of REASM_TIMEOUT. -/
def execReasmTimeout (p : Port) (express : Bool) (s : State) : Host.Outcome State Fault Refusal := onDev (reasmTimeout p.val express) s

/-- Meaning of PAUSE_EXPIRY. -/
def execPauseExpiry (p : Port) (s : State) : Host.Outcome State Fault Refusal := onDev (pauseExpiry p.val) s

/-- Meaning of PAUSE_FRAME_SEND (R261). -/
def execPauseFrameSend (p : Port) (s : State) : Host.Outcome State Fault Refusal :=
  onDev (fun d => d.chooseOf p.val (fun i => i == .pause)) s

/-- Meaning of PAUSE_REPEAT. -/
def execPauseRepeat (p : Port) (s : State) : Host.Outcome State Fault Refusal := onDev (pauseRepeat p.val) s

/-- Meaning of LPI_ENTRY. -/
def execLpiEntry (p : Port) (s : State) : Host.Outcome State Fault Refusal := onDev (lpiEntry p.val) s

/-- Meaning of LPI_WAKE. -/
def execLpiWake (p : Port) (s : State) : Host.Outcome State Fault Refusal := onDev (lpiWake p.val) s

/-- Meaning of RX_LPI. -/
def execRxLpi (p : Port) (enter : Bool) (s : State) : Host.Outcome State Fault Refusal := onDev (rxLpi p.val enter) s

end Sys2Proof.Machine
end

