-- ==== Sys2Proof/Machine/LaunchCore.lean ====
section
/-! DEFINITION. Chapter 3: instances shared by the launches of a stream (R142), and launches that are discarded or find no frame (R84, R86,
R95). -/

namespace Sys2Proof.Machine

/-! ### Instances (R142) -/

/-- The instance a launch belongs to. -/
def Dev.instOf (d : Dev) (l : Launch) : Option Inst :=
  d.cal.insts.find? (fun i => i.stream == l.stream && i.cyc == l.cyc && i.key == l.key)

/-- An instance changed. -/
def Dev.modInst (d : Dev) (i : Inst) (g : Inst → Inst) : Dev :=
  { d with cal := { d.cal with insts := d.cal.insts.map (fun j => if j = i then g j else j) } }

/-- A launch taken off the list. -/
def Dev.dropLaunch (d : Dev) (l : Launch) : Dev := { d with cal := { d.cal with launches := d.cal.launches.filter (· != l) } }

/-- One copy of an instance is over without having been sent.  The host entry learns the copy's outcome; with the last copy the frame is
released, and the instance with it unless its entry is still to be read. -/
def Dev.copyLost (d : Dev) (l : Launch) (st cause : Nat) : Dev :=
  match d.instOf l with
  | none => d
  | some i =>
    let unread : Bool := match i.entry with | some (q, n) => (d.sqe q n).isNone && decide (((d.sq q).map (fun s => s.fetched)).getD 0 ≤ n) | none => false
    let i1 : Inst := { i with left := i.left - 1, res := if unread then i.res ++ [(l.port, st, cause, 0)] else i.res }
    let d1 := (d.modInst i (fun _ => i1)).copyEnd i.entry l.port st cause 0
    if 1 < i.left ∨ unread then d1
    else
      let d2 : Dev := { d1 with cal := { d1.cal with insts := d1.cal.insts.filter (· != i1) } }
      match i.frame with | some id => d2.dropFrame id | none => d2

/-! ### Launches that send nothing -/

/-- The reserved interval of a launch is released at L (R86). -/
def Dev.releaseAt (d : Dev) (p l : Nat) : Dev := d.modPort p (fun y => { y with released := y.released ++ [l] })

/-- A launch is discarded as late (R84): counted, recorded, its interval released, its host entry completed LATE. -/
def Dev.lateDiscard (d : Dev) (l : Launch) (cause : Nat) : Dev :=
  let a := Reg.calLastLate l.port
  let d1 := (d.inc (Reg.calLateCnt l.port)).strCount l.stream 7 1
  let d2 := if d1.gb a 63 then d1 else d1.wr a (BitVec.ofNat 64 (fld 0 18 l.stream + fld 20 4 cause + fld 24 12 l.hcyc + fld 63 1 1))
  ((d2.releaseAt l.port l.at_).copyLost l 1 cause).dropLaunch l

/-- A launch finds no frame: its interval is released at L, and the copy ends with it. -/
def Dev.noFrame (d : Dev) (l : Launch) (st : Nat) : Dev := ((d.releaseAt l.port l.at_).copyLost l st 0).dropLaunch l

/-- R95: the calendar of slice `s` is fenced.  Its launches are gone without being counted; host entries complete LATE, cause 8. -/
def Dev.dropSliceLaunches (d : Dev) (s : Nat) : Dev :=
  (d.cal.launches.filter (fun l => sliceOf l.port == s)).foldl (fun (x : Dev) l => (x.copyLost l 1 8).dropLaunch l) d

/-- R82: launches already fetched for instants at or after Bs are discarded with cause STOPPED where they have a source. -/
def Dev.dropStopped (d : Dev) (bs : Nat) : Dev :=
  (d.cal.launches.filter (fun l => decide (bs ≤ l.at_))).foldl (fun (x : Dev) l =>
    match x.instOf l with
    | some i => if i.entry.isSome ∨ i.frame.isSome then x.lateDiscard l 6 else x.noFrame l 1
    | none => x.noFrame l 1) d

end Sys2Proof.Machine
end

