-- ==== Sys2Proof/Machine/SqFetch.lean ====
section
/-! DEFINITION. Chapter 10: reading submission entries (R315, R319, R324) and the frame data they name. -/

namespace Sys2Proof.Machine

/-- Entries in flight in the whole device, from their fetch on (R324). -/
def Dev.inFlight (d : Dev) : Nat := (d.hq.sqs.map (fun e => e.2.flight.length + bit (e.2.rd == 2))).sum

/-- Tracking slots of the device (R324). -/
def trackers : Nat := 131072

/-- The entry up to which queue `s` may be read now: the tail, or what the calendar has claimed (Table HQS-3). -/
def Sq.limit (s : Sq) : Nat := if s.kind = 2 then s.claimed else s.tail

/-- A queue's function takes no fetches now: D3hot (R333), reset (R338). -/
def Dev.fnStopped (d : Dev) (f : Nat) : Bool := (d.fn f).d3 || d.fnResetting f

/-- Queue `q` may start the read of its next entry now, tracking slots apart. -/
def Dev.mayFetch (d : Dev) (s : Sq) : Bool :=
  decide (s.fetched < s.limit ∧ s.flight.length < s.ifMax) && (s.rd == 0 || s.rd == 1 || s.rd == 3) && !s.err && !s.drain
  && !d.fnStopped s.fn && (s.kind == 2 || !d.sqHeld s) && d.reach s.fn

/-- The address of entry `n` of a submission queue. -/
def Sq.slot (s : Sq) (n : Nat) : Nat := s.base + n % s.size * 64

/-- The read of the next entry of queue `q` is issued where it may be, or waits for its translation or for a tracking slot. -/
def Dev.pumpSq (d : Dev) (q : Nat) : Dev :=
  match d.sq q with
  | none => d
  | some s =>
    if d.mayFetch s then
      if trackers ≤ d.inFlight then
        if s.rd = 3 then d
        else ((d.modSq q (fun x => { x with rd := 3 })).sb Reg.hqStat 1 true).inc Reg.hqTrkFullCnt
      else match d.xlate s.fn (.sqRead q) s.pasid (s.slot s.fetched) 64 false with
        | (true, d1) =>
          let d2 := d1.modSq q (fun x => { x with rd := 2 })
          if s.fn = benchFn then d2 else d2.hostRead s.fn s.pasid (s.slot s.fetched) 64
        | (false, d1) => d1.modSq q (fun x => { x with rd := 1 })
    else d

/-- Queues that wait for a tracking slot fetch while there is one; TRK_FULL stays while fetches wait (R324). -/
def Dev.pumpTrackers (d : Dev) : Dev :=
  if d.gb Reg.hqStat 1 then
    let d1 := (d.hq.sqs.filter (fun e => e.2.rd == 3)).foldl (fun (x : Dev) e => x.pumpSq e.1) d
    d1.sb Reg.hqStat 1 (d1.hq.sqs.any (fun e => e.2.rd == 3 && d1.mayFetch e.2))
  else d

/-- Every queue fetches again where it may. -/
def Dev.pumpAll (d : Dev) : Dev := d.hq.sqs.foldl (fun (x : Dev) e => x.pumpSq e.1) d

/-! ### The format of an entry (R319, Table HQS-4) -/

/-- The operation codes a queue kind permits (Table HQS-3). -/
def opcFits (kind opc : Nat) : Bool :=
  match kind with
  | 0 => opc == 0 || opc == 1 || opc == 2
  | 1 => opc == 0 || opc == 0x10
  | _ => opc == 0 || opc == 3

/-- The entry's fields break R319. -/
def Dev.formatBad (d : Dev) (kind : Nat) (e : Sqe) : Bool :=
  let opc := e.opc
  !opcFits kind opc || getF (e.w 0) 53 11 != 0 || getF (e.w 1) 14 18 != 0
  || [3, 4, 5, 6, 7].any (fun k => e.w k != 0)
  || (kind == 1 && getB (e.w 0) 9)
  || ((opc == 1 || opc == 2 || opc == 3) && decide (e.len < 14 ∨ 9224 < e.len))
  || (opc == 0x10 && decide (e.len < 60))
  || (opc == 1 && (decide (35 < e.port) || d.mergedAway e.port))
  || (opc == 2 && decide (e.vid < 1 ∨ 4094 < e.vid))

/-! ### Reading an entry -/

/-- The instance that claimed entry `n` of queue `q`. -/
def Dev.claimant (d : Dev) (q n : Nat) : Option Inst := d.cal.insts.find? (fun i => i.entry == some (q, n))

/-- A read entry joins those in flight. -/
def Dev.takeEntry (d : Dev) (q : Nat) (e : Sqe) : Dev :=
  d.modSq q (fun s => { s with flight := s.flight ++ [e], fetched := e.n + 1, rd := 0 })

/-- What an entry of a TX_SCHED queue learns from the instance that claimed it: copies still to end, and those ended before. -/
def Dev.withCopies (d : Dev) (q : Nat) (kind : Nat) (e : Sqe) : Sqe :=
  if kind = 2 then
    match d.claimant q e.n with
    | some i => { e with left := i.left, res := i.res }
    | none => e
  else e

/-- The outcome of an entry all of whose copies ended before it was read. -/
def Dev.endAbandoned (d : Dev) (q n : Nat) : Dev :=
  match d.sqe q n with
  | some e =>
    if e.status.isSome ∨ e.opc ≠ 3 ∨ 0 < e.left then d
    else
      let d1 := match lowest e.res (fun _ => true) with
        | some r => d.endSqe q n r.2.1 r.2.2.1 0
        | none => d.endSqe q n 1 1 0
      { d1 with cal := { d1.cal with insts := d1.cal.insts.filter (fun i => i.entry != some (q, n)) } }
  | none => d

/-- The words of an entry of queue `s` as the device reads them: device memory for the Bench. -/
def Dev.entryWords (d : Dev) (s : Sq) (ws : List Word) : List Word := if s.fn = benchFn then d.ldWs (s.slot s.fetched) 8 else ws

/-- The read of an SQ entry failed: the entry completes with OPC 0x00, and the queue is in ERROR (R336, R337). -/
def Dev.entryUnread (d : Dev) (q st : Nat) : Dev :=
  match d.sq q with
  | none => d
  | some s =>
    let e := d.withCopies q s.kind { n := s.fetched, words := [], unread := true }
    ((d.takeEntry q e).modSq q (fun x => { x with err := true })).endSqe q e.n st 0 0

/-- SQ_ENTRY_FETCHED (R315, R319): the entry is in flight, checked for phase and format.  A device error on a Bench queue acts as a failed
translation (R405). -/
def sqEntryFetched (q : Nat) (ws : List Word) (d : Dev) : Dev :=
  match d.sq q with
  | none => d
  | some s =>
    if s.rd = 2 ∧ d.memOk s.fn (s.slot s.fetched) 64 = false then d.entryUnread q 6
    else if s.rd = 2 then
      let e0 : Sqe := { n := s.fetched, words := d.entryWords s ws }
      let e := d.withCopies q s.kind e0
      let d1 := d.takeEntry q e
      let d2 :=
        if getB (e.w 0) 8 ≠ (phaseOf e.n s.log == 1) then (d1.inc Reg.hqPhaseErrCnt).endSqe q e.n 5 0 0
        else if d.formatBad s.kind e then d1.endSqe q e.n 4 0 0
        else if s.kind = 2 then d1.endAbandoned q e.n
        else d1
      d2.pumpSq q
    else d

end Sys2Proof.Machine
end

