-- ==== Sys2Proof/Machine/DmaCore.lean ====
section
/-! DEFINITION. The DMA engine (chapter 11): descriptors, the beats of a descriptor, halts, completion records, hand-over (R343–R361).
What a beat moves to or from the device's own map is in Dma.lean. -/

namespace Sys2Proof.Machine

/-! ### Channels -/

/-- Channel `c` beyond its registers. -/
def Dev.chan (d : Dev) (c : Nat) : Chan := Sparse.getD d.dma.ch c {}

/-- That state changed. -/
def Dev.modChan (d : Dev) (c : Nat) (g : Chan → Chan) : Dev :=
  { d with dma := { d.dma with ch := Sparse.setD d.dma.ch c {} (g (d.chan c)) } }

/-- `DMA_CH_STAT[c].STATE` (Table DMA-6). -/
def Dev.chSt (d : Dev) (c : Nat) : Nat := d.gf (Reg.dmaChStat c) 0 3

/-- The channel enters a state. -/
def Dev.setCh (d : Dev) (c st : Nat) : Dev := d.sf (Reg.dmaChStat c) 0 3 st

/-- The owning PF, and the PASID it uses (R343). -/
def Dev.chPf (d : Dev) (c : Nat) : Nat := d.gf (Reg.dmaChCfg c) 0 2
def Dev.chPasid (d : Dev) (c : Nat) : Option Nat := if d.gb (Reg.dmaChCfg c) 2 then some (d.gf (Reg.dmaChCfg c) 32 20) else none

/-- A device ring beyond its registers, changed with `DMA_CR_STAT` following. -/
def Dev.dring (d : Dev) (r : Nat) : DmaRing := Sparse.getD d.dma.rings r {}

/-- Ring `r` is full (R313). -/
def Dev.ringFull (d : Dev) (r : Nat) : Bool := (d.dring r).tail - (d.dring r).head == 2 ^ d.gf (Reg.dmaCrCfg r) 0 5 - 1

def Dev.modRing (d : Dev) (r : Nat) (g : DmaRing → DmaRing) : Dev :=
  let d1 : Dev := { d with dma := { d.dma with rings := Sparse.setD d.dma.rings r {} (g (d.dring r)) } }
  (d1.sf (Reg.dmaCrStat r) 0 16 ((d1.dring r).tail % 2 ^ d1.gf (Reg.dmaCrCfg r) 0 5)).sb (Reg.dmaCrStat r) 16 (d1.ringFull r)

/-! ### The descriptor (Table DMA-2) -/

def Chan.w (x : Chan) (k : Nat) : Word := x.ws.getD k 0
def Chan.mode (x : Chan) : Nat := getF (x.w 0) 0 4
def Chan.srcW (x : Chan) : Nat := 2 ^ getF (x.w 0) 4 3
def Chan.dstW (x : Chan) : Nat := 2 ^ getF (x.w 0) 7 3
def Chan.count (x : Chan) : Nat := getF (x.w 1) 0 32
def Chan.last (x : Chan) : Bool := getB (x.w 0) 17
def Chan.srcA (x : Chan) : Nat := (x.w 2).toNat
def Chan.dstA (x : Chan) : Nat := (x.w 3).toNat
def Chan.aux (x : Chan) : Nat := (x.w 4).toNat

/-- Does the mode use a source, a destination side? -/
def usesSrc (m : Nat) : Bool := m == 1 || m == 3 || m == 4
def usesDst (m : Nat) : Bool := m == 1 || m == 2 || m == 3 || m == 4

/-- R347: the descriptor ends with FORMAT. -/
def Chan.formatBad (x : Chan) : Bool :=
  let m := x.mode
  decide (4 < m) || getF (x.w 0) 18 46 != 0 || x.w 6 != 0 || x.w 7 != 0 || getF (x.w 5) 1 5 != 0
  || getF (x.w 0) 4 3 == 7 || getF (x.w 0) 7 3 == 7
  || ((m == 0 || m == 1 || m == 3) && x.w 4 != 0)
  || (if m = 0 then x.count != 0 else decide (x.count < 1 ∨ 4294967232 < x.count))
  || (usesSrc m && x.count % x.srcW != 0) || (usesDst m && x.count % x.dstW != 0)
  || (usesSrc m && (m == 4 || !getB (x.w 0) 13) && x.srcA % x.srcW != 0)
  || (usesDst m && !getB (x.w 0) 14 && x.dstA % x.dstW != 0)
  || (m == 4 && x.aux % 4 != 0)

/-- A side of the descriptor: 0 index, 1 source, 2 destination. -/
def Chan.side (x : Chan) (k : Nat) : DmaSide := match k with | 0 => x.idx | 1 => x.src | _ => x.dst

/-- That side replaced. -/
def Chan.setSide (x : Chan) (k : Nat) (s : DmaSide) : Chan :=
  match k with | 0 => { x with idx := s } | 1 => { x with src := s } | _ => { x with dst := s }

/-- Beat width of a side. -/
def Chan.width (x : Chan) (k : Nat) : Nat := match k with | 0 => 4 | 1 => x.srcW | _ => x.dstW

/-- Octets a side moves in all. -/
def Chan.total (x : Chan) (k : Nat) : Nat := if k = 0 then x.count / x.srcW * 4 else x.count

/-- Space bit of a side: true is the device map. -/
def Chan.sp (x : Chan) (k : Nat) : Bool := match k with | 0 => getB (x.w 0) 12 | 1 => getB (x.w 0) 10 | _ => getB (x.w 0) 11

/-- FIX of a side; GATHER ignores SRC_FIX (R351). -/
def Chan.fix (x : Chan) (k : Nat) : Bool := match k with | 0 => false | 1 => getB (x.w 0) 13 && x.mode != 4 | _ => getB (x.w 0) 14

/-- Address of the beat of a side at octet `o` of the descriptor. -/
def Chan.addrAt (x : Chan) (k o : Nat) : Nat :=
  match k with
  | 0 => x.aux + o
  | 1 => if x.mode = 4 then x.srcA + x.offs.getD ((o - x.src.done) / x.srcW) 0 else x.srcA + (if x.fix 1 then 0 else o)
  | _ => x.dstA + (if x.fix 2 then 0 else o)

/-- A side's beats are reads: all but the destination beats of COPY, FILL and GATHER. -/
def Chan.reads (x : Chan) (k : Nat) : Bool := k != 2 || x.mode == 3

/-- Some beat has not been answered. -/
def Chan.outstanding (x : Chan) : Bool := [x.idx, x.src, x.dst].any (fun s => decide (s.ack < s.iss))

/-- Octets a side may issue now (R349, R350): source beats while their width is free in the holding register of 128 octets, destination beats of
what is held. -/
def Chan.ready (x : Chan) (k : Nat) : Nat :=
  let left := x.total k - (x.side k).iss
  if x.mism.isSome ∨ x.err.isSome ∨ x.ws.isEmpty ∨ x.xw.contains 2 then 0
  else match k, x.mode with
    | 0, 4 => left
    | 1, 1 => if x.src.done - x.dst.iss + x.srcW ≤ 128 then left else 0
    | 1, 3 => if x.hold.length + x.srcW ≤ 128 then left else 0
    | 1, 4 => if x.src.done - x.dst.iss + x.srcW ≤ 128 then min left ((x.offs.length - (x.src.iss - x.src.done) / x.srcW) * x.srcW) else 0
    | 2, 2 => left
    | 2, 3 => if x.holdD.length + x.dstW ≤ 128 then left else 0
    | 2, 1 | 2, 4 => min left ((x.src.done - x.dst.iss) / x.dstW * x.dstW)
    | _, _ => 0

/-- The octets of the stream written at offset `o` of a descriptor, `n` of them (Table DMA-3). -/
def Chan.stream (x : Chan) (o n : Nat) : List Byte :=
  if x.mode = 2 then (List.range n).map (fun i => (leBytes 8 x.aux).getD ((o + i) % 8) 0)
  else (x.hold.drop (o - x.dst.done)).take n

/-! ### Issuing beats -/

/-- How much of a run of octets may be issued by its translation, page by page. -/
def Dev.xlateRun (d : Dev) (f : Nat) (want : Want) (pasid : Option Nat) (write : Bool) : Nat → Nat → Nat → Nat → Nat × Dev
  | 0, _, _, acc => (acc, d)
  | fuel + 1, a, left, acc =>
    if left = 0 then (acc, d)
    else
      let n := min left (4096 - a % 4096)
      match d.xlate f want pasid a n write with
      | (true, d1) => Dev.xlateRun d1 f want pasid write fuel (a + n) (left - n) (acc + n)
      | (false, d1) => (acc, d1)

/-- The purpose under which a side's access is translated. -/
def dmaWant (c k : Nat) : Want := match k with | 0 => .dmaIdx c | 1 => .dmaSrc c | 2 => .dmaDst c | _ => .dmaDesc c

/-- The engine can reach host memory now (R335, R361). -/
def Dev.dmaHost (d : Dev) : Bool := d.islandOk 45 && d.islandOk 33 && d.linkL0

/-- A run of beats of a side joins those issued, in order (R359). -/
def Chan.ran (x : Chan) (k o n : Nat) : Chan :=
  { x with runs := match x.runs.getLast? with
      | some (j, a, b) => if j = k ∧ b = o then x.runs.dropLast ++ [(k, a, o + n)] else x.runs ++ [(k, o, o + n)]
      | none => [(k, o, o + n)] }

/-- The place of the beat of side `k` at octet `o` in the order of issue; one not issued comes after all that are. -/
def Chan.place (x : Chan) (k o : Nat) : Nat := x.runs.findIdx (fun e => e.1 == k && decide (e.2.1 ≤ o ∧ o < e.2.2))

/-- Requests for a run of `n` octets of a side: beats with FIX one by one, others merged (R349). -/
def Dev.dmaReads (d : Dev) (c k a n : Nat) : Dev :=
  let x := d.chan c
  if x.fix k then (List.range (n / x.width k)).foldl (fun (y : Dev) _ => y.hostRead (d.chPf c) (d.chPasid c) a (x.width k)) d
  else d.hostReads (d.chPf c) (d.chPasid c) a n

/-- The same for host writes with their data. -/
def Dev.dmaWrites (d : Dev) (c a : Nat) (data : List Byte) : Dev :=
  let x := d.chan c
  if x.fix 2 then (List.range (data.length / x.dstW)).foldl (fun (y : Dev) i =>
    y.hostWrite (d.chPf c) (d.chPasid c) a ((data.drop (i * x.dstW)).take x.dstW)) d
  else d.hostWrites (d.chPf c) (d.chPasid c) a data

/-- A run of `n` octets of a side issued at address `a`: a host read is sent; a host write is sent with its data and has completed (R352);
an access of the device map is answered later. -/
def Dev.dmaSend (d : Dev) (c k a n : Nat) : Dev :=
  let x := d.chan c
  let s := x.side k
  let d0 := d.modChan c (fun y => y.ran k s.iss n)
  if x.sp k then d0.modChan c (fun y => y.setSide k { s with iss := s.iss + n })
  else if x.reads k then (d0.modChan c (fun y => y.setSide k { s with iss := s.iss + n })).dmaReads c k a n
  else
    let d1 := d0.dmaWrites c a (x.stream s.iss n)
    d1.modChan c (fun y => { y with dst := { iss := s.iss + n, ack := s.ack + n, done := s.done + n }
                                    hold := if x.mode = 2 then y.hold else y.hold.drop n })

/-- One run of a side issued as far as translation allows; a run with FIX and each element of GATHER is translated once. -/
def Dev.dmaIssueRun (d : Dev) (c k n : Nat) : Dev :=
  let x := d.chan c
  let a := x.addrAt k (x.side k).iss
  if n = 0 then d
  else if x.sp k then d.dmaSend c k a n
  else if d.dmaHost = false then d
  else
    let write := !(x.reads k)
    if x.fix k then
      match d.xlate (d.chPf c) (dmaWant c k) (d.chPasid c) a (x.width k) write with
      | (true, d1) => d1.dmaSend c k a n
      | (false, d1) => d1
    else
      match d.xlateRun (d.chPf c) (dmaWant c k) (d.chPasid c) write (n / 4096 + 2) a n 0 with
      | (m, d1) => if m = 0 then d1 else d1.dmaSend c k a m

/-- The source beats of GATHER one element after another. -/
def Dev.dmaIssueGather (d : Dev) (c : Nat) : Nat → Dev
  | 0 => d
  | n + 1 => Dev.dmaIssueGather (d.dmaIssueRun c 1 (d.chan c).srcW) c n

/-- What a side may issue now is issued. -/
def Dev.dmaIssue (d : Dev) (c k : Nat) : Dev :=
  let x := d.chan c
  let n := x.ready k
  if k = 1 ∧ x.mode = 4 then d.dmaIssueGather c (n / x.srcW) else d.dmaIssueRun c k n

/-- The read of the next descriptor is issued (R348). -/
def Dev.dmaIssueDesc (d : Dev) (c : Nat) : Dev :=
  let x := d.chan c
  let a := x.rdAt.toNat / 64 * 64
  if x.rd ≠ 1 ∨ x.err.isSome then d
  else if getB x.rdAt 0 then d.modChan c (fun y => { y with rd := 2 })
  else if d.dmaHost = false then d
  else match d.xlate (d.chPf c) (.dmaDesc c) (d.chPasid c) a 64 false with
    | (true, d1) => (d1.modChan c (fun y => { y with rd := 2 })).hostRead (d.chPf c) (d.chPasid c) a 64
    | (false, d1) => d1

/-- Everything the channel may issue now; island 45 must be in service (R361).  In XLATE_WAIT a channel takes no share of the engine (R345), but
the elements of GATHER before an index that waits go on (Table DMA-8). -/
def Dev.dmaPump (d : Dev) (c : Nat) : Dev :=
  if d.islandOk 45 = false then d
  else if d.chSt c = 1 then (((((d.dmaIssueDesc c).dmaIssue c 0).dmaIssue c 1).dmaIssue c 2)).dmaIssue c 1
  else if d.chSt c = 2 ∧ (d.chan c).xw = [0] then ((d.dmaIssue c 1).dmaIssue c 2).dmaIssue c 1
  else d

/-- One unit of 64 octets of channel `c`'s share (R345): beats of the first side that has any to issue, in the order index, source,
destination. -/
def Dev.dmaUnit (d : Dev) (c : Nat) : Dev :=
  let x := d.chan c
  match [0, 1, 2].find? (fun k => decide (0 < x.ready k)) with
  | none => d
  | some k =>
    let n := min (x.ready k) 64
    if k = 1 ∧ x.mode = 4 then d.dmaIssueGather c (n / x.srcW) else d.dmaIssueRun c k n

/-- A channel's turn: WEIGHT units. -/
def Dev.dmaTurn (d : Dev) (c : Nat) : Dev :=
  if d.islandOk 45 ∧ d.chSt c = 1 then (List.range (d.gf (Reg.dmaChCfg c) 8 4)).foldl (fun (x : Dev) _ => x.dmaUnit c) d else d

/-- Octets of its descriptor that a channel has issued. -/
def Chan.issued (x : Chan) : Nat := x.idx.iss + x.src.iss + x.dst.iss

/-- The turns of the channels `l` one after another, round by round, until a round issues nothing; the first argument bounds the rounds. -/
def Dev.dmaShare : Nat → List Nat → Dev → Dev
  | 0, _, d => d
  | n + 1, l, d =>
    let d1 := l.foldl (fun (x : Dev) c => x.dmaTurn c) d
    if l.all (fun c => (d1.chan c).issued == (d.chan c).issued) then d1 else Dev.dmaShare n l d1

/-! ### Completion records (Table DMA-4, R353–R355) -/

/-- A record's words written to a ring's memory slot: false where it has to wait or the memory failed. -/
def Dev.ringWrite (d : Dev) (c r : Nat) (ws : List Word) : Bool × Dev :=
  let x := d.dring r
  let log := d.gf (Reg.dmaCrCfg r) 0 5
  let a := (d.rd (Reg.dmaCrBase r)).toNat / 4096 * 4096 + x.tail % 2 ^ log * 32
  if d.gb (Reg.dmaCrStat r) 18 then (false, d)
  else if d.gb (Reg.dmaCrBase r) 0 then
    if d.hbmOk ∧ 0x40000000 ≤ a ∧ a + 32 ≤ 0x600000000 then (true, d.stWs a ws) else (false, d.sb (Reg.dmaCrStat r) 18 true)
  else
    let pf := d.gf (Reg.dmaCrCfg r) 5 2
    let pasid := if d.gb (Reg.dmaCrCfg r) 19 then some (d.gf (Reg.dmaCrCfg r) 32 20) else none
    if d.dmaHost then
      match d.xlate pf (.dmaRec c) pasid a 32 true with
      | (true, d1) => (true, d1.hostWrite pf pasid a (wordsOctets ws))
      | (false, d1) => (false, d1)
    else (false, d)

/-- The ring's vector fires where IEN = 1 (R353). -/
def Dev.ringFire (d : Dev) (r : Nat) : Dev :=
  if d.gb (Reg.dmaCrCfg r) 7 then d.fire (d.gf (Reg.dmaCrCfg r) 5 2) (d.gf (Reg.dmaCrCfg r) 8 11) else d

/-- A record posted to device ring `r`: true where it was written. -/
def Dev.postRing (d : Dev) (c r : Nat) (q : DmaRec) : Bool × Dev :=
  let x := d.dring r
  if d.gb (Reg.dmaCrCfg r) 20 = false ∨ 15 < r then (false, d)
  else
    let wait := fun (y : Dev) => y.modRing r (fun z => { z with order := if z.order.contains c then z.order else z.order ++ [c] })
    if d.ringFull r then
      let d1 := (d.sb (Reg.dmaCrStat r) 17 true).modRing r (fun z => { z with ovf := true })
      (false, wait (if x.ovf then d1 else d1.ringFire r))
    else
      let w0 := q.w0 + fld 16 1 (phaseOf x.tail (d.gf (Reg.dmaCrCfg r) 0 5))
      match d.ringWrite c r [BitVec.ofNat 64 w0, BitVec.ofNat 64 q.w1, BitVec.ofNat 64 q.w2, BitVec.ofNat 64 q.w3] with
      | (true, d1) =>
        let d2 := d1.modRing r (fun z => { z with tail := z.tail + 1 })
        (true, if q.irq ∨ q.halt then d2.ringFire r else d2)
      | (false, d1) => (false, wait d1)

/-- A record posted to the CQ of queue pair `q`: true where it was written; else the channel waits its turn there (R355). -/
def Dev.postDmaCq (d : Dev) (c q : Nat) (r : DmaRec) (turn : Bool) : Bool × Dev :=
  match d.cq q with
  | none => (false, d)
  | some x =>
    if (d.chan c).lost then (false, d)
    else if (x.held ∧ turn = false) ∨ (d.fn x.fn).d3 then (false, (d.waitCq q (65536 + c)).pmeCheck x.fn)
    else if x.full then (false, (d.overflow q).waitCq q (65536 + c))
    else if d.dmaHost = false then (false, d.waitCq q (65536 + c))
    else match d.xlate x.fn (.cqWrite q) x.pasid (x.base + x.tail % x.size * 32) 32 true with
      | (true, d1) => (true, d1.putCqe q none r.w0 r.w1 r.w2 r.w3)
      | (false, d1) => (false, d1.waitCq q (65536 + c))

/-- A record posted to the target of the active configuration; `turn` where it is the record's turn at a held CQ. -/
def Dev.postRec (d : Dev) (c : Nat) (r : DmaRec) (turn : Bool) : Bool × Dev :=
  let t := d.gf (Reg.dmaChCfg c) 16 16
  if d.islandOk 45 = false then (false, d)
  else if d.gb (Reg.dmaChCfg c) 4 then d.postRing c t r else d.postDmaCq c t r turn

/-- Words 0 to 3 of a record (Table DMA-4), PHASE apart. -/
def Dev.recWords (d : Dev) (c st mism resid dir halt ofs addr kind : Nat) : DmaRec :=
  let x := d.chan c
  { w0 := fld 0 16 (d.gf (Reg.dmaChStat c) 16 16) + fld 24 8 st + fld 32 16 c + fld 48 8 (0x40 + x.mode) + fld 56 1 mism + fld 57 1 resid
      + fld 58 1 dir + fld 59 1 (bit x.last) + fld 60 1 halt
    w1 := fld 0 32 ofs + fld 32 32 (getF (x.w 1) 32 32)
    w2 := addr
    w3 := fld 0 16 (d.gf (Reg.dmaGen c) 16 16) + fld 16 3 kind
    irq := getB (x.w 0) 16
    halt := halt == 1 }

/-! ### Errors (R359, R360) -/

/-- The channel's waits for translation given up: those of the descriptor in progress, or all of them (R369). -/
def Dev.dmaDropWaits (d : Dev) (c : Nat) (all : Bool) : Dev :=
  { d with xlt := { d.xlt with waits := d.xlt.waits.filter (fun w =>
      !(w.want == .dmaIdx c || w.want == .dmaSrc c || w.want == .dmaDst c || (all && (w.want == .dmaDesc c || w.want == .dmaRec c)))) } }

/-- A beat of side `k` at octet `o` failed: the earliest in issue order is kept (R359). -/
def Dev.dmaFail (d : Dev) (c k o addr kind : Nat) : Dev :=
  let x := d.chan c
  let e : DmaErr := { side := k, addr := addr, sp := if k = 3 then getB x.desc 0 else x.sp k, kind := kind, ofs := o
                      final := k != 3 && kind != 4 && o + x.width k == x.total k, seq := if k = 3 then 0 else x.place k o }
  let keep := match x.err with | some f => decide (f.seq ≤ e.seq) | none => false
  let d1 := d.modChan c (fun y => { y with err := if keep then y.err else some e, xw := y.xw.filter (· == 3) })
  (d1.dmaDropWaits c false).atsGo

/-- Status of a halt's record (Table DMA-5). -/
def DmaErr.status (e : DmaErr) : Nat :=
  if e.kind = 4 then 4 else if e.final then 0x11 else if e.kind = 1 then 7 else if e.kind = 2 then 0x10 else 6

/-- Octets from the start of the failing beat to the end of the descriptor, as OFFSET reports them; none for a descriptor of which no beat
was issued. -/
def Chan.residue (x : Chan) (e : DmaErr) : Nat :=
  if e.side = 3 then 0 else if e.side = 0 then x.count - e.ofs / 4 * x.srcW else x.count - e.ofs

/-- The octets from `a` on lie in HBM a channel may write: the solver and the customer region (R398). -/
def hbmWritable (a n : Nat) : Bool := decide (0x40000000 ≤ a ∧ a + n ≤ 0x600000000)

/-- Octets of HBM with values the specification leaves undefined. -/
def Dev.blur (d : Dev) (a n : Nat) : Dev :=
  ({ d with free := d.free + n }).stN a ((List.range n).map (fun i => BitVec.ofNat 8 (Config.freeWord (d.free + i)).toNat))

/-- The destination octets a failing beat leaves undefined (R359): those of that beat where it is the last of its side, else those from it to
the end of the descriptor; with DST_FIX those of one beat.  What HBM holds there is free. -/
def Dev.dmaBlur (d : Dev) (c : Nat) (e : DmaErr) : Dev :=
  let x := d.chan c
  let o := if e.side = 0 then e.ofs / 4 * x.srcW else e.ofs
  let n := if e.final then (if e.side = 0 then x.srcW else x.width e.side) else x.count - o
  let a := if x.fix 2 then x.dstA else x.dstA + o
  let m := if x.fix 2 then x.dstW else n
  if e.side ≠ 3 ∧ e.kind ≠ 4 ∧ x.reads 2 = false ∧ x.sp 2 ∧ d.hbmOk ∧ hbmWritable a m then d.blur a m else d

/-- The halt: the latch, the counter, the fault; undefined octets of the destination (R359, R360). -/
def Dev.dmaLatch (d : Dev) (c : Nat) (e : DmaErr) : Dev :=
  let d1 := ((d.dmaBlur c e).wr (Reg.dmaErrAddr c) (BitVec.ofNat 64 e.addr)).wr (Reg.dmaErrInfo c) (BitVec.ofNat 64
    (fld 0 1 (bit (e.side == 2 && !((d.chan c).reads 2))) + fld 1 1 (bit e.sp) + fld 2 3 e.kind + fld 5 1 (bit e.final)
      + fld 16 16 (d.gf (Reg.dmaChStat c) 16 16) + fld 63 1 1))
  ((d1.modChan c (fun x => { x with err := none, xw := [] })).inc (Reg.dmaErrCnt c)).raise 12 c 0x10 c

/-- Each side stands at its first beat not completed: from there its beats are issued again (CONT). -/
def Chan.rewound (x : Chan) : Chan :=
  let back := fun (s : DmaSide) => { s with iss := s.done, ack := s.done }
  { x with idx := back x.idx, src := back x.src, dst := back x.dst, runs := [] }

/-- The record of a halt. -/
def Dev.haltRec (d : Dev) (c : Nat) (e : DmaErr) : DmaRec :=
  let x := d.chan c
  d.recWords c e.status 0 (bit (e.side != 3)) (bit (e.side == 2 && !(x.reads 2))) 1 (x.residue e) e.addr e.kind

/-! ### Descriptors one after another -/

/-- The hand-over (R357): the committed copy becomes the active set and its first descriptor is read. -/
def Dev.dmaHandover (d : Dev) (c : Nat) : Dev :=
  let x := d.chan c
  let d1 := (d.wr (Reg.dmaChChain c) x.comChain).wr (Reg.dmaChCfg c) x.comCfg
  let d2 := (d1.sf (Reg.dmaGen c) 16 16 (d1.gf (Reg.dmaGen c) 0 16)).sb (Reg.dmaGen c) 32 true
  let d3 := ((d2.sf (Reg.dmaChStat c) 16 16 0).sb (Reg.dmaChStat c) 3 false).setCh c 1
  ((d3.dmaDropWaits c true).atsGo).modChan c (fun _ => { comChain := x.comChain, comCfg := x.comCfg, rd := 1, rdAt := x.comChain })

/-- A new generation is committed and not yet taken. -/
def Dev.genDue (d : Dev) (c : Nat) : Bool := d.gf (Reg.dmaGen c) 0 16 != d.gf (Reg.dmaGen c) 16 16

/-- The channel has nothing to do: IDLE, the committed copy kept. -/
def Dev.dmaIdle (d : Dev) (c : Nat) : Dev :=
  let x := d.chan c
  (((d.dmaDropWaits c true).atsGo).modChan c (fun _ => { comChain := x.comChain, comCfg := x.comCfg })).setCh c 0

/-- The waits of the descriptor in progress end with it. -/
def Dev.dmaSettled (d : Dev) (c : Nat) : Dev := (d.dmaDropWaits c false).atsGo

/-- A descriptor boundary (R357): the hand-over where one is due, the next descriptor, or the end of the chain.  `unread`: the descriptor passed
over was never read, so that it names no next one. -/
def Dev.dmaBoundary (d : Dev) (c : Nat) : Dev :=
  let x := d.chan c
  if d.gb (Reg.dmaChStat c) 3 then d.dmaHandover c
  else if x.ws.isEmpty ∨ x.last then (if x.last ∧ d.gb (Reg.dmaChCfg c) 3 ∧ d.genDue c then d.dmaHandover c else d.dmaIdle c)
  else
    ((((d.dmaSettled c).sf (Reg.dmaChStat c) 16 16 (d.gf (Reg.dmaChStat c) 16 16 + 1)).modChan c (fun y =>
      { y with ws := [], idx := {}, src := {}, dst := {}, hold := [], holdD := [], offs := [], eq := 0, mism := none
               xw := y.xw.filter (· == 3), runs := [], err := none })).setCh c 1)

/-- The descriptor read becomes the current one, and the read of the next is due (R348). -/
def Dev.dmaLoad (d : Dev) (c : Nat) : Dev :=
  let x := d.chan c
  let nx := x.rdWs.getD 5 0
  let last := getB (x.rdWs.getD 0 0) 17
  let y : Chan := { comChain := x.comChain, comCfg := x.comCfg, desc := x.rdAt, ws := x.rdWs, rd := if last then 0 else 1
                    rdAt := if last then 0 else nx }
  let d1 := d.modChan c (fun _ => y)
  if y.formatBad then d1.dmaFail c 3 0 (x.rdAt.toNat / 64 * 64) 4 else d1

/-- The descriptor is done (R352). -/
def Chan.complete (x : Chan) : Bool :=
  !x.ws.isEmpty && !x.outstanding && (match x.mode with
    | 0 => true
    | 3 => x.mism.isSome || (x.src.done == x.count && x.dst.done == x.count)
    | _ => x.dst.done == x.count)

/-- STATE follows the waits for page responses; entries to XLATE_WAIT are counted (Table DMA-6). -/
def Dev.dmaSync (d : Dev) (c : Nat) : Dev :=
  let x := d.chan c
  let w := x.xw.any (fun k => k != 3 || x.ws.isEmpty)
  if d.chSt c = 1 ∧ w then (d.setCh c 2).inc (Reg.dmaXwaitCnt c)
  else if d.chSt c = 2 ∧ w = false then d.setCh c 1
  else d

/-- What follows once a record is written: the channel stays halted, or passes the boundary. -/
def Dev.afterRec (d : Dev) (c : Nat) (halt : Bool) : Dev := if halt then d.setCh c 4 else d.dmaBoundary c

/-- A record posted, or held with the channel HELD (R355). -/
def Dev.dmaRecord (d : Dev) (c : Nat) (r : DmaRec) : Dev :=
  match d.postRec c r false with
  | (true, d1) => d1.afterRec c r.halt
  | (false, d1) => (d1.modChan c (fun x => { x with held := some r })).setCh c 3

/-- A descriptor done: counted, recorded with CMPL = 1 (R353). -/
def Dev.dmaFinish (d : Dev) (c : Nat) : Dev :=
  let x := d.chan c
  let d1 := (d.inc (Reg.dmaDescCnt c)).addCnt (Reg.dmaByteCnt c) x.count
  if getB (x.w 0) 15 then
    d1.dmaRecord c (d1.recWords c 0 (bit x.mism.isSome) 0 0 0 (if x.mode = 3 then x.mism.getD x.count else 0) 0 0)
  else d1.dmaBoundary c

/-- The channel leaves every order of held records. -/
def Dev.dmaUnwait (d : Dev) (c : Nat) : Dev :=
  { d with dma := { d.dma with rings := d.dma.rings.map (fun e => (e.1, { e.2 with order := e.2.order.filter (· != c) })) }
           hq := { d.hq with cqs := d.hq.cqs.map (fun e => (e.1, { e.2 with order := e.2.order.filter (· != 65536 + c) })) } }

/-- The target of the channel's records has space now. -/
def Dev.dmaRoom (d : Dev) (c : Nat) : Bool :=
  let t := d.gf (Reg.dmaChCfg c) 16 16
  if d.gb (Reg.dmaChCfg c) 4 then d.gb (Reg.dmaCrCfg t) 20 && !d.ringFull t && !d.gb (Reg.dmaCrStat t) 18
  else match d.cq t with
    | some q => !q.held && !q.full && !(d.fn q.fn).d3 && !(d.chan c).lost
    | none => false

/-- The record of the channel waits for a translation. -/
def Dev.recWaits (d : Dev) (c : Nat) : Bool :=
  d.xlt.waits.any (fun w => w.want == .dmaRec c || w.want == .cqWrite (d.gf (Reg.dmaChCfg c) 16 16))

/-- The record of an ABORT is abandoned (R355). -/
def Dev.abortDrop (d : Dev) (c : Nat) : Dev := ((d.dmaUnwait c).inc (Reg.dmaRecDropCnt c)).modChan c (fun y => { y with abortRec := false })

/-- STOPPING with every beat completed: the ABORTED record is written after the writes of its descriptor where its target has space, or
abandoned; then the channel is IDLE (Table DMA-6, R354).  A record whose translation is awaited keeps the channel STOPPING. -/
def Dev.dmaStopped (d : Dev) (c : Nat) : Dev :=
  let x := d.chan c
  if x.abortRec = false then d.dmaIdle c
  else if d.dmaRoom c = false then (d.abortDrop c).dmaIdle c
  else match d.postRec c (d.recWords c 0x12 0 1 0 0 (x.count - (if usesDst x.mode then x.dst.done else 0)) 0 0) false with
    | (true, d1) => d1.dmaIdle c
    | (false, d1) => if d1.recWaits c then d1 else (d1.abortDrop c).dmaIdle c

/-- The channel goes on as far as it can without an answer from outside; `n` bounds the descriptors passed at once. -/
def Dev.dmaGo : Nat → Dev → Nat → Dev
  | 0, d, _ => d
  | n + 1, d, c =>
    if d.islandOk 45 = false then d
    else if d.chSt c = 5 then (if (d.chan c).outstanding then d else d.dmaStopped c)
    else if d.chSt c ≠ 1 ∧ d.chSt c ≠ 2 then d
    else
      let d1 := (d.dmaPump c).dmaSync c
      let x := d1.chan c
      match x.err with
      | some e => if x.outstanding then d1 else (d1.dmaLatch c e).dmaRecord c (d1.haltRec c e)
      | none =>
        if x.ws.isEmpty then
          (if x.rd = 3 then Dev.dmaGo n (d1.dmaLoad c) c
           else if x.rd = 4 then
             Dev.dmaGo n ((d1.modChan c (fun y => { y with desc := y.rdAt, rd := 1 })).dmaFail c 3 0 (x.rdAt.toNat / 64 * 64) x.rdErr) c
           else d1)
        else if x.complete then Dev.dmaGo n (d1.dmaFinish c) c
        else d1

/-- The channel goes on. -/
def Dev.dmaRun (d : Dev) (c : Nat) : Dev := Dev.dmaGo 6 d c

/-- The turn of a channel whose record is held has come: the record is written, the channel leaves the order (`pop`) and goes on, or it stays
HELD. -/
def Dev.dmaRelease (d : Dev) (c : Nat) (pop : Dev → Dev) : Bool × Dev :=
  match (d.chan c).held with
  | none =>
    let d1 := (pop d).dmaRun c
    if d.chSt c = 5 ∧ d1.chSt c = 5 then (false, d1) else (true, d1)
  | some r =>
    if d.chSt c ≠ 3 then (true, pop d)
    else match d.postRec c r true with
      | (true, d1) => (true, (((pop d1).modChan c (fun x => { x with held := none })).afterRec c r.halt).dmaRun c)
      | (false, d1) => (false, d1)

/-- A destroyed CQ leaves the channels that target it without a target (R355). -/
def Dev.dmaTargetLost (d : Dev) (q : Nat) : Dev :=
  (List.range 64).foldl (fun (x : Dev) c =>
    if x.gb (Reg.dmaGen c) 32 ∧ x.gb (Reg.dmaChCfg c) 4 = false ∧ x.gf (Reg.dmaChCfg c) 16 16 = q then
      (x.sb (Reg.dmaChStat c) 8 true).modChan c (fun y => { y with lost := true })
    else x) d

/-- Every channel goes on where it may (R335), the engine shared by weight (R345). -/
def Dev.dmaRunAll (d : Dev) : Dev :=
  let l := d.dma.ch.map (fun e => e.1)
  let all := (l.map (fun c => (d.chan c).total 0 + (d.chan c).total 1 + (d.chan c).total 2)).sum
  l.foldl (fun (x : Dev) c => x.dmaRun c) (Dev.dmaShare (all + 1) l d)

end Sys2Proof.Machine
end

