-- ==== Sys2Proof/Machine/Time.lean ====
section
/-! DEFINITION. Chapter 2: the servo, steps and slews, PTM, the time pins. -/

namespace Sys2Proof.Machine

/-! ### State shown in TIM_STAT -/

/-- `TIM_STAT.STATE`: 0 free, 1 acquire, 2 locked, 3 holdover. -/
def Dev.timState (d : Dev) : Nat := d.gf Reg.timStat 0 2

/-- R58: the output whose configuration register is `cfg` is held low now. -/
def Dev.pinLow (d : Dev) (cfg : Nat) : Bool :=
  !(d.gb cfg 0) || (d.gb cfg 1 && !(d.timState == 2 || (d.timState == 3 && !(d.gb Reg.timStat 2))))

/-- The outputs that R58 holds low are low.  A pulse in progress at a step completes its width unless EN is 0, and no high phase of
CLK10M_OUT is cut below 20 ns (R57): its falling edge then comes by PPS_OUT_EDGE (log entry 158). -/
def Dev.squelch (d : Dev) : Dev :=
  let t := d.tim
  let keep := t.ppsKeep && d.gb Reg.timPpsoutCfg 0
  let t1 : Tim := if t.ppsOut ∧ d.pinLow Reg.timPpsoutCfg ∧ keep = false then { t with ppsOut := false, ppsAt := t.up, ppsKeep := false } else t
  let t2 : Tim := if t1.clk10 ∧ d.pinLow Reg.timClk10Cfg ∧ 20 * nsU ≤ t1.up - t1.clk10At then { t1 with clk10 := false, clk10At := t1.up } else t1
  { d with tim := t2 }

/-- The servo state changed; reaching locked clears COARSE (R44), and the pins follow (R58). -/
def Dev.setTimState (d : Dev) (st : Nat) : Dev :=
  let d1 := d.sf Reg.timStat 0 2 st
  (if st = 2 then d1.sb Reg.timStat 3 false else d1).squelch

/-- Entry to acquire: the next sample is a first sample, and the timeout count restarts (Table TIM-3). -/
def Dev.enterAcquire (d : Dev) : Dev :=
  { (d.setTimState 1) with
    tim := { (d.setTimState 1).tim with first := true, goodRun := 0, badRun := 0, srcSince := (d.setTimState 1).tim.up } }

/-! ### Steps and slews (R38, R39, R62) -/

/-- R39: no port has scheduled transmission enabled (R67: RUN and SCHED_EN), and no attachment is in coldstart, integrate, active or passive. -/
def Dev.stepsPermitted (d : Dev) : Bool :=
  (!(d.gb Reg.calStat 0) || (List.range 36).all (fun p => !(d.gb (Reg.calPortCfg p) 0)))
  && (List.range 2).all (fun a => d.gf (Reg.rngStat a) 0 3 < 2 || d.gf (Reg.rngStat a) 0 3 == 6)

/-- The timestamps captured in this clock, moved by `x` (2^-48 ns): they carry the time after the change (R40). -/
def Dev.restamp (d : Dev) (x : Int) : Dev :=
  let t := d.tim
  let mv := fun (n : Nat) => (((n : Int) + x) % (secU * 2 ^ 48 : Nat)).toNat
  let hot := fun (k : Bool) (p : Nat) => t.stampUp == t.up && t.stampPorts.contains (k, p)
  let fix := fun (k : Bool) (e : Nat × Nat) => if hot k e.1 then (e.1, mv e.2) else e
  let d1 : Dev := { d with
    tim := { t with egress := t.egress.map (fix true), ingress := t.ingress.map (fix false)
                    ptmT1 := if t.ptmSent = some t.up then stampOf t.now else t.ptmT1 }
    frames := d.frames.map (fun e => match e.2.rx with
      | some p => if hot false p && e.2.stamp == Sparse.getD t.ingress p 0 then (e.1, { e.2 with stamp := mv e.2.stamp }) else e
      | none => e)
    ports := d.ports.map (fun e => if hot true e.1 then
        (e.1, { e.2 with cur := e.2.cur.map (fun c => if c.stamp = Sparse.getD t.egress e.1 0 then { c with stamp := mv c.stamp } else c) })
      else e) }
  if t.ppsLast = some t.up then d1.wr Reg.timPpsinCap (compact (stampOf t.now)) else d1

/-- Local time becomes `x` (2^-48 ns) at once. -/
def Dev.setLocal (d : Dev) (x : Nat) : Dev := (({ d with tim := d.tim.setNow x }).restamp ((x : Int) - d.now)).afterStep

/-- Local time moved by `x` (2^-48 ns) at once (R39); SEC wraps at 2^48. -/
def Dev.stepBy (d : Dev) (x : Int) : Dev := d.setLocal (((d.tim.now : Int) + x) % (secU * 2 ^ 48 : Nat)).toNat

/-- A slew of `x` (2^-48 ns) begins; it replaces the remainder of the one in progress (R38). -/
def Dev.slewBy (d : Dev) (x : Int) : Dev :=
  ({ d with tim := { d.tim with slew := x } }).sb Reg.timStat 6 (decide (x ≠ 0))

/-- A servo correction made in this clock is undone: the software step or SET wins (R40). -/
def Dev.undoCorrection (d : Dev) : Dev :=
  if d.tim.corrAt = some d.tim.up then
    let t := d.tim.setNow (((d.tim.now : Int) - d.tim.corrStep) % (secU * 2 ^ 48 : Nat)).toNat
    ({ d with tim := { t with slew := d.tim.corrSlew, corrAt := none } }).sb Reg.timStat 6 (decide (d.tim.corrSlew ≠ 0))
  else d

/-- An accepted software step or SET: COARSE clears, acquire restarts (Table TIM-3), and a servo correction of the same clock loses (R40).
A slew in progress from an earlier clock goes on (log entry 155). -/
def Dev.stepAccepted (d : Dev) : Dev :=
  let d1 := d.undoCorrection.sb Reg.timStat 3 false
  let d2 := { d1 with tim := { d1.tim with steppedAt := some d1.tim.up, ppsKeep := d1.tim.ppsOut } }
  if d.timState = 1 ∨ d.timState = 2 then d2.enterAcquire else d2

/-- A software step or SET refused (R39). -/
def Dev.stepRefused (d : Dev) : Dev := (d.sb Reg.timStat 7 true).inc Reg.timAdjRefCnt

/-! ### The servo (R36, R37, Table TIM-3) -/

/-- A quotient; where it is not exact the specification states no rounding, and the last unit is free. -/
def Dev.freeDiv (d : Dev) (a b : Int) : Int × Dev :=
  if b = 0 ∨ a % b = 0 then (a / b, d)
  else (a / b + (if Config.roundUp d.free then 1 else 0), d.useFree)

/-- A sample as the 48 bits of `TIM_SERVO_IN` hold it; a difference that does not fit is an unstated value. -/
def Dev.theta48 (d : Dev) (x : Int) : Int × Dev :=
  if -(2 ^ 47) ≤ x ∧ x < 2 ^ 47 then (x, d) else (toSigned 48 (Config.thetaOut d.free).toNat, d.useFree)

/-- `LOCK_THR` in 2^-16 ns. -/
def Dev.lockThr (d : Dev) : Nat := d.gf Reg.timServoCfg 16 8 * 65536

/-- R37 `correct_phase`: a step or a slew by −θ; COARSE stays as it is (log entry 156).  After a software step or SET of the same clock the sample is
discarded and the next one is a first sample (R40). -/
def Dev.correctPhase (d : Dev) (theta : Int) : Dev :=
  if d.tim.steppedAt = some d.tim.up then { d with tim := { d.tim with first := true } }
  else
    let thr := d.gf Reg.timServoCfg 48 16 * 1000 * 65536
    let x : Int := -theta * 2 ^ 32
    let stp : Bool := decide (thr < theta.natAbs ∧ thr ≠ 0) && d.stepsPermitted
    let d0 : Dev := if stp then { d with tim := { d.tim with ppsKeep := d.tim.ppsOut } } else d
    let d1 := if stp then d0.stepBy x else d0.slewBy x
    { d1 with tim := { d1.tim with first := false, lastApp := d1.tim.up, corrAt := some d1.tim.up, corrSlew := d.tim.slew
                                   corrStep := if stp then x else 0 } }

/-- R37: the proportional and integral update of the rate. -/
def Dev.rateUpdate (d : Dev) (theta : Int) : Dev :=
  let tau : Int := (d.tim.up - d.tim.lastApp : Nat)
  let q1 := d.freeDiv (theta * 2 ^ (80 - d.gf Reg.timServoCfg 5 5)) tau
  let q2 := q1.2.freeDiv (theta * 2 ^ (80 - d.gf Reg.timServoCfg 0 5)) tau
  let integ := d.tim.integ - q1.1
  let rate := integ - q2.1
  let d1 := (q2.2.sf Reg.timRate 0 40 (ofSigned 40 (clampI (-rateLim) rateLim rate))).sf Reg.timServoInteg 0 40
    (ofSigned 40 (clampI (-rateLim) rateLim integ))
  { d1 with tim := { d1.tim with integ := integ, lastApp := d1.tim.up } }

/-- A sample applied (R37): the first since entering acquire corrects the phase, every other updates the rate. -/
def Dev.applySample (d : Dev) (theta : Int) : Dev := if d.tim.first then d.correctPhase theta else d.rateUpdate theta

/-- A sample within LOCK_THR applied in acquire counts towards lock; the eighth in a row locks (Table TIM-3). -/
def Dev.acquireSample (d : Dev) (theta : Int) : Dev :=
  let d1 := d.applySample theta
  let run := if theta.natAbs ≤ d.lockThr then d.tim.goodRun + 1 else 0
  let d2 := { d1 with tim := { d1.tim with goodRun := run } }
  if 8 ≤ run ∧ d2.timState = 1 then ({ d2 with tim := { d2.tim with badRun := 0 } }).setTimState 2 else d2

/-- An accepted sample meets the servo state machine (Table TIM-3). -/
def Dev.servoSample (d : Dev) (theta : Int) : Dev :=
  match d.timState with
  | 0 => d.enterAcquire.acquireSample theta
  | 1 => d.acquireSample theta
  | 2 =>
    if theta.natAbs ≤ d.lockThr then
      let d1 := d.applySample theta
      { d1 with tim := { d1.tim with badRun := 0 } }
    else if d.tim.badRun + 1 < 4 then
      ({ d with tim := { d.tim with badRun := d.tim.badRun + 1 } }).inc Reg.timSampRejCnt
    else d.enterAcquire.acquireSample theta
  | _ =>
    let d1 := d.sb Reg.timStat 2 false
    if theta.natAbs ≤ d.lockThr then ({ (d1.applySample theta) with
        tim := { (d1.applySample theta).tim with badRun := 0 } }).setTimState 2
    else d1.enterAcquire.acquireSample theta

/-- R36: a rejected sample. -/
def Dev.rejectSample (d : Dev) : Dev := (d.sb Reg.timStat 5 true).inc Reg.timSampRejCnt

/-- R37: an accepted sample updates `TIM_SERVO_OFS`, restarts the timeout and counts for the 10 µs rule. -/
def Dev.acceptSample (d : Dev) (theta : Int) : Dev :=
  let d1 := (d.sf Reg.timServoOfs 0 48 (ofSigned 48 theta)).sf Reg.timServoOfs 48 16 (d.gf Reg.timServoOfs 48 16 + 1)
  ({ d1 with tim := { d1.tim with lastAcc := some d1.tim.up, srcSince := d1.tim.up } }).servoSample theta

/-- A sample of the selected source arrives (R36, R37): rejected within 10 µs of the previous accepted one. -/
def Dev.sampleIn (d : Dev) (theta : Int) : Dev :=
  match d.tim.lastAcc with
  | some t => if d.tim.up - t < 10 * usU then d.rejectSample else d.acceptSample theta
  | none => d.acceptSample theta

/-- A sample of source `src` (R36): ignored while another source is selected. -/
def Dev.sourceSample (d : Dev) (src : Nat) (theta : Int) : Dev := if d.gf Reg.timCtl 0 3 = src then d.sampleIn theta else d

/-! ### Register writes with an effect of their own -/

/-- A write of `TIM_SERVO_IN` (R36): with SRC ≠ 1 the sample is rejected. -/
def Dev.wrServoIn (d : Dev) (v : Word) : Dev :=
  if d.gf Reg.timCtl 0 3 = 1 then d.sampleIn (toSigned 48 v.toNat) else d.rejectSample

/-- A write of `TIM_CTL` (R40, Table TIM-3). -/
def Dev.wrTimCtl (d : Dev) (v : Word) : Dev :=
  let new := getF v 0 3
  if 4 < new then d.outOfRange Reg.timCtl
  else
    let old := d.gf Reg.timCtl 0 3
    let d1 := d.sf Reg.timCtl 0 3 new
    if new = 0 then d1.setTimState 0
    else if new ≠ old then d1.enterAcquire
    else d1

/-- A write of `TIM_ADJ`: OFFSET and MODE are stored; GO applies them (R38, R39). -/
def Dev.wrTimAdj (d : Dev) (v : Word) : Dev :=
  let d1 := d.wrReg Reg.timAdj v
  let ofs := toSigned 48 (getF v 0 48) * 2 ^ 32
  if getB v 63 then
    if getB v 48 then d1.slewBy ofs
    else if d1.stepsPermitted then (d1.stepAccepted).stepBy ofs
    else d1.stepRefused
  else d1

/-- A write of `TIM_SET_NS`: NS and FRAC are stored; GO loads the time (R39). -/
def Dev.wrTimSetNs (d : Dev) (v : Word) : Dev :=
  if inRangeAt Reg.timSetNs v then
    let d1 := d.wrReg Reg.timSetNs v
    if getB v 63 then
      if d1.stepsPermitted then
        let x := d1.gf Reg.timSetSec 0 48 * secU + getF v 16 32 * nsU + getF v 0 16 * 2 ^ 32
        d1.stepAccepted.setLocal x
      else d1.stepRefused
    else d1
  else d.outOfRange Reg.timSetNs

/-- A write of the PPS_OUT or CLK10M_OUT configuration: stored, then R58 acts. -/
def Dev.wrPinCfg (d : Dev) (a : Nat) (v : Word) : Dev := (d.wrReg a v).squelch

/-- A write of `TIM_TS_SHIM[p]`: stored clamped, with the CLAMPED bits (R50). -/
def Dev.wrTsShim (d : Dev) (p : Nat) (v : Word) : Dev :=
  let a := Reg.timTsShim p
  let d1 := d.wrReg a v
  (d1.sb a 32 (decide (d1.gf a 0 16 ≠ getF v 0 16))).sb a 33 (decide (d1.gf a 16 16 ≠ getF v 16 16))

/-! ### Timers of the servo -/

/-- SOURCE_TIMEOUT (R37, R41, Table TIM-3): acquire falls to free, locked to holdover. -/
def sourceTimeout (d : Dev) : Dev :=
  if d.timState = 1 ∨ d.timState = 2 then
    let d0 := d.waitUp (d.tim.srcSince + d.gf Reg.timServoCfg 32 16 * 100 * usU)
    let d1 := (d0.sb Reg.timStat 4 true).raise 1 0 0x10 (d0.gf Reg.timCtl 0 3)
    if d.timState = 1 then d1.setTimState 0
    else
      let d2 := (d1.sf Reg.timRate 0 40 (d1.gf Reg.timServoInteg 0 40)).inc Reg.timHoldCnt
      ({ d2 with tim := { d2.tim with holdSince := d2.tim.up, badRun := 0 } }).setTimState 3
  else d

/-- HOLDOVER_EXPIRY (R41, Table TIM-3). -/
def holdoverExpiry (d : Dev) : Dev :=
  let mx := d.gf Reg.timHoldCfg 0 32
  if d.timState = 3 ∧ mx ≠ 0 ∧ d.gb Reg.timStat 2 = false then
    (((d.waitUp (d.tim.holdSince + mx * secU)).sb Reg.timStat 2 true).raise 1 0 0x11 0).squelch
  else d

/-- SLEW_COMPLETE (R38): time passes until the slew has moved the time base by its whole amount. -/
def slewComplete (d : Dev) : Dev :=
  match d.slewClocks with
  | some n => if d.tim.slew = 0 then d else d.clocks n
  | none => d

/-! ### PTM (R51–R54) -/

/-- The conditions of R51. -/
def Dev.ptmReady (d : Dev) : Bool :=
  d.hq.ptmEn && d.gb Reg.timPtmCtl 0 && (d.hq.link == .l0 || d.hq.link == .l0p) && !(Sparse.getD d.hq.fns 0 {}).d3

/-- A PTM request, sent under R51 unless one is outstanding (R52); t1 is a captured instant (R35). -/
def Dev.ptmIssue (d : Dev) : Dev :=
  if d.ptmReady ∧ d.tim.ptmSent = none then
    ({ d with tim := { d.tim with ptmSent := some d.tim.up, ptmT1 := stampOf d.now } }).emit (.pcie 0 [])
  else d

/-- R54: VALID clears and requests stop. -/
def Dev.ptmStop (d : Dev) : Dev := ({ d with tim := { d.tim with ptmSent := none } }).sb Reg.timPtmCtl 63 false

/-- A write of `TIM_PTM_CTL`: EN, AUTO and PERIOD are stored; setting AUTO starts the period; REQ asks for one request (R51). -/
def Dev.wrPtmCtl (d : Dev) (v : Word) : Dev :=
  if inRangeAt Reg.timPtmCtl v then
    let auto := d.gb Reg.timPtmCtl 1
    let d1 := d.wrReg Reg.timPtmCtl v
    let d2 : Dev := if getB v 1 ∧ auto = false then { d1 with tim := { d1.tim with ptmLast := d1.tim.up } } else d1
    if getB v 2 then d2.ptmIssue else d2
  else d.outOfRange Reg.timPtmCtl

/-- PTM_PERIOD_TIMER (R51): with AUTO = 1, PERIOD ms have passed. -/
def ptmPeriodTimer (d : Dev) : Dev :=
  if d.gb Reg.timPtmCtl 1 then
    let due := d.tim.ptmLast + d.gf Reg.timPtmCtl 16 10 * msU
    let d1 := d.waitUp due
    ({ d1 with tim := { d1.tim with ptmLast := d1.tim.up } }).ptmIssue
  else d

/-- PTM_RESPONSE (R53): t1, Tm and d are written in one clock; with SRC = 4 the exchange is a sample (Table TIM-2). -/
def ptmResponse (tm : Word) (delay : BitVec 32) (d : Dev) : Dev :=
  match d.tim.ptmSent with
  | none => d
  | some _ =>
    let d1 := (d.wr Reg.timPtmLocal (compact d.tim.ptmT1)).wr Reg.timPtmMaster tm
    let d2 := (d1.sf Reg.timPtmDelay 0 32 delay.toNat).sf Reg.timPtmDelay 48 16 (d.gf Reg.timPtmDelay 48 16 + 1)
    let d3 := ({ d2 with tim := { d2.tim with ptmSent := none, ptmMiss := 0 } }).sb Reg.timPtmCtl 63 true
    let th := d3.theta48 ((d.tim.ptmT1 / 2 ^ 32 : Nat) + ((delay.toNat : Int) - tm.toNat) * 65536)
    th.2.sourceSample 4 th.1

/-- PTM_TIMEOUT (R52): 1 ms without a response abandons the request; three in a row clear VALID. -/
def ptmTimeout (d : Dev) : Dev :=
  match d.tim.ptmSent with
  | none => d
  | some t =>
    let d0 := d.waitUp (t + msU)
    let d1 := ({ d0 with tim := { d0.tim with ptmSent := none, ptmMiss := d0.tim.ptmMiss + 1 } }).inc Reg.timPtmToCnt
    if 3 ≤ d.tim.ptmMiss + 1 then d1.sb Reg.timPtmCtl 63 false else d1

/-! ### Time pins (R55–R58) -/

/-- Distance in 2^-48 ns from local time `x` to its nearest second boundary, signed: positive after the boundary. -/
def secondOffset (x : Nat) : Int := if x % secU * 2 < secU then (x % secU : Nat) else ((x % secU : Nat) : Int) - (secU : Nat)

/-- PPS_IN_EDGE (R55): an edge of the selected polarity whose level held for FILT_NS is captured, or rejected and counted. -/
def ppsInEdge (rising : Bool) (heldNs : Nat) (d : Dev) : Dev :=
  if d.gb Reg.timPpsinCfg 0 ∧ rising ≠ d.gb Reg.timPpsinCfg 1 ∧ d.gf Reg.timPpsinCfg 8 8 ≤ heldNs then
    let cap := stampOf d.now
    let early := match d.tim.ppsLast with
      | some t => decide ((d.tim.up - t) * 2 < secU)
      | none => false
    let far := (d.timState == 2 || d.timState == 3)
      && decide (d.gf Reg.timPpsinCfg 16 16 * 100 * nsU < (secondOffset cap).natAbs)
    if early || far then d.inc Reg.timPpsinRejCnt
    else
      let d1 := d.wr Reg.timPpsinCap (compact cap)
      ({ d1 with tim := { d1.tim with ppsLast := some d1.tim.up } }).sourceSample 3 (secondOffset cap / 2 ^ 32)
  else d

/-- The next local instant at or after `x` that is a second boundary plus `ofs` (2^-48 ns). -/
def nextSecond (x : Nat) (ofs : Int) : Nat :=
  (((x : Int) - ofs + (secU : Nat) - 1) / (secU : Nat) * (secU : Nat) + ofs).toNat

/-- The next local instant at or after `x` with (NS − ofs) mod 100 = 0 and FRAC = 0. -/
def nextTick10 (x : Nat) (ofs : Int) : Nat :=
  let per : Int := (100 * nsU : Nat)
  (((x : Int) - ofs * (nsU : Nat) + per - 1) / per * per + ofs * (nsU : Nat)).toNat

/-- PPS_OUT_EDGE (R56–R58): the pin's next rising or falling edge. -/
def ppsOutEdge (clk rise : Bool) (d : Dev) : Dev :=
  if clk then
    if d.pinLow Reg.timClk10Cfg then (if d.tim.clk10 then d.waitUp (d.tim.clk10At + 20 * nsU) else d).squelch
    else if rise then
      if d.tim.clk10 then d
      else
        let from_ := if d.tim.up - d.tim.clk10At < 20 * nsU then d.now + (20 * nsU - (d.tim.up - d.tim.clk10At)) else d.now
        let d1 := d.waitLocal (nextTick10 from_ (toSigned 8 (d.gf Reg.timClk10Cfg 8 8)))
        { d1 with tim := { d1.tim with clk10 := true, clk10At := d1.tim.up } }
    else if d.tim.clk10 then
      let d1 := d.waitUp (d.tim.clk10At + 50 * nsU)
      { d1 with tim := { d1.tim with clk10 := false, clk10At := d1.tim.up } }
    else d
  else if d.pinLow Reg.timPpsoutCfg ∧ (d.tim.ppsKeep && d.tim.ppsOut && d.gb Reg.timPpsoutCfg 0) = false then d.squelch
  else if rise then
    if d.tim.ppsOut then d
    else
      let d1 := d.waitLocal (nextSecond d.now (toSigned 24 (d.gf Reg.timPpsoutCfg 8 24) * (nsU : Nat)))
      { d1 with tim := { d1.tim with ppsOut := true, ppsAt := d1.tim.up } }
  else if d.tim.ppsOut then
    let d1 := d.waitUp (d.tim.ppsAt + d.gf Reg.timPpsoutCfg 32 20 * usU)
    { d1 with tim := { d1.tim with ppsOut := false, ppsAt := d1.tim.up, ppsKeep := false } }
  else d

/-! ### Meanings -/

/-- Meaning of SERVO_IN_WRITE. -/
def execServoInWrite (r : Req) (v : Word) (s : State) : Host.Outcome State Fault Refusal :=
  onDev (fun d => d.gate r Reg.timServoIn (fun x => x.wrServoIn v)) s

/-- Meaning of SRC_WRITE. -/
def execSrcWrite (r : Req) (v : Word) (s : State) : Host.Outcome State Fault Refusal :=
  onDev (fun d => d.gate r Reg.timCtl (fun x => x.wrTimCtl v)) s

/-- Meaning of SOURCE_TIMEOUT. -/
def execSourceTimeout (s : State) : Host.Outcome State Fault Refusal := onDev sourceTimeout s

/-- Meaning of HOLDOVER_EXPIRY. -/
def execHoldoverExpiry (s : State) : Host.Outcome State Fault Refusal := onDev holdoverExpiry s

/-- Meaning of SLEW_COMPLETE. -/
def execSlewComplete (s : State) : Host.Outcome State Fault Refusal := onDev slewComplete s

/-- Meaning of TIME_STEP: a write of `TIM_ADJ` with GO = 1 and MODE = 0. -/
def execTimeStep (r : Req) (v : Word) (s : State) : Host.Outcome State Fault Refusal :=
  onDev (fun d => d.gate r Reg.timAdj (fun x => x.wrTimAdj (setB (setB v 63 true) 48 false))) s

/-- Meaning of TIME_SLEW: a write of `TIM_ADJ` with GO = 1 and MODE = 1. -/
def execTimeSlew (r : Req) (v : Word) (s : State) : Host.Outcome State Fault Refusal :=
  onDev (fun d => d.gate r Reg.timAdj (fun x => x.wrTimAdj (setB (setB v 63 true) 48 true))) s

/-- Meaning of TIME_SET_LOAD: a write of `TIM_SET_NS` with GO = 1. -/
def execTimeSetLoad (r : Req) (v : Word) (s : State) : Host.Outcome State Fault Refusal :=
  onDev (fun d => d.gate r Reg.timSetNs (fun x => x.wrTimSetNs (setB v 63 true))) s

/-- Meaning of PTM_REQUEST: a write of `TIM_PTM_CTL` with REQ = 1. -/
def execPtmRequest (r : Req) (v : Word) (s : State) : Host.Outcome State Fault Refusal :=
  onDev (fun d => d.gate r Reg.timPtmCtl (fun x => x.wrPtmCtl (setB v 2 true))) s

/-- Meaning of PTM_PERIOD_TIMER. -/
def execPtmPeriodTimer (s : State) : Host.Outcome State Fault Refusal := onDev ptmPeriodTimer s

/-- Meaning of PTM_RESPONSE. -/
def execPtmResponse (tm : Word) (delay : BitVec 32) (s : State) : Host.Outcome State Fault Refusal :=
  onDev (ptmResponse tm delay) s

/-- Meaning of PTM_TIMEOUT. -/
def execPtmTimeout (s : State) : Host.Outcome State Fault Refusal := onDev ptmTimeout s

/-- Meaning of PPS_IN_EDGE. -/
def execPpsInEdge (rising : Bool) (heldNs : Nat) (s : State) : Host.Outcome State Fault Refusal :=
  onDev (ppsInEdge rising heldNs) s

/-- Meaning of PPS_OUT_EDGE. -/
def execPpsOutEdge (clk rise : Bool) (s : State) : Host.Outcome State Fault Refusal := onDev (ppsOutEdge clk rise) s

end Sys2Proof.Machine
end

