-- ==== Sys2Proof/Machine/HostQueues.lean ====
section
/-! DEFINITION. Chapter 10: doorbells, the commands of submission entries, retirement, interrupts, link and power states, host read errors
(R308–R337). -/

namespace Sys2Proof.Machine

/-! ### Which queue pair a slot names (R310, R311, R403) -/

/-- The queue pairs of the Bench: first and count (R403). -/
def Dev.benRange (d : Dev) : Nat × Nat := (d.gf Reg.benQpCfg 0 16, d.gf Reg.benQpCfg 16 13)

/-- Global queue pair `q` lies in a range. -/
def inRange (r : Nat × Nat) (q : Nat) : Bool := decide (r.1 ≤ q ∧ q < r.1 + r.2)

/-- Queue pair `q` is given to a VF of PF `f`. -/
def Dev.inQuota (d : Dev) (f q : Nat) : Bool :=
  d.hq.fns.any (fun e => e.1 != benchFn && decide (4 ≤ e.1) && e.1 % 4 == f && inRange (e.2.first, e.2.quota) q)

/-- The global number of the queue pair that function `f` names `l`, none outside its pool or quota. -/
def Dev.globalOf (d : Dev) (f l : Nat) : Option Nat :=
  if f = benchFn then (if inRange d.benRange l then some l else none)
  else if f < 4 then
    (if l / 16384 = f ∧ d.inQuota f l = false ∧ (f = 0 → inRange d.benRange l = false) then some l else none)
  else if f < 1024 ∧ l < (d.fn f).quota then some ((d.fn f).first + l)
  else none

/-- A doorbell that is ignored (R314): DB_ERR of the queue pair, where the slot names one, and the counter. -/
def Dev.doorbellBad (d : Dev) (f slot : Nat) : Dev :=
  let q := if f < 4 ∨ f = benchFn then slot else (d.fn f).first + slot
  let d1 : Dev := if f < 4 ∨ f = benchFn ∨ slot < (d.fn f).quota then
      ({ d with hq := { d.hq with dbErr := if d.hq.dbErr.contains q then d.hq.dbErr else d.hq.dbErr ++ [q] } }).syncQ q
    else d
  d1.inc Reg.hqDbErrCnt

/-- BAR2 of function `f` answers: island 33 in service, the function neither in D3hot nor in reset. -/
def Dev.bar2Ok (d : Dev) (f : Nat) : Bool := d.islandOk 33 && !d.fnStopped f

/-- SQ_TAIL_DOORBELL (R314): entries from the device's head up to the new tail may be fetched. -/
def sqDoorbell (f slot v : Nat) (d : Dev) : Dev :=
  if d.bar2Ok f = false then d
  else match (d.globalOf f slot).bind (fun q => (d.sq q).map (fun s => (q, s))) with
    | none => d.doorbellBad f slot
    | some (q, s) =>
      if s.size ≤ v then d.doorbellBad f slot
      else
        let h := if s.kind = 2 then s.claimed else s.fetched
        (d.modSq q (fun x => { x with tail := h + (v + s.size - h % s.size) % s.size })).pumpSq q

/-! ### Held completions (R327) -/

/-- The oldest entry of queue `q` is finished. -/
def Dev.headDone (d : Dev) (q : Nat) : Bool :=
  match (d.sq q).bind (fun s => s.flight.head?) with
  | some e => e.status.isSome
  | none => false

/-- The oldest entry of queue `q` retires in its turn at a held CQ that has space; true where it did. -/
def Dev.writeHead (d : Dev) (q : Nat) : Bool × Dev :=
  match d.sq q with
  | none => (false, d)
  | some s =>
    match s.flight.head?, d.cq s.cq with
    | some e, some c =>
      if e.status.isNone ∨ d.reach s.fn = false ∨ (d.fn s.fn).d3 then (false, d)
      else if e.posts s then
        if d.memOk s.fn (c.base + c.tail % c.size * 32) 32 = false then (false, d.cqFail s.cq)
        else match d.xlate s.fn (.cqWrite s.cq) c.pasid (c.base + c.tail % c.size * 32) 32 true with
          | (true, d1) => (true, (d1.postSqe q s e).dropHead q e)
          | (false, d1) => (false, d1)
      else (true, d.dropHead q e)
    | _, _ => (false, d)

/-- The CQ's waiting order without its first member. -/
def Dev.popOrder (d : Dev) (c : Nat) : Dev := d.modCq c (fun x => { x with order := x.order.drop 1 })

/-- Every SQ that targets the CQ fetches again where it may. -/
def Dev.pumpFeeders (d : Dev) (c : Nat) : Dev := (d.feeders c).foldl (fun (x : Dev) q => x.pumpSq q) d

/-- Held completions written one after another while there is space; with the last one, and space left, HELD and OVF_PEND clear and fetching
resumes (R327). -/
def Dev.drainGo : Nat → Dev → Nat → Dev
  | 0, d, _ => d
  | n + 1, d, c =>
    match d.cq c with
    | none => d
    | some x =>
      match x.order with
      | [] => if x.held ∧ x.full = false then (d.modCq c (fun y => { y with held := false, ovf := false })).pumpFeeders c else d
      | who :: _ =>
        if x.full then d
        else if 65536 ≤ who then
          match d.dmaRelease (who - 65536) (fun y => y.popOrder c) with
          | (true, d1) => Dev.drainGo n d1 c
          | (false, d1) => d1
        else if d.headDone who = false then Dev.drainGo n (d.popOrder c) c
        else match d.writeHead who with
          | (true, d1) =>
            let d2 := d1.popOrder c
            Dev.drainGo n (if d2.headDone who then d2.waitCq c who else d2) c
          | (false, d1) => d1

/-- Held completions of CQ `c` are written as far as they can be. -/
def Dev.drainCq (d : Dev) (c : Nat) : Dev :=
  Dev.drainGo (d.inFlight + 66 + ((d.cq c).map (fun x => x.order.length)).getD 0) d c

/-- CQ_HEAD_DOORBELL (R314, R327). -/
def cqDoorbell (f slot v : Nat) (d : Dev) : Dev :=
  if d.bar2Ok f = false then d
  else match (d.globalOf f slot).bind (fun q => (d.cq q).map (fun c => (q, c))) with
    | none => d.doorbellBad f slot
    | some (q, c) =>
      let rel := (v + c.size - c.head % c.size) % c.size
      if c.size ≤ v ∨ c.tail - c.head < rel then d.doorbellBad f slot
      else ((d.modCq q (fun x => { x with head := x.head + rel })).drainCq q).pumpTrackers

/-! ### Entries run (R318–R322) -/

/-- The next entry of queue `q` to be executed, where its OPC is `opc`. -/
def Dev.nextEntry (d : Dev) (q opc : Nat) : Option Sqe :=
  ((d.sq q).bind (fun s => s.flight.find? (fun e => !e.run && e.status.isNone))).bind (fun e => if e.opc = opc then some e else none)

/-- NOP (R319). -/
def runNop (q : Nat) (d : Dev) : Dev :=
  match d.nextEntry q 0 with
  | some e => d.endSqe q e.n 0 0 0
  | none => d

/-- RX_BUF (R323): the entry offers its buffer. -/
def runRxBuf (q : Nat) (d : Dev) : Dev :=
  match d.nextEntry q 0x10 with
  | some e => d.modSqe q e.n (fun x => { x with run := true })
  | none => d

/-- The frame of an entry as it stands in the packet buffer, `l` its octets as far as read. -/
def Sqe.toFrame (q : Nat) (e : Sqe) (l : List Byte) (ready : Bool) : Frame :=
  let tag := outerVlan (tagsOf true true l)
  let fwd := e.opc == 2
  { octets := l, stream := if e.strV then some e.stream else none, bank := if fwd then e.slice else sliceOf e.port
    prio := match fwd, tag with | true, some t => t.2 / 8192 | _, _ => e.prio
    vid := match tag with | some t => if t.2 % 4096 = 0 then e.vid else t.2 % 4096 | none => e.vid
    entry := some (q, e.n), ready := ready, total := e.len + 4, dests := if fwd then [] else [e.port], wantStamp := e.tsReq, cut := !ready }

/-- The sequence number of an entry's frame (R141): the one it took before, where its read is a retry, else a new one, with the device after. -/
def Dev.entrySeq (d : Dev) (e : Sqe) (f : Frame) : Option Nat × Dev :=
  match e.numbered, f.stream with
  | some n, _ => (n, d)
  | none, some s => d.assignSeq s (rtagSeq (tagsOf true true f.octets)) true
  | none, none => (none, d)

/-- The frame takes its sequence number (R141), and goes to its port's queue or to the pipeline of its slice (R320). -/
def Dev.placeFrame (d : Dev) (q : Nat) (e : Sqe) (f : Frame) : Dev :=
  let r := d.entrySeq e f
  let (id, d1) := r.2.newFrame { f with seq := r.1 }
  let d2 := d1.modSqe q e.n (fun x => { x with frame := some id, left := 1, numbered := some r.1 })
  if e.opc = 2 then { d2 with fwd := { d2.fwd with wait := d2.fwd.wait ++ [id] } }
  else (d2.enqueue e.port id).purge e.port

/-- The frame is cut through (R322). -/
def Dev.cutsThrough (d : Dev) (e : Sqe) : Bool :=
  (e.opc == 1 || e.opc == 2) && d.gb Reg.hqCfg 0 && decide (d.gf Reg.hqCfg 16 14 < e.len) && !e.retried

/-- The read of an entry's frame data is issued, or waits for its translation; a cut-through frame is translated up to its first page's end, and
its transmission may begin. -/
def Dev.readFrame (d : Dev) (q n : Nat) (head : List Byte) : Dev :=
  match d.sq q, d.sqe q n with
  | some s, some e =>
    if e.status.isSome ∨ e.reading ∨ d.reach s.fn = false then d
    else if d.memOk s.fn e.addr e.len = false then d.endSqe q n 6 0 0
    else
      let cut := d.cutsThrough e
      match d.xlate s.fn (.frame q n) s.pasid e.addr (if cut then min e.len (4096 - e.addr % 4096) else e.len) false with
      | (false, d1) => d1
      | (true, d1) =>
        let d2 := (if s.fn = benchFn then d1 else d1.hostReads s.fn s.pasid e.addr e.len).modSqe q n
          (fun x => { x with reading := true, cut := cut })
        if cut then
          let l := if s.fn = benchFn then d2.ldN e.addr (min head.length e.len) else head.take e.len
          d2.placeFrame q e (e.toFrame q l false)
        else d2
  | _, _ => d

/-- SEND and SEND_FWD (R320): a stream named must have a valid record (Table HQS-6, DISCARD). -/
def runSend (q opc : Nat) (head : List Byte) (d : Dev) : Dev :=
  match d.nextEntry q opc with
  | none => d
  | some e =>
    let d1 := d.modSqe q e.n (fun x => { x with run := true })
    let d2 := if e.strV ∧ d1.sType e.stream = 1 then d1.readRec e.stream else d1
    let bar := if e.strV then d2.strBar e.stream none else .none
    if bar = .none then d2.readFrame q e.n head else (d2.countBar bar).endSqe q e.n 8 0 0

/-- SEND_SCHED (R321): the frame is read whole. -/
def runSendSched (q : Nat) (d : Dev) : Dev :=
  match d.nextEntry q 3 with
  | none => d
  | some e => (d.modSqe q e.n (fun x => { x with run := true })).readFrame q e.n []

/-! ### Frame data read -/

/-- `n` octets of data: cut or filled with 0x00 to that length. -/
def fitTo (n : Nat) (l : List Byte) : List Byte := l.take n ++ List.replicate (n - l.length) 0

/-- The octets of a transmission once the frame's data are whole: what the wire already carried, then the rest. -/
def Dev.refill (d : Dev) (p : Nat) (f0 f : Frame) (t : Tx) : Tx :=
  let keep := t.octets.length - (f0.total - 4 - f0.octets.length)
  { t with octets := t.octets.take keep ++ (d.ptpFix p f t.stamp (d.egress p f t.sched t.local_)).drop keep }

/-- A change applied to every transmission of frame `id`, on the wire or suspended. -/
def Dev.mapTx (d : Dev) (id : Nat) (g : Nat → Bool → Tx → Tx) : Dev :=
  (List.range 36).foldl (fun (x : Dev) p =>
    let y := x.port p
    let app := fun (wire : Bool) (o : Option Tx) => o.map (fun t => if t.kind = .frame id then g p wire t else t)
    if [y.cur, y.suspP, y.suspX].any (fun o => match o with | some t => t.kind == .frame id | none => false) then
      x.modPort p (fun z => { z with cur := app true z.cur, suspP := app false z.suspP, suspX := app false z.suspX })
    else x) d

/-- The frame whose data failed is given up on every wire (R125, Table PRE-9): the mPacket on the wire ends with a stomp, a suspended frame
carries the octets at hand and then a stomp; copies not begun leave their queues. -/
def Dev.faultFrame (d : Dev) (id : Nat) : Dev :=
  match d.frame id with
  | none => d
  | some f =>
    let d1 := d.setFrame id { f with fault := true }
    let started := fun (x : PortSt) => [x.cur, x.suspP, x.suspX].any (fun o => match o with | some t => t.kind == .frame id | none => false)
    let hand := fun (t : Tx) => t.octets.length - (f.total - 4 - f.octets.length)
    let d2 := d1.mapTx id (fun p wire t =>
      if wire then
        let n := min t.dataLen (min (d1.sentAt p t d1.tim.up) (hand t - t.sent))
        { t with octets := t.octets.take (t.sent + n), stompAt := some (max 60 n), cutTo := none, cuttable := false }
      else { t with octets := t.octets.take (max t.sent (hand t)) })
    let d3 := f.dests.foldl (fun (x : Dev) p =>
      if started (x.port p) then x
      else
        let y := x.modPort p (fun z => { z with queue := z.queue.filter (fun e => e.2 != id) })
        match y.frame id with
        | some g => y.setFrame id { g with dests := g.dests.erase p }
        | none => y) d2
    ({ d3 with fwd := { d3.fwd with wait := d3.fwd.wait.filter (· != id) } }).reap id

/-- The data of entry `n` have been read whole (R322): the frame is stored and ready; a frame being cut through is completed. -/
def hostFrameFetched (q n : Nat) (octets : List Byte) (d : Dev) : Dev :=
  match d.sq q, d.sqe q n with
  | some s, some e =>
    if e.reading = false ∨ e.status.isSome then d
    else
      let l := if s.fn = benchFn then d.ldN e.addr e.len else fitTo e.len octets
      if e.cut then
        match e.frame.bind d.frame, e.frame with
        | some f, some id =>
          match d.xlate s.fn (.frame q n) s.pasid e.addr e.len false with
          | (true, d1) =>
            let f1 : Frame := { f with octets := l, ready := true }
            ((d1.setFrame id f1).mapTx id (fun p _ t => d1.refill p f f1 t)).modSqe q n (fun x => { x with reading := false })
          | (false, d1) => d1
        | _, _ => d
      else
        let d1 := d.modSqe q n (fun x => { x with reading := false })
        if e.opc = 3 then
          match d1.claimant q n with
          | some i =>
            let r := d1.assignSeq i.stream (rtagSeq (tagsOf true true l)) true
            let (id, d2) := r.2.newFrame { (e.toFrame q l true) with stream := some i.stream, seq := r.1, dests := [] }
            (d2.modInst i (fun j => { j with frame := some id })).modSqe q n (fun x => { x with frame := some id })
          | none => d1
        else d1.placeFrame q e (e.toFrame q l true)
  | _, _ => d

/-! ### Errors of the host (R336, R337) -/

/-- The frame data of entry `n` failed with a status: a cut-through frame ends with a stomp. -/
def Dev.dataFailed (d : Dev) (q n st : Nat) : Dev :=
  match d.sqe q n with
  | none => d
  | some e =>
    if e.status.isSome then d
    else
      let d1 := d.endSqe q n st 0 0
      match e.cut, e.frame with
      | true, some id => d1.faultFrame id
      | _, _ => d1

/-- A cut-through frame met a translation fault (R336): it ends with a stomp and the entry keeps its place for one retry. -/
def Dev.cutFault (d : Dev) (q n : Nat) : Dev :=
  match d.sqe q n with
  | none => d
  | some e =>
    match e.cut, e.frame.bind d.frame, e.frame with
    | true, some f, some id =>
      let d1 := (d.setFrame id { f with entry := none }).faultFrame id
      d1.modSqe q n (fun x => { x with reading := false, frame := none, retried := true, cut := false })
    | _, _, _ => d

/-- The page response of a frame read was Success (R336): the read goes on, or a cut-through frame is read again, stored whole. -/
def Dev.frameResume (d : Dev) (q n : Nat) : Dev :=
  match d.sqe q n with
  | none => d
  | some e =>
    if e.retried ∧ e.recounted = false then ((d.modSqe q n (fun x => { x with recounted := true })).inc Reg.hqCtRetryCnt).readFrame q n []
    else d.readFrame q n []

/-- Frame data whose read was tried while the link did not carry it are read now (R332, R335). -/
def Dev.readAgain (d : Dev) : Dev :=
  (d.hq.sqs.flatMap (fun e => (e.2.flight.filter (fun x => x.run && x.status.isNone && !x.reading && x.frame.isNone && x.opc != 0x10)).map
    (fun x => (e.1, x.n)))).foldl (fun (x : Dev) e => x.readFrame e.1 e.2 []) d

/-- Host queues go on where the link and the translation unit carry them again (R335): entry reads, frame reads, received frames. -/
def Dev.hostGo (d : Dev) : Dev := d.pumpAll.readAgain.rxRetry

/-! ### Retirement, writeback, interrupts -/

/-- ENTRY_RETIRE (R316): the oldest entry retires where it is finished, and what its slot held back is fetched. -/
def entryRetire (q : Nat) (d : Dev) : Dev := ((d.retire q).pumpSq q).pumpTrackers

/-- The writeback word of queue `q` is written with the SQ_DONE it now has, and the messages that waited for it go. -/
def Dev.putWback (d : Dev) (q : Nat) (s : Sq) : Dev :=
  let d1 := (d.memWrite s.fn s.pasid s.wb (leBytes 8 (s.done % s.size))).modSq q (fun x =>
    { x with wbOwed := false, wbAt := some d.tim.up, msi := [] })
  s.msi.foldl (fun (x : Dev) c => x.firePast c) d1

/-- WRITEBACK_UPDATE (R316, R317): SQ_DONE is written, at most once per microsecond, and then the interrupts that waited for it. -/
def writebackUpdate (q : Nat) (d : Dev) : Dev :=
  match d.sq q with
  | none => d
  | some s =>
    if s.wb = 0 ∨ s.wbOwed = false ∨ d.reach s.fn = false ∨ (d.fn s.fn).d3 then d
    else
      let d0 := match s.wbAt with | some t => d.waitUp (t + usU) | none => d
      if d0.memOk s.fn s.wb 8 = false then d0.cqFail s.cq
      else match d0.xlate s.fn (.wback q) s.pasid s.wb 8 true with
        | (false, d1) => d1
        | (true, d1) => d1.putWback q s

/-- CQ_TIMER_EXPIRY (R329). -/
def cqTimerExpiry (q : Nat) (d : Dev) : Dev :=
  match d.cq q with
  | none => d
  | some c =>
    match c.timerAt with
    | none => d
    | some t =>
      let d1 := (d.waitUp t).modCq q (fun x => { x with timerAt := none })
      if c.ien ∧ 0 < c.unrep then (d1.modCq q (fun x => { x with unrep := 0 })).fireCq q none else d1

/-- MSIX_UNMASK (R330): the mask of a vector, or of the function, clears, and what is pending is sent. -/
def msixUnmask (f : Nat) (v : Option Nat) (d : Dev) : Dev :=
  (match v with
   | some k => d.modFn f (fun x => { x with table := Sparse.put x.table k ((x.vector k).1, setB (x.vector k).2 32 false) })
   | none => d.modFn f (fun x => { x with fnMask := false })).sendPba f

/-! ### Link and power states (R331–R335) -/

/-- A calendar fetch for a host-sourced launch falls within the next `u` (R332). -/
def Dev.hostFetchSoon (d : Dev) (u : Nat) : Bool :=
  (List.range 36).any (fun p => getB (d.portCfgAt p d.now) 0 && d.srcs.any (fun c => (d.srcEntries c p).any (fun e =>
    eKind e == 1 && !(d.sFabric (eArg e)) && (match c.first e (d.now + d.leadU) with
      | some l => decide (l ≤ d.now + d.leadU + u)
      | none => false))))

/-- Every CQ of every function with UNREP > 0 fires (R331). -/
def Dev.fireAll (d : Dev) : Dev :=
  (d.hq.cqs.filter (fun e => e.2.fn != benchFn && decide (0 < e.2.unrep))).foldl (fun (x : Dev) e =>
    (x.modCq e.1 (fun c => { c with unrep := 0, timerAt := none })).fireCq e.1 none) d

/-- The messages that wait for a writeback word, the word written now. -/
def Dev.flushMsi (d : Dev) : Dev :=
  (d.hq.sqs.filter (fun e => e.2.fn != benchFn && !e.2.msi.isEmpty)).foldl (fun (x : Dev) e => writebackUpdate e.1 x) d

/-- L1_REQUEST (R331, R332): under ASPM not while a calendar fetch is near, and only after the messages of the firings.  PTM stops (R54). -/
def l1Request (aspm : Bool) (d : Dev) : Dev :=
  if d.linkL0 = false ∨ (aspm ∧ d.hostFetchSoon (d.gf Reg.hqCfg 32 16 * usU)) then d
  else
    let d1 := d.fireAll.flushMsi
    if d1.hq.sqs.any (fun e => e.2.fn != benchFn && !e.2.msi.isEmpty) then d1
    else
      let d2 := d1.ptmStop
      { d2 with hq := { d2.hq with link := if d2.hq.l12En then .l1sub else .l1 } }

/-- The queue pairs of function `f` brought up to date in `HQ_QSTAT`. -/
def Dev.syncFn (d : Dev) (f : Nat) : Dev :=
  (d.hq.cqs.filter (fun e => e.2.fn == f)).foldl (fun (x : Dev) e => x.syncC e.1)
    ((d.hq.sqs.filter (fun e => e.2.fn == f)).foldl (fun (x : Dev) e => x.syncQ e.1) d)

/-- D3HOT_ENTRY (R333); that of PF0 stops PTM (R54). -/
def d3hotEntry (f : Nat) (d : Dev) : Dev :=
  if 1024 ≤ f then d
  else
    let d1 := ((d.modFn f (fun x => { x with d3 := true })).syncFn f).pmeCheck f
    if f = 0 then d1.ptmStop else d1

/-- D3HOT_EXIT (R334): held completions are written, pending messages sent, fetching resumes. -/
def d3hotExit (f : Nat) (d : Dev) : Dev :=
  if (d.fn f).d3 = false then d
  else
    let d1 := ((d.modFn f (fun x => { x with d3 := false })).syncFn f).sendPba f
    let d2 := (d1.hq.cqs.filter (fun e => e.2.fn == f)).foldl (fun (x : Dev) e => x.drainCq e.1) d1
    (d2.hq.sqs.filter (fun e => e.2.fn == f)).foldl (fun (x : Dev) e => x.pumpSq e.1) d2

/-! ### Meanings -/

/-- Meaning of SQ_TAIL_DOORBELL. -/
def execSqTailDoorbell (f : Nat) (slot : BitVec 16) (v : BitVec 32) (s : State) : Host.Outcome State Fault Refusal :=
  onDev (sqDoorbell f slot.toNat v.toNat) s

/-- Meaning of CQ_HEAD_DOORBELL. -/
def execCqHeadDoorbell (f : Nat) (slot : BitVec 16) (v : BitVec 32) (s : State) : Host.Outcome State Fault Refusal :=
  onDev (cqDoorbell f slot.toNat v.toNat) s

/-- Meaning of SQ_ENTRY_FETCHED. -/
def execSqEntryFetched (q : BitVec 16) (ws : Vector Word 8) (s : State) : Host.Outcome State Fault Refusal :=
  onDev (sqEntryFetched q.toNat ws.toList) s

/-- Meaning of NOP. -/
def execNop (q : BitVec 16) (s : State) : Host.Outcome State Fault Refusal := onDev (runNop q.toNat) s

/-- Meaning of SEND. -/
def execSend (q : BitVec 16) (head : List Byte) (s : State) : Host.Outcome State Fault Refusal := onDev (runSend q.toNat 1 head) s

/-- Meaning of SEND_FWD. -/
def execSendFwd (q : BitVec 16) (head : List Byte) (s : State) : Host.Outcome State Fault Refusal := onDev (runSend q.toNat 2 head) s

/-- Meaning of SEND_SCHED. -/
def execSendSched (q : BitVec 16) (s : State) : Host.Outcome State Fault Refusal := onDev (runSendSched q.toNat) s

/-- Meaning of RX_BUF. -/
def execRxBuf (q : BitVec 16) (s : State) : Host.Outcome State Fault Refusal := onDev (runRxBuf q.toNat) s

/-- Meaning of HOST_FRAME_FETCHED. -/
def execHostFrameFetched (q : BitVec 16) (n : Nat) (octets : List Byte) (s : State) : Host.Outcome State Fault Refusal :=
  onDev (hostFrameFetched q.toNat n octets) s

/-- Meaning of ENTRY_RETIRE. -/
def execEntryRetire (q : BitVec 16) (s : State) : Host.Outcome State Fault Refusal := onDev (entryRetire q.toNat) s

/-- Meaning of WRITEBACK_UPDATE. -/
def execWritebackUpdate (q : BitVec 16) (s : State) : Host.Outcome State Fault Refusal := onDev (writebackUpdate q.toNat) s

/-- Meaning of CQ_TIMER_EXPIRY. -/
def execCqTimerExpiry (q : BitVec 16) (s : State) : Host.Outcome State Fault Refusal := onDev (cqTimerExpiry q.toNat) s

/-- Meaning of MSIX_UNMASK. -/
def execMsixUnmask (f : Nat) (v : Option (BitVec 11)) (s : State) : Host.Outcome State Fault Refusal :=
  onDev (msixUnmask f (v.map (fun x => x.toNat))) s

/-- Meaning of L1_REQUEST. -/
def execL1Request (aspm : Bool) (s : State) : Host.Outcome State Fault Refusal := onDev (l1Request aspm) s

/-- Meaning of D3HOT_ENTRY. -/
def execD3hotEntry (f : Nat) (s : State) : Host.Outcome State Fault Refusal := onDev (d3hotEntry f) s

/-- Meaning of D3HOT_EXIT. -/
def execD3hotExit (f : Nat) (s : State) : Host.Outcome State Fault Refusal := onDev (d3hotExit f) s

end Sys2Proof.Machine
end

