-- ==== Sys2Proof/Machine/Admin.lean ====
section
/-! DEFINITION. The admin queues (R339, R340, Tables HQS-10 and HQS-11, R404), function-level reset (R338), the queue counter capture
(R342). -/

namespace Sys2Proof.Machine

/-! ### The admin registers of a function (Table HQS-13, R404) -/

/-- The admin queue of function `f` beyond its registers. -/
def Dev.aq (d : Dev) (f : Nat) : Aq := Sparse.getD d.hq.aqs f {}

/-- That state changed. -/
def Dev.modAq (d : Dev) (f : Nat) (g : Aq → Aq) : Dev := { d with hq := { d.hq with aqs := Sparse.setD d.hq.aqs f {} (g (d.aq f)) } }

/-- Address of the admin registers of a PF or of the Bench. -/
def aqBase (f : Nat) : Nat := if f = benchFn then Reg.benAqSqBase else Reg.hqAqSqBase f

/-- Admin register `k` of function `f`: 0 SQ_BASE, 1 CQ_BASE, 2 CFG, 3 STAT. -/
def Dev.aqRd (d : Dev) (f k : Nat) : Word :=
  if f = benchFn ∨ f < 4 then d.rd (aqBase f + 8 * k)
  else match k with | 0 => (d.aq f).sqBase | 1 => (d.aq f).cqBase | 2 => (d.aq f).cfg | _ => (d.aq f).stat

/-- Admin register `k` of function `f` replaced. -/
def Dev.aqWr (d : Dev) (f k : Nat) (v : Word) : Dev :=
  if f = benchFn ∨ f < 4 then d.wr (aqBase f + 8 * k) v
  else d.modAq f (fun x => match k with
    | 0 => { x with sqBase := v } | 1 => { x with cqBase := v } | 2 => { x with cfg := v } | _ => { x with stat := v })

/-- One bit of the admin status. -/
def Dev.aqFlag (d : Dev) (f i : Nat) (b : Bool) : Dev := d.aqWr f 3 (setB (d.aqRd f 3) i b)

def Dev.aqSqLog (d : Dev) (f : Nat) : Nat := getF (d.aqRd f 2) 4 4
def Dev.aqCqLog (d : Dev) (f : Nat) : Nat := getF (d.aqRd f 2) 8 4

/-- PASID of admin memory and OUT. -/
def Dev.aqPasid (d : Dev) (f : Nat) : Option Nat :=
  if f ≠ benchFn ∧ getB (d.aqRd f 2) 12 then some (getF (d.aqRd f 2) 32 20) else none

/-- READY, SQ_HEAD and CQ_TAIL as the queue stands. -/
def Dev.aqSync (d : Dev) (f : Nat) : Dev :=
  let x := d.aq f
  d.aqWr f 3 (setF (setF (setB (d.aqRd f 3) 0 x.ready) 16 16 (x.head % 2 ^ d.aqSqLog f)) 32 16 (x.cqTail % 2 ^ d.aqCqLog f))

/-- The queue stops: READY clears and the indexes return to 0 (R339). -/
def Dev.aqStop (d : Dev) (f : Nat) : Dev :=
  (d.modAq f (fun x => { x with ready := false, stopping := false, tail := 0, head := 0, cqTail := 0, cqHead := 0, drain := none
                                outBad := false, busy := false })).aqSync f

/-- R339: an enabling write is accepted with both depths in range; the Bench's rings must lie in the customer region (R404). -/
def Dev.aqCfgOk (d : Dev) (f : Nat) (v : Word) : Bool :=
  decide (4 ≤ getF v 4 4 ∧ getF v 4 4 ≤ 12 ∧ 4 ≤ getF v 8 4 ∧ getF v 8 4 ≤ 12)
  && (f != benchFn || !(getB v 0) || (decide (0x80000000 ≤ (d.aqRd f 0).toNat ∧ (d.aqRd f 0).toNat + 64 * 2 ^ getF v 4 4 ≤ 0x600000000)
      && decide (0x80000000 ≤ (d.aqRd f 1).toNat ∧ (d.aqRd f 1).toNat + 32 * 2 ^ getF v 8 4 ≤ 0x600000000)))

/-- The bits of the configuration the register holds. -/
def aqCfgMask (f : Nat) (v : Word) : Word :=
  if f = benchFn then BitVec.ofNat 64 (fld 0 2 (getF v 0 2) + fld 4 8 (getF v 4 8) + fld 13 5 (getF v 13 5))
  else BitVec.ofNat 64 (fld 0 2 (getF v 0 2) + fld 4 9 (getF v 4 9) + fld 32 20 (getF v 32 20))

/-- A write changes LOG or PASID of the admin configuration. -/
def aqSettings (f : Nat) (old v : Word) : Bool :=
  getF v 4 9 != getF old 4 9 || (f != benchFn && getF v 32 20 != getF old 32 20)

/-- EN is written 0 while it is 1 (R339): LOG and PASID stay, a change of them sets CFG_ERR, and the queue stops once no command is in
progress. -/
def Dev.aqDisable (d : Dev) (f : Nat) (v : Word) : Dev :=
  let old := d.aqRd f 2
  let d0 := if aqSettings f old v then d.aqFlag f 1 true else d
  let new := setB (aqCfgMask f v) 0 false
  let d1 := d0.aqWr f 2 (setF (setF new 4 9 (getF old 4 9)) 32 20 (getF old 32 20))
  if (d1.aq f).drain.isSome ∨ (d1.aq f).busy then d1.modAq f (fun x => { x with stopping := true }) else d1.aqStop f

/-- A write of the admin configuration (R339): the queue is enabled, disabled, or its settings change. -/
def Dev.wrAqCfg (d : Dev) (f : Nat) (v : Word) : Dev :=
  let old := d.aqRd f 2
  if getB old 0 ∧ getB v 0 = false then d.aqDisable f v
  else if d.aqCfgOk f v = false then d.aqFlag f 1 true
  else if getB old 0 then (if aqSettings f old v then d.aqFlag f 1 true else d.aqWr f 2 (aqCfgMask f v))
  else
    let d1 := d.aqWr f 2 (aqCfgMask f v)
    if getB v 0 then
      (d1.modAq f (fun x => { x with ready := true, stopping := false, tail := 0, head := 0, cqTail := 0, cqHead := 0, drain := none
                                     busy := false })).aqSync f
    else d1

/-- A write of a base register (R339): ignored while EN = 1. -/
def Dev.wrAqBase (d : Dev) (f k : Nat) (v : Word) : Dev :=
  if getB (d.aqRd f 2) 0 then d.aqFlag f 1 true else d.aqWr f k (BitVec.ofNat 64 (v.toNat / 4096 * 4096))

/-- A doorbell of the admin queue that is ignored (R314). -/
def Dev.aqDbBad (d : Dev) (f : Nat) : Dev := (d.aqFlag f 2 true).inc Reg.hqDbErrCnt

/-- The admin SQ tail half of a doorbell. -/
def Dev.aqTail (d : Dev) (f v : Nat) : Dev :=
  let x := d.aq f
  let n := 2 ^ d.aqSqLog f
  if x.ready = false ∨ n ≤ v then d.aqDbBad f
  else d.modAq f (fun y => { y with tail := x.head + (v + n - x.head % n) % n })

/-- The admin CQ head half of a doorbell. -/
def Dev.aqHead (d : Dev) (f v : Nat) : Dev :=
  let x := d.aq f
  let n := 2 ^ d.aqCqLog f
  let rel := (v + n - x.cqHead % n) % n
  if x.ready = false ∨ n ≤ v ∨ x.cqTail - x.cqHead < rel then d.aqDbBad f
  else d.modAq f (fun y => { y with cqHead := x.cqHead + rel })

/-- ADMIN_DOORBELL (R314, R339): the halves written. -/
def Dev.aqDoorbell (d : Dev) (f : Nat) (lo hi : Bool) (v : Word) : Dev :=
  let d1 := if lo then d.aqTail f (getF v 0 32) else d
  if hi then d1.aqHead f (getF v 32 32) else d1

/-- A write to an admin register of function `f` reaches it: PF f alone for a PF, a VF for itself, and for the Bench by R401 (R341). -/
def Dev.aqGate (d : Dev) (r : Req) (f k : Nat) (g : Dev → Dev) : Dev :=
  if f = benchFn then d.gate r (Reg.benAqSqBase + 8 * k) g
  else if f < 4 then
    let own : Bool := match r with | .pf n => n.val == f | .joiner => true | .bench => false
    if d.unreachable (aqBase f + 8 * k) ∨ own then d.gate r (aqBase f + 8 * k) g else d.lockRefuse (aqBase f + 8 * k) 33
  else if f < 1024 ∧ d.islandOk 33 ∧ d.fnStopped f = false then g d
  else d

/-! ### Running a command -/

/-- The outcome of a command: STATUS, RESULT and the device after. -/
abbrev AdminRes := Nat × Nat × Dev

/-- The commands of Table HQS-10. -/
def adminOpc (o : Nat) : Bool := decide (1 ≤ o ∧ o ≤ 8)

/-- Address of the next admin completion. -/
def Dev.aqCqSlot (d : Dev) (f : Nat) : Nat := (d.aqRd f 1).toNat / 4096 * 4096 + (d.aq f).cqTail % 2 ^ d.aqCqLog f * 32

/-- The memory of the admin queue of `f` failed: it stops (Table HQS-11). -/
def Dev.aqFail (d : Dev) (f : Nat) : Dev := ((d.modAq f (fun x => { x with ready := false, busy := false })).aqSync f).aqFlag f 3 true

/-- An admin completion written: SQ_DONE is the index after entry `n`. -/
def Dev.aqComplete (d : Dev) (f n opc tag st res : Nat) : Dev :=
  let x := d.aq f
  let w0 := fld 0 16 ((n + 1) % 2 ^ d.aqSqLog f) + fld 16 1 (phaseOf x.cqTail (d.aqCqLog f)) + fld 24 8 st + fld 32 16 0xFFFF + fld 48 8 opc
  let d1 := d.memWrite f (d.aqPasid f) (d.aqCqSlot f) (wordsOctets [BitVec.ofNat 64 w0, BitVec.ofNat 64 res, 0, BitVec.ofNat 64 tag])
  let d2 := (d1.modAq f (fun y => { y with cqTail := y.cqTail + 1, head := n + 1 })).aqSync f
  if getB (d.aqRd f 2) 1 then
    (if f = benchFn then d2.sb (Reg.benIrq (d.gf Reg.benAqCfg 13 5)) 2 true else d2.fire f 0)
  else d2

/-- The admin queue can take its next command: running, an entry waits, none in progress, and there is space for its completion. -/
def Dev.aqMay (d : Dev) (f : Nat) : Bool :=
  let x := d.aq f
  x.ready && (!x.stopping || x.busy) && x.drain.isNone && decide (x.head < x.tail) && decide (x.cqTail - x.cqHead < 2 ^ d.aqCqLog f - 1)
  && d.reach f && !d.fnStopped f

/-- The entry at the head and the slot of its completion can be reached: read, and translated (R339). -/
def Dev.aqReach (d : Dev) (f : Nat) : Bool × Dev :=
  let a := (d.aqRd f 0).toNat / 4096 * 4096 + (d.aq f).head % 2 ^ d.aqSqLog f * 64
  if d.memOk f a 64 = false ∨ d.memOk f (d.aqCqSlot f) 32 = false then (false, d.aqFail f)
  else match d.xlate f (.aqSq f) (d.aqPasid f) a 64 false with
    | (false, d1) => (false, d1)
    | (true, d1) =>
      match d1.xlate f (.aqCq f) (d.aqPasid f) (d1.aqCqSlot f) 32 true with
      | (false, d2) => (false, d2)
      | (true, d2) => (true, if f = benchFn ∨ (d.aq f).busy then d2 else d2.hostRead f (d.aqPasid f) a 64)

/-- The words of the admin entry: device memory for the Bench. -/
def Dev.aqWords (d : Dev) (f : Nat) (ws : List Word) : List Word :=
  if f = benchFn then d.ldWs ((d.aqRd f 0).toNat / 4096 * 4096 + (d.aq f).head % 2 ^ d.aqSqLog f * 64) 8 else ws

/-- The command in progress is over: a queue that was disabled meanwhile stops (R339). -/
def Dev.aqHalt (d : Dev) (f : Nat) : Dev := if (d.aq f).stopping then d.aqStop f else d

/-- The admin entry at the head of `f`'s queue runs as command `opc` with effect `eff`; an entry with another listed OPC stays for its own
command.  `eff` answers none while it has to wait. -/
def adminRun (f opc : Nat) (ws0 : List Word) (eff : List Word → Dev → Option AdminRes × Dev) (d : Dev) : Dev :=
  if d.aqMay f = false then d
  else
    let ws := d.aqWords f ws0
    let w0 := ws.getD 0 0
    let o := getF w0 0 8
    let n := (d.aq f).head
    let wrong : Bool := getB w0 8 != (phaseOf n (d.aqSqLog f) == 1)
    if wrong = false ∧ adminOpc o ∧ o ≠ opc then d
    else match d.aqReach f with
      | (false, d1) => d1
      | (true, d1) =>
        if wrong then (d1.inc Reg.hqPhaseErrCnt).aqComplete f n o (getF w0 32 32) 5 0
        else if adminOpc o = false then d1.aqComplete f n o (getF w0 32 32) 0x20 0
        else if getF w0 9 23 ≠ 0 then d1.aqComplete f n o (getF w0 32 32) 0x21 0
        else match eff ws d1 with
          | (some (st, res, d2), _) => ((d2.modAq f (fun x => { x with busy := false })).aqComplete f n o (getF w0 32 32) st res).aqHalt f
          | (none, d2) => d2

/-- Argument words that are not used are 0. -/
def restZero (ws : List Word) (used : List Nat) : Bool := [1, 2, 3, 4, 5, 6, 7].all (fun k => used.contains k || ws.getD k 0 == 0)

/-- A ring of `len` octets may lie at `a`: the customer region for the Bench (R404). -/
def areaOk (f a len : Nat) : Bool := f != benchFn || decide (0x80000000 ≤ a ∧ a + len ≤ 0x600000000)

/-- MSI-X vectors of a function, harts for the Bench (Tables HQS-2, HQS-11, R404). -/
def vectorsOf (f : Nat) : Nat := if f = benchFn then 32 else if f < 4 then 2048 else 64

/-- The moderation fields of CREATE_CQ and MODIFY_CQ are in range. -/
def cqFieldsOk (f : Nat) (w2 : Word) : Bool :=
  decide (1 ≤ getF w2 43 9 ∧ getF w2 43 9 ≤ 256) && getF w2 53 11 == 0 && !(f == benchFn && getB w2 52)

/-- CREATE_CQ. -/
def createCq (f : Nat) (ws : List Word) (d : Dev) : AdminRes :=
  let w2 := ws.getD 2 0
  let base := (ws.getD 1 0).toNat
  let log := getF w2 16 5
  if base % 4096 ≠ 0 ∨ log < 4 ∨ 16 < log ∨ cqFieldsOk f w2 = false ∨ getF (ws.getD 3 0) 20 44 ≠ 0 ∨ restZero ws [1, 2, 3] = false
      ∨ areaOk f base (32 * 2 ^ log) = false then (0x21, 0, d)
  else if vectorsOf f ≤ getF w2 21 11 then (0x29, 0, d)
  else match d.globalOf f (getF w2 0 16) with
    | none => (0x22, 0, d)
    | some q =>
      if (d.cq q).isSome then (0x23, 0, d)
      else
        let c : Cq := { fn := f, base := base, log := log, vec := getF w2 21 11, ien := getB w2 32, timer := getF w2 33 10
                        count := getF w2 43 9, pasid := if getB w2 52 then some (getF (ws.getD 3 0) 0 20) else none
                        pasidNum := getF (ws.getD 3 0) 0 20 }
        (0, 0, ({ d with hq := { d.hq with cqs := Sparse.put d.hq.cqs q c
                                           dbErr := if (d.sq q).isSome then d.hq.dbErr else d.hq.dbErr.filter (· != q) } }).syncC q)

/-- CREATE_SQ. -/
def createSq (f : Nat) (ws : List Word) (d : Dev) : AdminRes :=
  let w2 := ws.getD 2 0
  let base := (ws.getD 1 0).toNat
  let wb := (ws.getD 4 0).toNat
  let log := getF w2 16 5
  let kind := getF w2 21 2
  if base % 4096 ≠ 0 ∨ wb % 8 ≠ 0 ∨ log < 4 ∨ 16 < log ∨ kind = 3 ∨ getF w2 39 9 < 1 ∨ 256 < getF w2 39 9 ∨ getF w2 49 15 ≠ 0
      ∨ getF (ws.getD 3 0) 20 44 ≠ 0 ∨ restZero ws [1, 2, 3, 4] = false ∨ (f = benchFn ∧ getB w2 48)
      ∨ areaOk f base (64 * 2 ^ log) = false ∨ (wb ≠ 0 ∧ areaOk f wb 8 = false) then (0x21, 0, d)
  else if kind = 2 ∧ 4 ≤ f ∧ f ≠ benchFn then (0x27, 0, d)
  else match d.globalOf f (getF w2 0 16) with
    | none => (0x22, 0, d)
    | some q =>
      if (d.sq q).isSome then (0x23, 0, d)
      else match (d.globalOf f (getF w2 23 16)).bind (fun c => (d.cq c).map (fun x => (c, x))) with
        | none => (0x26, 0, d)
        | some (c, x) =>
          if x.fn ≠ f then (0x26, 0, d)
          else
            let s : Sq := { fn := f, base := base, log := log, kind := kind, cq := c, ifMax := getF w2 39 9
                            pasid := if getB w2 48 then some (getF (ws.getD 3 0) 0 20) else none, wb := wb }
            (0, 0, ({ d with hq := { d.hq with sqs := Sparse.put d.hq.sqs q s
                                               dbErr := if (d.cq q).isSome then d.hq.dbErr else d.hq.dbErr.filter (· != q) } }).syncQ q)

/-- Instances that wait for an entry of queue `q` find none: its entries are no longer read. -/
def Dev.orphan (d : Dev) (q : Nat) (gone : Nat → Bool) : Dev :=
  { d with cal := { d.cal with insts := d.cal.insts.map (fun i =>
      match i.entry with
      | some (a, n) => if a = q ∧ gone n then { i with entry := none, none_ := i.frame.isNone } else i
      | none => i) } }

/-- DESTROY_SQ begins (Table HQS-10): fetching stops, unused RX buffers return, and the entries in flight drain. -/
def destroySq (f : Nat) (ws : List Word) (d : Dev) : Option AdminRes × Dev :=
  let w2 := ws.getD 2 0
  if getF w2 16 48 ≠ 0 ∨ restZero ws [2] = false then (some (0x21, 0, d), d)
  else match d.globalOf f (getF w2 0 16) with
    | none => (some (0x22, 0, d), d)
    | some q =>
      match d.sq q with
      | none => (some (0x24, 0, d), d)
      | some s =>
        if s.drain then (some (0x24, 0, d), d)
        else
          let d1 := d.orphan q (fun n => decide (s.fetched ≤ n))
          let d2 := d1.modSq q (fun x => { x with drain := true, rd := 0, claimed := x.fetched
                                                  flight := x.flight.filter (fun e => !(e.opc == 0x10 && e.status.isNone && e.frame.isNone)) })
          (none, d2.modAq f (fun x => { x with drain := some (q, getF (ws.getD 0 0) 32 32, x.head) }))

/-- Finished entries of a draining queue written while there is space; the others are counted and discarded. -/
def Dev.drainSq : Nat → Dev → Nat → Nat → Nat × Dev
  | 0, d, _, n => (n, d)
  | k + 1, d, q, n =>
    match d.sq q with
    | none => (n, d)
    | some s =>
      match s.flight.head?, d.cq s.cq with
      | some e, some c =>
        let room := !c.held && !c.full && e.posts s && !(d.fn s.fn).d3
        match (if room ∨ e.posts s = false then d.writeHead q else (false, d)) with
        | (true, d1) => Dev.drainSq k d1 q n
        | (false, d1) => Dev.drainSq k (d1.dropHead q e) q (n + 1)
      | _, _ => (n, d)

/-- The queue pair's SQ is gone: its turn at the CQ and its frames' ties end. -/
def Dev.removeSq (d : Dev) (q : Nat) : Dev :=
  match d.sq q with
  | none => d
  | some s =>
    let d2 := d.modCq s.cq (fun x => { x with order := x.order.filter (· != q) })
    let d3 := d2.orphan q (fun _ => true)
    let d4 : Dev := { d3 with frames := d3.frames.map (fun e => (e.1, match e.2.entry with
                        | some (a, _) => if a = q then { e.2 with entry := none } else e.2
                        | none => e.2))
                              hq := { d3.hq with sqs := Sparse.del d3.hq.sqs q } }
    d4.syncQ q

/-- The last SQ_DONE of queue `q` reaches its writeback word before the queue goes (R316, R317), where its memory answers. -/
def Dev.lastWback (d : Dev) (q : Nat) : Dev :=
  match d.sq q with
  | some s => if s.wb ≠ 0 ∧ s.wbOwed ∧ d.memOk s.fn s.wb 8 then
      (match s.wbAt with | some t => d.waitUp (t + usU) | none => d).putWback q s else d
  | none => d

/-- The writeback word of queue `q` has its translation, or needs none: it has no such word, or its CQ is in ERROR. -/
def Dev.wbackReady (d : Dev) (q : Nat) (s : Sq) : Bool × Dev :=
  if s.wb = 0 ∨ (d.cq s.cq).any (fun c => c.err) then (true, d) else d.xlate s.fn (.wback q) s.pasid s.wb 8 true

/-- DESTROY_SQ_DONE: every entry in flight has ended; what finds no space is discarded and its number is RESULT. -/
def destroySqDone (f : Nat) (d : Dev) : Dev :=
  match (d.aq f).drain with
  | none => d
  | some (q, tag, n) =>
    match d.sq q with
    | none => d
    | some s =>
      if s.flight.any (fun e => e.status.isNone) ∨ d.reach f = false then d
      else match d.xlate f (.aqCq f) (d.aqPasid f) (d.aqCqSlot f) 32 true with
        | (false, d1) => d1
        | (true, d1) =>
          match d1.wbackReady q s with
          | (false, d2) => d2
          | (true, d2) =>
            let r := Dev.drainSq (s.flight.length + 1) d2 q 0
            let d3 := (((r.2.lastWback q).removeSq q).drainCq s.cq).modAq f (fun x => { x with drain := none })
            ((d3.aqComplete f n 3 tag 0 r.1).aqHalt f).pumpTrackers

/-- The CQ of queue pair `q` is gone; channels that target it lose their target (R355). -/
def Dev.removeCq (d : Dev) (q : Nat) : Dev :=
  (({ d with hq := { d.hq with cqs := Sparse.del d.hq.cqs q } }).syncC q).dmaTargetLost q

/-- DESTROY_CQ. -/
def destroyCq (f : Nat) (ws : List Word) (d : Dev) : AdminRes :=
  let w2 := ws.getD 2 0
  if getF w2 16 48 ≠ 0 ∨ restZero ws [2] = false then (0x21, 0, d)
  else match d.globalOf f (getF w2 0 16) with
    | none => (0x22, 0, d)
    | some q =>
      if (d.cq q).isNone then (0x24, 0, d)
      else if (d.feeders q).isEmpty then (0, 0, d.removeCq q)
      else (0x25, 0, d)

/-- MODIFY_CQ: vector, moderation and PASID_EN, with the PASID of CREATE_CQ; UNREP is counted from the command onward. -/
def modifyCq (f : Nat) (ws : List Word) (d : Dev) : AdminRes :=
  let w2 := ws.getD 2 0
  if cqFieldsOk f w2 = false ∨ restZero ws [2] = false then (0x21, 0, d)
  else if vectorsOf f ≤ getF w2 21 11 then (0x29, 0, d)
  else match d.globalOf f (getF w2 0 16) with
    | none => (0x22, 0, d)
    | some q =>
      if (d.cq q).isNone then (0x24, 0, d)
      else (0, 0, d.modCq q (fun x => { x with vec := getF w2 21 11, ien := getB w2 32, timer := getF w2 33 10, count := getF w2 43 9
                                               pasid := if getB w2 52 then some x.pasidNum else none
                                               unrep := 0, timerAt := none }))

/-- Eight words written to OUT: while its translation is awaited none; a failure is XLATE. -/
def Dev.aqOut (d : Dev) (f a : Nat) (ws : List Word) (after : Dev → Dev) : Option AdminRes × Dev :=
  if (d.aq f).outBad then (some (0x28, 0, d.modAq f (fun x => { x with outBad := false })), d)
  else match d.xlate f (.aqOut f) (d.aqPasid f) a 64 true with
    | (false, d1) => (none, d1.modAq f (fun x => { x with busy := true }))
    | (true, d1) => (some (0, 0, after (d1.memWrite f (d.aqPasid f) a (wordsOctets ws))), d1)

/-- QUERY_QP. -/
def queryQp (f : Nat) (ws : List Word) (d : Dev) : Option AdminRes × Dev :=
  let w2 := ws.getD 2 0
  let a := (ws.getD 4 0).toNat
  if getF w2 17 47 ≠ 0 ∨ restZero ws [2, 4] = false ∨ a % 64 ≠ 0 ∨ areaOk f a 64 = false then (some (0x21, 0, d), d)
  else match d.globalOf f (getF w2 0 16) with
    | none => (some (0x22, 0, d), d)
    | some q =>
      if (d.sq q).isNone ∧ (d.cq q).isNone then (some (0x24, 0, d), d)
      else d.aqOut f a (BitVec.ofNat 64 (d.qstatOf q) :: d.ldWs (qcntAddr q 0) 7)
        (fun x => if getB w2 16 then x.stWs (qcntAddr q 0) (List.replicate 7 0) else x)

/-- SET_VF_QUOTA. -/
def setVfQuota (f : Nat) (ws : List Word) (d : Dev) : AdminRes :=
  let w2 := ws.getD 2 0
  let vf := getF w2 0 8
  let cnt := getF w2 8 10
  let first := getF w2 18 16
  let g := f + 4 * vf
  let hit := fun (r : Nat × Nat) => decide (0 < cnt ∧ 0 < r.2 ∧ first < r.1 + r.2 ∧ r.1 < first + cnt)
  if 4 ≤ f then (0x27, 0, d)
  else if vf = 0 ∨ 512 < cnt ∨ getF w2 34 30 ≠ 0 ∨ restZero ws [2] = false then (0x21, 0, d)
  else if 0 < cnt ∧ (first / 16384 ≠ f ∨ (first + cnt - 1) / 16384 ≠ f) then (0x22, 0, d)
  else if d.hq.sqs.any (fun e => e.2.fn == g || (e.2.fn == f && hit (e.1, 1))) ∨ d.hq.cqs.any (fun e => e.2.fn == g || (e.2.fn == f && hit (e.1, 1)))
      ∨ d.hq.fns.any (fun e => e.1 != g && e.1 != benchFn && decide (4 ≤ e.1) && e.1 % 4 == f && hit (e.2.first, e.2.quota))
      ∨ (f = 0 ∧ hit d.benRange) then (0x23, 0, d)
  else (0, 0, d.modFn g (fun x => { x with first := first, quota := cnt }))

/-- Queue pairs of function `f`: first and count, less those given away. -/
def Dev.poolOf (d : Dev) (f : Nat) : Nat × Nat :=
  if f = benchFn then d.benRange
  else if f < 4 then
    (f * 16384, 16384 - ((d.hq.fns.filter (fun e => e.1 != benchFn && decide (4 ≤ e.1) && e.1 % 4 == f)).map (fun e => e.2.quota)).sum
      - (if f = 0 then d.benRange.2 else 0))
  else ((d.fn f).first, (d.fn f).quota)

/-- GET_INFO. -/
def adminGetInfo (f : Nat) (ws : List Word) (d : Dev) : Option AdminRes × Dev :=
  let a := (ws.getD 4 0).toNat
  if restZero ws [4] = false ∨ a % 64 ≠ 0 ∨ areaOk f a 64 = false then (some (0x21, 0, d), d)
  else
    let p := d.poolOf f
    let w := fld 0 16 p.1 + fld 16 16 p.2 + fld 32 12 (vectorsOf f) + fld 44 8 (if f = benchFn then 0 else f / 4) + fld 52 2 (pfOf f)
    d.aqOut f a (BitVec.ofNat 64 w :: List.replicate 7 0) id

/-! ### Function-level reset (R338) -/

/-- Every queue of function `f` is destroyed without a completion; frames wholly stored are still sent, a cut-through frame ends with a stomp,
frames for its RX queues are dropped. -/
def Dev.destroyQueues (d : Dev) (f : Nat) : Dev :=
  let qs := (d.hq.sqs.filter (fun e => e.2.fn == f)).map (fun e => e.1)
  let cs := (d.hq.cqs.filter (fun e => e.2.fn == f)).map (fun e => e.1)
  let cutIds := (d.frames.filter (fun e => e.2.cut && !e.2.ready && (match e.2.entry with | some (q, _) => qs.contains q | none => false))).map
    (fun e => e.1)
  let d1 := cutIds.foldl (fun (x : Dev) i => x.faultFrame i) d
  let rx := d1.hq.rxWait.filter (fun e => qs.contains e.2.1)
  let d2 := rx.foldl (fun (x : Dev) e => x.rxDrop e.1 e.2.1)
    { d1 with hq := { d1.hq with rxWait := d1.hq.rxWait.filter (fun e => !(qs.contains e.2.1)) } }
  let d3 := qs.foldl (fun (x : Dev) q => (x.modSq q (fun s => { s with msi := [] })).removeSq q) d2
  let d4 := cs.foldl (fun (x : Dev) q => x.removeCq q) d3
  { d4 with hq := { d4.hq with dbErr := d4.hq.dbErr.filter (fun q => !(qs.contains q || cs.contains q)) } }

/-- Translations, waits and page requests of a function's routing ID forgotten (R363, R369); what waited behind them goes on. -/
def Dev.forgetRid (d : Dev) (rid : Nat) : Dev :=
  ({ d with xlt := { d.xlt with atc := d.xlt.atc.filter (fun e => e.rid != rid), waits := d.xlt.waits.filter (fun w => w.rid != rid)
                                prgs := d.xlt.prgs.filter (fun p => p.rid != rid) } } : Dev).atsGo.prgGo

/-- One function reset: its queues, admin queue, MSI-X state and translations; a VF keeps its quota. -/
def Dev.resetFn (d : Dev) (f : Nat) : Dev :=
  let d1 := (d.destroyQueues f).forgetRid (ridOf f)
  let d2 := (d1.aqStop f).aqWr f 2 0x442
  let d3 := ((d2.aqWr f 0 0).aqWr f 1 0).aqWr f 3 0
  let d4 := if f < 4 then d3.sb Reg.xltStat f false else d3
  d4.modFn f (fun x => { first := x.first, quota := x.quota, resetEnd := x.resetEnd, aer := x.aer })

/-- The VFs of PF `f` with any state. -/
def Dev.vfsOf (d : Dev) (f : Nat) : List Nat :=
  ((d.hq.fns.map (fun e => e.1)) ++ (d.hq.aqs.map (fun e => e.1))).dedup.filter (fun g => g != benchFn && decide (4 ≤ g) && g % 4 == f)

/-- What an FLR does to queues (R338): of a VF, or of a PF together with its VFs, whose quotas it clears. -/
def Dev.flrQueues (d : Dev) (f : Nat) : Dev :=
  if 1024 ≤ f then d
  else if f < 4 then
    let d1 := (d.vfsOf f).foldl (fun (x : Dev) g => (x.resetFn g).modFn g (fun y => { y with first := 0, quota := 0 })) d
    (d1.resetFn f).pumpTrackers
  else (d.resetFn f).pumpTrackers

/-! ### Failed host reads (R337) -/

/-- A failed read as PCI Express classifies it: a poisoned completion and a completion timeout are uncorrectable errors in AER, signalled where
error messages are enabled; UR and CA are the Status register's Received Master Abort and Received Target Abort. -/
def Dev.logErr (d : Dev) (f : Nat) (why : HostErr) : Dev :=
  if f = benchFn then d
  else
    let bad := fun (i : Nat) => let d1 := d.modFn f (fun x => { x with aer := setB x.aer i true })
      if (d.fn f).errEn then d1.emit (.pcie 7 [ridOf f]) else d1
    match why with
    | .ur => d.modFn f (fun x => { x with masterAbort := true })
    | .ca => d.modFn f (fun x => { x with targetAbort := true })
    | .poison => bad 12
    | .timeout => bad 14

/-- HOST_READ_ERROR (R337): of an entry read, of an entry's frame data, or of the entry an admin queue reads (Table HQS-11). -/
def hostReadError (o : ReadOf) (e : ReadErr) (d : Dev) : Dev :=
  match o with
  | .admin f =>
    if d.aqMay f = false ∨ (d.aq f).busy ∨ f = benchFn then d
    else match d.aqReach f with
      | (true, d1) => (d1.logErr f e.why).aqFail f
      | (false, d1) => d1
  | .queue b =>
    let q := b.toNat
    match d.sq q, e.entry with
    | some s, none => if s.rd = 2 then (d.logErr s.fn e.why).entryUnread q 7 else d
    | some s, some k =>
      match d.sqe q k with
      | some x => if x.reading then (d.logErr s.fn e.why).dataFailed q k 7 else d
      | none => d
    | none, _ => d

/-! ### Queue counter capture (R342) -/

/-- A write of `HQ_QCNT_SEL` (R342, R158). -/
def Dev.wrQcntSel (d : Dev) (v : Word) : Dev :=
  if getB v 63 then
    if d.gb Reg.hqQcntStat 0 then d.sb Reg.hqQcntStat 3 true
    else
      let d1 := d.wrReg Reg.hqQcntSel v
      let q := getF v 0 16
      if d.hbmOk = false then d1.sb Reg.hqQcntStat 2 true
      else
        let vals := d1.ldWs (qcntAddr q 0) 7
        let d2 : Dev := if getB v 32 then d1.stWs (qcntAddr q 0) (List.replicate 7 0) else d1
        let d3 := { d2 with hq := { d2.hq with capture := some (q, vals) } }
        ((d3.sb Reg.hqQcntStat 0 true).sb Reg.hqQcntStat 1 false).sb Reg.hqQcntStat 2 false
  else d.wrReg Reg.hqQcntSel v

/-- QUEUE_CAPTURE_DONE (R342). -/
def queueCaptureDone (d : Dev) : Dev :=
  match d.hq.capture with
  | none => d
  | some (_, vals) =>
    let d1 := { (d.wrs (Reg.hqQcntData 0) vals) with hq := { d.hq with capture := none } }
    (d1.sb Reg.hqQcntStat 0 false).sb Reg.hqQcntStat 1 true

/-! ### BEN_QP_CFG (R403) -/

/-- A write of `BEN_QP_CFG`. -/
def Dev.wrBenQpCfg (d : Dev) (v : Word) : Dev :=
  let first := getF v 0 16
  let cnt := getF v 16 13
  let hit := fun (r : Nat × Nat) => decide (0 < cnt ∧ 0 < r.2 ∧ first < r.1 + r.2 ∧ r.1 < first + cnt)
  if d.gb Reg.benAqCfg 0 ∨ 16383 < first ∨ 4096 < cnt ∨ 16384 < first + cnt
      ∨ d.hq.sqs.any (fun e => hit (e.1, 1)) ∨ d.hq.cqs.any (fun e => hit (e.1, 1))
      ∨ d.hq.fns.any (fun e => e.1 != benchFn && decide (4 ≤ e.1) && e.1 % 4 == 0 && hit (e.2.first, e.2.quota)) then
    d.sb Reg.benStat 0 true
  else d.wr Reg.benQpCfg (BitVec.ofNat 64 (fld 0 16 first + fld 16 13 cnt))

/-! ### Meanings -/

/-- Meaning of ADMIN_DOORBELL. -/
def execAdminDoorbell (r : Req) (f : Nat) (lo hi : Bool) (v : Word) (s : State) : Host.Outcome State Fault Refusal :=
  onDev (fun d => d.aqGate r f 4 (fun x => x.aqDoorbell f lo hi v)) s

/-- Meaning of ADMIN_QUEUE_ENABLE: a write of the admin configuration with EN = 1. -/
def execAdminQueueEnable (r : Req) (f : Nat) (v : Word) (s : State) : Host.Outcome State Fault Refusal :=
  onDev (fun d => d.aqGate r f 2 (fun x => x.wrAqCfg f (setB v 0 true))) s

/-- Meaning of ADMIN_QUEUE_DISABLE: a write of the admin configuration with EN = 0. -/
def execAdminQueueDisable (r : Req) (f : Nat) (v : Word) (s : State) : Host.Outcome State Fault Refusal :=
  onDev (fun d => d.aqGate r f 2 (fun x => x.wrAqCfg f (setB v 0 false))) s

/-- An effect that never waits. -/
def now_ (g : List Word → Dev → AdminRes) (ws : List Word) (d : Dev) : Option AdminRes × Dev := (some (g ws d), d)

/-- Meaning of CREATE_CQ. -/
def execCreateCq (f : Nat) (ws : Vector Word 8) (s : State) : Host.Outcome State Fault Refusal :=
  onDev (adminRun f 1 ws.toList (now_ (createCq f))) s

/-- Meaning of CREATE_SQ. -/
def execCreateSq (f : Nat) (ws : Vector Word 8) (s : State) : Host.Outcome State Fault Refusal :=
  onDev (adminRun f 2 ws.toList (now_ (createSq f))) s

/-- Meaning of DESTROY_SQ. -/
def execDestroySq (f : Nat) (ws : Vector Word 8) (s : State) : Host.Outcome State Fault Refusal :=
  onDev (adminRun f 3 ws.toList (destroySq f)) s

/-- Meaning of DESTROY_SQ_DONE. -/
def execDestroySqDone (f : Nat) (s : State) : Host.Outcome State Fault Refusal := onDev (destroySqDone f) s

/-- Meaning of DESTROY_CQ. -/
def execDestroyCq (f : Nat) (ws : Vector Word 8) (s : State) : Host.Outcome State Fault Refusal :=
  onDev (adminRun f 4 ws.toList (now_ (destroyCq f))) s

/-- Meaning of MODIFY_CQ. -/
def execModifyCq (f : Nat) (ws : Vector Word 8) (s : State) : Host.Outcome State Fault Refusal :=
  onDev (adminRun f 5 ws.toList (now_ (modifyCq f))) s

/-- Meaning of QUERY_QP. -/
def execQueryQp (f : Nat) (ws : Vector Word 8) (s : State) : Host.Outcome State Fault Refusal :=
  onDev (adminRun f 6 ws.toList (queryQp f)) s

/-- Meaning of SET_VF_QUOTA. -/
def execSetVfQuota (f : Nat) (ws : Vector Word 8) (s : State) : Host.Outcome State Fault Refusal :=
  onDev (adminRun f 7 ws.toList (now_ (setVfQuota f))) s

/-- Meaning of ADMIN_GET_INFO. -/
def execAdminGetInfo (f : Nat) (ws : Vector Word 8) (s : State) : Host.Outcome State Fault Refusal :=
  onDev (adminRun f 8 ws.toList (adminGetInfo f)) s

/-- Meaning of QUEUE_COUNTER_CAPTURE: a write of `HQ_QCNT_SEL` with GO = 1. -/
def execQueueCounterCapture (r : Req) (v : Word) (s : State) : Host.Outcome State Fault Refusal :=
  onDev (fun d => d.gate r Reg.hqQcntSel (fun x => x.wrQcntSel (setB v 63 true))) s

/-- Meaning of HOST_READ_ERROR. -/
def execHostReadError (q : ReadOf) (n : ReadErr) (s : State) : Host.Outcome State Fault Refusal := onDev (hostReadError q n) s

/-- Meaning of QUEUE_CAPTURE_DONE. -/
def execQueueCaptureDone (s : State) : Host.Outcome State Fault Refusal := onDev queueCaptureDone s

/-- Meaning of BENCH_QP_CONFIG. -/
def execBenchQpConfig (r : Req) (v : Word) (s : State) : Host.Outcome State Fault Refusal :=
  onDev (fun d => d.gate r Reg.benQpCfg (fun x => x.wrBenQpCfg v)) s

/-- Meaning of BENCH_ADMIN_ENABLE: a write of `BEN_AQ_CFG` with EN = 1. -/
def execBenchAdminEnable (r : Req) (v : Word) (s : State) : Host.Outcome State Fault Refusal :=
  onDev (fun d => d.aqGate r benchFn 2 (fun x => x.wrAqCfg benchFn (setB v 0 true))) s

end Sys2Proof.Machine
end

