-- ==== Sys2Proof/Machine/MbxCore.lean ====
section
/-! DEFINITION. Chapter 12: the mailbox buffers (Table MBX-4), the handshake (R378, R379), responses, and the end of a W command (R388). -/

namespace Sys2Proof.Machine

/-! ### Buffers (Table MBX-4) -/

/-- Device address of the buffer of mailbox `m`. -/
def mbxBuf (m : Nat) : Nat := bar0Image + 0x4000000 + m * 0x1000

/-- Word `k` of the request area. -/
def Dev.mbxReq (d : Dev) (m k : Nat) : Word := d.ldW (mbxBuf m + 8 * k)

/-- Argument word `n` of the request. -/
def Dev.mbxArg (d : Dev) (m n : Nat) : Word := d.mbxReq m (8 + n)

def Dev.mbxOpc (d : Dev) (m : Nat) : Nat := getF (d.mbxReq m 0) 0 16
def Dev.mbxSeq (d : Dev) (m : Nat) : Nat := getF (d.mbxReq m 0) 16 16
def Dev.mbxLen (d : Dev) (m : Nat) : Nat := getF (d.mbxReq m 0) 32 11

/-- The owner code of mailbox `m` (R377): a PF, or 4 for the Bench. -/
def Dev.mbxOwner (d : Dev) (m : Nat) : Nat := d.gf (Reg.mbxStat m) 4 3

/-- `MBX_FW_STAT.STATE`: 0 boot ROM, 1 boot hold, 2 running, 3 restarting. -/
def Dev.fwState (d : Dev) : Nat := d.gf Reg.mbxFwStat 0 2

/-! ### Responses -/

/-- The response to a command: STATUS (Table MBX-7), ERR_WORD, ERR_CODE, DONE_COUNT, and the response words. -/
structure Resp where
  status : Nat := 0
  errWord : Nat := 0
  errCode : Nat := 0
  done : Nat := 0
  words : List Word := []
  deriving DecidableEq, Repr

/-- DONE fires the owner's vector where IEN = 1 (R378, R402). -/
def Dev.mbxFire (d : Dev) (m : Nat) : Dev :=
  if d.gb (Reg.mbxCfg m) 0 then
    let v := d.gf (Reg.mbxCfg m) 1 11
    if d.mbxOwner m = 4 then (if v < 32 then d.sb (Reg.benIrq v) 1 true else d) else d.fire (d.mbxOwner m) v
  else d

/-- The response is written whole, and in one clock BUSY clears, DONE is set and SEQ copied (R378).  The words behind the response are
written as 0. -/
def Dev.mbxRespond (d : Dev) (m opc seq : Nat) (r : Resp) : Dev :=
  let w0 := BitVec.ofNat 64 (fld 0 16 opc + fld 16 16 seq + fld 32 8 r.status + fld 40 12 (8 * r.words.length))
  let w1 := BitVec.ofNat 64 (fld 0 8 r.errWord + fld 8 8 r.errCode + fld 16 16 r.done)
  let d1 := d.clearMem (mbxBuf m + 0x800) (mbxBuf m + 0x1000)
  let d2 := (d1.stWs (mbxBuf m + 0x800) [w0, w1]).stWs (mbxBuf m + 0x840) r.words
  let a := Reg.mbxStat m
  let d3 := (((d2.sb a 0 false).sb a 1 true).sf a 16 16 seq).inc Reg.mbxCmdCnt
  (if r.status = 0 then d3 else d3.inc Reg.mbxErrCnt).mbxFire m

/-! ### The order of execution (R379) -/

/-- The operation codes of Table MBX-8. -/
def mbxListed : List Nat :=
  [0x0001, 0x0002, 0x0003, 0x0004, 0x0101, 0x0102, 0x0103, 0x0104, 0x0105, 0x0201, 0x0202, 0x0203, 0x0204, 0x0301, 0x0302, 0x0303, 0x0304
   , 0x0305, 0x0306, 0x0307, 0x0308, 0x0401, 0x0402, 0x0403, 0x0404, 0x0501, 0x0601, 0x0602, 0x0603, 0x0604, 0x0605, 0x0701, 0x0702, 0x0703
   , 0x0704, 0x0705, 0x0801, 0x0802, 0x0803, 0x0804, 0x0805, 0x0806]
  ++ [0x0901, 0x0902, 0x0903, 0x0904, 0x0905, 0x0906, 0x0907, 0x0908, 0x0909, 0x0A01, 0x0A02, 0x0A03, 0x0A04, 0x0A05, 0x0A06, 0x0A07, 0x0A08
      , 0x0A09, 0x0A0A, 0x0A0B, 0x0A0C, 0x0A0D, 0x0B01, 0x0C01, 0x0C02, 0x0C03, 0x0C04, 0x0D01, 0x0D02, 0x0D03, 0x0D04, 0x0E01, 0x0E02, 0x0F01
      , 0x0F02]

/-- The Joiner takes requests: its firmware runs, or the boot ROM is in boot hold (R374). -/
def Dev.joinerUp (d : Dev) : Bool := (d.fwState == 1 || d.fwState == 2) && d.islandOk 44

/-- Requests with an unlisted OPC at the front are answered BAD_OPCODE (Table MBX-6, order 1). -/
def Dev.mbxSkip (d : Dev) : Nat → Dev
  | 0 => d
  | n + 1 =>
    match d.mbx.go with
    | [] => d
    | (m, _) :: t =>
      if mbxListed.contains (d.mbxOpc m) then d
      else Dev.mbxSkip (({ d with mbx := { d.mbx with go := t } }).mbxRespond m (d.mbxOpc m) (d.mbxSeq m) { status := 1 }) n

/-- The Joiner takes the GOs that are pending: their mailboxes become BUSY, and unlisted commands at the front are answered. -/
def Dev.mbxTake (d : Dev) : Dev :=
  if d.joinerUp then
    (d.mbx.go.foldl (fun (x : Dev) e => x.sb (Reg.mbxStat e.1) 0 true) d).mbxSkip d.mbx.go.length
  else d

/-- The front request is complete with a response. -/
def Dev.mbxDone (d : Dev) (m : Nat) (r : Resp) : Dev :=
  (({ d with mbx := { d.mbx with go := d.mbx.go.filter (fun e => e.1 != m) } }).mbxRespond m (d.mbxOpc m) (d.mbxSeq m) r).mbxTake

/-! ### W commands (R379, R388) -/

/-- The front command waits on an event outside the Joiner, until `due` at most, and releases the Joiner. -/
def Dev.mbxWait (d : Dev) (m due : Nat) : Dev :=
  let w : MbxWait := { m := m, opc := d.mbxOpc m, seq := d.mbxSeq m, due := due }
  ({ d with mbx := { d.mbx with go := d.mbx.go.filter (fun e => e.1 != m), waits := d.mbx.waits ++ [w] } }).mbxTake

/-- The event a command `opc` waits for has come: every command that waits for it is answered by `f`, given its mailbox.  Only commands that
`hit` picks are meant. -/
def Dev.mbxWake (d : Dev) (opc : Nat) (hit : Dev → Nat → Bool) (f : Dev → Nat → Resp) : Dev :=
  (d.mbx.waits.filter (fun w => w.opc == opc && hit d w.m)).foldl (fun (x : Dev) w =>
    ({ x with mbx := { x.mbx with waits := x.mbx.waits.erase w } }).mbxRespond w.m w.opc w.seq (f x w.m)) d

/-- A mailbox switch command is answered once a switch of this node is decided: `RNG_MS_STAT` at the decision, or REFUSED with RESULT. -/
def Dev.wakeSwitch (d : Dev) : Dev :=
  d.mbxWake 0x0703 (fun x _ => x.gf Reg.rngMsStat 4 4 != 0) (fun x _ =>
    let r := x.gf Reg.rngMsStat 4 4
    if r = 1 then { words := [x.rd Reg.rngMsStat] } else { status := 7, errCode := r })

/-- A mailbox barrier command is answered once its barrier is complete. -/
def Dev.wakeBarrier (d : Dev) : Dev :=
  d.mbxWake 0x0704 (fun x m => getF (x.mbxArg m 0) 0 16 == x.gf Reg.rngBarStat 0 16) (fun x _ => { words := [x.rd Reg.rngBarStat] })

/-- A mailbox broadcast command is answered once its broadcast is on its way. -/
def Dev.wakeBcast (d : Dev) : Dev := d.mbxWake 0x0705 (fun _ _ => true) (fun _ _ => {})

/-- A mailbox MDIO command is answered once its frame has ended. -/
def Dev.wakeMdio (d : Dev) (b : Nat) : Dev :=
  d.mbxWake 0x0908 (fun x m => getF (x.mbxArg m 0) 0 2 == b) (fun x _ => { words := [x.rd (Reg.macMdioStat b)] })

/-- A mailbox SMBus command is answered once its transaction has ended. -/
def Dev.wakeSmb (d : Dev) (c : Nat) : Dev :=
  d.mbxWake 0x0909 (fun x m => getF (x.mbxArg m 0) 0 1 == c)
    (fun x _ => { words := x.rd (Reg.macSmbStat c) :: [0, 1, 2, 3].map (fun k => x.rd (Reg.macSmbData c k)) })

/-- MAILBOX_COMMAND_TIMEOUT (R388): a W command still running at its Max returns TIMEOUT and abandons its wait. -/
def mailboxCommandTimeout (m : Nat) (d : Dev) : Dev :=
  match d.mbx.waits.find? (fun w => w.m == m) with
  | none => d
  | some w =>
    let d1 := d.waitUp w.due
    ({ d1 with mbx := { d1.mbx with waits := d1.mbx.waits.erase w } }).mbxRespond w.m w.opc w.seq { status := 8 }

/-! ### The handshake (R377, R378) -/

/-- The requester owns mailbox `m`. -/
def Dev.mbxOwns (d : Dev) (r : Req) (m : Nat) : Bool :=
  match r with
  | .joiner => true
  | _ => d.mbxOwner m == reqCode r

/-- A GO is pending for `m`, or its command is in progress. -/
def Dev.mbxBusy (d : Dev) (m : Nat) : Bool := d.gb (Reg.mbxStat m) 0 || d.mbx.go.any (fun e => e.1 == m)

/-- A GO of mailbox `m` at instant `t` among those pending: of GOs of one clock the lower mailbox goes first (R379). -/
def goPut : List (Nat × Nat) → Nat → Nat → List (Nat × Nat)
  | [], m, t => [(m, t)]
  | e :: l, m, t => if t = e.2 ∧ m < e.1 then (m, t) :: e :: l else e :: goPut l m t

/-- A write of `MBX_DB[m]` by its owner (R378). -/
def Dev.wrMbxDb (d : Dev) (m : Nat) (v : Word) : Dev :=
  if getB v 63 then
    if d.mbxBusy m then d.sb (Reg.mbxStat m) 2 true
    else ({ d with mbx := { d.mbx with go := goPut d.mbx.go m d.tim.up } }).mbxTake
  else d

/-- A write of word `k` of the request area by its owner (R378). -/
def Dev.wrMbxReq (d : Dev) (m k : Nat) (v : Word) : Dev :=
  if d.mbxBusy m then d.sb (Reg.mbxStat m) 3 true else d.stW (mbxBuf m + 8 * k) v

/-- A write to a mailbox's buffer or registers (R377): one by a function that does not own it is dropped and counted. -/
def Dev.mbxGate (d : Dev) (r : Req) (m a : Nat) (f : Dev → Dev) : Dev :=
  if d.unreachable a then d.accFail r false true a 2 44
  else if d.mbxOwns r m then f d
  else d.inc Reg.mbxOwnErrCnt

/-! ### Meanings -/

/-- Meaning of MAILBOX_GO: a write of `MBX_DB[m]` with GO = 1. -/
def execMailboxGo (r : Req) (m : Mailbox) (v : Word) (s : State) : Host.Outcome State Fault Refusal :=
  onDev (fun d => d.mbxGate r m.val (Reg.mbxDb m.val) (fun x => x.wrMbxDb m.val (setB v 63 true))) s

/-- Meaning of MAILBOX_REQUEST_WRITE. -/
def execMailboxRequestWrite (r : Req) (m : Mailbox) (w : BitVec 8) (v : Word) (s : State) : Host.Outcome State Fault Refusal :=
  onDev (fun d => d.mbxGate r m.val (0x4000000 + m.val * 0x1000 + 8 * w.toNat) (fun x => x.wrMbxReq m.val w.toNat v)) s

/-- Meaning of MAILBOX_COMMAND_TIMEOUT. -/
def execMailboxCommandTimeout (m : Mailbox) (s : State) : Host.Outcome State Fault Refusal := onDev (mailboxCommandTimeout m.val) s

end Sys2Proof.Machine
end

