-- ==== Sys2Proof/Machine/SolCore.lean ====
section
/-! DEFINITION. Chapter 7, what the calendar and the ring tell the solver: the locked bank (R215), the head bank (R213), the outcome of an
activation (R227) and a change of the active bank during a job (R228). -/

namespace Sys2Proof.Machine

/-- Bank `b` is the locked target of the job in progress (R215). -/
def Dev.solLocked (d : Dev) (b : Nat) : Bool := d.gb Reg.solStat 11 && d.gf Reg.solStat 9 2 == b

/-- An access to the locked bank by a requester other than the solver, dropped or refused. -/
def Dev.solForeign (d : Dev) : Dev := (d.sb Reg.solStat 12 true).inc Reg.solForeignCnt

/-- The head bank. -/
def Dev.solHead (d : Dev) : Nat := d.gf Reg.solStat 7 2

/-- The active bank, or FIRST_BANK where none is. -/
def Dev.solBase (d : Dev) : Nat := d.activeBank.getD (d.gf Reg.calCtl 2 2)

/-- The pending activation of bank `b` asked for by the solver ends with RESULT `res`. -/
def Dev.solActEnd (d : Dev) (b res : Nat) : Dev :=
  if d.gf Reg.solActStat 0 3 = 1 ∧ d.gf Reg.solActStat 3 2 = b then d.sf Reg.solActStat 0 3 res else d

/-- Bank `b` became ACTIVE. -/
def Dev.solActive (d : Dev) (b : Nat) : Dev :=
  let d1 := d.solActEnd b 2
  match d.sol.job with
  | some j =>
    if (Sparse.find d.sol.owns b).isSome ∨ j.target = b then d1 else { d1 with sol := { d1.sol with job := some { j with moved := true } } }
  | none => d1

/-- Software made bank `b` IDLE, COPYING or VALIDATING: it no longer holds a result, and where it is the head bank the head reverts to the
active bank and HEAD_LOST is set (R213). -/
def Dev.solTouch (d : Dev) (b : Nat) : Dev :=
  if d.bankSt b ≤ 2 then
    let d1 : Dev := { d with sol := { d.sol with owns := Sparse.del d.sol.owns b } }
    if d1.gb Reg.solCtl 0 ∧ d1.solHead = b then (d1.sf Reg.solStat 7 2 d1.solBase).sb Reg.solStat 13 true else d1
  else d

end Sys2Proof.Machine
end

