-- ==== Sys2Proof/Machine/Calendar.lean ====
section
/-! DEFINITION. Chapter 3: bank commands, validation, hand-over, activation, start and stop, cycle boundaries, port configuration,
revalidation (R64–R82, R94–R98). -/

namespace Sys2Proof.Machine

/-! ### Boundaries (R64, R65, R76) -/

/-- The bank `b` supplies the cycles from its activation on: the length of a cycle of it. -/
def Dev.cycLen (d : Dev) (b : Nat) : Nat :=
  if d.calRing then d.ringC d.mainAtt else (d.bank b).par.cyc * nsU

/-- The first of the instants `b + k × len`, k ≥ 0, at or after `x`, with its number counted from `n`. -/
def stepTo (b n len x : Nat) : Nat × Nat :=
  let k := if len = 0 then 0 else (x - b + len - 1) / len
  (b + k * len, (n + k) % 2 ^ 48)

/-- The first boundary after the current cycle's beginning whose hand-over point lies at or after `h` (R76, R78, R82, R98): its instant and
CYCNUM.  From a pending boundary on, cycles have the length of the bank that takes over there. -/
def Dev.boundaryFrom (d : Dev) (h : Nat) : Option (Nat × Nat) :=
  let x := h + d.leadU + 2000 * nsU
  match d.cal.cur with
  | some c =>
    let len := d.cycLen c.bank
    let r := stepTo (c.beg + len) ((c.num + 1) % 2 ^ 48) len x
    match d.cal.pend with
    | some q => if q.at_ < r.1 then some (stepTo q.at_ q.cyc (d.cycLen q.bank) x) else some r
    | none => some r
  | none => d.cal.pend.map (fun q => stepTo q.at_ q.cyc (d.cycLen q.bank) x)

/-- The instant of the next boundary, with its CYCNUM. -/
def Dev.nextBound (d : Dev) : Option (Nat × Nat) :=
  match d.cal.cur with
  | some c => some (c.beg + d.cycLen c.bank, (c.num + 1) % 2 ^ 48)
  | none => d.cal.pend.map (fun q => (q.at_, q.cyc))

/-- The boundary of the pending hand-over, its CYCNUM, as `CAL_ACT_STAT` shows them. -/
def Dev.actStat (d : Dev) (st b cyc : Nat) : Dev := d.wr Reg.calActStat (BitVec.ofNat 64 (fld 0 2 st + fld 2 2 b + fld 16 48 cyc))

/-! ### Validation (R71, Table CAL-3) -/

/-- Two entry ranges of one segment overlap. -/
def regionsMeet (a b : Nat × Nat) : Bool := decide (0 < a.2 ∧ 0 < b.2 ∧ a.1 < b.1 + b.2 ∧ b.1 < a.1 + a.2)

/-- Code 3 for port `p`; of two ports whose regions overlap it is the higher-numbered that fails (log entry 161). -/
def Dev.dirBad (d : Dev) (c : CalPar) (p : Nat) : Bool :=
  let r := c.region p
  decide (0 < r.2) && (decide (262144 < r.1 + r.2) || d.mergedAway p
    || (slicePorts (sliceOf p)).any (fun q => decide (q < p) && regionsMeet r (c.region q)))

/-- Code 4 for port `p`. -/
def Dev.modeBad (d : Dev) (c : CalPar) (p : Nat) : Bool :=
  decide (0 < (c.region p).2) && (d.gf (Reg.sdsMode p) 0 3 == 0 || (d.gf (Reg.sdsMode p) 0 3 == 2 && decide (d.portRate p < 1000)))

/-- What validation remembers of a port's entries so far: the last (CYC, OFFSET), the first start, the greatest end, and the replicated
launches seen. -/
structure ValAcc where
  prev : Option (Nat × Nat) := none
  first : Option Nat := none
  last : Nat := 0
  seen : List (Nat × Nat) := []
  deriving DecidableEq, Repr

/-- Start and end of an entry's reserved interval within the hyperperiod, 2^-48 ns. -/
def Dev.span (d : Dev) (c : CalPar) (p : Nat) (e : Word) : Nat × Nat :=
  let s := (eCyc e * c.cyc + eOfs e) * nsU
  let r := d.resvOf p e s
  (s, r.until_)

/-- Codes 9, 5, 6, 7, 8 for one entry, and what is remembered of it.  Code 8 takes the control segment of the membership the port belongs to
at offset 0 of the cycle, whatever RING and the attachment's state (log entry 160). -/
def Dev.entryCode (d : Dev) (c : CalPar) (p : Nat) (bad : Bool) (e : Word) (a : ValAcc) : Nat × ValAcc :=
  let k := eKind e
  let rep := k == 1 && d.sReplicated (eArg e)
  if bad then (9, a)
  else if c.cyc ≤ eOfs e ∨ c.hp ≤ eCyc e ∨ k = 3 ∨ getF e 62 2 ≠ 0 ∨ (k = 2 ∧ eArg e = 0) then (5, a)
  else if (match a.prev with
      | some (y, o) => decide (eCyc e < y ∨ (eCyc e = y ∧ eOfs e ≤ o))
      | none => false) then (6, a)
  else if k = 1 ∧ (d.recValid (eArg e) p = false ∨ (rep ∧ a.seen.contains (eArg e, eCyc e))) then (7, a)
  else
    let a1 : ValAcc := { a with prev := some (eCyc e, eOfs e), seen := if rep then (eArg e, eCyc e) :: a.seen else a.seen }
    if k = 1 ∨ k = 2 then
      let s := d.span c p e
      let ofs := eOfs e * nsU
      let seg := if 32 ≤ p then d.ringSeg (attOf p) else 0
      if s.1 < a.last ∨ (32 ≤ p ∧ (ofs < seg ∨ c.cyc * nsU < ofs + (s.2 - s.1))) then (8, a)
      else (0, { a1 with first := some (a.first.getD s.1), last := max a.last s.2 })
    else (0, a1)

/-- The entries of port `p` from index `i` on: the first failure as code and index. -/
def Dev.checkEntries (d : Dev) (b : Nat) (c : CalPar) (p : Nat) : List (Nat × Word) → ValAcc → Nat × Nat
  | [], _ => (0, 0)
  | (i, e) :: t, a =>
    match d.entryCode c p (d.isBad (entryAddr b (sliceOf p) i)) e a with
    | (0, a1) =>
      if t.isEmpty && (match a1.first with | some f => decide (f + c.hp * c.cyc * nsU < a1.last) | none => false) then (8, i)
      else Dev.checkEntries d b c p t a1
    | (k, _) => (k, i)

/-- The first port whose entries fail: code, port, index. -/
def Dev.checkPorts (d : Dev) (b : Nat) (c : CalPar) : List Nat → Nat × Nat × Nat
  | [] => (0, 0, 0)
  | p :: t =>
    match d.checkEntries b c p (d.entries b c p) {} with
    | (0, _) => Dev.checkPorts d b c t
    | (k, i) => (k, p, i)

/-- The result of a validation of bank `b` with parameters `c` over `ports` (R71): code, port, index. -/
def Dev.validate (d : Dev) (b : Nat) (c : CalPar) (ports : List Nat) : Nat × Nat × Nat :=
  let badRange := decide (c.cyc < 31250 ∨ 1000000000 < c.cyc ∨ c.hp < 1 ∨ 4096 < c.hp)
  if badRange || (d.calRing && c.cyc != d.gf (Reg.rngCycCfg d.mainAtt) 0 30) then (1, 0, 0)
  else if c.cyc < d.gf Reg.calFetchLead 0 32 + 4000 then (2, 0, 0)
  else match ports.find? (d.dirBad c) with
    | some p => (3, p, 0)
    | none => match ports.find? (d.modeBad c) with
      | some p => (4, p, 0)
      | none => d.checkPorts b c ports

/-- Indices of a segment that ranges of (base, count), listed by rising base, cover from index `x` on. -/
def coveredFrom : List (Nat × Nat) → Nat → Nat
  | [], _ => 0
  | (b, n) :: t, x =>
    let e := min 262144 (b + n)
    (e - max b x) + coveredFrom t (max x e)

/-- Entries covered by the regions of slice `s`: each index of the segment once (R72). -/
def CalPar.covered (c : CalPar) (s : Nat) : Nat :=
  coveredFrom ((slicePorts s).foldl (fun (m : Sparse Nat) p =>
    Sparse.put m (c.region p).1 (max (c.region p).2 (Sparse.getD m (c.region p).1 0))) []) 0

/-- E of R72. -/
def CalPar.largest (c : CalPar) : Nat := max (max (c.covered 0) (c.covered 1)) (max (c.covered 2) (c.covered 3))

/-- Single-bit errors of the entries read are corrected and counted (R94), and the stream records they name are read (R155). -/
def Dev.readEntries (d : Dev) (b : Nat) (c : CalPar) (ports : List Nat) : Dev :=
  ports.foldl (fun (x : Dev) p => (d.entries b c p).foldl (fun (y : Dev) e =>
    let y1 := y.scrub (entryAddr b (sliceOf p) e.1) Reg.calEccCnt
    if eKind e.2 = 1 ∧ y1.sType (eArg e.2) = 1 then y1.readRec (eArg e.2) else y1) x) d

/-- BAR4 offset of an entry. -/
def entryOffset (b s i : Nat) : Nat := b * 0x800000 + s * 0x200000 + i * 8

/-! ### Bank commands (Table CAL-5, R74, R77) -/

/-- Banks that are the source of a COPY in progress. -/
def Dev.copySources (d : Dev) : List Nat :=
  (List.range 4).filterMap (fun b => if d.bankSt b = 1 then (d.bank b).src else none)

/-- COPY of bank `src` to bank `b`. -/
def Dev.calCopy (d : Dev) (b src : Nat) : Dev :=
  let st := d.bankSt b
  let ss := d.bankSt src
  if (st ≠ 0 ∧ st ≠ 3) ∨ src = b ∨ ss = 1 ∨ ss = 2 ∨ d.copySources.contains b then d.calRef 1
  else
    let par := if ss = 0 then d.shadowPar src else (d.bank src).par
    (d.setBank b { (d.bank b) with cap := par, src := some src, since := d.tim.up }).setBankSt b 1

/-- COMMIT of bank `b`: the shadow parameters are captured in this clock. -/
def Dev.calCommit (d : Dev) (b : Nat) : Dev :=
  let st := d.bankSt b
  if (st ≠ 0 ∧ st ≠ 3) ∨ d.copySources.contains b then d.calRef 1
  else (d.setBank b { (d.bank b) with cap := d.shadowPar b, back := st, since := d.tim.up }).setBankSt b 2

/-- UNSTAGE of bank `b`. -/
def Dev.calUnstage (d : Dev) (b : Nat) : Dev :=
  if d.bankSt b ≠ 3 ∨ d.copySources.contains b then d.calRef 1 else d.setBankSt b 0

/-- A write of `CAL_CMD` (Table CAL-13); one that names the solver's locked bank is refused (R215). -/
def Dev.wrCalCmd (d : Dev) (v : Word) : Dev :=
  let b := getF v 4 2
  if d.solLocked b ∨ (getF v 0 2 = 1 ∧ d.solLocked (getF v 8 2)) then (d.calRef 1).solForeign
  else if getB v 63 ∧ getF v 0 2 = 0 then d.calRef 7
  else
    let d1 := d.wrReg Reg.calCmd v
    if getB v 63 then
      let d2 := match getF v 0 2 with
        | 1 => d1.calCopy b (getF v 8 2)
        | 2 => d1.calCommit b
        | _ => d1.calUnstage b
      if d2.bankSt b = d1.bankSt b then d2 else d2.solTouch b
    else d1

/-- A write of a shadow parameter of bank `b`: `CAL_BANK_CYC`, `CAL_BANK_HP` or `CAL_DIR`; taken in every state (R73), dropped while the solver
holds the bank (R215).  One made while the bank is COPYING is overwritten as the copy completes (log entry 162). -/
def Dev.wrShadow (d : Dev) (b a : Nat) (v : Word) : Dev := if d.solLocked b then d.solForeign else d.wrReg a v

/-- CAL_COPY_DONE (R72, R77): entries, shadow parameters and generation of the source stand in bank `b`, which is IDLE. -/
def calCopyDone (b : Nat) (d : Dev) : Dev :=
  match (d.bank b).src with
  | none => d
  | some src =>
    if d.bankSt b = 1 then
      let d0 := d.waitUp ((d.bank b).since + 264144 * nsU)
      let lo := bar4Addr (src * 0x800000)
      let hi := lo + 0x800000
      let dst := bar4Addr (b * 0x800000)
      let moved := (d0.mem.filter (fun c => lo ≤ c.1 && c.1 < hi)).map (fun c => (c.1 - lo + dst, c.2))
      let hurt := (d0.bad.filter (fun a => lo ≤ a && a < hi)).map (fun a => a - lo + dst)
      let fixed := (d0.soft.filter (fun a => lo ≤ a && a < hi)).length
      let d1 : Dev := { d0 with soft := d0.soft.filter (fun a => a < lo || hi ≤ a) }
      let d2 := moved.foldl (fun (x : Dev) c => x.stB c.1 c.2) ((d1.addCnt Reg.calEccCnt fixed).clearMem dst (dst + 0x800000))
      let d3 : Dev := { d2 with bad := d2.bad ++ hurt, soft := d2.soft.filter (fun a => a < dst || dst + 0x800000 ≤ a) }
      let par := (d.bank b).cap
      let d4 := (d3.sf (Reg.calBankCyc b) 0 30 par.cyc).sf (Reg.calBankHp b) 0 13 par.hp
      let d5 := (List.range 36).foldl (fun (x : Dev) p => x.wr (Reg.calDir b p) (par.dir.getD p 0)) d4
      let d6 := d5.sf (Reg.calGen b) 0 16 (d5.gf (Reg.calGen src) 0 16)
      (d6.setBank b { (d6.bank b) with src := none }).setBankSt b 0
    else d

/-- CAL_VALIDATION_DONE (R71, R72, R74): the bank is STAGED, or returns to its state before the commit with the failure recorded. -/
def calValidationDone (b : Nat) (d : Dev) : Dev :=
  if d.bankSt b = 2 then
    let par := (d.bank b).cap
    let d0 := d.waitUp ((d.bank b).since + (par.largest + 2000) * nsU)
    let d1 := d0.readEntries b par (List.range 36)
    let r := d1.validate b par (List.range 36)
    let a := Reg.calBankStat b
    let d2 := ((d1.sf a 4 4 r.1).sf a 8 6 r.2.1).sf a 16 18 r.2.2
    if r.1 = 0 then
      ((d2.sf (Reg.calGen b) 0 16 (d2.gf (Reg.calGen b) 0 16 + 1)).setBank b { (d2.bank b) with par := par }).setBankSt b 3
    else
      let d3 := (d2.inc Reg.calValFailCnt).setBankSt b (d2.bank b).back
      if r.1 = 9 then d3.raise 2 (sliceOf r.2.1) 0x11 (entryOffset b (sliceOf r.2.1) r.2.2) else d3
  else d

/-- An entry write that may take effect (R75); into the solver's locked bank it is dropped (R215). -/
def Dev.writeEntry (d : Dev) (b s i : Nat) (v : Word) : Dev :=
  if d.solLocked b then d.solForeign
  else if d.bankSt b = 0 ∧ d.copySources.contains b = false then
    { (d.stW (entryAddr b s i) v) with soft := d.soft.filter (· != entryAddr b s i) }
  else (d.sb Reg.calStat 8 true).inc Reg.calWrRefCnt

/-! ### Activation (R78, R79, R197–R199) -/

/-- A boundary is chosen for bank `b`, which becomes SCHEDULED. -/
def Dev.schedule (d : Dev) (q : CalPend) : Dev :=
  (({ d with cal := { d.cal with pend := some q } }).setBankSt q.bank 4).actStat 1 q.bank q.cyc

/-- The pending activation is dropped; its bank returns to STAGED. -/
def Dev.unschedule (d : Dev) : Dev :=
  match d.cal.pend with
  | some q => ((({ d with cal := { d.cal with pend := none } }).setBankSt q.bank 3).sf Reg.calActStat 0 2 0).solActEnd q.bank 5
  | none => d

/-- GO of `CAL_ACT` for bank `b` at AT_CYC `cyc` (R78). -/
def Dev.calActivate (d : Dev) (b cyc : Nat) : Dev :=
  if d.calRing then d.calRef 3
  else if d.running = false then d.calRef 4
  else if d.bankSt b ≠ 3 ∨ d.cal.pend.isSome then d.calRef 1
  else match d.boundaryFrom (d.now + 1000 * nsU), d.cal.cur with
    | some (at_, n), some c =>
      if cyc = 0 then d.schedule ⟨b, at_, n, false, true⟩
      else
        let ahead := cyc - c.num
        let bb := c.beg + ahead * d.cycLen c.bank
        if cyc ≤ c.num ∨ bb < at_ then d.calRef 2 else d.schedule ⟨b, bb, cyc, false, true⟩
    | _, _ => d.calRef 4

/-- CANCEL of `CAL_ACT` (Table CAL-13). -/
def Dev.calCancel (d : Dev) : Dev :=
  if d.calRing then d.calRef 3
  else match d.cal.pend with
    | some q => if q.act = false then d.calRef 1 else if d.bankSt q.bank = 5 then d.calRef 2 else d.unschedule
    | none => d.calRef 1

/-- A write of `CAL_ACT` (Table CAL-13); one that names the solver's locked bank is refused (R215). -/
def Dev.wrCalAct (d : Dev) (v : Word) : Dev :=
  if d.solLocked (getF v 0 2) then (d.calRef 1).solForeign
  else if getB v 62 ∧ getB v 63 then d.calRef 7
  else
    let d1 := d.wrReg Reg.calAct v
    if getB v 62 then d1.calCancel
    else if getB v 63 then d1.calActivate (getF v 0 2) (getF v 8 48)
    else d1

/-- R79: an agreed switch to bank `b` for the boundary at `at_` of cycle `cyc` is offered; whether the calendar accepts it. -/
def Dev.offer (d : Dev) (b at_ cyc : Nat) : Bool × Dev :=
  if d.running = false ∨ d.bankSt b ≠ 3 ∨ d.cal.pend.isSome ∨ d.handOver at_ < d.now then (false, d)
  else (true, d.schedule ⟨b, at_, cyc, false, false⟩)

/-- R199: an abandoned switch returns its bank to STAGED while it is SCHEDULED. -/
def Dev.abandonOffer (d : Dev) : Dev :=
  match d.cal.pend with
  | some q => if q.act ∨ q.start ∨ d.bankSt q.bank ≠ 4 then d else d.unschedule
  | none => d

/-! ### Start and stop (R81, R82) -/

/-- START in local time. -/
def Dev.calStartAt (d : Dev) : Nat := d.gf Reg.calStartSec 0 48 * secU + d.gf Reg.calStartNs 0 32 * nsU

/-- EN from 0 to 1 (R81): FIRST_BANK becomes SCHEDULED for START, or for the first ring boundary at or after it. -/
def Dev.calStart (d : Dev) (v : Word) : Dev :=
  let b := getF v 2 2
  let st := d.calStartAt
  if d.bankSt b ≠ 3 ∨ d.cal.stopAt.isSome then d.calRef 1
  else if st < d.now + d.leadU + 3000 * nsU then d.calRef 5
  else
    let d1 := d.wrReg Reg.calCtl v
    if d1.calRing then
      let c := d1.ringC d1.mainAtt
      let at_ := (st + c - 1) / c * c
      d1.schedule ⟨b, at_, d1.ringNum d1.mainAtt at_, true, false⟩
    else d1.schedule ⟨b, st, 0, true, false⟩

/-- EN cleared (R82). -/
def Dev.calStop (d : Dev) (v : Word) : Dev :=
  let d1 := d.wrReg Reg.calCtl v
  match d.cal.pend with
  | some q =>
    if d.running = false ∧ q.start ∧ d.bankSt q.bank = 4 then d1.unschedule
    else match d.boundaryFrom (d.now + 1000 * nsU) with
      | some (bs, _) => (({ d1 with cal := { d1.cal with stopAt := some bs } }).sb Reg.calStat 1 true).dropStopped bs
      | none => d1
  | none =>
    match d.boundaryFrom (d.now + 1000 * nsU) with
    | some (bs, _) => (({ d1 with cal := { d1.cal with stopAt := some bs } }).sb Reg.calStat 1 true).dropStopped bs
    | none => d1

/-- A write of `CAL_CTL` (R81, R82). -/
def Dev.wrCalCtl (d : Dev) (v : Word) : Dev :=
  let old := d.rd Reg.calCtl
  if d.running ∧ getF v 1 3 ≠ getF old 1 3 then d.calRef 6
  else if getB old 0 = false ∧ getB v 0 then d.calStart v
  else if getB old 0 ∧ getB v 0 = false then d.calStop v
  else d.wrReg Reg.calCtl v

/-- A write of `CAL_FETCH_LEAD`: refused while EN = 1 (R81). -/
def Dev.wrFetchLead (d : Dev) (v : Word) : Dev := if d.gb Reg.calCtl 0 then d.calRef 6 else d.wrReg Reg.calFetchLead v

/-! ### Hand-over and boundary (R76, R81, R172) -/

/-- The main attachment lets a start take place at a ring boundary (R172). -/
def Dev.ringStartOk (d : Dev) : Bool := d.rngSt d.mainAtt == 3 || d.rngSt d.mainAtt == 4 || d.rngSt d.mainAtt == 5

/-- CAL_HAND_OVER (R76): local time reaches H of the pending boundary. -/
def calHandOver (d : Dev) : Dev :=
  match d.cal.pend with
  | none => d
  | some q =>
    if d.bankSt q.bank = 4 then
      let d0 := d.waitLocal (d.handOver q.at_)
      if q.start ∧ d0.calRing ∧ d0.ringStartOk = false then
        let q1 : CalPend := { q with at_ := q.at_ + d0.ringC d0.mainAtt, cyc := (q.cyc + 1) % 2 ^ 48 }
        ({ d0 with cal := { d0.cal with pend := some q1 } }).actStat 1 q1.bank q1.cyc
      else
        let g := Reg.calGen q.bank
        (((d0.sf g 16 16 (d0.gf g 0 16)).sb g 32 true).setBankSt q.bank 5).sf Reg.calActStat 0 2 2
    else d

/-- Port configurations whose boundary has come (R98). -/
def Dev.takeCfg (d : Dev) (x : Nat) : Dev :=
  let due := d.cal.cfgPend.filter (fun e => decide (e.2.1 ≤ x))
  let rest := d.cal.cfgPend.filter (fun e => !(decide (e.2.1 ≤ x)))
  let old := due.foldl (fun (m : Sparse Word) e =>
    if rest.any (fun r => r.1 == e.1) then Sparse.put m e.1 e.2.2 else Sparse.del m e.1) d.cal.cfgOld
  { d with cal := { d.cal with cfgPend := rest, cfgOld := old } }

/-- Slices whose resumption boundary has come (R96). -/
def Dev.takeResume (d : Dev) (x : Nat) : Dev :=
  let due := d.cal.resume.filter (fun e => decide (e.2 ≤ x))
  due.foldl (fun (y : Dev) e => y.sb Reg.calStat (12 + e.1) false)
    { d with cal := { d.cal with resume := d.cal.resume.filter (fun e => !(decide (e.2 ≤ x))) } }

/-- The wake times of scheduled edge ports change at a boundary (R92), and released intervals of the past are forgotten. -/
def Dev.takePorts (d : Dev) (x : Nat) : Dev :=
  (List.range 36).foldl (fun (y : Dev) p =>
    let q := y.port p
    y.setPort p { q with tw := if p < 32 then y.gf (Reg.macEeeCfg p) 16 16 else q.tw
                         released := q.released.filter (fun l => decide (x ≤ l + secU)) }) d

/-- Bs of a stop has come (R82). -/
def Dev.stopNow (d : Dev) (bs : Nat) : Dev :=
  let d1 := d.unschedule
  let d2 := match d1.cal.cur with | some c => d1.setBankSt c.bank 3 | none => d1
  let prev := d2.cal.cur.map (fun c => { c with until_ := some bs })
  let d3 : Dev := { d2 with cal := { d2.cal with cur := none, prev := prev, stopAt := none, cfgPend := [], cfgOld := [], resume := [] } }
  let d4 := (d3.sb Reg.calStat 0 false).sb Reg.calStat 1 false
  d.cal.resume.foldl (fun (y : Dev) e => y.sb Reg.calStat (12 + e.1) false) d4

/-- The HANDED bank takes over at its boundary, or the running bank's next cycle begins. -/
def Dev.beginCycle (d : Dev) (b n : Nat) : Dev :=
  match d.cal.pend with
  | some q =>
    if q.at_ = b ∧ d.bankSt q.bank = 5 then
      let d1 := match d.cal.cur with | some c => d.setBankSt c.bank 3 | none => d
      let src : CalSrc := { bank := q.bank, par := (d.bank q.bank).par, beg := b, num := n, from_ := b }
      let prev := d.cal.cur.map (fun c => { c with until_ := some b })
      let d2 : Dev := { d1 with cal := { d1.cal with cur := some src, prev := prev, pend := none } }
      (((d2.setBankSt q.bank 6).sb Reg.calStat 0 true).sf Reg.calActStat 0 2 0).solActive q.bank
    else { d with cal := { d.cal with cur := d.cal.cur.map (fun c => { c with beg := b, num := n }) } }
  | none => { d with cal := { d.cal with cur := d.cal.cur.map (fun c => { c with beg := b, num := n }) } }

/-- `MODE_MISMATCH` of the main attachment clears where the active bank agrees with the ring mode, or the calendar has stopped (R194); it
is set at the end of a control segment alone, once the ring mode of the cycle is known. -/
def Dev.syncMode (d : Dev) : Dev :=
  let a := d.mainAtt
  let m := (if a = 0 then d.rng.att0 else d.rng.att1).mode
  d.sb (Reg.rngStat a) 6 (d.gb (Reg.rngStat a) 6 && d.running && (match m with | some b => some b != d.activeBank | none => false))

/-- CYCLE_BOUNDARY (R64, R65): the next boundary of the calendar is reached. -/
def cycleBoundary (d : Dev) : Dev :=
  match d.nextBound with
  | none => d
  | some (b, n) =>
    if !d.running && (match d.cal.pend with | some q => d.bankSt q.bank != 5 | none => true) then d
    else
      let d1 := (((d.waitLocal b).takeCfg b).takeResume b).takePorts b
      (if d1.cal.stopAt = some b ∧ d1.running then d1.stopNow b else d1.beginCycle b n).syncMode

/-! ### Port configuration (R98) -/

/-- A write of `CAL_PORT_CFG[p]` (R98). -/
def Dev.wrCalPort (d : Dev) (p : Nat) (v : Word) : Dev :=
  let a := Reg.calPortCfg p
  if d.running then
    match d.boundaryFrom (d.now + 1000 * nsU) with
    | some (b, _) =>
      let old := Sparse.getD d.cal.cfgOld p (d.rd a)
      let d1 := d.wrReg a v
      let kept := d1.cal.cfgPend.filter (fun e => !(e.1 == p && e.2.1 == b))
      { d1 with cal := { d1.cal with cfgPend := kept ++ [(p, b, d1.rd a)], cfgOld := Sparse.put d1.cal.cfgOld p old } }
    | none => d.wrReg a v
  else d.wrReg a v

/-! ### Revalidation after a fence (R96) -/

/-- The fence of a calendar island is released: the slice's segment of the active bank is validated again; with no active bank the slice is
back at once. -/
def Dev.revalidate (d : Dev) (s : Nat) : Dev :=
  match d.cal.cur with
  | some _ => { d with cal := { d.cal with reval := Sparse.put d.cal.reval s d.tim.up } }
  | none => d.sb Reg.calStat (12 + s) false

/-- CAL_REVALIDATION_END (R96). -/
def calRevalidationEnd (s : Nat) (d : Dev) : Dev :=
  match Sparse.find d.cal.reval s, d.cal.cur with
  | some t, some c =>
    let d0 := d.waitUp (t + (c.par.covered s + 2000) * nsU)
    let d1 : Dev := { d0 with cal := { d0.cal with reval := Sparse.del d0.cal.reval s } }
    let d2 := d1.readEntries c.bank c.par (slicePorts s)
    let r := d2.validate c.bank c.par (slicePorts s)
    if r.1 = 0 then
      match d2.boundaryFrom (d2.now + 1000 * nsU) with
      | some (b, _) => { d2 with cal := { d2.cal with resume := Sparse.put d2.cal.resume s b } }
      | none => d2.sb Reg.calStat (12 + s) false
    else d2.raise 2 s 0x12 (if 5 ≤ r.1 then entryOffset c.bank s r.2.2 else 0)
  | some _, none => ({ d with cal := { d.cal with reval := Sparse.del d.cal.reval s } }).sb Reg.calStat (12 + s) false
  | none, _ => d

/-! ### Meanings -/

/-- The word `CAL_CMD` takes for GO with an OP. -/
def calCmdWord (op : Nat) (v : Word) : Word := setB (setF v 0 2 op) 63 true

/-- Meaning of CAL_COPY: a write of `CAL_CMD` with OP 0b01 and GO = 1. -/
def execCalCopy (r : Req) (v : Word) (s : State) : Host.Outcome State Fault Refusal :=
  onDev (fun d => d.gate r Reg.calCmd (fun x => x.wrCalCmd (calCmdWord 1 v))) s

/-- Meaning of CAL_COPY_DONE. -/
def execCalCopyDone (b : Bank) (s : State) : Host.Outcome State Fault Refusal := onDev (calCopyDone b.val) s

/-- Meaning of CAL_COMMIT. -/
def execCalCommit (r : Req) (v : Word) (s : State) : Host.Outcome State Fault Refusal :=
  onDev (fun d => d.gate r Reg.calCmd (fun x => x.wrCalCmd (calCmdWord 2 v))) s

/-- Meaning of CAL_VALIDATION_DONE. -/
def execCalValidationDone (b : Bank) (s : State) : Host.Outcome State Fault Refusal := onDev (calValidationDone b.val) s

/-- Meaning of CAL_UNSTAGE. -/
def execCalUnstage (r : Req) (v : Word) (s : State) : Host.Outcome State Fault Refusal :=
  onDev (fun d => d.gate r Reg.calCmd (fun x => x.wrCalCmd (calCmdWord 3 v))) s

/-- Meaning of CAL_ENTRY_WRITE (R75): entry `i` of the segment of a slice. -/
def execCalEntryWrite (r : Req) (b : Bank) (sl : Slice) (i : BitVec 18) (v : Word) (s : State) : Host.Outcome State Fault Refusal :=
  onDev (fun d => d.gate4 r (entryOffset b.val sl.val i.toNat) (calIsland sl.val) 2 (fun x => x.writeEntry b.val sl.val i.toNat v)) s

/-- Meaning of CAL_ACTIVATE: a write of `CAL_ACT` with GO = 1. -/
def execCalActivate (r : Req) (v : Word) (s : State) : Host.Outcome State Fault Refusal :=
  onDev (fun d => d.gate r Reg.calAct (fun x => x.wrCalAct (setB v 63 true))) s

/-- Meaning of CAL_ACT_CANCEL: a write of `CAL_ACT` with CANCEL = 1. -/
def execCalActCancel (r : Req) (v : Word) (s : State) : Host.Outcome State Fault Refusal :=
  onDev (fun d => d.gate r Reg.calAct (fun x => x.wrCalAct (setB v 62 true))) s

/-- Meaning of CALENDAR_START: a write of `CAL_CTL` with EN = 1. -/
def execCalendarStart (r : Req) (v : Word) (s : State) : Host.Outcome State Fault Refusal :=
  onDev (fun d => d.gate r Reg.calCtl (fun x => x.wrCalCtl (setB v 0 true))) s

/-- Meaning of CALENDAR_STOP: a write of `CAL_CTL` with EN = 0. -/
def execCalendarStop (r : Req) (v : Word) (s : State) : Host.Outcome State Fault Refusal :=
  onDev (fun d => d.gate r Reg.calCtl (fun x => x.wrCalCtl (setB v 0 false))) s

/-- Meaning of CAL_HAND_OVER. -/
def execCalHandOver (s : State) : Host.Outcome State Fault Refusal := onDev calHandOver s

/-- Meaning of CYCLE_BOUNDARY. -/
def execCycleBoundary (s : State) : Host.Outcome State Fault Refusal := onDev cycleBoundary s

/-- Meaning of CAL_PORT_CFG_WRITE. -/
def execCalPortCfgWrite (r : Req) (p : Port) (v : Word) (s : State) : Host.Outcome State Fault Refusal :=
  onDev (fun d => d.gate r (Reg.calPortCfg p.val) (fun x => x.wrCalPort p.val v)) s

/-- Meaning of CAL_REVALIDATION_END. -/
def execCalRevalidationEnd (sl : Slice) (s : State) : Host.Outcome State Fault Refusal := onDev (calRevalidationEnd sl.val) s

end Sys2Proof.Machine
end

