-- ==== Sys2Proof/Machine/RingState.lean ====
section
/-! DEFINITION. Chapter 6: memberships (R163), bypass pins (R165, R166), the states of Table RNG-7 and what entering one does, control
frames of the node's own (Table RNG-4, R191), forwarding at the residence time (R178). -/

namespace Sys2Proof.Machine

/-! ### Memberships (R163) -/

/-- The state of an attachment or membership beyond its registers. -/
def Dev.ratt (d : Dev) (a : Nat) : RAtt := if a = 0 then d.rng.att0 else d.rng.att1

/-- That state changed. -/
def Dev.modAtt (d : Dev) (a : Nat) (g : RAtt → RAtt) : Dev :=
  if a = 0 then { d with rng := { d.rng with att0 := g d.rng.att0 } } else { d with rng := { d.rng with att1 := g d.rng.att1 } }

/-- The attachments of the membership held at `a`. -/
def Dev.attsOf (d : Dev) (a : Nat) : List Nat := if d.joined then [0, 1] else [a]

/-- The ring ports of an attachment. -/
def attPorts (a : Nat) : List Nat := [32 + 2 * a, 33 + 2 * a]

/-- The ports a membership sends on: those of its inserted attachments (R165). -/
def Dev.ringPorts (d : Dev) (a : Nat) : List Nat := ((d.attsOf a).filter d.inserted).flatMap attPorts

/-- The node is a gateway (R163). -/
def Dev.gateway (d : Dev) : Bool := d.gb (Reg.rngCtl 0) 0 && d.gb (Reg.rngCtl 1) 0 && !d.sameRing

/-- Index of the ring cycle that holds local time `x`. -/
def Dev.cycIdx (d : Dev) (a x : Nat) : Nat := if d.ringC a = 0 then 0 else x / d.ringC a

/-- A cycle number `x` lies at or before `c`, both modulo 2^48. -/
def cycReached (x c : Nat) : Bool := decide ((c + 2 ^ 48 - x) % 2 ^ 48 < 2 ^ 47)

/-- Registers that a membership shares, by their offset within an attachment. -/
def sharedOffsets : List Nat := [0x08, 0x10, 0x18, 0x20, 0x28, 0x30, 0x38, 0x40, 0x48, 0x50, 0x58, 0x60, 0x68]

/-- The membership held at `x` is held at `y` from now on: registers and state, but for INSERTED, CSEG_SHORT and CFG_ERR, each attachment's own. -/
def Dev.moveMem (d : Dev) (x y : Nat) : Dev :=
  let own := d.rd (Reg.rngStat y)
  let d1 := sharedOffsets.foldl (fun (e : Dev) o => e.wr (Reg.rngCtl y + o) (d.rd (Reg.rngCtl x + o))) d
  ((d1.sf (Reg.rngStat y) 4 2 (getF own 4 2)).sb (Reg.rngStat y) 7 (getB own 7)).modAtt y (fun _ => d.ratt x)

/-- The shape of the node changed from (joined, holder) `j`, `h`: the membership moves to where it is held now. -/
def Dev.rebase (d : Dev) (j : Bool) (h : Nat) : Dev :=
  let st := fun a => d.gf (Reg.rngStat a) 0 3
  let h1 := d.holder
  if d.joined then
    if j then (if h1 = h then d else d.moveMem h h1)
    else if st h1 = 0 ∧ st (1 - h1) ≠ 0 then d.moveMem (1 - h1) h1
    else d
  else if j ∧ d.gb (Reg.rngCtl (1 - h)) 0 then d.moveMem h (1 - h)
  else d

/-! ### States (Table RNG-7) -/

/-- `RNG_MEMBERS` set, with its count (R188). -/
def Dev.setMembers (d : Dev) (a : Nat) (m : Nat) : Dev :=
  (d.wr (Reg.rngMembers a) (BitVec.ofNat 64 m)).sf (Reg.rngStat a) 16 7 ((List.range 64).filter (fun i => m.testBit i)).length

/-- A switch that is dropped undecided: its bank returns to STAGED (R199). -/
def Dev.dropSwitch (d : Dev) (a : Nat) : Dev :=
  match (d.ratt a).sw with
  | some w => (if w.offer && !w.commit then d.abandonOffer else d).modAtt a (fun r => { r with sw := none })
  | none => d

/-- A transition to state `st`, with what entering it does (Table RNG-7, R184, R190, R192). -/
def Dev.rngTo (d : Dev) (a st : Nat) : Dev :=
  let old := d.gf (Reg.rngStat a) 0 3
  let d0 := (d.sf (Reg.rngStat a) 0 3 st).modAtt a (fun r => { r with winEnd := none, win := [], abortAt := none, clique := 0 })
  if st = 0 ∨ st = 6 then
    let d1 := (d0.dropSwitch a).modAtt a (fun r => { cycle := r.cycle, segDone := r.segDone, passed := r.passed, msNext := r.msNext })
    let d2 := (d1.sb (Reg.rngStat a) 6 false).sf (Reg.rngStat a) 8 2 0
    if st = 0 then ((d2.attsOf a).flatMap attPorts).foldl (fun (x : Dev) p => x.sb (Reg.rngLdly (p - 32)) 32 false) d2 else d2
  else if st = 1 then
    let d1 := d0.modAtt a (fun r => { r with listen := 0, passed := d.cycIdx a d.now, heard := false, adopted := false, valid := none
                                             losses := 0, prevMem := false })
    if old = 3 ∨ old = 4 ∨ old = 5 then d1.raise 5 a 0x14 0 else d1
  else if st = 2 then (d0.modAtt a (fun r => { r with cs := 0 })).inc (Reg.rngCsCnt a)
  else if st = 3 then d0.modAtt a (fun r => { r with noAct := 0 })
  else if st = 5 then (d0.inc (Reg.rngPassiveCnt a)).raise 5 a 0x11 0
  else d0

/-! ### Bypass pins (R165, R166) -/

/-- R165: the pin of attachment `a` may be high; from a reset of the whole device until the firmware runs it is not (R439). -/
def Dev.pinWant (d : Dev) (a : Nat) : Bool :=
  d.gb (Reg.rngCtl a) 0 && d.gb (Reg.rngCtl a) 1 && d.gf Reg.pwrStat 0 2 != 2 && d.islandOk (16 + 2 * a) && d.islandOk (17 + 2 * a)
  && d.rngSt a != 6 && !d.halted && d.islandOk 46 && !d.mbx.coreBoot

/-- Link up on a port of an inserted attachment of the membership. -/
def Dev.ringLink (d : Dev) (a : Nat) : Bool := (d.ringPorts a).any d.linkUp

/-- The rows of Table RNG-7 that follow EN, the pin and the link, for the membership held at `a`. -/
def Dev.ringEvalAt (d : Dev) (a : Nat) : Dev :=
  let st := d.gf (Reg.rngStat a) 0 3
  let ok := d.gb (Reg.rngCtl a) 0 && (!d.sameRing || d.joined) && (d.attsOf a).any d.inserted
  if st = 6 then d
  else if ok = false then (if st = 0 then d else d.rngTo a 0)
  else if st = 0 ∧ d.ringLink a then
    (d.modAtt a (fun r => r.skip d.now (d.ringC a) (d.ringSeg a))).rngTo a 1
  else d

/-- Every membership evaluated. -/
def Dev.ringEval (d : Dev) : Dev := if d.joined then d.ringEvalAt d.holder else (d.ringEvalAt 0).ringEvalAt 1

/-- A pin that R165 no longer permits falls, and its ports transmit nothing. -/
def Dev.pinFall (d : Dev) (a : Nat) : Dev :=
  if d.inserted a && !(d.pinWant a) then
    (attPorts a).foldl (fun (x : Dev) p => x.portStop p false) (d.sb (Reg.rngStat a) 4 false)
  else d

/-- Pins and states follow what changed. -/
def Dev.ringSync (d : Dev) : Dev := ((d.pinFall 0).pinFall 1).ringEval

/-- The pin of attachment `a` rises. -/
def Dev.pinRise (d : Dev) (a : Nat) : Dev :=
  ({ d with rng := { d.rng with pinAt := Sparse.put d.rng.pinAt a d.tim.up } }).sb (Reg.rngStat a) 4 true

/-- BYPASS_INSERT (R166): the pin rises once R165 holds; on a joined node whose attachments are both to be inserted, that of attachment 1
once attachment 0 has integrated, or 1 s after attachment 0's pin rose. -/
def bypassInsert (a : Nat) (d : Dev) : Dev :=
  if d.inserted a ∨ d.pinWant a = false then d
  else if d.sameRing ∧ a = 1 ∧ d.pinWant 0 then
    if d.inserted 0 = false then d
    else if 3 ≤ d.rngSt 0 ∧ d.rngSt 0 ≤ 5 then (d.pinRise 1).ringEval
    else ((d.waitUp (Sparse.getD d.rng.pinAt 0 0 + secU)).pinRise 1).ringEval
  else (d.pinRise a).ringEval

/-! ### Own SYNC and COLDSTART (Table RNG-4, R191) -/

/-- The stamp noted for cycle `c` in a list of (cycle, stamp), compact; 0 if none. -/
def stampFor (l : List (Nat × Nat)) (c : Nat) : Nat :=
  match l.find? (fun e => e.1 == c) with
  | some e => (compact e.2).toNat
  | none => 0

/-- The switch fields of the SYNC of cycle `c`: MS_OP and the switch. -/
def RAtt.msFields (r : RAtt) (c : Nat) : Nat × Option Switch :=
  match r.sw with
  | some w =>
    if w.own ∧ c = w.p then (1, some w)
    else if w.ack ∧ c = (w.p + 1) % 2 ^ 48 then (2, some w)
    else if w.commit ∧ c = (w.p + 2) % 2 ^ 48 then (3, some w)
    else (0, none)
  | none => (0, none)

/-- The member's SYNC carries its barrier arrival now (R200). -/
def Dev.barNow (d : Dev) (a : Nat) : Bool :=
  a == d.mainAtt && d.gf (Reg.rngStat a) 0 3 == 4 && (match (d.ratt a).barAt with | some t => decide (t ≤ d.tim.up) | none => false)

/-- The octets, FCS apart, of the SYNC (type 2) or COLDSTART (type 1) of cycle `c` on port `p`. -/
def Dev.syncOctets (d : Dev) (a p ty c : Nat) : List Byte :=
  let r := d.ratt a
  let st := d.gf (Reg.rngStat a) 0 3
  let node := d.nodeId a
  let prev := (c + 2 ^ 48 - 1) % 2 ^ 48
  let sync := ty == 2
  let ms := if sync && st == 4 then r.msFields c else (0, none)
  let w : Switch := ms.2.getD ⟨0, 0, 0, 0, 0, false, false, false, false, []⟩
  let bar := sync && d.barNow a
  let ann := if sync then r.ann else none
  let an : Ann := ann.getD ⟨0, 0, false, 0⟩
  d.doveHeader p ty node 0 0 c 0 0 0 0
    ++ beBytes 8 (if sync then (d.rd (Reg.rngMembers a)).toNat else 2 ^ node) ++ beBytes 8 0
    ++ beBytes 8 (stampFor (Sparse.getD d.rng.peerAt p []) prev) ++ beBytes 8 (stampFor (Sparse.getD d.rng.sentAt p []) prev)
    ++ beBytes 1 (st + fld 3 1 (d.gf (Reg.rngFedCfg a) 4 1) + fld 4 4 (d.gf (Reg.rngFedCfg a) 0 4)) ++ [0]
    ++ beBytes 4 (d.gf (Reg.rngCycCfg a) 0 30) ++ beBytes 4 (d.gf (Reg.rngCycCfg a) 32 30)
    ++ beBytes 1 w.id ++ beBytes 1 (fld 6 2 ms.1 + fld 4 2 w.bank) ++ beBytes 1 w.src ++ beBytes 6 w.cyc
    ++ beBytes 2 (if bar then d.gf Reg.rngBarStat 0 16 else 0) ++ beBytes 1 (fld 7 1 (bit bar))
    ++ beBytes 1 an.id ++ beBytes 1 (fld 7 1 (bit ann.isSome) + fld 5 1 (bit an.clear) + fld 2 3 an.scope) ++ [0, 0]
    ++ beBytes 8 an.t.toNat ++ List.replicate 20 0

/-- The own SYNC or COLDSTART of cycle `c` goes to every port of the membership. -/
def Dev.ringSend (d : Dev) (a ty c : Nat) : Dev :=
  let bar := ty == 2 && d.barNow a
  let d1 := (d.ringPorts a).foldl (fun (x : Dev) p =>
    (x.modPort p (fun y => { y with ctl := y.ctl ++ [{ octets := d.syncOctets a p ty c, own := true }] })).choose p) d
  if ty = 2 then d1.modAtt a (fun r => { r with sent := true, barSent := bar, ann := none }) else d1

/-! ### Forwarding (R178) -/

/-- LDLY of a ring port in 2^-48 ns: measured, or `LDLY_INIT` (R180). -/
def Dev.ldlyU (d : Dev) (p : Nat) : Nat :=
  if d.gb (Reg.rngLdly (p - 32)) 32 then d.gf (Reg.rngLdly (p - 32)) 0 32 * 2 ^ 40 else d.gf (Reg.rngPortCfg (p - 32)) 0 32 * nsU

/-- CONTROL_FRAME_FORWARD (R178): the oldest control frame to leave on port `p` reaches its send instant. -/
def controlFrameForward (p : Nat) (d : Dev) : Dev :=
  match d.rng.fwds.find? (fun f => f.port == p) with
  | none => d
  | some f =>
    let d0 := d.waitLocal f.due
    let d1 : Dev := { d0 with rng := { d0.rng with fwds := d0.rng.fwds.erase f } }
    let ty := (f.octets.getD 14 0).toNat % 16
    (d1.modPort p (fun y => { y with ctl := y.ctl ++ [{ octets := f.octets, own := false, fwd := some (f.stamp, d.ldlyU f.from_ / 2 ^ 40)
                                                        bcast := ty == 4 }] })).choose p

/-! ### Meanings -/

/-- Meaning of BYPASS_INSERT. -/
def execBypassInsert (a : Att) (s : State) : Host.Outcome State Fault Refusal := onDev (bypassInsert a.val) s

/-- Meaning of CONTROL_FRAME_FORWARD. -/
def execControlFrameForward (p : Port) (s : State) : Host.Outcome State Fault Refusal := onDev (controlFrameForward p.val) s

end Sys2Proof.Machine
end

