-- ==== Sys2Proof/Machine/RingCtl.lean ====
section
/-! DEFINITION. Chapter 6: writes of the `RNG_` registers, mode switch proposals, barriers and broadcasts (R197, R200, R201, R206, R208),
and arming scheduled snapshots (R59, R62, R202). -/

namespace Sys2Proof.Machine

/-! ### Registers (R208) -/

/-- A write of `RNG_CTL[a]`: NODE_ID, RING and CH change in OFF alone; HALT and RESTART act at once. -/
def Dev.wrRngCtl (d : Dev) (a : Nat) (v : Word) : Dev :=
  let ra := Reg.rngCtl a
  let held := fun (w : Word) => (getF w 3 1, getF w 4 6, getF w 12 4)
  if d.rngSt a ≠ 0 ∧ held v ≠ held (d.rd ra) then d.outOfRange ra
  else
    let j := d.joined
    let h := d.holder
    let d1 := (d.wrReg ra v).rebase j h
    let d2 := (d1.sb (Reg.rngStat 0) 3 d1.sameRing).sb (Reg.rngStat 1) 3 d1.sameRing
    let d3 := if d2.sameRing ∧ d2.joined = false then d2.sb (Reg.rngStat 0) 7 true else d2
    let m := d3.memOf a
    let st := d3.gf (Reg.rngStat m) 0 3
    let d4 := if getB v 62 then (if st = 6 then d3 else d3.rngTo m 6) else if getB v 63 ∧ st = 6 then d3.rngTo m 0 else d3
    d4.ringSync

/-- A write of `RNG_CYC_CFG[a]` (R168): in OFF alone, CSEG_NS at most half of CYC_NS. -/
def Dev.wrRngCyc (d : Dev) (a : Nat) (v : Word) : Dev :=
  let ra := Reg.rngCycCfg a
  if d.rngSt a ≠ 0 ∨ getF v 0 30 < 2 * getF v 32 30 then d.outOfRange ra
  else d.wrReg ra v

/-- A write of `RNG_BE_CFG[a]` (R168): judged against the cycle stored; in force from the next boundary. -/
def Dev.wrRngBe (d : Dev) (a : Nat) (v : Word) : Dev :=
  let ra := Reg.rngBeCfg a
  if getF v 0 30 < d.gf (Reg.rngCycCfg a) 32 30 ∨ getF v 32 30 ≤ getF v 0 30 ∨ d.gf (Reg.rngCycCfg a) 0 30 < getF v 32 30 then
    d.outOfRange ra
  else
    let old := d.beCfg a
    ({ d with rng := { d.rng with beOld := Sparse.put d.rng.beOld a old } }).wrReg ra v

/-- A write of `RNG_TIMING[a]`: CORR_LIM lies within 1 to PREC_WIN. -/
def Dev.wrRngTiming (d : Dev) (a : Nat) (v : Word) : Dev :=
  if getF v 16 16 = 0 ∨ getF v 0 16 < getF v 16 16 then d.outOfRange (Reg.rngTiming a) else d.wrReg (Reg.rngTiming a) v

/-- A write of `RNG_FED_CFG[a]`: REF = 1 is refused on the main attachment. -/
def Dev.wrRngFed (d : Dev) (a : Nat) (v : Word) : Dev :=
  if getB v 4 ∧ d.mainAtt = d.memOf a then d.outOfRange (Reg.rngFedCfg a) else d.wrReg (Reg.rngFedCfg a) v

/-! ### Mode switches (R197) -/

/-- `RNG_MS_STAT` for a switch. -/
def Dev.msStat (d : Dev) (st result : Nat) (w : Switch) (miss : Nat) : Dev :=
  d.wr Reg.rngMsStat (BitVec.ofNat 64 (fld 0 3 st + fld 4 4 result + fld 8 8 w.id + fld 16 2 w.bank + fld 18 6 w.src + fld 24 6 miss))

/-- GO of `RNG_MS_CTL`: a switch to BANK is proposed in the next cycle P, for the beginning of cycle P + 3 (R197). -/
def Dev.msPropose (d : Dev) (bank : Nat) : Dev :=
  let a := d.mainAtt
  let r := d.ratt a
  if d.gf (Reg.rngStat a) 0 3 ≠ 4 then d.sf Reg.rngMsStat 4 4 5
  else if r.sw.isSome then d.sf Reg.rngMsStat 4 4 3
  else
    let k := d.cycIdx a d.now + 1
    match d.offer bank ((k + 3) * d.ringC a) ((k + 3) % 2 ^ 48) with
    | (false, d1) => d1.sf Reg.rngMsStat 4 4 4
    | (true, d1) =>
      let w : Switch := { p := k % 2 ^ 48, id := r.msNext, src := d.nodeId a, bank := bank, cyc := (k + 3) % 2 ^ 48
                          own := true, offer := true, ack := true }
      (d1.modAtt a (fun x => { x with sw := some w, msNext := (r.msNext + 1) % 256 })).msStat 1 0 w 0

/-- A write of `RNG_MS_CTL` (Table RNG-16). -/
def Dev.wrMsCtl (d : Dev) (v : Word) : Dev :=
  let d1 := d.wrReg Reg.rngMsCtl v
  if getB v 63 then d1.msPropose (getF v 0 2) else d1

/-! ### Barriers (R200) -/

/-- A write of `RNG_BAR_CTL`: ARRIVE marks arrival at ID on an ACTIVE member. -/
def Dev.wrBarCtl (d : Dev) (v : Word) : Dev :=
  let d1 := d.wrReg Reg.rngBarCtl v
  let a := d.mainAtt
  if getB v 63 ∧ d.gf (Reg.rngStat a) 0 3 = 4 then
    let same := (d.ratt a).barAt.isSome && d.gf Reg.rngBarStat 0 16 == getF v 0 16
    let d2 := if same then d1 else d1.modAtt a (fun r => { r with barAt := some (d.tim.up + usU), barDue := false, barSent := false })
    (d2.sf Reg.rngBarStat 0 16 (getF v 0 16)).sb Reg.rngBarStat 16 true
  else d1

/-! ### Broadcasts (R201, R206) -/

/-- The receive queue as `RNG_BC_STAT` and `RNG_BC_RX` show it. -/
def Dev.syncBc (d : Dev) : Dev :=
  let q := d.rng.bcRx
  let h : RBcRx := q.headD ⟨0, 0, 0, []⟩
  let d1 := (((d.sf Reg.rngBcStat 0 5 q.length).sf Reg.rngBcStat 6 6 h.src).sf Reg.rngBcStat 12 7 h.len).sf Reg.rngBcStat 19 4 h.ring
  (List.range 8).foldl (fun (x : Dev) k => x.wr (Reg.rngBcRx k) (BitVec.ofNat 64 (leNat ((h.data.drop (8 * k)).take 8)))) d1

/-- The octets, FCS apart, of a BCAST on attachment `a` (Table RNG-5); CH, DIR, CYCNUM and BANK are set as it is sent. -/
def Dev.bcOctets (d : Dev) (a p seq len : Nat) (fed : Bool) (orig cyc : Nat) (data : List Byte) : List Byte :=
  let pay := data.take len
  d.doveHeader p 4 (d.nodeId a) 0 0 cyc 0 0 seq 0 ++ beBytes 1 (len + fld 7 1 (bit fed)) ++ beBytes 1 orig
    ++ pay ++ List.replicate (64 - pay.length) 0 ++ List.replicate 20 0

/-- A write of `RNG_BC_CTL`: GO asks for one broadcast; it is ignored while one waits. -/
def Dev.wrBcCtl (d : Dev) (v : Word) : Dev :=
  if inRangeAt Reg.rngBcCtl v then
    let d1 := d.wrReg Reg.rngBcCtl v
    if getB v 63 ∧ d.gb Reg.rngBcStat 5 = false then
      let n := (d.rng.bcNum + 1) % 65536
      let data := (List.range 8).flatMap (fun k => leBytes 8 (d.rd (Reg.rngBcTx k)).toNat)
      let b : RBc := ⟨getF v 8 1, n, getF v 0 7, none, data.take (getF v 0 7)⟩
      ({ d1 with rng := { d1.rng with bcNum := n, bcs := d1.rng.bcs ++ [b] } }).sb Reg.rngBcStat 5 true
    else d1
  else d.outOfRange Reg.rngBcCtl

/-- A write of `RNG_BC_STAT`: POP removes the head of the receive queue. -/
def Dev.wrBcStat (d : Dev) (v : Word) : Dev :=
  if getB v 63 then ({ d with rng := { d.rng with bcRx := d.rng.bcRx.drop 1 } }).syncBc else d

/-- The ports a broadcast of attachment `att` is sent on: its two, while it is inserted (R165). -/
def Dev.bcPorts (d : Dev) (att : Nat) : List Nat := if d.inserted att then attPorts att else []

/-- A broadcast of attachment `att` started at local time `t` ends within the window on every member, by the larger circuit of its two ports
(R201), and meets no reserved interval of them. -/
def Dev.bcFits (d : Dev) (att t : Nat) : Bool :=
  let a := d.memOf att
  let b := d.ringBegin a t
  let circ := (attPorts att).foldl (fun m p => max m (d.gf (Reg.rngCircuit (p - 32)) 0 32)) 0
  decide (b + getF (d.beCfg a) 0 30 * nsU ≤ t)
  && (attPorts att).all (fun p => decide (t + (circ + 1200) * nsU + d.guardU p ≤ b + getF (d.beCfg a) 32 30 * nsU) && d.fitsResv p 128 2 t)

/-- Instants from `t` on at which the next chance to start lies: the window's start, and the ends of reserved intervals. -/
def Dev.bcNext (d : Dev) (att t : Nat) : Nat :=
  let a := d.memOf att
  let b := d.ringBegin a t
  let s := b + getF (d.beCfg a) 0 30 * nsU
  let win := if t < s then s else s + d.ringC a
  let ends := (attPorts att).flatMap (fun p =>
    ((d.resvAt p t).map (fun r => r.until_)) ++ (match d.nextResv p t with | some r => [r.until_] | none => []))
  (ends.filter (fun e => decide (t < e))).foldl min win

/-- The first instant at or after `t`, within `n` chances, at which a broadcast may start. -/
def Dev.bcStart (d : Dev) (att : Nat) : Nat → Nat → Option Nat
  | 0, _ => none
  | n + 1, t => if d.bcFits att t then some t else Dev.bcStart d att n (d.bcNext att t)

/-- Attachment `att` sends broadcasts of its own in the best-effort window: in INTEGRATE and ACTIVE, the states in which a node sends control
frames of its own (R191). -/
def Dev.bcMay (d : Dev) (att : Nat) : Bool := (d.rngSt att == 3 || d.rngSt att == 4) && d.ringC att != 0

/-- The oldest waiting broadcast whose attachment may send is sent in the next best-effort window (R201, R206). -/
def Dev.bcSend (d : Dev) (relay : Bool) : Dev :=
  match d.rng.bcs.find? (fun b => b.fed.isSome == relay && d.bcMay b.att) with
  | none => d
  | some b =>
    match d.bcStart b.att 512 d.now with
    | none => d
    | some t =>
      let d0 := d.waitLocal t
      let a := d.memOf b.att
      let ring := d.gf (Reg.rngCtl a) 12 4
      let d1 : Dev := { d0 with rng := { d0.rng with bcs := d0.rng.bcs.erase b } }
      let d2 := (d.bcPorts b.att).foldl (fun (x : Dev) p =>
        (x.modPort p (fun y => { y with ctl := y.ctl ++
          [{ octets := d0.bcOctets a p b.seq b.len b.fed.isSome (b.fed.getD ring) (d0.ringNum a d0.now) b.data
             own := false, bcast := true }] })).choose p) d1
      if relay then d2 else (d2.sb Reg.rngBcStat 5 false).wakeBcast

/-! ### Scheduled snapshots (R59, R62, R202) -/

/-- A snapshot is armed: T, its ID, scope and clear. -/
def Dev.snapArm (d : Dev) (id scope : Nat) (clear ring : Bool) (t : Nat) : Dev :=
  let d1 : Dev := { d with tim := { d.tim with snapT := t, snapScope := scope, snapClear := clear, snapRing := ring } }
  ((((d1.sf Reg.timSnaptStat 0 2 1).sf Reg.timSnaptStat 8 8 id).sf Reg.timSnaptStat 16 4 0).sb Reg.timSnaptStat 20 false)

/-- An attachment is ACTIVE. -/
def Dev.anyActive (d : Dev) : Bool := d.rngSt 0 == 4 || d.rngSt 1 == 4

/-- T lies before the second cycle boundary after now (R59). -/
def Dev.beforeSecond (d : Dev) (t : Nat) : Bool :=
  decide (t < (d.cycIdx d.mainAtt d.now + 2) * d.ringC d.mainAtt)

/-- ARM of `TIM_SNAPT_CTL` (R59): refused with a FAIL code, or armed and, ring-wide, announced. -/
def Dev.snapTryArm (d : Dev) : Dev :=
  let t := d.gf Reg.timSnaptSec 0 48 * secU + d.gf Reg.timSnaptNs 0 32 * nsU
  let scope := d.gf Reg.timSnaptCtl 2 3
  let ring := d.gb Reg.timSnaptCtl 5
  let clear := d.gb Reg.timSnaptCtl 6
  let id := d.gf Reg.timSnaptCtl 8 8
  let fail := fun c => d.sf Reg.timSnaptStat 16 4 c
  if scope = 0 then fail 4
  else if d.snaptState = 1 ∨ d.snaptState = 2 then fail 3
  else if t < d.now + 10 * usU then fail 1
  else if ring ∧ d.beforeSecond t then fail 1
  else if ring ∧ d.anyActive = false then fail 2
  else
    let d1 := d.snapArm id scope clear ring t
    if ring then
      [0, 1].foldl (fun (x : Dev) a =>
        if d.rngSt a = 4 then x.modAtt (d.memOf a) (fun r => { r with ann := some ⟨id, scope, clear, compact t⟩ }) else x) d1
    else d1

/-- A write of `TIM_SNAPT_CTL` (R59, R62); a ring announcement not yet sent stays pending after CANCEL (log entry 157). -/
def Dev.wrSnaptCtl (d : Dev) (v : Word) : Dev :=
  if getB v 0 ∧ getB v 1 then d.cfgErr Reg.timSnaptCtl
  else
    let d1 := d.wrReg Reg.timSnaptCtl v
    if getB v 1 then (if d1.snaptState = 1 then d1.sf Reg.timSnaptStat 0 2 0 else d1)
    else if getB v 0 then d1.snapTryArm
    else d1

/-! ### Meanings -/

/-- Meaning of SNAPT_ARM: a write of `TIM_SNAPT_CTL` with ARM = 1. -/
def execSnaptArm (r : Req) (v : Word) (s : State) : Host.Outcome State Fault Refusal :=
  onDev (fun d => d.gate r Reg.timSnaptCtl (fun x => x.wrSnaptCtl (setB v 0 true))) s

/-- Meaning of SNAPT_CANCEL: a write of `TIM_SNAPT_CTL` with CANCEL = 1. -/
def execSnaptCancel (r : Req) (v : Word) (s : State) : Host.Outcome State Fault Refusal :=
  onDev (fun d => d.gate r Reg.timSnaptCtl (fun x => x.wrSnaptCtl (setB v 1 true))) s

/-- Meaning of RING_HALT: a write of `RNG_CTL[a]` with HALT = 1. -/
def execRingHalt (r : Req) (a : Att) (v : Word) (s : State) : Host.Outcome State Fault Refusal :=
  onDev (fun d => d.gate r (Reg.rngCtl a.val) (fun x => x.wrRngCtl a.val (setB v 62 true))) s

/-- Meaning of RING_RESTART: a write of `RNG_CTL[a]` with RESTART = 1. -/
def execRingRestart (r : Req) (a : Att) (v : Word) (s : State) : Host.Outcome State Fault Refusal :=
  onDev (fun d => d.gate r (Reg.rngCtl a.val) (fun x => x.wrRngCtl a.val (setB v 63 true))) s

/-- Meaning of MS_PROPOSE: a write of `RNG_MS_CTL` with GO = 1. -/
def execMsPropose (r : Req) (v : Word) (s : State) : Host.Outcome State Fault Refusal :=
  onDev (fun d => d.gate r Reg.rngMsCtl (fun x => x.wrMsCtl (setB v 63 true))) s

/-- Meaning of BARRIER_ARRIVE: a write of `RNG_BAR_CTL` with ARRIVE = 1. -/
def execBarrierArrive (r : Req) (v : Word) (s : State) : Host.Outcome State Fault Refusal :=
  onDev (fun d => d.gate r Reg.rngBarCtl (fun x => x.wrBarCtl (setB v 63 true))) s

/-- Meaning of BCAST_GO: a write of `RNG_BC_CTL` with GO = 1. -/
def execBcastGo (r : Req) (v : Word) (s : State) : Host.Outcome State Fault Refusal :=
  onDev (fun d => d.gate r Reg.rngBcCtl (fun x => x.wrBcCtl (setB v 63 true))) s

/-- Meaning of BCAST_TRANSMIT (R201). -/
def execBcastTransmit (s : State) : Host.Outcome State Fault Refusal := onDev (fun d => d.bcSend false) s

/-- Meaning of BCAST_POP: a write of `RNG_BC_STAT` with POP = 1. -/
def execBcastPop (r : Req) (v : Word) (s : State) : Host.Outcome State Fault Refusal :=
  onDev (fun d => d.gate r Reg.rngBcStat (fun x => x.wrBcStat (setB v 63 true))) s

/-- Meaning of BCAST_RELAY (R206). -/
def execBcastRelay (s : State) : Host.Outcome State Fault Refusal := onDev (fun d => d.bcSend true) s

end Sys2Proof.Machine
end

