-- ==== Sys2Proof/Machine/Solver.lean ====
section
/-! DEFINITION. Chapter 7: the schedule solver: requests, checks (Table SOL-3), placement (R219, R220), full recompilation (R223, R224),
results, pending ends (R226) and activation (R227). -/

namespace Sys2Proof.Machine

/-! ### Requests (Table SOL-2) -/

def SolReq.w (q : SolReq) (k : Nat) : Word := q.words.getD k 0
def SolReq.op (q : SolReq) : Nat := getF (q.w 0) 0 4
def SolReq.act (q : SolReq) : Bool := getF (q.w 0) 4 2 == 1
def SolReq.tag (q : SolReq) : Nat := getF (q.w 0) 16 16
def SolReq.stream (q : SolReq) : Nat := getF (q.w 0) 32 18
def SolReq.period (q : SolReq) : Nat := getF (q.w 1) 0 13
def SolReq.early (q : SolReq) : Nat := getF (q.w 2) 0 30
def SolReq.late (q : SolReq) : Nat := getF (q.w 2) 32 30

/-- The ports of PORTS, in ascending order. -/
def SolReq.ports (q : SolReq) : List Nat := (List.range 36).filter (fun p => (q.w 3).toNat.testBit p)

/-- A JOIN record's fields are in range and its reserved fields 0 (code 2). -/
def SolReq.joinOk (q : SolReq) : Bool :=
  getF (q.w 0) 9 7 == 0 && getF (q.w 0) 50 14 == 0 && getF (q.w 1) 13 51 == 0 && decide (1 ≤ q.period ∧ q.period ≤ 4096)
  && getF (q.w 2) 30 2 == 0 && getF (q.w 2) 62 2 == 0 && getF (q.w 3) 36 28 == 0 && getF (q.w 4) 0 2 == 1 && q.w 6 == 0 && q.w 7 == 0

/-- The request's format (code 2). -/
def SolReq.formatOk (q : SolReq) : Bool :=
  decide (getF (q.w 0) 4 2 ≤ 1) && getF (q.w 0) 9 7 == 0 && getF (q.w 0) 50 14 == 0
  && (match q.op with
      | 1 => q.joinOk
      | 2 => (q.words.drop 1).all (fun w => w == 0)
      | 3 => q.stream == 0 && (q.words.drop 1).all (fun w => w == 0)
      | _ => false)

/-! ### State (R210, R211) -/

/-- A cause of DOWN holds. -/
def Dev.solCause (d : Dev) : Bool :=
  !(d.islandOk 36) || !(d.islandOk 34) || !(d.islandOk 35) || [3, 7, 11, 15].all (fun i => d.fenced i)

/-- The job in progress replaced. -/
def Dev.setJob (d : Dev) (j : SolJob) : Dev := { d with sol := { d.sol with job := some j } }

/-- `SOL_STAT.STATE` and QDEPTH, the result registers, brought up to date: DOWN while a cause holds, whatever EN is; entering DOWN ends the job
in progress with code 14 and is reported; once the cause clears STATE is READY, though that job's result may still have to be posted (R211). -/
def Dev.solSync (d : Dev) : Dev :=
  let s := d.gf Reg.solStat 0 2
  let d1 := if d.solCause then
      (if s = 3 then d
       else
         let e := (d.sf Reg.solStat 0 2 3).raise 6 0 0x10 0
         match e.sol.job with
         | some j => if j.phase = 2 then e else e.setJob { j with phase := 2, code := 14 }
         | none => e)
    else if d.sol.job.any (fun j => j.phase != 2 || j.code != 14) then d.sf Reg.solStat 0 2 2
    else if d.gb Reg.solCtl 0 ∧ d.sol.taken then d.sf Reg.solStat 0 2 1
    else d.sf Reg.solStat 0 2 0
  let h := d1.sol.results.headD (0, 0)
  (((d1.sf Reg.solStat 2 5 d1.sol.queue.length).sf Reg.solResStat 0 5 d1.sol.results.length).wr Reg.solRes0 h.1).wr Reg.solRes1 h.2

/-! ### Results (Table SOL-10) -/

/-- A field of a result: its value, or a free value where the specification states none. -/
def Dev.orFree (d : Dev) (w : Nat) (x : Option Nat) : Nat × Dev :=
  match x with
  | some n => (n, d)
  | none => (getF (Config.freeWord d.free) 0 w, d.useFree)

/-- A result is posted.  `bank`, `base`, `gen`, `index`, `psel`, `ofs` are none where no value is stated. -/
def Dev.solPost (d : Dev) (q : SolReq) (code val : Nat) (bank base : Option Nat) (moved : Bool) (gen index psel ofs : Option Nat) : Dev :=
  let b := d.orFree 2 bank
  let c := b.2.orFree 2 base
  let g := c.2.orFree 16 gen
  let i := g.2.orFree 18 index
  let p := i.2.orFree 12 psel
  let o := p.2.orFree 30 ofs
  let w0 := BitVec.ofNat 64 (fld 0 16 q.tag + fld 16 4 code + fld 20 4 val + fld 24 2 b.1 + fld 26 2 c.1 + fld 28 1 (bit moved) + fld 32 16 g.1)
  let w1 := BitVec.ofNat 64 (fld 0 18 i.1 + fld 18 12 p.1 + fld 32 30 o.1)
  { o.2 with sol := { o.2.sol with results := o.2.sol.results ++ [(w0, w1)] } }

/-- Stream ID of a request in INDEX; none for FULL. -/
def SolReq.index (q : SolReq) : Option Nat := if q.op = 3 then none else some q.stream

/-- Results of aborted requests at the front of the queue, while there is room and no job is in progress (R229). -/
def Dev.postAborted (d : Dev) : Nat → Dev
  | 0 => d
  | n + 1 =>
    match d.sol.queue with
    | q :: t =>
      if q.aborted ∧ d.sol.job = none ∧ d.sol.results.length < 16 then
        Dev.postAborted ((({ d with sol := { d.sol with queue := t } }).inc Reg.solAbortCnt).solPost q 13 0 none none false none q.index none none) n
      else d
    | [] => d

/-- The queue after something changed in it. -/
def Dev.solTidy (d : Dev) : Dev := (d.postAborted 16).solSync

/-! ### Submission, abort, activation, EN -/

/-- A request reaches the queue (R212, R233); false where 16 wait. -/
def Dev.solQueue (d : Dev) (words : List Word) (addr len : Nat) : Bool × Dev :=
  if 16 ≤ d.sol.queue.length then (false, d.inc Reg.solRefuseCnt)
  else
    let q : SolReq := { words := words, fileAddr := addr, fileLen := len }
    (true, ({ d with sol := { d.sol with queue := d.sol.queue ++ [q] } }).solSync)

/-- SUBMIT through the registers. -/
def Dev.solSubmit (d : Dev) : Dev :=
  let r := d.solQueue ((List.range 8).map (fun k => d.rd (Reg.solReq k))) (d.gf Reg.solFileAddr 0 35) (d.gf Reg.solFileLen 0 32)
  if r.1 then r.2 else r.2.sb Reg.solStat 15 true

/-- ABORT (R229): it takes effect at the next phase boundary before COMMIT. -/
def Dev.solAbort (d : Dev) : Dev :=
  match d.sol.job with
  | some j => if j.phase = 0 then d.setJob { j with abort := true } else d
  | none => d

/-- The head bank is activated (R227): through `CAL_ACT`, or by a proposal on the main attachment. -/
def Dev.solActivate (d : Dev) : Dev :=
  let b := d.solHead
  let res := fun (x : Dev) (n : Nat) => x.wr Reg.solActStat (BitVec.ofNat 64 (fld 0 3 n + fld 3 2 b))
  if d.bankSt b ≠ 3 then res d 6
  else if d.calRing then
    let d1 := (d.sf Reg.rngMsCtl 0 2 b).msPropose b
    match d1.gf Reg.rngMsStat 4 4 with
    | 0 => res d1 1
    | 4 => res d1 3
    | _ => res d1 4
  else
    let d1 := ((d.sf Reg.calAct 0 2 b).sf Reg.calAct 8 48 0).calActivate b 0
    if d1.bankSt b = 4 then res d1 1 else res d1 3

/-- A write of `SOL_CMD` (R230). -/
def Dev.wrSolCmd (d : Dev) (v : Word) : Dev :=
  if 1 < bit (getB v 0) + bit (getB v 1) + bit (getB v 2) then d.cfgErr Reg.solCmd
  else if getB v 0 then d.solSubmit
  else if getB v 1 then d.solAbort
  else if getB v 2 then d.solActivate
  else d

/-- POP (R231). -/
def Dev.solPop (d : Dev) : Dev := ({ d with sol := { d.sol with results := d.sol.results.drop 1 } }).solTidy

/-- A write of `SOL_RES_STAT`. -/
def Dev.wrSolRes (d : Dev) (v : Word) : Dev := if getB v 63 then d.solPop else d

/-- A write of `SOL_FILE_ADDR`: 64-octet aligned, within the solver region (Table BEN-4). -/
def Dev.wrSolFile (d : Dev) (v : Word) : Dev :=
  let a := getF v 0 35
  if a % 64 = 0 ∧ 0x40000000 ≤ a ∧ a < 0x80000000 then d.wrReg Reg.solFileAddr v else d.outOfRange Reg.solFileAddr

/-- A write of `SOL_CTL`: setting EN sets the head bank (R213) and asks for group 0; clearing it aborts (R229) and stops the group. -/
def Dev.wrSolCtl (d : Dev) (v : Word) : Dev :=
  if inRangeAt Reg.solCtl v then
    let was := d.gb Reg.solCtl 0
    let d1 := d.wrReg Reg.solCtl v
    if was = false ∧ getB v 0 then (d1.sf Reg.solStat 7 2 d1.solBase).solSync
    else if was ∧ getB v 0 = false then
      let d2 := if d1.gf (Reg.benGrpStat 0) 0 3 = 3 then d1.sf (Reg.benGrpStat 0) 0 3 1 else d1
      let d3 : Dev := { d2 with sol := { d2.sol with taken := false, queue := d2.sol.queue.map (fun q => { q with aborted := true }) } }
      (d3.solAbort).solTidy
    else d1
  else d.outOfRange Reg.solCtl

/-- SOLVER_READY (R210, Table BEN-6): the solver holds group 0. -/
def solverReady (d : Dev) : Dev :=
  let g := d.gf (Reg.benGrpStat 0) 0 3
  if d.gb Reg.solCtl 0 ∧ d.sol.taken = false ∧ (g = 1 ∨ g = 2) then
    (({ d with sol := { d.sol with taken := true } }).sf (Reg.benGrpStat 0) 0 3 3).solSync
  else d

/-! ### Placement (R219) -/

/-- Records a job brings with it: stream, REC0, REC1; they stand before those of the stream table. -/
abbrev Recs := List (Nat × Word × Word)

/-- RES_LEN of a stream. -/
def Dev.recLen (d : Dev) (recs : Recs) (s : Nat) : Nat :=
  match recs.find? (fun r => r.1 == s) with
  | some r => getF r.2.1 10 14
  | none => d.sResLen s

/-- The stream has SRC = 0 (host). -/
def Dev.recHost (d : Dev) (recs : Recs) (s : Nat) : Bool :=
  match recs.find? (fun r => r.1 == s) with
  | some r => !(getB r.2.1 4)
  | none => !(d.sFabric s)

/-- Length of a launch's slot on port `p`: W(RES_LEN) and the guard, 2^-48 ns. -/
def Dev.slotLen (d : Dev) (p len : Nat) : Nat := d.wireTime p len + d.gf (Reg.calPortCfg p) 16 16 * nsU

/-- Slots of a port's entries in the hyperperiod: start and length, 2^-48 ns; on a ring port, the control segments too. -/
def Dev.slotsOf (d : Dev) (recs : Recs) (cyc hp p : Nat) (l : List Word) : List (Nat × Nat) :=
  l.filterMap (fun e =>
    let s := (eCyc e * cyc + eOfs e) * nsU
    if eKind e = 1 then some (s, d.slotLen p (d.recLen recs (eArg e)))
    else if eKind e = 2 then some (s, 8 * eArg e * nsU)
    else none)
  ++ (if 32 ≤ p then (List.range hp).map (fun k => (k * cyc * nsU, d.ringSeg (attOf p))) else [])

/-- The open intervals of offsets at which a slot of length `len` in the cycles of a phase would overlap a slot. -/
def offsetBars (cyc hp len : Nat) (cycles : List Nat) (slots : List (Nat × Nat)) : List (Int × Int) :=
  let h : Int := (hp * cyc * nsU : Nat)
  cycles.flatMap (fun c => slots.flatMap (fun s => [-1, 0, 1].map (fun (k : Int) =>
    let at_ : Int := (s.1 : Int) + k * h - ((c * cyc * nsU : Nat) : Int)
    (at_ - (len : Int), at_ + (s.2 : Int)))))

/-- The least whole nanosecond from `o` on that lies in none of the intervals. -/
def leastOfs (bars : List (Int × Int)) : Nat → Nat → Nat
  | 0, o => o
  | n + 1, o =>
    match bars.find? (fun b => decide (b.1 < ((o * nsU : Nat) : Int) ∧ ((o * nsU : Nat) : Int) < b.2)) with
    | none => o
    | some b => leastOfs bars n ((b.2 + (nsU - 1 : Nat)) / (nsU : Nat)).toNat

/-- The lowest feasible offset of a request on port `p` in a phase, none where there is none.  A slot longer than PERIOD cycles would overlap the
stream's next launch. -/
def Dev.portOfs (d : Dev) (recs : Recs) (cyc hp : Nat) (q : SolReq) (p phase : Nat) (l : List Word) : Option Nat :=
  let cycles := (List.range hp).filter (fun c => c % q.period == phase)
  let len := d.slotLen p (d.recLen recs q.stream)
  let bars := offsetBars cyc hp len cycles (d.slotsOf recs cyc hp p l)
  let o := leastOfs bars (bars.length + 1) q.early
  if o ≤ q.late ∧ len ≤ q.period * cyc * nsU then some o else none

/-- The offsets of a request on its ports in a phase, none where some port has none. -/
def Dev.phaseOfs (d : Dev) (recs : Recs) (cyc hp : Nat) (q : SolReq) (phase : Nat) (ents : List (List Word)) : Option (List (Nat × Nat)) :=
  q.ports.foldl (fun (r : Option (List (Nat × Nat))) p =>
    match r, d.portOfs recs cyc hp q p phase (ents.getD p []) with
    | some l, some o => some (l ++ [(p, o)])
    | _, _ => none) (some [])

/-- The largest offset of a phase. -/
def maxOfs (l : List (Nat × Nat)) : Nat := l.foldl (fun m e => max m e.2) 0

/-- PHASE and the offsets by port (R219): the phase whose largest offset is lowest, a tie to the lower phase. -/
def Dev.solPlace (d : Dev) (recs : Recs) (cyc hp : Nat) (q : SolReq) (ents : List (List Word)) : Option (Nat × List (Nat × Nat)) :=
  (List.range q.period).foldl (fun (best : Option (Nat × List (Nat × Nat))) ph =>
    match d.phaseOfs recs cyc hp q ph ents, best with
    | some l, some (b, m) => if maxOfs l < maxOfs m then some (ph, l) else some (b, m)
    | some l, none => some (ph, l)
    | none, b => b) none

/-- An entry inserted in (CYC, OFFSET) order. -/
def insertEntry (e : Word) : List Word → List Word
  | [] => [e]
  | x :: t => if eCyc e < eCyc x ∨ (eCyc e = eCyc x ∧ eOfs e < eOfs x) then e :: x :: t else x :: insertEntry e t

/-- The launch entry of a stream. -/
def launchEntry (s cyc ofs : Nat) : Word := BitVec.ofNat 64 (fld 0 30 ofs + fld 30 12 cyc + fld 42 18 s + fld 60 2 1)

/-- The entries of every port with those of a placed request. -/
def addPlaced (hp : Nat) (q : SolReq) (phase : Nat) (l : List (Nat × Nat)) (ents : List (List Word)) : List (List Word) :=
  ents.zipIdx.map (fun e =>
    match l.find? (fun x => x.1 == e.2) with
    | some x => ((List.range hp).filter (fun c => c % q.period == phase)).foldl (fun m c => insertEntry (launchEntry q.stream c x.2) m) e.1
    | none => e.1)

/-! ### Regions (R220) -/

/-- Bases of the regions of slice `s` for entry counts `n`: as they stand where each has room, else packed from index 0 in ascending port
order; none where the segment cannot hold them (code 9). -/
def sliceRegions (par : CalPar) (pack : Bool) (n : Nat → Nat) (s : Nat) : Option (List (Nat × Nat × Nat)) :=
  let ports := slicePorts s
  let stay := ports.map (fun p => (p, (par.region p).1, n p))
  let clash := stay.any (fun a => decide (0 < a.2.2 ∧ 262144 < a.2.1 + a.2.2)
    || stay.any (fun b => decide (b.1 < a.1) && regionsMeet (a.2.1, a.2.2) (b.2.1, b.2.2)))
  if 262144 < (ports.map n).sum then none
  else if pack ∨ clash then
    some (ports.foldl (fun (r : List (Nat × Nat × Nat)) p => r ++ [(p, (r.map (fun e => e.2.2)).sum, n p)]) [])
  else some stay

/-- The regions of every port. -/
def allRegions (par : CalPar) (pack : Bool) (ents : List (List Word)) : Option (List (Nat × Nat × Nat)) :=
  [0, 1, 2, 3].foldl (fun (r : Option (List (Nat × Nat × Nat))) s =>
    match r, sliceRegions par pack (fun p => (ents.getD p []).length) s with
    | some l, some m => some (l ++ m)
    | _, _ => none) (some [])

/-- What a job puts into its target: the entries of every port, the regions, CYC_NS and HP, PHASE and the offset on the lowest port. -/
structure SolPlan where
  ents : List (List Word)
  regs : List (Nat × Nat × Nat)
  cyc : Nat
  hp : Nat
  psel : Option Nat
  ofs : Option Nat
  deriving DecidableEq, Repr

/-- The host-sourced launch rate exceeds HOST_RATE (R222). -/
def Dev.overRate (d : Dev) (recs : Recs) (cyc hp : Nat) (ents : List (List Word)) : Bool :=
  let n := (ents.map (fun l => (l.filter (fun e => eKind e == 1 && d.recHost recs (eArg e))).length)).sum
  decide (d.gf Reg.solCtl 8 8 * (hp * cyc) < n * 1000)

/-- Checks 9 and 10 over a result. -/
def Dev.finishPlan (d : Dev) (recs : Recs) (par : CalPar) (pack : Bool) (psel ofs : Option Nat) (ents : List (List Word)) : Nat × Option SolPlan :=
  match allRegions par pack ents with
  | none => (9, none)
  | some r => if d.overRate recs par.cyc par.hp ents then (10, none) else (0, some ⟨ents, r, par.cyc, par.hp, psel, ofs⟩)

/-- The plan of a JOIN or LEAVE over a base of parameters `par` and entries `ents`, with the code of the first check it fails. -/
def Dev.incPlan (d : Dev) (q : SolReq) (par : CalPar) (ents : List (List Word)) : Nat × Option SolPlan :=
  let recs : Recs := [(q.stream, q.w 4, q.w 5)]
  if q.op = 1 then
    match d.solPlace recs par.cyc par.hp q ents with
    | none => (8, none)
    | some (ph, l) =>
      d.finishPlan recs par false (some ph) (l.head?.map (fun e => e.2)) (addPlaced par.hp q ph l ents)
  else d.finishPlan [] par false none none (ents.map (fun l => l.filter (fun e => !(eKind e == 1 && eArg e == q.stream))))

/-! ### Checks (Table SOL-3) -/

/-- The entries of every port in a bank. -/
def Dev.bankEnts (d : Dev) (b : Nat) (par : CalPar) : List (List Word) := (List.range 36).map (fun p => (d.entries b par p).map (fun e => e.2))

/-- Some port has a launch entry of the stream. -/
def hasEntry (ents : List (List Word)) (s : Nat) : Bool := ents.any (fun l => l.any (fun e => eKind e == 1 && eArg e == s))

/-- Port `p` may not carry a placed stream (code 5): merged, in a lane mode of validation code 4, or without SCHED_EN. -/
def Dev.portBar (d : Dev) (p : Nat) : Bool :=
  d.mergedAway p || d.gf (Reg.sdsMode p) 0 3 == 0 || (d.gf (Reg.sdsMode p) 0 3 == 2 && decide (d.portRate p < 1000))
  || !(d.gb (Reg.calPortCfg p) 0)

/-- Words 0 to 2 of a record as a JOIN would leave them, before the stream is initialised. -/
def Dev.withRec (d : Dev) (q : SolReq) : Dev := (d.setSw q.stream 1 (q.w 5)).setSw q.stream 2 (q.w 3) |>.setSw q.stream 0 (q.w 4)

/-- Checks 4 to 7 of a stream to be placed. -/
def Dev.placeCode (d : Dev) (q : SolReq) (cyc hp : Nat) : Nat :=
  if !((d.withRec q).recOk q.stream) then 4
  else if q.ports.any d.portBar then 5
  else if hp % q.period ≠ 0 then 6
  else if q.late < q.early ∨ cyc ≤ q.late then 7
  else 0

/-- The stream is pending end (R226). -/
def Dev.pendingEnd (d : Dev) (s : Nat) : Bool := d.sol.ends.any (fun e => e.1 == s)

/-- Checks 2 to 7 of an incremental request. -/
def Dev.incCode (d : Dev) (q : SolReq) (par : CalPar) (ents : List (List Word)) : Nat :=
  if q.formatOk = false then 2
  else if q.op = 1 then
    if d.sType q.stream ≠ 0 ∨ d.pendingEnd q.stream then 3 else d.placeCode q par.cyc par.hp
  else if hasEntry ents q.stream then 0 else 3

/-- The target of a request (R214). -/
def Dev.solTarget (d : Dev) (q : SolReq) : Nat := if getB (q.w 0) 6 then (d.solHead + 1) % 4 else getF (q.w 0) 7 2

/-- Check 11 (R214): the target or the head cannot be used; nor can a target that a COPY in progress reads (R77). -/
def Dev.bankBar (d : Dev) (q : SolReq) (t : Nat) : Bool :=
  t == d.solHead || some t == d.activeBank || !(d.bankSt t == 0 || d.bankSt t == 3) || d.copySources.contains t || (q.op != 3 && decide (d.bankSt d.solHead < 3))

/-! ### Full recompilation (R223, R224) -/

/-- Word `k` of the file's header. -/
def Dev.fileWord (d : Dev) (q : SolReq) (k : Nat) : Word := d.ldW (q.fileAddr + 8 * k)

/-- The records of the file. -/
def Dev.fileRecs (d : Dev) (q : SolReq) : List SolReq :=
  (List.range (getF (d.fileWord q 1) 0 20)).map (fun i =>
    { words := d.ldWs (q.fileAddr + 64 + 64 * i) 8, fileAddr := 0, fileLen := 0 })

/-- The file is accepted (R223). -/
def Dev.fileOk (d : Dev) (q : SolReq) : Bool :=
  let n := getF (d.fileWord q 1) 0 20
  getF (d.fileWord q 0) 0 32 == 0x5A534631 && getF (d.fileWord q 0) 32 32 == 1 && getF (d.fileWord q 1) 20 44 == 0 && decide (n ≤ 262144)
  && getF (d.fileWord q 2) 30 2 == 0 && getF (d.fileWord q 2) 45 19 == 0 && getF (d.fileWord q 3) 32 32 == 0
  && [4, 5, 6, 7].all (fun k => d.fileWord q k == 0)
  && q.fileLen == 64 + 64 * n && getF (d.fileWord q 3) 0 32 == crc32 (d.ldN (q.fileAddr + 64) (64 * n))

/-- Checks 2 to 7 of a record of the file; its ACT, AUTO, BANK and TAG are ignored. -/
def Dev.fileCode (d : Dev) (q : SolReq) (cyc hp : Nat) : Nat :=
  if q.op ≠ 1 ∨ q.joinOk = false then 2
  else if d.pendingEnd q.stream
      ∨ (d.sType q.stream = 1 ∧ (d.sw q.stream 0 ≠ q.w 4 ∨ d.sw q.stream 1 ≠ q.w 5 ∨ d.sw q.stream 2 ≠ q.w 3)) then 3
  else d.placeCode q cyc hp

/-- The records placed one after another from an empty bank: the entries, or the code and index of the first record that fails. -/
def Dev.placeAll (d : Dev) (recs : Recs) (cyc hp : Nat) : List SolReq → Nat → List (List Word) → Nat × Nat × List (List Word)
  | [], _, ents => (0, 0, ents)
  | q :: t, i, ents =>
    match d.fileCode q cyc hp with
    | 0 =>
      match d.solPlace recs cyc hp q ents with
      | none => (8, i, ents)
      | some (ph, l) =>
        let e := addPlaced hp q ph l ents
        if (allRegions {} true e).isNone then (9, i, e) else Dev.placeAll d recs cyc hp t (i + 1) e
    | c => (c, i, ents)

/-- The plan of a FULL job: the code of the first check that fails, the index of the failing record.  A file that is not accepted gives nothing to
judge by checks 3 to 10; check 11 comes before 15. -/
def Dev.fullPlan (d : Dev) (q : SolReq) (b : Nat) : Nat × Option Nat × Option SolPlan :=
  if d.fileOk q = false then (if d.bankBar q b then 11 else 15, none, none)
  else
    let l := d.fileRecs q
    let cyc := getF (d.fileWord q 2) 0 30
    let hp := getF (d.fileWord q 2) 32 13
    let recs : Recs := l.map (fun r => (r.stream, r.w 4, r.w 5))
    match d.placeAll recs cyc hp l 0 (List.replicate 36 []) with
    | (0, _, ents) =>
      match d.finishPlan recs { cyc := cyc, hp := hp } true none none ents with
      | (0, p) => (0, none, p)
      | (c, _) => (c, none, none)
    | (c, i, _) => (c, some i, none)

/-! ### A job (R214, R224, R225) -/

/-- Word `k` of a stream record written by the solver; it ends at an island that is down or fenced (R468). -/
def Dev.solRec (d : Dev) (s k : Nat) (v : Word) : Dev :=
  d.gate4 .joiner (0x2000000 + s * 0x40 + k * 8) (halfIsland (halfOf s)) 4 (fun x => x.writeRec s k v)

/-- Record words 1, 2 and then 0 of a joining stream. -/
def Dev.joinRec (d : Dev) (q : SolReq) : Dev := ((d.solRec q.stream 1 (q.w 5)).solRec q.stream 2 (q.w 3)).solRec q.stream 0 (q.w 4)

/-- TYPE 0b00 written to a stream's record. -/
def Dev.endRec (d : Dev) (s : Nat) : Dev := d.solRec s 0 (setF (d.sw s 0) 0 2 0)

/-- The job has ended with a code; its result is still to be posted. -/
def SolJob.fail (j : SolJob) (code : Nat) (index : Option Nat) : SolJob := { j with phase := 2, code := code, index := index }

/-- SOLVER_JOB_START (R212, R214, R215, R221): checks 2 to 7, the records of a JOIN, and the COPY of the head bank.  Where the target cannot be
used, the checks before code 11 are judged on the head bank as it stands. -/
def solverJobStart (d : Dev) : Dev :=
  match d.sol.queue with
  | [] => d
  | q :: t =>
    if d.gf Reg.solStat 0 2 ≠ 1 ∨ d.sol.job.isSome ∨ q.aborted ∨ 16 ≤ d.sol.results.length then d
    else
      let tgt := d.solTarget q
      let head := d.solHead
      let j : SolJob := { req := q, target := tgt, base := if q.op = 3 then tgt else head, index := q.index }
      let d1 : Dev := ({ d with sol := { d.sol with queue := t } })
      let d2 := (d1.sf Reg.solStat 9 2 tgt).sb Reg.solStat 11 true
      if q.op = 3 ∧ q.formatOk then (d2.setJob j).solSync
      else
        let par := (d.bank head).par
        let ents := d.bankEnts head par
        let c := d.incCode q par ents
        if c ≠ 0 then (d2.setJob (j.fail c q.index)).solSync
        else
          let d3 := if q.op = 1 then d2.joinRec q else d2
          let wrote := if q.op = 1 then [q.stream] else []
          if d.bankBar q tgt then
            let p := (d.incPlan q par ents).1
            (d3.setJob { j.fail (if p = 0 then 11 else p) q.index with wrote := wrote }).solSync
          else ((d3.calCopy tgt head).setJob { j with wrote := wrote, touched := true, ends := if q.op = 2 then [q.stream] else [] }).solSync

/-- A plan written into the target bank: entries of every port and the shadow parameters. -/
def Dev.writePlan (d : Dev) (b : Nat) (p : SolPlan) : Dev :=
  let d1 := p.regs.foldl (fun (x : Dev) r =>
    (x.stWs (entryAddr b (sliceOf r.1) r.2.1) (p.ents.getD r.1 [])).wr (Reg.calDir b r.1) (BitVec.ofNat 64 (fld 0 18 r.2.1 + fld 32 19 r.2.2))) d
  (d1.sf (Reg.calBankCyc b) 0 30 p.cyc).sf (Reg.calBankHp b) 0 13 p.hp

/-- SOLVER_PLACEMENT (R219, R220, R224): the copy is complete; the plan is made, written and committed.  ABORT takes effect here. -/
def solverPlacement (d : Dev) : Dev :=
  match d.sol.job with
  | none => d
  | some j =>
    let b := j.target
    if j.phase ≠ 0 ∨ d.bankSt b = 1 then d
    else if j.abort then d.setJob (j.fail 13 j.req.index)
    else if j.req.op = 3 then
      match d.fullPlan j.req b with
      | (0, _, some p) =>
        if d.bankBar j.req b then d.setJob (j.fail 11 none)
        else
          let l := d.fileRecs j.req
          let new := ((l.filter (fun r => d.sType r.stream == 0)).map (fun r => r.stream)).dedup
          let d1 := (l.filter (fun r => d.sType r.stream == 0)).foldl (fun (x : Dev) r => x.joinRec r) d
          let head := d.solHead
          let gone := ((d.bankEnts head (d.bank head).par).flatMap (fun m => (m.filter (fun e => eKind e == 1)).map eArg)).dedup.filter
            (fun s => !(l.any (fun r => r.stream == s)))
          let d2 := if d1.bankSt b = 3 then d1.calUnstage b else d1
          ((d2.writePlan b p).calCommit b).setJob { j with phase := 1, wrote := new, ends := gone, touched := true }
      | (c, i, _) => d.setJob (j.fail c i)
    else
      let par := d.shadowPar b
      match d.incPlan j.req par (d.bankEnts b par) with
      | (0, some p) => ((d.writePlan b p).calCommit b).setJob { j with phase := 1, psel := p.psel, ofs := p.ofs }
      | (c, _) => d.setJob (j.fail c j.req.index)

/-- The target of a job that failed is left IDLE (R221); the head bank is unchanged, and so is a bank staged before the solver went DOWN (R211). -/
def Dev.solDropTarget (d : Dev) (j : SolJob) (code : Nat) : Dev :=
  let b := j.target
  if d.bankSt b = 3 ∧ b ≠ d.solHead ∧ (j.touched ∨ code ≠ 14) then
    let e := d.calUnstage b
    { e with sol := { e.sol with owns := Sparse.del e.sol.owns b } }
  else if j.touched then { d with sol := { d.sol with owns := Sparse.del d.sol.owns b } } else d

/-- SOLVER_RESULT_POST (R213, R217, R221, R225, R227): the result is posted, the head updated, the lock released.  A bank that passed its COMMIT
and has been scheduled, handed over or made active since counts as staged. -/
def solverResultPost (d : Dev) : Dev :=
  match d.sol.job with
  | none => d
  | some j =>
    let b := j.target
    if j.phase = 0 ∨ d.bankSt b = 1 ∨ d.bankSt b = 2 then d
    else
      let code := if j.phase = 2 then j.code else if 3 ≤ d.bankSt b then 0 else 12
      let val := if code = 12 then d.gf (Reg.calBankStat b) 4 4 else 0
      let n := d.sol.jobs + 1
      let gen := d.gf (Reg.calGen b) 0 16
      let d1 := if code = 0 then
          let e := (d.sf Reg.solStat 7 2 b).inc Reg.solJobOkCnt
          { e with sol := { e.sol with jobs := n, owns := Sparse.put e.sol.owns b (n, gen), ends := e.sol.ends ++ j.ends.map (fun s => (s, n)) } }
        else
          let e := d.inc (if code = 13 then Reg.solAbortCnt else Reg.solRefuseCnt)
          j.wrote.foldl (fun (x : Dev) s => x.endRec s) (e.solDropTarget j code)
      let d2 := d1.solPost j.req code val (some b) (some j.base) j.moved (some gen) j.index j.psel j.ofs
      let d3 := (({ d2 with sol := { d2.sol with job := none } }).sb Reg.solStat 11 false)
      let d4 := if code = 0 ∧ j.req.act ∧ j.moved = false then d3.solActivate else d3
      d4.solTidy

/-- PENDING_END_WRITE (R226): the active bank holds the result that removed them, or a later one. -/
def pendingEndWrite (d : Dev) : Dev :=
  match d.activeBank.bind (Sparse.find d.sol.owns) with
  | some (n, _) =>
    if d.gf Reg.solStat 0 2 = 1 ∨ d.gf Reg.solStat 0 2 = 2 then
      let due := d.sol.ends.filter (fun e => decide (e.2 ≤ n))
      due.foldl (fun (x : Dev) e => x.endRec e.1) { d with sol := { d.sol with ends := d.sol.ends.filter (fun e => !(decide (e.2 ≤ n))) } }
    else d
  | none => d

/-! ### Meanings -/

/-- Meaning of SOL_SUBMIT: a write of `SOL_CMD` with SUBMIT = 1. -/
def execSolSubmit (r : Req) (v : Word) (s : State) : Host.Outcome State Fault Refusal :=
  onDev (fun d => d.gate r Reg.solCmd (fun x => x.wrSolCmd (setB v 0 true))) s

/-- Meaning of SOL_ABORT: a write of `SOL_CMD` with ABORT = 1. -/
def execSolAbort (r : Req) (v : Word) (s : State) : Host.Outcome State Fault Refusal :=
  onDev (fun d => d.gate r Reg.solCmd (fun x => x.wrSolCmd (setB v 1 true))) s

/-- Meaning of SOL_ACTIVATE: a write of `SOL_CMD` with ACTIVATE = 1. -/
def execSolActivate (r : Req) (v : Word) (s : State) : Host.Outcome State Fault Refusal :=
  onDev (fun d => d.gate r Reg.solCmd (fun x => x.wrSolCmd (setB v 2 true))) s

/-- Meaning of SOL_RESULT_POP: a write of `SOL_RES_STAT` with POP = 1. -/
def execSolResultPop (r : Req) (v : Word) (s : State) : Host.Outcome State Fault Refusal :=
  onDev (fun d => d.gate r Reg.solResStat (fun x => x.wrSolRes (setB v 63 true))) s

/-- Meaning of SOLVER_ENABLE: a write of `SOL_CTL` with EN = 1. -/
def execSolverEnable (r : Req) (v : Word) (s : State) : Host.Outcome State Fault Refusal :=
  onDev (fun d => d.gate r Reg.solCtl (fun x => x.wrSolCtl (setB v 0 true))) s

/-- Meaning of SOLVER_READY. -/
def execSolverReady (s : State) : Host.Outcome State Fault Refusal := onDev solverReady s

/-- Meaning of SOLVER_DISABLE: a write of `SOL_CTL` with EN = 0. -/
def execSolverDisable (r : Req) (v : Word) (s : State) : Host.Outcome State Fault Refusal :=
  onDev (fun d => d.gate r Reg.solCtl (fun x => x.wrSolCtl (setB v 0 false))) s

/-- Meaning of SOLVER_JOB_START. -/
def execSolverJobStart (s : State) : Host.Outcome State Fault Refusal := onDev solverJobStart s

/-- Meaning of SOLVER_PLACEMENT. -/
def execSolverPlacement (s : State) : Host.Outcome State Fault Refusal := onDev solverPlacement s

/-- Meaning of SOLVER_RESULT_POST. -/
def execSolverResultPost (s : State) : Host.Outcome State Fault Refusal := onDev solverResultPost s

/-- Meaning of PENDING_END_WRITE. -/
def execPendingEndWrite (s : State) : Host.Outcome State Fault Refusal := onDev pendingEndWrite s

end Sys2Proof.Machine
end

