-- ==== Sys2Proof/Machine/Bench.lean ====
section
/-! DEFINITION. Chapter 13: the timer of the harts (R394), the interrupts of a hart, the states of the Bench groups (Table BEN-6). -/

namespace Sys2Proof.Machine

/-! ### Harts (R393, R394) -/

/-- `time` in ns: (SEC × 10^9 + NS) mod 2^64. -/
def Dev.time (d : Dev) : Nat := d.now / nsU % 2 ^ 64

/-- The machine timer interrupt of hart `h` is pending. -/
def Dev.mtip (d : Dev) (h : Nat) : Bool := decide ((d.rd (Reg.benTimecmp h)).toNat ≤ d.time)

/-- The machine external interrupt of hart `h` is pending (Table BEN-9). -/
def Dev.meip (d : Dev) (h : Nat) : Bool := d.gf (Reg.benIrq h) 0 3 &&& d.gf (Reg.benIrq h) 16 3 != 0

/-- BENCH_TIMER_INTERRUPT (R394): `time` reaches BEN_TIMECMP[h]. -/
def benchTimerInterrupt (h : Nat) (d : Dev) : Dev :=
  if d.mtip h then d else d.waitLocal ((d.now / nsU + ((d.rd (Reg.benTimecmp h)).toNat - d.time)) * nsU)

/-! ### Group states (Table BEN-6) -/

/-- `BEN_GRP_STAT[g].STATE`. -/
def Dev.grp (d : Dev) (g : Nat) : Nat := d.gf (Reg.benGrpStat g) 0 3

/-- Group `g` enters a state. -/
def Dev.setGrp (d : Dev) (g st : Nat) : Dev := d.sf (Reg.benGrpStat g) 0 3 st

/-- Group `g` as it comes up: group 0 SOLVER where the solver is enabled, any other STOPPED; FAULTED while its island is fenced. -/
def Dev.grpUp (d : Dev) (g : Nat) : Dev :=
  if d.fenced (36 + g) then d.setGrp g 4
  else if g = 0 ∧ d.gb Reg.solCtl 0 then ({ d with sol := { d.sol with taken := true } }).setGrp 0 3 else d.setGrp g 1

/-- The device enters Full. -/
def Dev.benchOn (d : Dev) : Dev := ((List.range 8).foldl (fun (x : Dev) g => x.grpUp g) d).solSync

/-- The device leaves Full: every group is OFF, and the `BEN_` registers return to their power-on values (Table PWR-10). -/
def Dev.benchOff (d : Dev) : Dev :=
  let d1 : Dev := { d with sol := { d.sol with taken := false } }
  ((d1.aqStop benchFn).clearRegs 0x5000000 0x5100000).solSync

/-- The island of group `g` is fenced (Tables BEN-6, FLT-6). -/
def Dev.benchFault (d : Dev) (g : Nat) : Dev :=
  let d1 : Dev := if g = 0 then { d with sol := { d.sol with taken := false } } else d
  if d.grp g = 0 then d1 else d1.setGrp g 4

/-- The fence of its island is released: STOPPED, and group 0 is the solver's again while `SOL_CTL.EN` = 1 (R211). -/
def Dev.benchBack (d : Dev) (g : Nat) : Dev := if d.grp g = 0 then d else d.grpUp g

/-- Meaning of BENCH_TIMER_INTERRUPT. -/
def execBenchTimerInterrupt (h : Fin 32) (s : State) : Host.Outcome State Fault Refusal := onDev (benchTimerInterrupt h.val) s

end Sys2Proof.Machine
end

