-- ==== Sys2Proof/Machine/Dma.lean ====
section
/-! DEFINITION. Chapter 11: DMA commands and device rings (R353–R358, Table DMA-6, R371), and the translation unit: completions, page
requests, invalidation (R362–R369). -/

namespace Sys2Proof.Machine

/-! ### Commands of a channel (Table DMA-6) -/

/-- COMMIT (R356): the target is checked and the shadow set becomes the committed copy. -/
def Dev.dmaCommit (d : Dev) (c : Nat) : Dev :=
  let chain := d.rd (Reg.dmaShChain c)
  let cfg := d.rd (Reg.dmaShCfg c)
  let t := getF cfg 16 16
  let ok : Bool := if getB cfg 4 then decide (t < 16) && d.gb (Reg.dmaCrCfg t) 20
    else (match d.cq t with | some q => q.fn == getF cfg 0 2 | none => false)
  if ok then (d.modChan c (fun x => { x with comChain := chain, comCfg := cfg })).sf (Reg.dmaGen c) 0 16 (d.gf (Reg.dmaGen c) 0 16 + 1)
  else d.dmaRef c 3

/-- HANDOVER (R357). -/
def Dev.dmaHandoverCmd (d : Dev) (c : Nat) : Dev :=
  let st := d.chSt c
  let valid := d.gb (Reg.dmaGen c) 32
  if st = 5 then d.dmaRef c 1
  else if valid ∧ d.genDue c = false then d.dmaRef c 2
  else if st = 0 then
    (if valid = false ∧ d.gf (Reg.dmaGen c) 0 16 = 0 then d.dmaRef c 2 else (d.dmaHandover c).dmaRun c)
  else d.sb (Reg.dmaChStat c) 3 true

/-- CONT (R359): the failing beat is issued again, or a descriptor of bad format or unread meets its end again. -/
def Dev.dmaCont (d : Dev) (c : Nat) : Dev :=
  if d.chSt c = 4 then
    let d1 := (d.setCh c 1).modChan c Chan.rewound
    let x := d1.chan c
    (if !x.ws.isEmpty && x.formatBad then d1.dmaFail c 3 0 (x.desc.toNat / 64 * 64) 4 else d1).dmaRun c
  else d.dmaRef c 1

/-- SKIP (R359): the halted descriptor is passed over. -/
def Dev.dmaSkip (d : Dev) (c : Nat) : Dev := if d.chSt c = 4 then (d.dmaBoundary c).dmaRun c else d.dmaRef c 1

/-- ABORT (Table DMA-6, R355, R358, R369). -/
def Dev.dmaAbort (d : Dev) (c : Nat) : Dev :=
  let st := d.chSt c
  let x := d.chan c
  if st = 0 ∨ st = 5 then d.dmaRef c 1
  else
    let d1 := if x.held.isSome then (d.dmaUnwait c).inc (Reg.dmaRecDropCnt c) else d
    let rec_ := decide (st = 1 ∨ st = 2) && !x.ws.isEmpty
    let d2 := ((d1.dmaDropWaits c true).modChan c (fun y =>
      { y with held := none, xw := [], err := none, rd := 0, lost := false, abortRec := rec_ })).sb (Reg.dmaChStat c) 3 false
    ((d2.setCh c 5).dmaRun c).atsGo

/-- A write of `DMA_CH_CMD[c]` (R371): OP outside 1 to 6 is ignored; GO executes it. -/
def Dev.wrDmaCmd (d : Dev) (c : Nat) (v : Word) : Dev :=
  let op := getF v 0 3
  if op = 0 ∨ op = 7 then d.dmaRef c 4
  else
    let d1 := d.sf (Reg.dmaChCmd c) 0 3 op
    if getB v 63 then
      (match op with
       | 1 => d1.dmaCommit c
       | 2 => d1.dmaHandoverCmd c
       | 3 => d1.dmaCont c
       | 4 => d1.dmaSkip c
       | 5 => d1.dmaAbort c
       | _ => d1.sb (Reg.dmaChStat c) 3 false)
    else d1

/-- DMA_DESCRIPTOR_READ (R347, R348): the descriptor read arrives, or its read fails; one in the device map is read there (R343, R398). -/
def dmaDescriptorRead (c : Nat) (bad : Bool) (ws : List Word) (d : Dev) : Dev :=
  let x := d.chan c
  if x.rd ≠ 2 ∨ d.islandOk 45 = false then d
  else
    let a := x.rdAt.toNat / 64 * 64
    let dev := getB x.rdAt 0
    let ok : Bool := if dev then d.hbmOk && (decide (a + 64 ≤ 0x21400000 ∨ (0x22000000 ≤ a ∧ a + 64 ≤ 0x24000000)
        ∨ (0x40000000 ≤ a ∧ a + 64 ≤ 0x600000000))) && (List.range 8).all (fun k => !(d.isBad (a + 8 * k))) else !bad
    (d.modChan c (fun y => if ok then { y with rd := 3, rdWs := if dev then d.ldWs a 8 else ws }
      else { y with rd := 4, rdErr := if dev then 2 else 1 })).dmaRun c

/-! ### Device rings (R353, R355, R371) -/

/-- Held records of ring `r` written in turn while there is space (R355). -/
def Dev.drainRing : Nat → Dev → Nat → Dev
  | 0, d, _ => d
  | n + 1, d, r =>
    match (d.dring r).order with
    | [] => d
    | c :: _ =>
      if d.ringFull r then d
      else match d.dmaRelease c (fun y => y.modRing r (fun z => { z with order := z.order.drop 1, ovf := false })) with
        | (true, d1) => Dev.drainRing n d1 r
        | (false, d1) => d1

/-- A write of `DMA_CR_CFG[r]` (R353, R371). -/
def Dev.wrCrCfg (d : Dev) (r : Nat) (v : Word) : Dev :=
  let a := Reg.dmaCrCfg r
  let old := d.rd a
  if inRangeAt a v = false then d
  else if getB old 20 ∧ (getF v 0 7 ≠ getF old 0 7 ∨ getB v 19 ≠ getB old 19 ∨ getF v 32 20 ≠ getF old 32 20) then d
  else
    let d1 := d.wrReg a v
    if getB v 20 ∧ getB old 20 = false then
      (((d1.modRing r (fun _ => {})).wr (Reg.dmaCrHead r) 0).sb (Reg.dmaCrStat r) 18 false)
    else d1

/-- A write of `DMA_CR_BASE[r]`: ignored while EN = 1 (R371). -/
def Dev.wrCrBase (d : Dev) (r : Nat) (v : Word) : Dev := if d.gb (Reg.dmaCrCfg r) 20 then d else d.wrReg (Reg.dmaCrBase r) v

/-- A write of `DMA_CR_HEAD[r]` under the rules of R314. -/
def Dev.wrCrHead (d : Dev) (r : Nat) (v : Word) : Dev :=
  let x := d.dring r
  let n := 2 ^ d.gf (Reg.dmaCrCfg r) 0 5
  let h := getF v 0 16
  let rel := (h + n - x.head % n) % n
  if d.gb (Reg.dmaCrCfg r) 20 = false ∨ n ≤ h ∨ x.tail - x.head < rel then d
  else Dev.drainRing 65 ((d.sf (Reg.dmaCrHead r) 0 16 h).modRing r (fun z => { z with head := z.head + rel })) r

/-! ### Translation: what an engine does (Table DMA-8) -/

/-- ENGINE of `XLT_FAIL_INFO`. -/
def Want.engine : Want → Nat
  | .dmaDesc _ | .dmaIdx _ | .dmaSrc _ | .dmaDst _ | .dmaRec _ => 1
  | .tsq => 2
  | _ => 0

/-- A DMA side meets a fault and waits: XLATE_WAIT; the other sides go on where they may. -/
def Dev.dmaWait (d : Dev) (c k : Nat) : Dev :=
  ((d.modChan c (fun x => { x with xw := if x.xw.contains k then x.xw else k :: x.xw })).dmaSync c).dmaRun c

/-- A DMA side may go on. -/
def Dev.dmaWake (d : Dev) (c k : Nat) : Dev := ((d.modChan c (fun x => { x with xw := x.xw.filter (· != k) })).dmaSync c).dmaRun c

/-- A CQ whose memory is not present counts as full: its completions are held from now on (R328). -/
def Dev.cqStall (d : Dev) (q : Nat) : Dev := (d.modCq q (fun x => { x with stall := true })).overflow q

/-- The access meets a translation fault and waits for a page response (Table DMA-8). -/
def Dev.faultWant (d : Dev) : Want → Dev
  | .frame q n => d.cutFault q n
  | .cqWrite q => d.cqStall q
  | .wback q => match d.sq q with | some s => d.cqStall s.cq | none => d
  | .rxWrite q _ => d.modSq q (fun x => { x with rxStall := true })
  | .dmaIdx c => d.dmaWait c 0
  | .dmaSrc c => d.dmaWait c 1
  | .dmaDst c => d.dmaWait c 2
  | .dmaDesc c => d.dmaWait c 3
  | _ => d

/-- The frame that waits for the buffer of entry `n` of queue `q`. -/
def Dev.rxWaiting (d : Dev) (q n : Nat) : Option Nat := (d.hq.rxWait.find? (fun e => e.2.1 == q && e.2.2 == n)).map (fun e => e.1)

/-- It waits no longer; the RX SQ stays held while another of its buffers waits for a page response (R336). -/
def Dev.rxUnwait (d : Dev) (q n : Nat) : Dev :=
  let still := d.xlt.waits.any (fun w => w.prg && (match w.want with | .rxWrite a b => a == q && b != n | _ => false))
  ({ d with hq := { d.hq with rxWait := d.hq.rxWait.filter (fun e => !(e.2.1 == q && e.2.2 == n)) } }).modSq q (fun x => { x with rxStall := still })

/-- Channels that stop with their record still to be written to CQ `q`. -/
def Dev.abortsAt (d : Dev) (q : Nat) : List Nat :=
  (List.range 64).filter (fun c => d.chSt c == 5 && (d.chan c).abortRec && !(d.gb (Reg.dmaChCfg c) 4) && d.gf (Reg.dmaChCfg c) 16 16 == q)

/-- The access has its translation and goes on. -/
def Dev.resumeWant (d : Dev) : Want → Dev
  | .sqRead q => d.pumpSq q
  | .frame q n => d.frameResume q n
  | .cqWrite q => (d.modCq q (fun x => { x with stall := false })).drainCq q
  | .wback q => match d.sq q with | some s => (d.modCq s.cq (fun x => { x with stall := false })).drainCq s.cq | none => d
  | .rxWrite q n => match d.rxWaiting q n with | some id => (d.rxUnwait q n).rxWrite id q n | none => d
  | .dmaIdx c => d.dmaWake c 0
  | .dmaSrc c => d.dmaWake c 1
  | .dmaDst c => d.dmaWake c 2
  | .dmaDesc c => d.dmaWake c 3
  | .dmaRec c => Dev.drainRing 65 d (d.gf (Reg.dmaChCfg c) 16 16)
  | .aqSq _ | .aqCq _ | .aqOut _ | .tsq => d

/-- A side's access fails for want of a translation (KIND 3). -/
def Dev.dmaXfail (d : Dev) (c k : Nat) : Dev :=
  let x := d.chan c
  (d.dmaFail c k (x.side k).iss (x.addrAt k (x.side k).iss) 3).dmaRun c

/-- The Try-square's access failed: the pass ends with ERR set (R304). -/
def Dev.tsqFail (d : Dev) : Dev :=
  let d1 : Dev := { d with fwd := { d.fwd with tsqReads := [], tsqCfg := [], tsqRegion := 0, tsqIdx := 0 } }
  (d1.sb Reg.fwdTsqStat 2 true).sb Reg.fwdTsqStat 0 false

/-- The access has failed (Table DMA-8, R328, R336, R304). -/
def Dev.failWant (d : Dev) : Want → Dev
  | .sqRead q => d.entryUnread q 6
  | .frame q n => d.dataFailed q n 6
  | .cqWrite q => (d.abortsAt q).foldl (fun (x : Dev) c => x.dmaRun c) (d.cqFail q)
  | .wback q => match d.sq q with | some s => d.cqFail s.cq | none => d
  | .rxWrite q n => match d.rxWaiting q n with | some id => ((d.rxUnwait q n).rxDrop id q).endSqe q n 6 0 0 | none => d
  | .aqSq f | .aqCq f => d.aqFail f
  | .aqOut f => d.modAq f (fun x => { x with outBad := true })
  | .dmaDesc c => (d.modChan c (fun x => { x with rd := 4, rdErr := 3, xw := x.xw.filter (· != 3) })).dmaRun c
  | .dmaIdx c => d.dmaXfail c 0
  | .dmaSrc c => d.dmaXfail c 1
  | .dmaDst c => d.dmaXfail c 2
  | .dmaRec c =>
    let d1 := d.sb (Reg.dmaCrStat (d.gf (Reg.dmaChCfg c) 16 16)) 18 true
    if d1.chSt c = 5 then d1.dmaRun c else d1
  | .tsq => d.tsqFail

/-- A translation fails (R367): counted, latched, raised; then the engine's part. -/
def Dev.failAccess (d : Dev) (w : XWait) (cause : Nat) : Dev :=
  let d1 := d.inc Reg.xltFailCnt
  let d2 := if d1.gb Reg.xltFailInfo 63 then d1
    else (d1.wr Reg.xltFailAddr (BitVec.ofNat 64 w.addr)).wr Reg.xltFailInfo (BitVec.ofNat 64
      (fld 0 16 w.rid + fld 16 20 (w.pasid.getD 0) + fld 36 1 (bit w.pasid.isSome) + fld 37 2 w.want.engine + fld 39 3 cause
        + fld 42 1 (bit w.write) + fld 63 1 1))
  (d2.raise 13 0 0x10 (w.rid + fld 16 20 (w.pasid.getD 0))).failWant w.want

/-! ### Translation completions and page requests (R363–R365) -/

/-- One wait taken off the list. -/
def Dev.dropWait (d : Dev) (w : XWait) : Dev := { d with xlt := { d.xlt with waits := d.xlt.waits.erase w } }

/-- A wait has this key. -/
def XWait.on (w : XWait) (rid : Nat) (pasid : Option Nat) (page : Nat) : Bool := w.rid == rid && w.pasid == pasid && w.addr / 4096 == page

/-- The accesses a Translation Completion answers: the first with this key whose Translation Request is out, and with one that was sent after a
page response every other access that waited for that response (R364). -/
def Dev.waitsFor (d : Dev) (rid : Nat) (pasid : Option Nat) (page : Nat) : List XWait :=
  let vias := d.xlt.waits.filter (fun w => w.via && w.on rid pasid page)
  match d.xlt.waits.find? (fun w => w.sent && w.on rid pasid page) with
  | some x => if x.again then x :: vias else [x]
  | none => vias

/-- A translation put in the ATC, its translated page `to_`: at most 1 GiB each, 16,384 in all, least recently used evicted (R363). -/
def Dev.fillAtc (d : Dev) (rid : Nat) (pasid : Option Nat) (addr size to_ : Nat) (r w : Bool) : Dev :=
  let n := 2 ^ clampN 12 30 size
  let e : AtcEntry := { rid := rid, pasid := pasid, base := addr / n * n, size := n, r := r, w := w, phys := to_ * 4096 / n * n }
  { d with xlt := { d.xlt with atc := (e :: d.xlt.atc.filter (fun x => !(x.rid == rid && x.pasid == pasid && decide (x.base ≤ addr ∧ addr < x.base + x.size)))).take 16384 } }

/-- A Page Request with the Last bit set; for a page already asked for none is sent (R364). -/
def Dev.pageRequest (d : Dev) (w : XWait) : Dev :=
  if d.xlt.prgs.any (fun p => p.rid == w.rid && p.pasid == w.pasid && p.page == w.addr / 4096) then d
  else ({ d with xlt := { d.xlt with prgs := d.xlt.prgs ++ [{ rid := w.rid, pasid := w.pasid, page := w.addr / 4096 }] } } : Dev).prgGo

/-- One access is answered by a Translation Completion: it goes on, fails, or waits for a page response (R364, R365). -/
def Dev.answerWait (d : Dev) (x : XWait) (ok r w : Bool) : Dev :=
  let pf := pfOf (fnOfRid x.rid)
  if ok = false then d.failAccess x 1
  else if (if x.write then w else r) then d.resumeWant x.want
  else if x.again then d.failAccess x 6
  else if d.gb Reg.xltStat pf then d.failAccess x 4
  else if (d.fn pf).pri = false then d.failAccess x 2
  else
    let y : XWait := { x with prg := true, sent := false }
    let d3 : Dev := { d with xlt := { d.xlt with waits := d.xlt.waits ++ [y] } }
    (d3.pageRequest y).faultWant x.want

/-- TRANSLATION_COMPLETION (R363, R364). -/
def translationCompletion (rid : Nat) (pasid : Option Nat) (page : Nat) (ok : Bool) (size : AtsRange) (r w : Bool) (d : Dev) : Dev :=
  let l := d.waitsFor rid pasid page
  if d.islandOk 45 = false ∨ l = [] then d
  else
    let d1 := l.foldl (fun (x : Dev) y => x.dropWait y) d
    let d2 := if ok && (r || w) then d1.fillAtc rid pasid (page * 4096) size.log.val size.page.toNat r w else d1
    (l.foldl (fun (x : Dev) y => x.answerWait y ok r w) d2).atsGo

/-- Waits of a page request, or of every request of a PF. -/
def Dev.failWaits (d : Dev) (sel : XWait → Bool) (cause : Nat) : Dev :=
  let l := d.xlt.waits.filter (fun w => w.prg && sel w)
  l.foldl (fun (x : Dev) w => x.failAccess w cause) { d with xlt := { d.xlt with waits := d.xlt.waits.filter (fun w => !(w.prg && sel w)) } }

/-- The page request is over. -/
def Dev.dropPrg (d : Dev) (sel : Prg → Bool) : Dev :=
  ({ d with xlt := { d.xlt with prgs := d.xlt.prgs.filter (fun p => !(sel p)) } } : Dev).prgGo

/-- The accesses that waited for a page ask once more, with one Translation Request for all of them (R364). -/
def Dev.askAgain (d : Dev) (rid : Nat) (pasid : Option Nat) (page : Nat) : Dev :=
  let first := d.xlt.waits.find? (fun w => w.prg && w.on rid pasid page)
  ({ d with xlt := { d.xlt with waits := d.xlt.waits.map (fun w =>
    if w.prg && w.on rid pasid page then { w with prg := false, again := true, sent := false, via := some w != first } else w) } } : Dev).atsGo

/-- PAGE_RESPONSE (R364, R365, R369). -/
def pageResponse (rid : Nat) (pasid : Option Nat) (page code : Nat) (d : Dev) : Dev :=
  if d.islandOk 45 = false then d
  else
    let d0 := d.inc Reg.xltPrgCnt
    let isP := fun (p : Prg) => p.sent && p.rid == rid && p.pasid == pasid && p.page == page
    if d.xlt.prgs.any isP = false then d0
    else match code with
      | 0 => (d0.askAgain rid pasid page).dropPrg isP
      | 1 => (d0.dropPrg isP).failWaits (fun w => w.on rid pasid page) 3
      | _ =>
        let pf := pfOf (fnOfRid rid)
        let same := fun (r : Nat) => pfOf (fnOfRid r) == pf
        ((d0.sb Reg.xltStat pf true).dropPrg (fun p => same p.rid)).failWaits (fun w => same w.rid) 4

/-- PRG_TIMEOUT (R364): the oldest page request has had no response within PRG_TO_MS. -/
def prgTimeout (d : Dev) : Dev :=
  match d.xlt.prgs.find? (fun p => p.sent) with
  | none => d
  | some p =>
    if d.islandOk 45 = false then d
    else
      let d1 := (d.waitUp (p.at_ + d.gf Reg.xltCfg 0 16 * msU)).inc Reg.xltPrgToCnt
      (d1.dropPrg (fun q => q == p)).failWaits (fun w => w.on p.rid p.pasid p.page) 5

/-! ### Invalidation (R366) -/

/-- Addresses and lengths of a side's beats that have not been answered. -/
def Chan.underWay (x : Chan) (k : Nat) : List (Nat × Nat) :=
  let s := x.side k
  if s.iss ≤ s.ack then []
  else if x.fix k then [(x.addrAt k 0, x.width k)]
  else if k = 1 ∧ x.mode = 4 then (List.range ((s.iss - s.ack) / x.srcW)).map (fun i => (x.addrAt 1 (s.ack + i * x.srcW), x.srcW))
  else [(x.addrAt k s.ack, s.iss - s.ack)]

/-- DSEQ and generation of a channel's current descriptor. -/
def Dev.chanSeq (d : Dev) (c : Nat) : Nat := d.gf (Reg.dmaChStat c) 16 16 + 65536 * d.gf (Reg.dmaGen c) 16 16

/-- Host reads under way at addresses that `hit` picks by routing ID, PASID, address and length: entry reads, frame data, descriptors, DMA
beats, shadow reads (R366). -/
def Dev.busyReads (d : Dev) (hit : Nat → Option Nat → Nat → Nat → Bool) : List Busy :=
  ((d.hq.sqs.filter (fun e => e.2.fn != benchFn)).flatMap (fun e =>
    let h := hit (ridOf e.2.fn) e.2.pasid
    (if e.2.rd = 2 ∧ h (e.2.base + e.2.fetched % e.2.size * 64) 64 then [⟨.sqRead e.1, e.2.fetched, 0⟩] else [])
    ++ (e.2.flight.filter (fun x => x.reading && h x.addr x.len)).map (fun x => (⟨.frame e.1 x.n, 0, 0⟩ : Busy))))
  ++ d.dma.ch.flatMap (fun e =>
    let h := hit (ridOf (d.chPf e.1)) (d.chPasid e.1)
    (if e.2.rd = 2 ∧ getB e.2.rdAt 0 = false ∧ h (e.2.rdAt.toNat / 64 * 64) 64 then [⟨.dmaDesc e.1, e.2.rdAt.toNat, 0⟩] else [])
    ++ ([0, 1, 2].filter (fun k => !(e.2.sp k) && e.2.reads k && (e.2.underWay k).any (fun r => h r.1 r.2))).map (fun k =>
        (⟨dmaWant e.1 k, (e.2.side k).iss, d.chanSeq e.1⟩ : Busy)))
  ++ (d.fwd.tsqReads.filter (fun r => r.sent && hit (ridOf 0) none ((d.tsqC r.region 1).toNat + (if d.tsqList r.region then 32 else 8) * r.idx) 32)).map
      (fun r => ⟨.tsq, r.region * 2 ^ 32 + r.idx, 0⟩)

/-- A read that was under way has not completed. -/
def Dev.stillReads (d : Dev) (b : Busy) : Bool :=
  let side := fun (c k : Nat) => d.chanSeq c == b.seq && decide (((d.chan c).side k).ack < b.mark ∧ ((d.chan c).side k).ack < ((d.chan c).side k).iss)
  match b.want with
  | .sqRead q => (d.sq q).any (fun s => s.rd == 2 && s.fetched == b.mark)
  | .frame q n => (d.sqe q n).any (fun e => e.reading)
  | .dmaDesc c => (d.chan c).rd == 2 && (d.chan c).rdAt.toNat == b.mark
  | .dmaIdx c => side c 0
  | .dmaSrc c => side c 1
  | .dmaDst c => side c 2
  | .tsq => d.fwd.tsqReads.any (fun r => r.sent && r.region * 2 ^ 32 + r.idx == b.mark)
  | _ => false

/-- ATC entries removed; the completion is owed until every access that one of them translated has completed (R366). -/
def Dev.invalidate (d : Dev) (tag : Option (Nat × Nat)) (sel : AtcEntry → Bool) : Dev :=
  let gone := d.xlt.atc.filter sel
  let hit : Nat → Option Nat → Nat → Nat → Bool := fun r p a n =>
    (d.fn (fnOfRid r)).ats && gone.any (fun e => e.rid == r && e.pasid == p && decide (e.base < a + n ∧ a < e.base + e.size))
  { d with xlt := { d.xlt with atc := d.xlt.atc.filter (fun e => !(sel e)), invs := d.xlt.invs ++ [{ tag := tag, busy := d.busyReads hit }] } }

/-- INVALIDATE_REQUEST (R366): up to 32 are queued. -/
def invalidateRequest (itag rid : Nat) (pasid : Option Nat) (addr size : Nat) (d : Dev) : Dev :=
  if d.islandOk 45 = false ∨ 32 ≤ (d.xlt.invs.filter (fun i => i.tag.isSome)).length then d
  else
    let n := 2 ^ max 12 size
    let a := addr / n * n
    d.invalidate (some (itag, rid)) (fun e => e.rid == rid && e.pasid == pasid && decide (e.base < a + n ∧ a < e.base + e.size))

/-- INVALIDATE_COMPLETE (R366): once no access that was under way remains. -/
def invalidateComplete (d : Dev) : Dev :=
  match d.xlt.invs with
  | [] => d
  | i :: rest =>
    if d.islandOk 45 = false ∨ i.busy.any d.stillReads then d
    else
      let d1 : Dev := { d with xlt := { d.xlt with invs := rest } }
      match i.tag with
      | some (t, r) => (d1.inc Reg.xltInvCnt).emit (.pcie 5 [r, t])
      | none => if rest.any (fun j => j.tag.isNone) then d1 else d1.sb Reg.xltStat 5 false

/-- A write of `XLT_CFG`: PRG_TO_MS, and FLUSH (R363, R371). -/
def Dev.wrXltCfg (d : Dev) (v : Word) : Dev :=
  if inRangeAt Reg.xltCfg v then
    let d1 := d.wrReg Reg.xltCfg v
    if getB v 63 then (d1.invalidate none (fun _ => true)).sb Reg.xltStat 5 true else d1
  else d.outOfRange Reg.xltCfg

/-! ### Meanings -/

/-- A command word of `DMA_CH_CMD` with GO. -/
def dmaCmdWord (op : Nat) (v : Word) : Word := setB (setF v 0 3 op) 63 true

/-- A command of a channel as a permitted register write. -/
def dmaCmd (r : Req) (c : Fin 64) (op : Nat) (v : Word) (s : State) : Host.Outcome State Fault Refusal :=
  onDev (fun d => d.gate r (Reg.dmaChCmd c.val) (fun x => x.wrDmaCmd c.val (dmaCmdWord op v))) s

/-- Meaning of DMA_COMMIT. -/
def execDmaCommit (r : Req) (c : Fin 64) (v : Word) (s : State) : Host.Outcome State Fault Refusal := dmaCmd r c 1 v s

/-- Meaning of DMA_HANDOVER. -/
def execDmaHandover (r : Req) (c : Fin 64) (v : Word) (s : State) : Host.Outcome State Fault Refusal := dmaCmd r c 2 v s

/-- Meaning of DMA_CONT. -/
def execDmaCont (r : Req) (c : Fin 64) (v : Word) (s : State) : Host.Outcome State Fault Refusal := dmaCmd r c 3 v s

/-- Meaning of DMA_SKIP. -/
def execDmaSkip (r : Req) (c : Fin 64) (v : Word) (s : State) : Host.Outcome State Fault Refusal := dmaCmd r c 4 v s

/-- Meaning of DMA_ABORT. -/
def execDmaAbort (r : Req) (c : Fin 64) (v : Word) (s : State) : Host.Outcome State Fault Refusal := dmaCmd r c 5 v s

/-- Meaning of DMA_CLEAR_HO_PEND. -/
def execDmaClearHoPend (r : Req) (c : Fin 64) (v : Word) (s : State) : Host.Outcome State Fault Refusal := dmaCmd r c 6 v s

/-- Meaning of DMA_DESCRIPTOR_READ. -/
def execDmaDescriptorRead (c : Fin 64) (bad : Bool) (ws : Vector Word 8) (s : State) : Host.Outcome State Fault Refusal :=
  onDev (dmaDescriptorRead c.val bad ws.toList) s

/-- Meaning of DMA_RING_ENABLE: a write of `DMA_CR_CFG[k]` with EN = 1. -/
def execDmaRingEnable (r : Req) (k : Fin 16) (v : Word) (s : State) : Host.Outcome State Fault Refusal :=
  onDev (fun d => d.gate r (Reg.dmaCrCfg k.val) (fun x => x.wrCrCfg k.val (setB v 20 true))) s

/-- Meaning of DMA_RING_HEAD_WRITE. -/
def execDmaRingHeadWrite (r : Req) (k : Fin 16) (v : Word) (s : State) : Host.Outcome State Fault Refusal :=
  onDev (fun d => d.gate r (Reg.dmaCrHead k.val) (fun x => x.wrCrHead k.val v)) s

/-- Meaning of TRANSLATION_COMPLETION. -/
def execTranslationCompletion (rid : BitVec 16) (pasid : Option (BitVec 20)) (page : BitVec 52) (ok : Bool) (size : AtsRange) (rd wr : Bool)
    (s : State) : Host.Outcome State Fault Refusal :=
  onDev (translationCompletion rid.toNat (pasid.map (fun x => x.toNat)) page.toNat ok size rd wr) s

/-- Meaning of PAGE_RESPONSE. -/
def execPageResponse (rid : BitVec 16) (pasid : Option (BitVec 20)) (page : BitVec 52) (code : Fin 3) (s : State) :
    Host.Outcome State Fault Refusal :=
  onDev (pageResponse rid.toNat (pasid.map (fun x => x.toNat)) page.toNat code.val) s

/-- Meaning of PRG_TIMEOUT. -/
def execPrgTimeout (s : State) : Host.Outcome State Fault Refusal := onDev prgTimeout s

/-- Meaning of INVALIDATE_REQUEST. -/
def execInvalidateRequest (itag : BitVec 5) (rid : BitVec 16) (pasid : Option (BitVec 20)) (page : BitVec 52) (size : Fin 64) (s : State) :
    Host.Outcome State Fault Refusal :=
  onDev (invalidateRequest itag.toNat rid.toNat (pasid.map (fun x => x.toNat)) (page.toNat * 4096) size.val) s

/-- Meaning of INVALIDATE_COMPLETE. -/
def execInvalidateComplete (s : State) : Host.Outcome State Fault Refusal := onDev invalidateComplete s

/-- Meaning of ATC_FLUSH: a write of `XLT_CFG` with FLUSH = 1. -/
def execAtcFlush (r : Req) (v : Word) (s : State) : Host.Outcome State Fault Refusal :=
  onDev (fun d => d.gate r Reg.xltCfg (fun x => x.wrXltCfg (setB v 63 true))) s

end Sys2Proof.Machine
end

