-- ==== Sys2Proof/Machine/FwdTable.lean ====
section
/-! DEFINITION. Chapter 9: MAC entries and their tables (R274–R279), learning and station moves (R278–R283), memory errors of the tables
(R305), and the longest-prefix match (R293–R296). -/

namespace Sys2Proof.Machine

/-! ### Keys and entries (R274, R275, Tables FWD-2, FWD-3) -/

/-- The key of an address and a VID, as bits 59:0 of word 0 hold it. -/
def fwdKey (mac vid : Nat) : Nat := vid % 4096 * 2 ^ 48 + mac % 2 ^ 48

/-- H of R274: the CRC-32 of the octets K. -/
def keyHash (key : Nat) : Nat := crc32 (beBytes 6 (key % 2 ^ 48) ++ beBytes 2 (key / 2 ^ 48 % 4096))

/-- Device address of word `k` of cache entry `i` of slice `s`. -/
def cacheAddr (s i k : Nat) : Nat := bar4Addr (0x3000000 + s * 0x200000 + i * 0x10 + k * 8)

/-- Device address of word `k` of main-table entry `i`. -/
def mainAddr (i k : Nat) : Nat := bar4Addr (0x20000000 + i * 0x20 + k * 8)

/-- The BAR4 offset of a device address of a forwarding table. -/
def bar4Of (a : Nat) : Nat := if a < 0x20000000 then a + 0x20000000 else a - 0x1040000000

/-- The ways of the cache set of a key. -/
def cacheWays (key : Nat) : List Nat := (List.range 8).map (fun w => keyHash key % 16384 * 8 + w)

/-- The ways of the main-table bucket of a key. -/
def mainWays (key : Nat) : List Nat := (List.range 4).map (fun w => keyHash key / 1024 * 4 + w)

def eKey (w0 : Word) : Nat := getF w0 0 60
def eValid (w0 : Word) : Bool := getB w0 60
def eDkind (w1 : Word) : Nat := getF w1 0 2
def eDest (w1 : Word) : Nat := getF w1 2 16

/-- Word `k` of a cache entry. -/
def Dev.cw (d : Dev) (s i k : Nat) : Word := d.ldW (cacheAddr s i k)

/-- Word `k` of a main-table entry. -/
def Dev.mw (d : Dev) (i k : Nat) : Word := d.ldW (mainAddr i k)

/-- A cache entry written. -/
def Dev.setCache (d : Dev) (s i : Nat) (w0 w1 : Word) : Dev := d.stWs (cacheAddr s i 0) [w0, w1]

/-- A main-table entry written. -/
def Dev.setMain (d : Dev) (i : Nat) (w0 w1 : Word) : Dev := d.stWs (mainAddr i 0) [w0, w1, 0, 0]

/-- The main table is unavailable (R277). -/
def Dev.mainOut (d : Dev) : Bool := !(d.islandOk 34 && d.islandOk 35)

/-- `FWD_CLR.DGEN` and `SGEN`. -/
def Dev.fwdGen (d : Dev) (static : Bool) : Nat := if static then d.gf Reg.fwdClr 12 4 else d.gf Reg.fwdClr 8 4

/-- A main-table entry is current (R275). -/
def Dev.mainCurrent (d : Dev) (i : Nat) : Bool :=
  eValid (d.mw i 0) && getF (d.mw i 1) 54 4 == d.fwdGen (getB (d.mw i 0) 61)

/-- The current main-table entry of a key. -/
def Dev.mainEntry (d : Dev) (key : Nat) : Option Nat := (mainWays key).find? (fun i => d.mainCurrent i && eKey (d.mw i 0) == key)

/-- The cache entry of a key. -/
def Dev.cacheEntry (d : Dev) (s key : Nat) : Option Nat :=
  (cacheWays key).find? (fun i => eValid (d.cw s i 0) && eKey (d.cw s i 0) == key)

/-- NOW16 (R286). -/
def Dev.now16 (d : Dev) : Nat := d.nowMs / max 1 (d.gf Reg.fwdAgeCfg 16 16) % 65536

/-! ### Positions of the sweeper and of the scan (R285, R287) -/

/-- Entries of a table whose octets `lo`–`hi` are listed: the indexes whose word 0 has VALID = 1, rising. -/
def Dev.validIn (d : Dev) (lo hi size : Nat) : List Nat :=
  (d.mem.filter (fun c => decide (lo ≤ c.1 ∧ c.1 < hi) && (c.1 - lo) % size == 7 && c.2.toNat.testBit 4)).map (fun c => (c.1 - lo) / size)

/-- The valid dynamic entries of the cache of slice `s`. -/
def Dev.cacheDyn (d : Dev) (s : Nat) : List Nat :=
  (d.validIn (cacheAddr s 0 0) (cacheAddr s 131072 0) 16).filter (fun i => !(getB (d.cw s i 0) 63))

/-- The next of some indexes at or after `i` in a table of `n`, and how many places on it lies. -/
def nextFrom (l : List Nat) (i n : Nat) : Option (Nat × Nat) :=
  match l.find? (fun j => decide (i ≤ j)) with
  | some j => some (j, j - i)
  | none => l.head?.map (fun j => (j, n - i + j))

/-- Time between the visits of two neighbouring cache entries. -/
def Dev.sweepStep (d : Dev) : Nat := d.gf Reg.fwdAgeCfg 0 16 * msU / 131072

/-- Time between the visits of two neighbouring main-table entries. -/
def Dev.scanStep (d : Dev) : Nat := d.gf Reg.fwdAgeCfg 48 16 * msU / 16777216

/-- The sweeper of slice `s` stands where its pace has brought it, or at the first entry still to be visited. -/
def Dev.sweepRoll (d : Dev) (s : Nat) : Dev :=
  let p := Sparse.getD d.fwd.sweep s 0
  let t := Sparse.getD d.fwd.sweepAt s 0
  let k := (d.tim.up - t) / max 1 d.sweepStep
  let n := match nextFrom (d.cacheDyn s) p 131072 with | some e => min k e.2 | none => k
  { d with fwd := { d.fwd with sweep := Sparse.put d.fwd.sweep s ((p + n) % 131072), sweepAt := Sparse.put d.fwd.sweepAt s (t + n * d.sweepStep) } }

/-- The next valid main-table entry of the pass, or its end. -/
def Dev.scanNext (d : Dev) : Nat :=
  ((d.validIn (mainAddr 0 0) (mainAddr 16777216 0) 32).find? (fun j => decide (d.fwd.scan ≤ j))).getD 16777216

/-- The scan stands where its pace has brought it, or at the first entry still to be visited; not while it pauses (R277). -/
def Dev.scanRoll (d : Dev) : Dev :=
  if d.mainOut then d
  else
    let n := min ((d.tim.up - d.fwd.scanAt) / max 1 d.scanStep) (d.scanNext - d.fwd.scan)
    { d with fwd := { d.fwd with scan := d.fwd.scan + n, scanAt := d.fwd.scanAt + n * d.scanStep } }

/-! ### Memory errors (R305) -/

/-- An uncorrectable error of a forwarding table word, met by slice `s`. -/
def Dev.fwdEccBad (d : Dev) (s a : Nat) : Dev := (d.inc (Reg.fwdEccUncorrCnt s)).raise 10 s 0x13 (bar4Of a)

/-- Words read by slice `s`: single-bit errors are corrected in place; answers the first uncorrectable word. -/
def Dev.fwdReadWords (d : Dev) (s : Nat) (l : List Nat) : Option Nat × Dev :=
  (l.find? d.isBad, l.foldl (fun (x : Dev) a => x.scrub a (Reg.fwdEccCorrCnt s)) d)

/-- A way of the cache is read: one with an uncorrectable error is invalidated. -/
def Dev.cacheWayRead (d : Dev) (s i : Nat) : Dev :=
  match d.fwdReadWords s [cacheAddr s i 0, cacheAddr s i 1] with
  | (some a, d1) => (d1.fwdEccBad s a).setCache s i 0 0
  | (none, d1) => d1

/-- The words of a main-table bucket. -/
def bucketWords (b : Nat) : List Nat := (List.range 4).flatMap (fun w => (List.range 4).map (mainAddr (b * 4 + w)))

/-- The bucket of a key is read: the current entry of the key; a bucket with an uncorrectable error is a miss. -/
def Dev.mainFind (d : Dev) (s key : Nat) : Option Nat × Dev :=
  match d.fwdReadWords s (bucketWords (keyHash key / 1024)) with
  | (some a, d1) => (none, d1.fwdEccBad s a)
  | (none, d1) => (d1.mainEntry key, d1)

/-! ### Lookup and install (R276, R277, R282) -/

/-- A millisecond of local time modulo 2^20 lies at or after `t`. -/
def msReached (t now : Nat) : Bool := decide ((now + 2 ^ 20 - t) % 2 ^ 20 < 2 ^ 19)

/-- An access to a cache entry: PIN clears at the first at or after MV_MS (R282). -/
def Dev.cacheTouch (d : Dev) (s i : Nat) : Dev :=
  let w1 := d.cw s i 1
  if getB w1 38 && msReached (getF w1 42 20) (d.nowMs % 2 ^ 20) then d.setCache s i (d.cw s i 0) (setF (setB w1 38 false) 39 3 0) else d

/-- The cache is searched for a key: its entry, and the device after the accesses. -/
def Dev.cacheSearch (d : Dev) (s key : Nat) : Option Nat × Dev :=
  let d1 := (cacheWays key).foldl (fun (x : Dev) i => x.cacheWayRead s i) d
  match d1.cacheEntry s key with
  | some i => (some i, d1.cacheTouch s i)
  | none => (none, d1)

/-- The way an install chooses (R276); none where all are static. -/
def Dev.installWay (d : Dev) (s key : Nat) : Option Nat :=
  let ways := cacheWays key
  let w := fun i => d.cw s i 0
  let dyn := ways.filter (fun i => eValid (w i) && !(getB (w i) 63))
  (ways.filter (fun i => !(eValid (w i))) ++ dyn.filter (fun i => getB (w i) 62) ++ dyn.filter (fun i => !(getB (w i) 61)) ++ dyn).head?

/-- A key installed in the cache (R276). -/
def Dev.cacheInstall (d : Dev) (s key : Nat) (w1 : Word) (static hit : Bool) : Option Nat × Dev :=
  match d.installWay s key with
  | none => (none, d)
  | some i =>
    let d0 := d.sweepRoll s
    let d1 := if eValid (d.cw s i 0) then d0.inc (Reg.fwdCacheEvictCnt s) else d0
    (some i, d1.setCache s i (BitVec.ofNat 64 (key + fld 60 1 1 + fld 61 1 (bit hit) + fld 63 1 (bit static))) (BitVec.ofNat 64 (getF w1 0 38)))

/-- A cache entry invalidated or removed: VALID clears. -/
def Dev.cacheInvalid (d : Dev) (s i : Nat) : Dev := d.setCache s i (setB (d.cw s i 0) 60 false) (d.cw s i 1)

/-- A main-table entry removed. -/
def Dev.mainInvalid (d : Dev) (i : Nat) : Dev := d.setMain i (setB (d.mw i 0) 60 false) (d.mw i 1)

/-- A key removed from the caches of some slices. -/
def Dev.cacheEvict (d : Dev) (key : Nat) (l : List Nat) : Dev :=
  l.foldl (fun (x : Dev) s =>
    let y := (cacheWays key).foldl (fun (z : Dev) i => z.cacheWayRead s i) x
    match y.cacheEntry s key with
    | some i => y.cacheInvalid s i
    | none => y) d

/-- A cross-slice report (R283). -/
def Dev.xsReport (d : Dev) (s key port mainPort : Nat) : Dev :=
  let d1 := d.inc (Reg.fwdXsCnt s)
  if 1024 ≤ d.fwd.reports.length then ((d1.inc (Reg.fwdXsLostCnt s)).sb (Reg.fwdStat s) 2 true).raise 10 s 0x11 0
  else { d1 with fwd := { d1.fwd with reports := d1.fwd.reports ++ [⟨key % 2 ^ 48, key / 2 ^ 48, s, port, mainPort⟩] } }

/-- A learning write (`learn`) or the write of a move to the main table (R278, R280, R281, R283), the current entry of the key being `e`. -/
def Dev.mainWrite (d : Dev) (s key port : Nat) (learn : Bool) : Option Nat → Dev
  | some i =>
    let w0 := d.mw i 0
    let w1 := d.mw i 1
    if getB w0 61 then d
    else if getF w0 62 2 ≠ s then (if eDest w1 ≠ port then d.xsReport s key port (eDest w1) else d)
    else d.setMain i w0 (if learn then setF (setF w1 2 16 port) 38 16 d.now16 else setF w1 2 16 port)
  | none =>
    if learn then
      match (mainWays key).find? (fun i => !(d.mainCurrent i)) with
      | none => d.inc (Reg.fwdMainFullCnt s)
      | some i => d.scanRoll.setMain i (BitVec.ofNat 64 (key + fld 60 1 1 + fld 62 2 s))
          (BitVec.ofNat 64 (fld 2 16 port + fld 38 16 d.now16 + fld 54 4 (d.fwdGen false)))
    else d

/-- The bucket is read and such a write made; while the main table is out it is dropped (R277). -/
def Dev.mainLearn (d : Dev) (s key port : Nat) (learn : Bool) : Dev :=
  if d.mainOut then d.inc (Reg.fwdHbmSkipCnt s)
  else
    let r := d.mainFind s key
    r.2.mainWrite s key port learn r.1

/-- A refresh of a key in the main table (R286). -/
def Dev.mainRefresh (d : Dev) (s key port : Nat) : Dev :=
  if d.mainOut then d.inc (Reg.fwdHbmSkipCnt s)
  else
    let r := d.mainFind s key
    match r.1 with
    | some i => if getB (r.2.mw i 0) 61 then r.2 else r.2.setMain i (r.2.mw i 0) (setF (r.2.mw i 1) 38 16 r.2.now16)
    | none => r.2.mainWrite s key port true none

/-- A main-table read by slice `s`: word 1 and STATIC of the current entry. -/
def Dev.mainRead (d : Dev) (s key : Nat) : Option (Word × Bool) × Dev :=
  if d.mainOut then (none, d)
  else
    let r := d.mainFind s key
    (r.1.map (fun i => (r.2.mw i 1, getB (r.2.mw i 0) 61)), r.2)

/-- A main-table read returns: a current hit is installed, and a source hit refreshes TS (R276, R279). -/
def Dev.mainReturn (d : Dev) (s key : Nat) (src : Bool) : Option (Word × Bool) × Dev :=
  match d.mainRead s key with
  | (none, d1) => (none, d1)
  | (some r, d1) =>
    let d2 := if src ∧ r.2 = false then d1.mainRefresh s key (eDest r.1) else d1
    (some r, if (d2.cacheEntry s key).isSome then d2 else (d2.cacheInstall s key r.1 r.2 src).2)

/-! ### Source hits, moves, learning (R278–R282) -/

/-- A move is judged by move damping (R282): `e` is the cache entry. -/
def Dev.cacheMove (d : Dev) (s i port : Nat) : Dev :=
  let w0 := d.cw s i 0
  let w1 := d.cw s i 1
  if getB w1 38 then d.inc (Reg.fwdMoveRefCnt s)
  else
    let now := d.nowMs % 2 ^ 20
    let new := decide (1000 < (now + 2 ^ 20 - getF w1 42 20) % 2 ^ 20)
    let cnt := if new then 1 else getF w1 39 3 + 1
    if 5 ≤ cnt then
      let until_ := (now + d.gf Reg.fwdMoveCfg 0 16) % 2 ^ 20
      ((d.setCache s i w0 (setF (setB w1 38 true) 42 20 until_)).inc (Reg.fwdPinCnt s)).raise 10 s 0x10 i
    else
      let w := setF (setF (setF w1 2 16 port) 39 3 cnt) 42 20 (if new then now else getF w1 42 20)
      ((d.setCache s i (setB w0 61 true) w).inc (Reg.fwdMoveCnt s)).mainLearn s (eKey w0) port false

/-- A source hit on cache entry `i` from `port` (R279–R281); `ok`: the conditions of R278 hold. -/
def Dev.sourceHit (d : Dev) (s i port : Nat) (ok : Bool) : Dev :=
  let w0 := d.cw s i 0
  let w1 := d.cw s i 1
  if eDkind w1 = 0 ∧ eDest w1 = port then d.setCache s i (setB w0 61 true) w1
  else if getB w0 63 then d.inc (Reg.fwdMoveRefCnt s)
  else if ok then d.cacheMove s i port
  else d

/-- A key joins the learning queue of slice `s` (R278). -/
def Dev.learnQueue (d : Dev) (s key port : Nat) : Dev :=
  if 256 ≤ (d.fwd.learn.filter (fun e => e.1 == s)).length then d.inc (Reg.fwdLearnDropCnt s)
  else { d with fwd := { d.fwd with learn := d.fwd.learn ++ [(s, key, port)] } }

/-- A key is committed: to the cache and the main table, or, where its set is full of static entries, to the main table alone (R278). -/
def Dev.commitKey (d : Dev) (s key port : Nat) : Dev :=
  match d.cacheInstall s key (BitVec.ofNat 64 (fld 2 16 port)) false true with
  | (some _, d1) => (d1.inc (Reg.fwdLearnCnt s)).mainLearn s key port true
  | (none, d1) =>
    let d2 := d1.mainLearn s key port true
    if (d1.mainEntry key).isNone ∧ (d2.mainEntry key).isSome then d2.inc (Reg.fwdLearnCnt s) else d2

/-- A key of the learning queue (R278, R281): one in the cache is a source hit; one for which a table command has meanwhile written a static
main-table entry meets R280 (Table FWD-9); any other is committed. -/
def Dev.learnKey (d : Dev) (s key port : Nat) : Dev :=
  match d.cacheSearch s key with
  | (some i, d1) => d1.sourceHit s i port true
  | (none, d1) =>
    match d1.mainRead s key with
    | (some (w, true), d2) => if eDkind w = 0 ∧ eDest w = port then d2 else d2.inc (Reg.fwdMoveRefCnt s)
    | (_, d2) => d2.commitKey s key port

/-! ### Longest-prefix match (R293–R296) -/

/-- Device address of entry `i` of the root of a trie. -/
def trieRoot (v6 : Bool) (i : Nat) : Nat := bar4Addr ((if v6 then 0x4080000 else 0x4000000) + i * 8)

/-- Device address of entry `i` of node `n`. -/
def trieNode (n i : Nat) : Nat := bar4Addr (0x4200000 + n * 0x800 + i * 8)

/-- What a lookup of a trie ends with: a word that cannot be read, or the entry whose result is kept. -/
inductive Trie where
  | bad (addr : Nat)
  | found (entry : Option Word)
  deriving DecidableEq, Repr

def tPlen (e : Word) : Nat := getF e 16 8
def tNh (e : Word) : Nat := getF e 24 15

/-- The longest of a kept result and a candidate. -/
def longer (best : Option Word) (e : Word) : Option Word :=
  match best with
  | some b => if tPlen b < tPlen e then some e else some b
  | none => some e

/-- The tail entries of block `t` against destination bits 15:0 (R294, R295). -/
def Dev.trieTail (d : Dev) (t dst : Nat) (best : Option Word) : Trie :=
  let a := fun (i k : Nat) => bar4Addr (0x4180000 + t * 0x80 + i * 0x10 + k * 8)
  match ((List.range 8).flatMap (fun i => [a i 0, a i 1])).find? d.isBad with
  | some x => .bad x
  | none => .found ((List.range 8).foldl (fun (b : Option Word) i =>
      let w := d.ldW (a i 0)
      let sh := 16 - getF w 16 5
      if getB w 21 ∧ getF w 0 16 / 2 ^ sh = dst % 65536 / 2 ^ sh then longer b (d.ldW (a i 1)) else b) best)

/-- The walk from the entry at `a` (R295); `n` levels remain below it, the next indexed by destination bits from `sh` up. -/
def Dev.trieWalk (d : Dev) (v6 : Bool) (dst : Nat) : Nat → Nat → Nat → Option Word → Trie
  | n, a, sh, best =>
    if d.isBad a then .bad a
    else
      let e := d.ldW a
      let b := if getB e 15 then some e else best
      if getB e 0 = false then .found b
      else if v6 ∧ n = 0 ∧ getB e 58 then d.trieTail (getF e 1 14 % 4096) dst b
      else match n with
        | 0 => .found b
        | m + 1 => if 11264 ≤ getF e 1 14 then .found b
          else Dev.trieWalk d v6 dst m (trieNode (getF e 1 14) (dst / 2 ^ sh % 256)) (sh - 8) b

/-- The words such a walk reads, in order. -/
def Dev.triePath (d : Dev) (v6 : Bool) (dst : Nat) : Nat → Nat → Nat → List Nat
  | n, a, sh =>
    let e := d.ldW a
    if getB e 0 = false then [a]
    else if v6 ∧ n = 0 ∧ getB e 58 then a :: (List.range 16).map (fun i => bar4Addr (0x4180000 + getF e 1 14 % 4096 * 0x80 + i * 8))
    else match n with
      | 0 => [a]
      | m + 1 => if 11264 ≤ getF e 1 14 then [a] else a :: Dev.triePath d v6 dst m (trieNode (getF e 1 14) (dst / 2 ^ sh % 256)) (sh - 8)

/-- The words a lookup reads. -/
def Dev.trieReads (d : Dev) (v6 : Bool) (dst : Nat) : List Nat :=
  if v6 then d.triePath true dst 12 (trieRoot true (dst / 2 ^ 112)) 104 else d.triePath false dst 2 (trieRoot false (dst / 2 ^ 16)) 8

/-- The lookup of an IPv4 or IPv6 destination. -/
def Dev.trieLookup (d : Dev) (v6 : Bool) (dst : Nat) : Trie :=
  if v6 then d.trieWalk true dst 12 (trieRoot true (dst / 2 ^ 112)) 104 none
  else d.trieWalk false dst 2 (trieRoot false (dst / 2 ^ 16)) 8 none

/-- The stream a result identifies (R296). -/
def trieStream (v6 : Bool) : Option Word → Option Nat
  | some e => if getB e 39 ∧ tPlen e = (if v6 then 128 else 32) then some (getF e 40 18) else none
  | none => none

/-- The IP destination of a frame after its tags: version 6, and the address. -/
def ipDest (ts : List Tag) (l : List Byte) : Option (Bool × Nat) :=
  let o := afterTags ts + 2
  match etherType ts l with
  | 0x0800 => some (false, beNat ((l.drop (o + 16)).take 4))
  | 0x86DD => some (true, beNat ((l.drop (o + 24)).take 16))
  | _ => none

/-! ### Table STR-5 without effects -/

/-- The stream a lookup of a key names, destination (bit 18) or source (bit 19), without any effect. -/
def Dev.macStream (d : Dev) (s key b : Nat) : Option Nat :=
  let w1 := match d.cacheEntry s key with
    | some i => some (d.cw s i 1)
    | none => if d.mainOut then none else (d.mainEntry key).map (fun i => d.mw i 1)
  match w1 with
  | some w => if getB w b then some (getF w 20 18) else none
  | none => none

/-- Table STR-5 for a frame received on port `p` whose destination, source and trie lookups name streams `da`, `sa`, `ip`. -/
def Dev.strId (d : Dev) (p : Nat) (da sa ip : Option Nat) : Option Nat :=
  let c := d.rd (Reg.strPortCfg p)
  ((if getB c 0 then da else none).orElse (fun _ => if getB c 1 then sa else none)).orElse (fun _ => if getB c 2 then ip else none)

/-- VID and priority of a received frame (R254; ring ports: Table FWD-1, step 2): those of the outer tag, PVID and DEF_PCP without one. -/
def Dev.rxVid (d : Dev) (p : Nat) (ts : List Tag) : Nat × Nat :=
  let dv := if p < 32 then d.gf (Reg.macVlanCfg p) 0 12 else d.gf (Reg.fwdPortCfg p) 19 12
  match outerVlan ts with
  | some (_, tci) => (if tci % 4096 = 0 then dv else tci % 4096, tci / 8192)
  | none => (dv, if p < 32 then d.gf (Reg.macVlanCfg p) 12 3 else 0)

/-- The stream of a received frame as Table STR-4 gives it, without any effect: what a Jig rule with MKIND 2 compares (Table FLT-12). -/
def Dev.streamOf (d : Dev) (p : Nat) (l : List Byte) : Option Nat :=
  if 32 ≤ p then
    (if be16 l 12 = 0x88B5 ∧ (l.getD 14 0).toNat % 16 = 3 ∧ (l.getD 17 0).toNat % 2 = 0 then some (beNat ((l.drop 34).take 3) / 64) else none)
  else
    let ts := tagsOf (d.svlan p) (d.rtagRx p) l
    let v := (d.rxVid p ts).1
    let s := sliceOf p
    let ip := match ipDest ts l with
      | some (v6, dst) => (match d.trieLookup v6 dst with | .found e => trieStream v6 e | .bad _ => none)
      | none => none
    d.strId p (d.macStream s (fwdKey (daOf l) v) 18) (d.macStream s (fwdKey (saOf l) v) 19) ip

end Sys2Proof.Machine
end

