-- ==== Sys2Proof/Machine/Ring.lean ====
section
/-! DEFINITION. Chapter 6: cycle boundaries (R167, R190, R191, R199, R200), the end of a control segment (R182–R184, R186, R188, R189, R193,
R194, R198), the collection window (R187) and the cold start abort (R195). -/

namespace Sys2Proof.Machine

/-! ### Fields of `RNG_TIMING` -/

def Dev.precWin (d : Dev) (a : Nat) : Nat := d.gf (Reg.rngTiming a) 0 16
def Dev.corrLim (d : Dev) (a : Nat) : Nat := d.gf (Reg.rngTiming a) 16 16
def Dev.listenCyc (d : Dev) (a : Nat) : Nat := d.gf (Reg.rngTiming a) 32 16
def Dev.lossCyc (d : Dev) (a : Nat) : Nat := d.gf (Reg.rngTiming a) 48 8

/-- STATE of the membership held at `a`. -/
def Dev.memSt (d : Dev) (a : Nat) : Nat := d.gf (Reg.rngStat a) 0 3

/-! ### θ (R182) -/

/-- Of the copies from one sender, that with the fewest HOPS, then that on the lower port. -/
def bestCopies (l : List RSync) : List RSync :=
  l.filter (fun f => l.all (fun g => g.src != f.src || decide (f.hops < g.hops ∨ (f.hops = g.hops ∧ f.port ≤ g.port)))) |>.dedup

/-- A list of integers in ascending order. -/
def sortInts : List Int → List Int
  | [] => []
  | x :: t => insertInt x (sortInts t)
where
  insertInt (x : Int) : List Int → List Int
    | [] => [x]
    | y :: t => if x ≤ y then x :: y :: t else y :: insertInt x t

/-- The values kept: the extremes discarded by how many there are. -/
def keptThetas (l : List Int) : List Int :=
  let s := sortInts l
  let c := if 7 ≤ s.length then 2 else if 3 ≤ s.length then 1 else 0
  (s.drop c).take (s.length - 2 * c)

/-- θ of some frames (R182), in 2^-16 ns; a mean that is not exact has a free last unit. -/
def Dev.thetaOf (d : Dev) (l : List RSync) : Option Int × Dev :=
  let best := bestCopies l
  let used := if best.any (fun f => f.ref) then best.filter (fun f => f.ref) else best
  let kept := keptThetas (used.map (fun f => f.theta))
  if kept.isEmpty then (none, d)
  else
    let r := d.freeDiv (kept.foldl (· + ·) 0) ((kept.length * 2 ^ 32 : Nat) : Int)
    (some r.1, r.2)

/-! ### Cycle boundary -/

/-- R199: at the beginning of P + 2 the member decides; a committed switch is over at its boundary B. -/
def Dev.msBoundary (d : Dev) (a c : Nat) : Dev :=
  match (d.ratt a).sw with
  | none => d
  | some w =>
    if a ≠ d.mainAtt then
      (if cycReached ((w.p + 2) % 2 ^ 48) c then d.modAtt a (fun r => { r with sw := none }) else d)
    else if w.commit then
      (if cycReached w.cyc c then (d.sf Reg.rngMsStat 0 3 0).modAtt a (fun r => { r with sw := none }) else d)
    else if cycReached ((w.p + 2) % 2 ^ 48) c then
      let m := (d.rd (Reg.rngMembers a)).toNat
      let acks := if w.ack then d.nodeId a :: w.acks else w.acks
      match (List.range 64).find? (fun i => m.testBit i && !(acks.contains i)) with
      | none => (d.modAtt a (fun r => { r with sw := some { w with commit := true } })).msStat 3 1 w 0
      | some i =>
        let d1 := (if w.offer then d.abandonOffer else d).modAtt a (fun r => { r with sw := none })
        ((d1.inc (Reg.rngMsAbandonCnt a)).raise 5 a 0x13 w.id).msStat 0 2 w i
    else if w.own ∧ c = w.p then d.sf Reg.rngMsStat 0 3 2
    else d

/-- R200: a barrier whose members all arrived in the last control segment is complete. -/
def Dev.barBoundary (d : Dev) (a : Nat) : Dev :=
  if (d.ratt a).barDue then
    (((d.modAtt a (fun r => { r with barAt := none, barDue := false })).sb Reg.rngBarStat 16 false).sb Reg.rngBarStat 17 true).wakeBarrier
  else d

/-- R190, Table RNG-7: the listen count at boundary index `k`. -/
def Dev.listenBoundary (d : Dev) (a k : Nat) : Dev :=
  let r := d.ratt a
  if d.memSt a = 1 ∧ r.passed < k then
    let d1 := d.modAtt a (fun x => { x with listen := x.listen + 1, passed := k })
    if r.listen + 1 = d.listenCyc a ∧ r.heard = false then
      (if d.gb (Reg.rngCtl a) 2 then d1.rngTo a 2 else d1.modAtt a (fun x => { x with listen := 0 }))
    else d1
  else d

/-- R191: what the state sends at the boundary of cycle `c`.  An announcement owed to this cycle's SYNC lapses where none is sent (R202, R206). -/
def Dev.sendBoundary (d : Dev) (a c : Nat) : Dev :=
  let st := d.memSt a
  if st = 3 ∨ st = 4 then d.ringSend a 2 c
  else
    let d1 := d.modAtt a (fun r => { r with ann := none })
    if st = 2 ∧ (d1.ratt a).abortAt.isNone then (d1.modAtt a (fun r => { r with cs := r.cs + 1 })).ringSend a 1 c else d1

/-- Index of the boundary to be handled: the current cycle's where it has not been, else the next one. -/
def nextIdx (done now cyc : Nat) : Nat := if done < now / cyc then now / cyc else now / cyc + 1

/-- RING_CYCLE_BOUNDARY (R167): the next ring boundary of the membership of attachment `a`. -/
def ringCycleBoundary (a0 : Nat) (d : Dev) : Dev :=
  let a := d.memOf a0
  let cy := d.ringC a
  if cy = 0 then d
  else
    let k := nextIdx (d.ratt a).cycle d.now cy
    let d0 := d.waitLocal (k * cy)
    let c := k % 2 ^ 48
    let d1 := d0.modAtt a (fun r => { r with cycle := k, seg := [], rej := [], sent := false, barSent := false })
    let d2 : Dev := { d1 with rng := { d1.rng with beOld := Sparse.del d1.rng.beOld a } }
    (((((d2.msBoundary a c).wakeSwitch).barBoundary a).listenBoundary a k).sendBoundary a c)

/-! ### End of the control segment -/

/-- Senders of accepted SYNC frames with STATE = ACTIVE. -/
def activeSenders (l : List RSync) : List Nat := ((l.filter (fun f => !f.cold && f.st == 4)).map (fun f => f.src)).dedup

/-- The ring mode (R194): the BANK carried by most ACTIVE senders, a tie to the lowest sender. -/
def ringMode (l : List RSync) : Option Nat :=
  let v := (bestCopies (l.filter (fun f => !f.cold && f.st == 4))).map (fun f => (f.src, f.bank))
  let votes := fun (b : Nat) => (v.filter (fun e => e.2 == b)).length
  let low := fun (b : Nat) => (v.filter (fun e => e.2 == b)).foldl (fun m e => min m e.1) 64
  [0, 1, 2, 3].foldl (fun (best : Option Nat) b =>
    if votes b = 0 then best
    else match best with
      | none => some b
      | some x => if votes x < votes b ∨ (votes x = votes b ∧ low b < low x) then some b else some x) none

/-- R194: the ring mode of the segment, MODE_MISMATCH, and the bank an INTEGRATE attachment offers. -/
def Dev.segMode (d : Dev) (a k : Nat) : Dev :=
  if a ≠ d.mainAtt ∨ d.memSt a < 3 ∨ 5 < d.memSt a then d.sb (Reg.rngStat a) 6 false
  else
    let r := d.ratt a
    let m := ringMode r.seg
    let mis : Bool := d.running && (match m with | some b => some b != d.activeBank | none => false)
    let seen := match (bestCopies (r.seg.filter (fun f => !f.cold && f.msOp == 3))).getLast? with
      | some f => some (f.msBank, f.msCyc)
      | none => r.seen
    let d1 := (d.sb (Reg.rngStat a) 6 mis).modAtt a (fun x => { x with mode := m, seen := seen })
    if mis ∧ d.memSt a = 3 then
      let ahead := fun (c : Nat) => (c + 2 ^ 48 - k % 2 ^ 48) % 2 ^ 48
      match seen, m with
      | some (b, c), _ =>
        if 0 < ahead c ∧ ahead c < 2 ^ 47 then (d1.offer b ((k + ahead c) * d.ringC a) c).2
        else (match m with | some x => (d1.offer x ((k + 2) * d.ringC a) ((k + 2) % 2 ^ 48)).2 | none => d1)
      | none, some x => (d1.offer x ((k + 2) * d.ringC a) ((k + 2) % 2 ^ 48)).2
      | none, none => d1
    else d1

/-- R198: the proposal of the lowest MS_SRC accepted in the control segment of cycle index `k`. -/
def Dev.segProposal (d : Dev) (a k : Nat) : Dev :=
  let r := d.ratt a
  let c := k % 2 ^ 48
  let best := (r.seg.filter (fun f => !f.cold && f.msOp == 1)).foldl (fun (m : Option RSync) f =>
    match m with | none => some f | some g => if f.msSrc < g.msSrc then some f else some g) none
  match best with
  | none => d
  | some f =>
    let w : Switch := { p := c, id := f.msId, src := f.msSrc, bank := f.msBank, cyc := f.msCyc, own := false, offer := false, ack := true }
    if a ≠ d.mainAtt then d.modAtt a (fun x => { x with sw := some w })
    else
      let take := fun (x : Dev) (lost : Bool) =>
        let o := x.offer f.msBank ((k + (f.msCyc + 2 ^ 48 - c) % 2 ^ 48) * d.ringC a) f.msCyc
        let w1 : Switch := { w with offer := o.1, ack := o.1 }
        (o.2.modAtt a (fun y => { y with sw := some w1 })).msStat 2 (if lost then 3 else if o.1 then 0 else 4) w1 0
      match r.sw with
      | none => take d false
      | some v => if v.own ∧ v.p = c ∧ f.msSrc < v.src then take (d.solActEnd v.bank 4).abandonOffer true else d

/-- R199: acknowledgements accepted in cycle P + 1. -/
def Dev.segAcks (d : Dev) (a c : Nat) : Dev :=
  match (d.ratt a).sw with
  | none => d
  | some w =>
    if c = (w.p + 1) % 2 ^ 48 then
      let l := (d.ratt a).seg.filter (fun f => !f.cold && f.msOp == 2 && f.msId == w.id && f.msSrc == w.src && f.msBank == w.bank && f.msCyc == w.cyc)
      d.modAtt a (fun r => { r with sw := some { w with acks := (l.map (fun f => f.src)).dedup } })
    else d

/-- R200: every node of MEMBERS sent BAR_ARR with the member's ID in this control segment. -/
def Dev.segBarrier (d : Dev) (a : Nat) : Dev :=
  let r := d.ratt a
  let m := (d.rd (Reg.rngMembers a)).toNat
  let own := d.nodeId a
  let arrived := fun (i : Nat) =>
    (i == own && r.barSent) || r.seg.any (fun f => !f.cold && f.src == i && f.barArr && f.barId == d.gf Reg.rngBarStat 0 16)
  if a = d.mainAtt ∧ d.memSt a = 4 ∧ r.barAt.isSome ∧ r.barSent ∧ (List.range 64).all (fun i => !(m.testBit i) || arrived i) then
    d.modAtt a (fun x => { x with barDue := true })
  else d

/-- R193: the senders of SYNC frames the window rejected outweigh MEMBERS. -/
def Dev.outweighed (d : Dev) (a : Nat) : Bool :=
  let rej := (d.ratt a).rej.dedup
  let m := (d.rd (Reg.rngMembers a)).toNat
  let mem := (List.range 64).filter (fun i => m.testBit i)
  let low := fun (l : List Nat) => l.foldl min 64
  !rej.isEmpty && (decide (mem.length < rej.length) || (decide (mem.length = rej.length) && decide (low rej < low mem)))

/-- R189: the transitions at the end of a control segment, in order; the first one taken ends the evaluation.  `full`: a full valid cycle has
been observed, `small`: with |θ| within CORR_LIM in both cycles. -/
def Dev.segRules (d : Dev) (a : Nat) (full small : Bool) : Dev :=
  let st := d.memSt a
  let r := d.ratt a
  let act := !(activeSenders r.seg).isEmpty
  let live := st == 3 || st == 4 || st == 5
  let losses := if r.seg.isEmpty then r.losses + 1 else 0
  let noAct := if act then 0 else r.noAct + 1
  let clique := if st == 4 && d.outweighed a then r.clique + 1 else 0
  let d1 := if live then d.modAtt a (fun x => { x with losses := losses, noAct := noAct, clique := clique }) else d
  let mis := d.gb (Reg.rngStat a) 6
  if live ∧ d.lossCyc a ≤ losses ∧ r.prevMem then (d1.inc (Reg.rngListenCnt a)).rngTo a 1
  else if st = 3 ∧ d.listenCyc a ≤ noAct then d1.rngTo a 1
  else if (st = 3 ∨ st = 4) ∧ d.gf (Reg.rngStat a) 8 2 = 3 then d1.rngTo a 5
  else if st = 4 ∧ 3 ≤ clique then d1.rngTo a 1
  else if st = 4 ∧ mis then ((d1.inc (Reg.rngModeDivCnt a)).raise 5 a 0x12 0).rngTo a 5
  else if st = 2 ∧ r.abortAt.isNone ∧ 2 ≤ r.cs then d1.rngTo a 4
  else if st = 3 ∧ r.sent ∧ act ∧ mis = false then d1.rngTo a 4
  else if st = 5 ∧ small then d1.rngTo a 3
  else if st = 1 ∧ full then d1.rngTo a 3
  else d1

/-- R188: MEMBERS of the segment, and what the loss rule keeps of it. -/
def Dev.segMembers (d : Dev) (a : Nat) : Dev :=
  let st := d.memSt a
  let r := d.ratt a
  let own := d.nodeId a
  let l := (activeSenders r.seg ++ (if st = 4 then [own] else [])).dedup
  let m := if st = 0 ∨ st = 6 then 0 else (l.map (fun i => 2 ^ i)).sum
  (d.setMembers a m).modAtt a (fun x => { x with prevMem := if r.seg.isEmpty then x.prevMem else l.any (· != own) })

/-- What each port accepted in the segment (Table RNG-13). -/
def Dev.segPorts (d : Dev) (a : Nat) : Dev :=
  let seg := (d.ratt a).seg
  ((d.attsOf a).flatMap attPorts).foldl (fun (x : Dev) p =>
    let mine := seg.filter (fun f => f.port == p)
    let v := (((mine.filter (fun f => !f.cold)).map (fun f => f.src)).dedup.map (fun i => 2 ^ i)).sum
    { x with rng := { x.rng with rxv := Sparse.setD x.rng.rxv p 0 v
                                 rxAny := if mine.isEmpty then x.rng.rxAny.filter (· != p) else p :: x.rng.rxAny.filter (· != p) } }) d

/-- The θ of a segment: written to `RNG_CORR`, offered to the time base (R183), and run against CORR_LIM (R184). -/
def Dev.segTheta (d : Dev) (a : Nat) : Option Int × Dev :=
  if d.memSt a < 3 ∨ 5 < d.memSt a then (none, d)
  else match d.thetaOf (d.ratt a).seg with
    | (none, d1) => (none, d1)
    | (some th, d1) =>
      let d2 := (d1.sf (Reg.rngCorr a) 0 48 (ofSigned 48 th)).sf (Reg.rngCorr a) 48 16 (d1.gf (Reg.rngCorr a) 48 16 + 1)
      let run := if d.gb (Reg.rngFedCfg a) 4 ∨ th.natAbs ≤ d.corrLim a * 65536 then 0 else min 3 (d.gf (Reg.rngStat a) 8 2 + 1)
      let d3 := d2.sf (Reg.rngStat a) 8 2 run
      (some th, if a = d.mainAtt then d3.sourceSample 2 th else d3)

/-- CONTROL_SEGMENT_END (R182, R189). -/
def controlSegmentEnd (a0 : Nat) (d : Dev) : Dev :=
  let a := d.memOf a0
  let cy := d.ringC a
  if cy = 0 then d
  else
    let done := (d.now + cy - d.ringSeg a) / cy
    let k := if (d.ratt a).segDone < done then done - 1 else done
    let d0 := (d.waitLocal (k * cy + d.ringSeg a)).modAtt a (fun r => { r with segDone := k + 1 })
    if d0.memSt a = 0 ∨ d0.memSt a = 6 then ((d0.segPorts a).modAtt a (fun r => { r with seg := [], rej := [] })).setMembers a 0
    else
      let c := k % 2 ^ 48
      let seg := (d0.ratt a).seg
      let th := (d0.segPorts a).segTheta a
      let d1 := th.2
      let inside := d0.memSt a != 1 || seg.any (fun f => decide (f.theta.natAbs ≤ d0.precWin a * nsU))
      let now_ := !seg.isEmpty && inside && seg.all (fun f => f.cyc == c)
      let near := match th.1 with | some t => decide (t.natAbs ≤ d0.corrLim a * 65536) | none => false
      let old := (d0.ratt a).valid
      let before := match old with | some (n, _) => n == (c + 2 ^ 48 - 1) % 2 ^ 48 | none => false
      let beforeNear := match old with | some (_, b) => b | none => false
      let keep : Option (Nat × Bool) := if now_ then some (c, near) else match old with
        | some (n, b) => if n = c then some (n, b) else none
        | none => none
      let was := d1.memSt a
      let d2 := (d1.modAtt a (fun r => { r with valid := keep })).segMode a k
      let d3 := ((if was = 4 then d2.segProposal a k else d2).wakeSwitch).segAcks a c
      let d4 := ((d3.segRules a (now_ && before) (now_ && before && near && beforeNear)).segMembers a).segBarrier a
      d4.modAtt a (fun r => { r with seg := [], rej := [] })

/-! ### Adoption (R187) and the cold start abort (R195) -/

/-- COLLECTION_WINDOW_END (R187): ring time is adopted from the SYNC frames, or from the COLDSTART of the lowest SRC. -/
def collectionWindowEnd (a0 : Nat) (d : Dev) : Dev :=
  let a := d.memOf a0
  match (d.ratt a).winEnd with
  | none => d
  | some t =>
    if d.memSt a ≠ 1 then d
    else
      let d0 := d.waitUp t
      let win := (d0.ratt a).win
      let d1 := d0.modAtt a (fun r => { r with winEnd := none, win := [] })
      let syncs := win.filter (fun f => !f.cold)
      let cold := (bestCopies (win.filter (fun f => f.cold))).foldl (fun (m : Option RSync) f =>
        match m with | none => some f | some g => if f.src < g.src then some f else some g) none
      let go := fun (x : Dev) (th : Int) =>
        let near := decide (th.natAbs ≤ d.precWin a * nsU)
        let cyc := match win.head? with
          | some f => if win.all (fun g => g.cyc == f.cyc) then some (f.cyc, true) else none
          | none => none
        if x.stepsPermitted then (x.stepBy (-th)).modAtt a (fun r => { r with adopted := true, valid := cyc })
        else (x.slewBy (-th)).modAtt a (fun r => { r with adopted := near, valid := if near then cyc else r.valid })
      if syncs.isEmpty then
        match cold with
        | some f => go (d1.sf (Reg.rngStat a) 24 6 f.src) f.theta
        | none => d1
      else match d1.thetaOf syncs with
        | (some th, d2) => go d2 (th * 2 ^ 32)
        | (none, d2) => d2

/-- COLDSTART_ABORT_WAIT (R195): the starter that aborted returns to LISTEN. -/
def coldstartAbortWait (a0 : Nat) (d : Dev) : Dev :=
  let a := d.memOf a0
  match (d.ratt a).abortAt with
  | none => d
  | some t => if d.memSt a = 2 then (d.waitUp t).rngTo a 1 else d

/-! ### Meanings -/

/-- Meaning of RING_CYCLE_BOUNDARY. -/
def execRingCycleBoundary (a : Att) (s : State) : Host.Outcome State Fault Refusal := onDev (ringCycleBoundary a.val) s

/-- Meaning of CONTROL_SEGMENT_END. -/
def execControlSegmentEnd (a : Att) (s : State) : Host.Outcome State Fault Refusal := onDev (controlSegmentEnd a.val) s

/-- Meaning of COLLECTION_WINDOW_END. -/
def execCollectionWindowEnd (a : Att) (s : State) : Host.Outcome State Fault Refusal := onDev (collectionWindowEnd a.val) s

/-- Meaning of COLDSTART_ABORT_WAIT. -/
def execColdstartAbortWait (a : Att) (s : State) : Host.Outcome State Fault Refusal := onDev (coldstartAbortWait a.val) s

end Sys2Proof.Machine
end

