-- ==== Sys2Proof/Machine/RingRx.lean ====
section
/-! DEFINITION. Chapter 6, reception on a ring port: the checks of Table RNG-6, the precision window (R177), what an accepted control frame
does (R180, R181, R187, R195, R201, R202, R206), forwarding (R178), and DATA frames (R175, R179). -/

namespace Sys2Proof.Machine

/-- A compact timestamp with its full seconds: those nearest to `near` whose low 16 bits it carries (R34). -/
def expandTime (c : Word) (near : Nat) : Nat :=
  let s := near / secU
  let lo := getF c 48 16
  let up := s + (lo + 65536 - s % 65536) % 65536
  let sec := if s + 32768 < up ∧ 65536 ≤ up then up - 65536 else up
  sec * secU + getF c 16 32 * nsU + getF c 0 16 * 2 ^ 32

/-- A cycle number as the index nearest to `k`. -/
def cycNear (c k : Nat) : Nat :=
  let up := k + (c + 2 ^ 48 - k % 2 ^ 48) % 2 ^ 48
  if k + 2 ^ 47 < up ∧ 2 ^ 48 ≤ up then up - 2 ^ 48 else up

/-- The pipeline's list with frame `id`: in ingress order, of two frames of one clock the lower port first (R281). -/
def Dev.waitWith (d : Dev) (id : Nat) (f : Frame) : List Nat :=
  let after : Nat → Bool := fun j => match d.frame j with
    | some g => decide (g.born = f.born) && (match g.rx, f.rx with | some a, some b => decide (b < a) | _, _ => false)
    | none => false
  let k := d.fwd.wait.length - (d.fwd.wait.reverse.takeWhile after).length
  d.fwd.wait.take k ++ id :: d.fwd.wait.drop k

/-- A frame goes to the forwarding pipeline of its slice; while that island is out, received frames are dropped (Table FLT-6). -/
def Dev.toPipeline (d : Dev) (f : Frame) : Dev :=
  if d.islandOk (fwdIsland f.bank) then
    let g : Frame := { f with born := d.tim.up }
    let (id, d1) := d.newFrame g
    { d1 with fwd := { d1.fwd with wait := d1.waitWith id g } }
  else d

/-! ### Fields of a received Dovetail frame (Tables RNG-3 to RNG-5) -/

def dType (l : List Byte) : Nat := (l.getD 14 0).toNat % 16
def dSrc (l : List Byte) : Nat := (l.getD 15 0).toNat / 4
def dHops (l : List Byte) : Nat := be16 l 16 / 64 % 64
def dCyc (l : List Byte) : Nat := beNat ((l.drop 18).take 6)

/-- `n` octets at `o`, most significant first. -/
def beAt (l : List Byte) (o n : Nat) : Nat := beNat ((l.drop o).take n)

/-- Check 2 of Table RNG-6: EtherType, version, type, length with FCS. -/
def doveFormat (l : List Byte) (n : Nat) : Bool :=
  be16 l 12 == 0x88B5 && (l.getD 14 0).toNat / 16 == 1
  && (match dType l with
      | 1 => n == 128
      | 2 => n == 128
      | 4 => n == 128
      | 3 => decide (102 ≤ n ∧ n ≤ 9262)
      | _ => false)

/-- A SYNC or COLDSTART as the rules use it: received on `p` with ingress stamp `st`. -/
def Dev.rSync (d : Dev) (p : Nat) (l : List Byte) (st : Nat) : RSync :=
  let tx := expandTime (BitVec.ofNat 64 (beAt l 46 8)) st
  let b := fun i => (l.getD i 0).toNat
  { port := p, src := dSrc l, hops := dHops l, cold := dType l == 1
    theta := ((st : Int) - d.ldlyU p) - ((tx + beAt l 28 4 * 2 ^ 40 : Nat) : Int)
    cyc := dCyc l, st := b 70 % 8, ref := (b 70).testBit 3, bank := b 24 / 64, msId := b 80, msOp := b 81 / 64, msBank := b 81 / 16 % 4
    msSrc := b 82 % 64, msCyc := beAt l 83 6, barId := be16 l 89, barArr := (b 91).testBit 7, snapV := (b 93).testBit 7, snapId := b 92
    snapClear := (b 93).testBit 5, snapScope := b 93 / 4 % 8, snapT := BitVec.ofNat 64 (beAt l 96 8) }

/-! ### Circuit and link delay (R180, R181) -/

/-- An own SYNC or COLDSTART that came back on port `p`: the circuit of the port it left by (R181). -/
def Dev.circuit (d : Dev) (p : Nat) (l : List Byte) (st : Nat) : Dev :=
  let a := d.memOf (attOf p)
  let q := otherPort p - 32
  let tx := expandTime (BitVec.ofNat 64 (beAt l 46 8)) st
  let r := d.freeDiv ((st : Int) - tx) (nsU : Nat)
  let c := (clampI 0 (2 ^ 32 - 1) r.1).toNat
  let d1 := (r.2.sf (Reg.rngCircuit q) 0 32 c).sb (Reg.rngCircuit q) 32 true
  if d1.gf (Reg.rngCycCfg a) 32 30 < c + 1000 then (d1.sb (Reg.rngStat (attOf p)) 5 true).raise 5 (attOf p) 0x15 c else d1

/-- A measured link delay that its register cannot hold has no stated value. -/
def Dev.fit32 (d : Dev) (x : Int) : Nat × Dev :=
  if 0 ≤ x ∧ x < 2 ^ 32 then (x.toNat, d) else ((Config.freeWord d.free).toNat % 2 ^ 32, d.useFree)

/-- LDLY of port `p` takes a sample of `s` / 2 in 2^-48 ns (R180). -/
def Dev.ldlySample (d : Dev) (p : Nat) (s : Int) : Dev :=
  let r := Reg.rngLdly (p - 32)
  let old : Int := (d.gf r 0 32 : Nat)
  if d.gb r 32 then
    if (d.precWin (d.memOf (attOf p)) * 256 * 2 ^ 41 : Nat) < (s - old * 2 ^ 41).natAbs then d
    else
      let q := d.freeDiv (15 * old * 2 ^ 41 + s) (2 ^ 45)
      let v := q.2.fit32 q.1
      v.2.sf r 0 32 v.1
  else
    let q := d.freeDiv s (2 ^ 41)
    let v := q.2.fit32 q.1
    (v.2.sf r 0 32 v.1).sb r 32 true

/-- The neighbour's own SYNC of cycle `n` on port `p`: a sample of the link delay from the stamps of cycle n − 1, and its own stamp kept. -/
def Dev.neighbour (d : Dev) (p : Nat) (l : List Byte) (st : Nat) : Dev :=
  let n := dCyc l
  let prev := (n + 2 ^ 48 - 1) % 2 ^ 48
  let at_ := fun (m : List (Nat × Nat)) => (m.find? (fun e => e.1 == prev)).map (fun e => e.2)
  let rx := beAt l 54 8
  let tx := beAt l 62 8
  let d1 := match at_ (Sparse.getD d.rng.sentAt p []), at_ (Sparse.getD d.rng.peerAt p []) with
    | some t1, some t4 =>
      if rx = 0 ∨ tx = 0 then d
      else d.ldlySample p (((t4 : Int) - t1) - ((expandTime (BitVec.ofNat 64 tx) st : Int) - expandTime (BitVec.ofNat 64 rx) st))
    | _, _ => d
  { d1 with rng := { d1.rng with peerAt := Sparse.put d1.rng.peerAt p ((n, st) :: (Sparse.getD d1.rng.peerAt p []).take 1) } }

/-! ### Forwarding (R178) -/

/-- A control frame received on `p` with stamp `st` is sent on by the other port, or dropped and counted; OFF and HALTED forward nothing. -/
def Dev.ringForward (d : Dev) (p : Nat) (l : List Byte) (st : Nat) : Dev :=
  let q := otherPort p
  let a := d.memOf (attOf p)
  let due := st + 1200 * nsU
  let fin := due + octetTime (d.portRate q) 136
  let b := d.ringBegin a st
  let s := d.rngSt a
  let late := if dType l = 4 then
      decide (b + getF (d.beCfg a) 32 30 * nsU < fin + d.guardU q) || !((d.resvAt q due).isEmpty)
      || (match d.nextResv q due with | some r => decide (r.at_ < fin) | none => false)
    else decide (b + d.ringSeg a < fin + d.guardU q)
  if d.ringLive (attOf p) = false then d
  else if dHops l = 63 then d.inc (Reg.rngDropCnt (p - 32))
  else if (3 ≤ s ∧ s ≤ 5) ∧ late then d.inc (Reg.rngDropCnt (q - 32))
  else
    let out := patch l 16 2 (be16 l 16 + 64)
    let d1 := (d.modPort q (fun y => { y with holds := y.holds ++ [⟨true, due, due + d.wireTime q 128⟩] })).inc (Reg.preHoldCnt q)
    let d2 := d1.askCut q 2
    { d2 with rng := { d2.rng with fwds := d2.rng.fwds ++ [⟨q, p, st, due, out⟩] } }

/-! ### What an accepted frame does -/

/-- LISTEN: the collection window (R187), and that something was heard (R190). -/
def Dev.listenRx (d : Dev) (a : Nat) (f : RSync) : Dev :=
  let r := d.ratt a
  let opens : Bool := r.winEnd.isNone && (!r.adopted || decide (d.precWin a * nsU < f.theta.natAbs))
  let wend := if opens then some (d.tim.up + d.ringSeg a) else r.winEnd
  d.modAtt a (fun x => { x with heard := true, winEnd := wend, win := if wend.isSome then x.win ++ [f] else x.win })

/-- COLDSTART: a SYNC, or a COLDSTART of a lower node, aborts (R195). -/
def Dev.coldRx (d : Dev) (a : Nat) (f : RSync) : Dev :=
  if (f.cold = false ∨ f.src < d.nodeId a) ∧ (d.ratt a).abortAt.isNone then
    (d.modAtt a (fun x => { x with abortAt := some (d.tim.up + d.ringC a + d.nodeId a * usU) })).inc (Reg.rngCsAbortCnt a)
  else d

/-- An accepted snapshot announcement (R202, R206): an ACTIVE member arms its own; a gateway relays it. -/
def Dev.snapRx (d : Dev) (a p : Nat) (f : RSync) : Dev :=
  if f.snapV = false ∨ f.cold then d
  else
    let t := expandTime f.snapT d.now
    let d1 := if d.memSt a ≠ 4 ∨ d.snaptState = 1 ∨ d.snaptState = 2 then d else d.snapArm f.snapId f.snapScope f.snapClear true t
    if d1.gateway ∧ d1.gb (Reg.rngFedCfg a) 5 then
      let next := (d1.cycIdx (1 - a) d1.now + 1) * d1.ringC (1 - a)
      if next ≤ t then d1.modAtt (1 - a) (fun x => { x with ann := some ⟨f.snapId, f.snapScope, f.snapClear, f.snapT⟩ })
      else d1.inc (Reg.rngDropCnt (p - 32))
    else d1

/-- After a COLDSTART abort the node waits, and frames are forwarded only (Table RNG-8). -/
def Dev.coldWait (d : Dev) (a : Nat) : Bool := d.memSt a == 2 && (d.ratt a).abortAt.isSome

/-- A SYNC or COLDSTART that passed checks 1 to 5, and check 6 where it applies. -/
def Dev.syncAccepted (d : Dev) (a p : Nat) (f : RSync) (inSeg : Bool) : Dev :=
  let d1 := if inSeg && !(d.coldWait a) then d.modAtt a (fun x => { x with seg := x.seg ++ [f] }) else d
  let d2 := if d1.memSt a = 1 then d1.listenRx a f else if d1.memSt a = 2 then d1.coldRx a f else d1
  d2.snapRx a p f

/-- A broadcast received (R201, R206). -/
def Dev.bcastRx (d : Dev) (a : Nat) (l : List Byte) : Dev :=
  let ring := (l.getD 39 0).toNat % 16
  let key := dSrc l * 16 + ring
  let seq := be16 l 32
  let len := (l.getD 38 0).toNat % 128
  let fed := (l.getD 38 0).toNat / 128 == 1
  let data := (l.drop 40).take (min len 64)
  if Sparse.find d.rng.bcLast key = some seq then d
  else if 16 ≤ d.rng.bcRx.length then d.inc Reg.rngBcLostCnt
  else
    let d1 : Dev := { d with rng := { d.rng with bcRx := d.rng.bcRx ++ [⟨dSrc l, ring, len, data⟩], bcLast := Sparse.put d.rng.bcLast key seq } }
    let d2 := d1.syncBc
    if d2.gateway ∧ d2.gb (Reg.rngFedCfg a) 6 ∧ fed = false then
      let n := (d2.rng.bcNum + 1) % 65536
      { d2 with rng := { d2.rng with bcNum := n, bcs := d2.rng.bcs ++ [⟨1 - a, n, len, some ring, data⟩] } }
    else d2

/-- A DATA frame's deviation is inside the window (R177); 0.64 ns is 16 / 25 ns. -/
def Dev.dataInWindow (d : Dev) (a p : Nat) (l : List Byte) (st : Nat) : Bool :=
  let b : Nat := cycNear (dCyc l) (d.cycIdx a st) * d.ringC a + beAt l 24 4 % 2 ^ 30 * nsU
  decide ((25 * ((st : Int) - (d.ldlyU p : Nat) - (b : Nat)) - (16 * nsU : Nat)).natAbs ≤ 25 * d.precWin a * nsU)

/-- An accepted DATA frame: its inner frame is stored, with its stream and number unless BE = 1 (R175, R179). -/
def Dev.dataRx (d : Dev) (p : Nat) (l : List Byte) (st : Nat) : Dev :=
  let inner := l.drop 38
  let be := (l.getD 17 0).toNat % 2
  let v := d.rxVid p (tagsOf false false inner)
  d.toPipeline { octets := inner, stream := if be = 1 then none else some (beAt l 34 3 / 64), seq := if be = 1 then none else some (be16 l 32)
                 rx := some p, bank := sliceOf p, stamp := st, prio := v.2, vid := v.1, total := inner.length + 4
                 dove := some (dSrc l, dHops l, be) }

/-! ### Table RNG-6 -/

/-- Check 6 for a SYNC or COLDSTART in INTEGRATE, ACTIVE or PASSIVE. -/
def Dev.syncInWindow (d : Dev) (a : Nat) (f : RSync) (inSeg : Bool) : Bool :=
  inSeg && decide (f.theta.natAbs ≤ d.precWin a * nsU)

/-- Checks 5 and 6 for a SYNC or COLDSTART, and its forwarding. -/
def Dev.syncRx (d : Dev) (a p : Nat) (l : List Byte) (st : Nat) : Dev :=
  if beAt l 72 4 % 2 ^ 30 ≠ d.gf (Reg.rngCycCfg a) 0 30 ∨ beAt l 76 4 % 2 ^ 30 ≠ d.gf (Reg.rngCycCfg a) 32 30 then
    d.inc (Reg.rngFmtRejCnt (p - 32))
  else
    let d1 := if dType l = 2 ∧ dHops l = 0 then d.neighbour p l st else d
    let f := d1.rSync p l st
    let inSeg := decide (st < d1.ringBegin a st + d1.ringSeg a)
    let live := decide (3 ≤ d1.memSt a ∧ d1.memSt a ≤ 5)
    let d2 := if live && !(d1.syncInWindow a f inSeg) then
        (if f.cold then d1 else d1.modAtt a (fun x => { x with rej := x.rej ++ [f.src] })).inc (Reg.rngWinRejCnt (p - 32))
      else (d1.syncAccepted a p f inSeg).inc (Reg.rngRxOkCnt (p - 32))
    d2.ringForward p l st

/-- A frame that the MAC passed on ring port `p`: octets without FCS, ingress stamp (R176). -/
def Dev.ringReceive (d : Dev) (p : Nat) (l : List Byte) (st : Nat) : Dev :=
  let a := d.memOf (attOf p)
  let k := p - 32
  if d.inserted (attOf p) = false then d
  else if doveFormat l (l.length + 4) = false then d.inc (Reg.rngFmtRejCnt k)
  else if be16 l 16 / 4096 ≠ d.gf (Reg.rngCtl a) 12 4 ∨ (l.getD 15 0).toNat / 2 % 2 ≠ d.chanOf p then d.inc (Reg.rngFmtRejCnt k)
  else if dSrc l = d.nodeId a then
    (if dType l = 1 ∨ dType l = 2 then d.circuit p l st else d).inc (Reg.rngReturnCnt k)
  else match dType l with
    | 3 =>
      if (3 ≤ d.memSt a ∧ d.memSt a ≤ 5) ∧ d.dataInWindow a p l st = false then d.inc (Reg.rngWinRejCnt k)
      else (d.dataRx p l st).inc (Reg.rngRxOkCnt k)
    | 4 => ((d.bcastRx a l).inc (Reg.rngRxOkCnt k)).ringForward p l st
    | _ => d.syncRx a p l st

end Sys2Proof.Machine
end

