-- ==== Sys2Proof/Machine/Forwarding.lean ====
section
/-! DEFINITION. Chapter 9, a frame's pass through the pipeline of its slice (Table FWD-1): lookups, VLAN check, learning, stream
identification and recovery, fabric frames (R301), routing (R297), flooding and pruning (R299, R300). -/

namespace Sys2Proof.Machine

/-! ### What a frame carries -/

/-- The recognised tags of a frame in the pipeline: those of its edge port, none but C-tags for an inner frame, all for a host frame. -/
def Dev.tagsFor (d : Dev) (f : Frame) : List Tag :=
  match f.rx with
  | some p => if p < 32 then tagsOf (d.svlan p) (!f.noRtag) f.octets else tagsOf false false f.octets
  | none => tagsOf true true f.octets

/-- The edge port a frame was received on. -/
def Frame.edge (f : Frame) : Option Nat := f.rx.bind (fun p => if p < 32 then some p else none)

/-- Step 1 of Table FWD-1 decides: the frame goes to HOST_QP only. -/
def Frame.hostOnly (f : Frame) : Bool :=
  f.edge.isSome && (daOf f.octets / 16 == 0x0180C200000 || (f.loc && !(isGroup (daOf f.octets))))

/-- Step 2 lets the frame pass. -/
def Dev.vlanOk (d : Dev) (f : Frame) : Bool :=
  let v := d.rd (Reg.fwdVlan f.vid)
  getB v 63 && (match f.rx with | some p => !(d.gb (Reg.fwdPortCfg p) 1) || getB v p | none => true)

/-- The frame is to be routed (step 8). -/
def Dev.routable (d : Dev) (f : Frame) : Bool :=
  let t := etherType (d.tagsFor f) f.octets
  d.gb Reg.fwdCfg 0 && d.gb Reg.fwdRmac 63 && daOf f.octets == d.gf Reg.fwdRmac 0 48 && (t == 0x0800 || t == 0x86DD)

/-- Keys of a frame's two lookups (R272): the source's and the destination's. -/
def Frame.keys (f : Frame) : List (Nat × Bool) := [(fwdKey (saOf f.octets) f.vid, true), (fwdKey (daOf f.octets) f.vid, false)]

/-! ### Main-table reads a frame needs (R273, R276) -/

/-- Reads of slice `s` that are outstanding. -/
def Dev.readsOut (d : Dev) (s : Nat) : Nat := (d.fwd.lookups.filter (fun m => m.slice == s && m.res.isNone)).length

/-- The lookups of frame `id` that miss the cache and have no main-table read yet. -/
def Dev.readsNeeded (d : Dev) (s id : Nat) (f : Frame) : List (Nat × Bool) :=
  if d.mainOut ∨ f.hostOnly ∨ d.vlanOk f = false then []
  else f.keys.filter (fun k => (d.cacheEntry s k.1).isNone && !(d.fwd.lookups.any (fun m => m.frame == id && m.key == k.1 && m.src == k.2)))

/-- What the main table answered to a lookup of frame `id`. -/
def Dev.readResult (d : Dev) (id key : Nat) (src : Bool) : Option (Word × Bool) :=
  ((d.fwd.lookups.find? (fun m => m.frame == id && m.key == key && m.src == src)).bind (fun m => m.res)).bind (fun r => r)

/-- The cache sets of a frame's keys are read: ways with an uncorrectable error go (R305). -/
def Dev.readWays (d : Dev) (s : Nat) (f : Frame) : Dev :=
  f.keys.foldl (fun (x : Dev) k => (cacheWays k.1).foldl (fun (y : Dev) i => y.cacheWayRead s i) x) d

/-! ### Ends of a frame's pass -/

/-- The frame leaves the pipeline's list with its reads. -/
def Dev.fwdTake (d : Dev) (id : Nat) : Dev :=
  { d with fwd := { d.fwd with wait := d.fwd.wait.filter (· != id), lookups := d.fwd.lookups.filter (fun m => m.frame != id) } }

/-- A mark among a frame's destinations that keeps it stored while its copies are being made. -/
def inPipeline : Nat := 64

/-- What ingress port of the frame sees of octets released (R261). -/
def Dev.afterFrame (d : Dev) (f : Frame) : Dev := match f.rx with | some p => d.pauseCheck p | none => d

/-- The pass ends with the frame to be sent on `ports`; with none, a host frame's entry ends with status `st`. -/
def Dev.fwdEnd (d : Dev) (id : Nat) (ports : List Nat) (st : Nat) : Dev :=
  match d.frame id with
  | none => d
  | some f =>
    let d1 := (d.setFrame id { f with dests := ports })
    let d2 := match f.entry with
      | some (q, n) => if ports = [] then d1.endSqe q n st 0 0 else d1.modSqe q n (fun e => { e with left := ports.length })
      | none => d1
    ((ports.foldl (fun (x : Dev) p => (x.enqueue p id).purge p) d2).reap id).afterFrame f

/-- The frame is discarded. -/
def Dev.fwdDiscard (d : Dev) (id : Nat) : Dev := d.fwdEnd id [] 8

/-- A delivery to the ingress port's HOST_QP, made while HOST_EN = 1. -/
def Dev.toHost (d : Dev) (s id : Nat) (rx : Option Nat) : Dev :=
  match rx with
  | some p => if d.gb (Reg.fwdPortCfg p) 18 then (d.inc (Reg.fwdHostCnt s)).deliver id (d.gf (Reg.fwdPortCfg p) 2 16) else d
  | none => d

/-! ### Step 3: the source (R278–R281) -/

/-- What a source lookup that met its key on ingress port `p` learns or moves: a cache entry, a main-table entry, neither. -/
def Dev.sourceStep (d : Dev) (s id p : Nat) (f : Frame) : Option Word × Dev :=
  let sa := saOf f.octets
  let key := fwdKey sa f.vid
  let ok := !(isGroup sa) && d.gb (Reg.fwdPortCfg p) 0 && d.gb (Reg.fwdVlan f.vid) 36
  match d.cacheSearch s key with
  | (some i, d1) => (some (d1.cw s i 1), d1.sourceHit s i p ok)
  | (none, d1) =>
    match d.readResult id key true with
    | some (w, true) => (some w, if eDkind w = 0 ∧ eDest w = p then d1 else d1.inc (Reg.fwdMoveRefCnt s))
    | some (w, false) => (some w, d1)
    | none => (none, if ok then d1.learnQueue s key p else d1)

/-- Step 3: the source lookup of a frame; that of a host frame finds its entry and learns nothing (R320). -/
def Dev.sourceLook (d : Dev) (s id : Nat) (f : Frame) : Option Word × Dev :=
  match f.rx with
  | some p => d.sourceStep s id p f
  | none =>
    let key := fwdKey (saOf f.octets) f.vid
    match d.cacheSearch s key with
    | (some i, d1) => (some (d1.cw s i 1), d1)
    | (none, d1) => ((d.readResult id key true).map (fun r => r.1), d1)

/-- The destination lookup: word 1 of the entry. -/
def Dev.destStep (d : Dev) (s id : Nat) (f : Frame) : Option Word × Dev :=
  let key := fwdKey (daOf f.octets) f.vid
  match d.cacheSearch s key with
  | (some i, d1) => (some (d1.cw s i 1), d1)
  | (none, d1) => ((d.readResult id key false).map (fun r => r.1), d1)

/-! ### Step 4: the trie -/

/-- The lookup of the frame's IP destination, where one is made: the trie's answer; single-bit errors are corrected. -/
def Dev.trieStep (d : Dev) (s : Nat) (f : Frame) : Trie × Dev :=
  let wanted := (match f.edge with | some p => d.gb (Reg.strPortCfg p) 2 | none => false) || d.routable f
  match ipDest (d.tagsFor f) f.octets with
  | some (v6, dst) =>
    if wanted ∧ d.islandOk 2 then
      let r := d.fwdReadWords s (d.trieReads v6 dst)
      match r.1 with
      | some a => (.bad a, r.2)
      | none => (d.trieLookup v6 dst, r.2)
    else (.found none, d)
  | none => (.found none, d)

/-! ### Step 6: streams -/

/-- The stream of the frame (Table STR-4): the header of a DATA frame, the submission entry, or Table STR-5. -/
def Dev.streamStep (d : Dev) (f : Frame) (da sa : Option Word) (trie : Option Word) : Option Nat :=
  match f.edge with
  | some p =>
    let named := fun (o : Option Word) (b : Nat) => o.bind (fun w => if getB w b then some (getF w 20 18) else none)
    let v6 := etherType (d.tagsFor f) f.octets == 0x86DD
    d.strId p (named da 18) (named sa 19) (trieStream v6 trie)
  | none => f.stream

/-- A frame of stream `n` is judged and numbered (R139, R145, R147–R149, R141): false where it is discarded. -/
def Dev.recvStream (d : Dev) (id : Nat) (f : Frame) (n : Nat) : Bool × Dev :=
  let d1 := d.readRec n
  let bar := d1.strBar n none
  if bar ≠ .none then (false, d1.countBar bar)
  else
    let q := if f.edge.isSome then rtagSeq (d.tagsFor f) else f.seq
    let r : Bool × Dev := if d1.sRcv n then d1.recover n q else (true, d1)
    if r.1 then
      let a := r.2.assignSeq n q true
      (true, a.2.setFrame id { f with stream := some n, seq := a.1 })
    else (false, r.2)

/-- Step 6 for a received frame; a host frame was judged and numbered when it was stored.  An R-TAG of a frame of no stream (R145). -/
def Dev.identify (d : Dev) (id : Nat) (f : Frame) (n : Option Nat) : Bool × Dev :=
  match f.rx, n with
  | none, _ => (true, d)
  | some _, some k => d.recvStream id f k
  | some p, none =>
    if p < 32 ∧ (rtagSeq (d.tagsFor f)).isSome then
      (!(d.gb (Reg.strPortCfg p) 4), d.inc Reg.strRtagUnkCnt)
    else (true, d)

/-! ### Step 7: fabric frames (R301) -/

/-- The frame is stored for the calendar; with FAB_DEPTH frames of its stream unbound already, the oldest goes. -/
def Dev.holdFabric (d : Dev) (s id n : Nat) : Dev :=
  let held := d.frames.filter (fun e => e.2.fabric && e.2.stream == some n)
  let d1 := if d.gf Reg.fwdCfg 4 4 ≤ held.length then
      match held.head? with
      | some (o, g) => ((d.dropFrame o).inc (Reg.fwdFabDropCnt s)).afterFrame g
      | none => d
    else d
  match d1.frame id with
  | none => d1
  | some f =>
    let d2 := d1.setFrame id { f with fabric := true, dests := [], entry := none }
    match f.entry with
    | some (q, k) => d2.endSqe q k 0 0 0
    | none => d2

/-! ### Step 8: routing (R297) -/

/-- Word `k` of next hop `n`. -/
def nhAddr (n k : Nat) : Nat := bar4Addr (0x4100000 + n * 0x10 + k * 8)

/-- Offset of the IP header. -/
def Dev.ipOfs (d : Dev) (f : Frame) : Nat := afterTags (d.tagsFor f) + 2

/-- The ones' complement sum of octets folded to 16 bits. -/
def fold16 (l : List Byte) : Nat :=
  let s := onesSum l (l.length / 2 + 1)
  let a := s % 65536 + s / 65536
  a % 65536 + a / 65536

/-- Octets of an IPv4 header at `o`. -/
def ip4Header (l : List Byte) (o : Nat) : List Byte := (l.drop o).take ((l.getD o 0).toNat % 16 * 4)

/-- The TTL or hop limit has run out, or the IPv4 header checksum is wrong. -/
def routeBad (v6 : Bool) (l : List Byte) (o : Nat) : Bool :=
  decide ((l.getD (o + (if v6 then 7 else 8)) 0).toNat ≤ 1) || (!v6 && fold16 (ip4Header l o) != 65535)

/-- The TTL or hop limit counted down, with the checksum of an IPv4 header. -/
def routeCount (v6 : Bool) (l : List Byte) (o : Nat) : List Byte :=
  let t := o + (if v6 then 7 else 8)
  let l1 := overwriteAt l t [(l.getD t 0) - 1]
  if v6 then l1
  else
    let l2 := overwriteAt l1 (o + 10) [0, 0]
    overwriteAt l2 (o + 10) (beBytes 2 (65535 - fold16 (ip4Header l2 o)))

/-- The frame as KIND 0b01 changes it: addresses, VID of its outer tag, TTL. -/
def Dev.rewrite (d : Dev) (f : Frame) (w0 w1 : Word) : Frame :=
  let v6 := etherType (d.tagsFor f) f.octets == 0x86DD
  let l1 := routeCount v6 f.octets (d.ipOfs f)
  let l2 := overwriteAt l1 0 (beBytes 6 (getF w1 0 48) ++ beBytes 6 (d.gf Reg.fwdRmac 0 48))
  let l3 := match outerVlan (d.tagsFor f) with
    | some (o, tci) => overwriteAt l2 (o + 2) (beBytes 2 (tci / 4096 * 4096 + getF w0 8 12))
    | none => l2
  { f with octets := l3, vid := getF w0 8 12 }

/-- A routing exception: counted; to HOST_QP or discarded. -/
def Dev.routeExc (d : Dev) (s id : Nat) (host : Bool) : Dev :=
  let d1 := d.inc (Reg.fwdRouteExcCnt s)
  match d1.frame id with
  | some f => if host ∧ f.rx.isSome then (d1.toHost s id f.rx).fwdDiscard id else d1.fwdDiscard id
  | none => d1

/-! ### Step 10: pruning (R300) -/

/-- The flood port of attachment `a`: RING_FLOOD_PORT, or the port of its direction where that lies on the other attachment. -/
def Dev.floodPort (d : Dev) (a : Nat) : Nat := 32 + 2 * a + d.gf Reg.fwdCfg 9 6 % 2

/-- A ring port may take the frame (R300). -/
def Dev.ringMay (d : Dev) (rx : Option Nat) (flood : Bool) (q : Nat) : Bool :=
  match rx with
  | some p =>
    if p < 32 then !flood || (d.gb Reg.fwdCfg 8 && q == d.gf Reg.fwdCfg 9 6)
    else if attOf q = attOf p then true
    else d.gateway && (!flood || q == d.floodPort (attOf q))
  | none => !flood || (d.gb Reg.fwdCfg 8 && q == d.gf Reg.fwdCfg 9 6)

/-- The ports left of a destination set (a 36-bit map); a Pdelay message is forwarded to no edge port (R46). -/
def Dev.prune (d : Dev) (f : Frame) (set : Nat) (flood : Bool) : List Nat :=
  let members := d.gf (Reg.fwdVlan f.vid) 0 36
  (List.range 36).filter (fun q => set.testBit q && members.testBit q && f.rx != some q && d.gb (Reg.macCfg q) 0 && d.linkUp q
    && (decide (q < 32) || d.ringMay f.rx flood q) && !(f.edge.isSome && d.isPdelay q f.octets))

/-- Step 10 and the end of the pass: `extra` where a copy goes to the host. -/
def Dev.send (d : Dev) (s id : Nat) (set : Nat) (flood extra : Bool) : Dev :=
  match d.frame id with
  | none => d
  | some f =>
    let ps := d.prune f set flood
    let worn := match f.dove with | some h => h.2.1 == 63 | none => false
    let drop := worn && ps.any (fun q => decide (32 ≤ q))
    let qs := if worn then ps.filter (fun q => decide (q < 32)) else ps
    let d1 := if drop then d.inc (Reg.rngDropCnt (f.rx.getD 32 - 32)) else d
    if qs = [] ∧ extra = false then (d1.inc (Reg.fwdNoDestCnt s)).fwdDiscard id
    else d1.fwdEnd id qs 0

/-- Steps 8 with a next hop: the frame is routed, or meets an exception. -/
def Dev.route (d : Dev) (s id : Nat) (f : Frame) (res : Option Word) : Dev :=
  let v6 := etherType (d.tagsFor f) f.octets == 0x86DD
  if routeBad v6 f.octets (d.ipOfs f) then d.routeExc s id true
  else match res with
    | none => d.routeExc s id (d.gb Reg.fwdCfg 1)
    | some e =>
      match d.fwdReadWords s [nhAddr (tNh e) 0, nhAddr (tNh e) 1] with
      | (some a, d1) => (d1.fwdEccBad s a).fwdDiscard id
      | (none, d1) =>
        let w0 := d1.ldW (nhAddr (tNh e) 0)
        match getF w0 0 2 with
        | 0 => d1.routeExc s id (d1.gb Reg.fwdCfg 1)
        | 1 => ((d1.inc (Reg.fwdRouteCnt s)).setFrame id (d1.rewrite f w0 (d1.ldW (nhAddr (tNh e) 1)))).send s id (2 ^ getF w0 2 6) false false
        | 2 => ((d1.inc (Reg.fwdRouteCnt s)).deliver id (getF w0 32 16)).fwdEnd id [] 0
        | _ => d1.routeExc s id false

/-- Steps 9 and 10. -/
def Dev.destSet (d : Dev) (s id : Nat) (f : Frame) (res : Option Word) : Dev :=
  let v := d.rd (Reg.fwdVlan f.vid)
  match res with
  | none =>
    if getB v (if isGroup (daOf f.octets) then 38 else 37) then
      let d1 := d.inc (Reg.fwdFloodCnt s)
      let copy := getB v 39 && f.rx.isSome
      (if copy then d1.toHost s id f.rx else d1).send s id (getF v 0 36) true copy
    else d.send s id 0 false false
  | some w =>
    match eDkind w with
    | 0 => d.send s id (2 ^ eDest w) false false
    | 1 =>
      let g := d.rd (Reg.fwdMcg (eDest w % 4096))
      let copy := getB g 36 && f.rx.isSome
      (if copy then d.toHost s id f.rx else d).send s id (getF g 0 36) false copy
    | 2 => (d.deliver id (eDest w)).fwdEnd id [] 0
    | _ => (d.inc (Reg.fwdNoDestCnt s)).fwdDiscard id

/-! ### Table FWD-1 -/

/-- Steps 7 to 10. -/
def Dev.fwdOut (d : Dev) (s id : Nat) (da trie : Option Word) : Dev :=
  match d.frame id with
  | none => d
  | some f =>
    match f.stream with
    | some n => if d.sFabric n then d.holdFabric s id n
        else if d.routable f then d.route s id f trie else d.destSet s id f da
    | none => if d.routable f then d.route s id f trie else d.destSet s id f da

/-- Steps 3 to 10. -/
def Dev.fwdLook (d : Dev) (s id : Nat) (f : Frame) : Dev :=
  let r3 := d.sourceLook s id f
  match r3.2.trieStep s f with
  | (.bad a, d4) => ((d4.fwdTake id).fwdEccBad s a).fwdDiscard id
  | (.found t, d4) =>
    let r5 := d4.destStep s id f
    let r6 := (r5.2.fwdTake id).identify id f (r5.2.streamStep f r5.1 r3.1 t)
    if r6.1 then r6.2.fwdOut s id r5.1 t else r6.2.fwdDiscard id

/-- A frame passes the steps of Table FWD-1. -/
def Dev.fwdRun (d : Dev) (s id : Nat) (f0 : Frame) : Dev :=
  let f : Frame := { f0 with dests := [inPipeline] }
  let d0 := d.setFrame id f
  if f.hostOnly then (((d0.fwdTake id).toHost s id f.rx).fwdEnd id [] 0)
  else
    let d1 := if f.loc ∧ f.edge.isSome then d0.toHost s id f.rx else d0
    match d1.frame id with
    | none => d1
    | some g =>
      if d1.vlanOk g = false then ((d1.fwdTake id).inc (Reg.fwdVlanDropCnt s)).fwdDiscard id
      else d1.fwdLook s id g

/-- What slice `s` does next: the oldest frame of its ingress port whose lookups have their results passes the pipeline; a frame without them
issues its reads.  A frame that waits for results keeps the later ones of its port from passing (`held`), one that cannot issue its reads keeps
them from issuing theirs too (`stuck`) (R273).  A frame to be routed is stored whole first. -/
def Dev.fwdPick (d : Dev) (s : Nat) : List Nat → List Nat → List Nat → Dev
  | [], _, _ => d
  | id :: t, held, stuck =>
    match d.frame id with
    | none => Dev.fwdPick d s t held stuck
    | some f =>
      let p := f.rx.toList
      if f.bank ≠ s ∨ f.headKnown = false ∨ p.any stuck.contains then Dev.fwdPick d s t held stuck
      else
        let d1 := if f.hostOnly ∨ d.vlanOk f = false then d else d.readWays s f
        let need := d1.readsNeeded s id f
        if need ≠ [] then
          if d1.readsOut s + need.length ≤ 256 then
            { d1 with fwd := { d1.fwd with lookups := d1.fwd.lookups ++ need.map (fun k => ⟨id, s, k.1, k.2, none⟩) } }
          else Dev.fwdPick d1 s t (p ++ held) (p ++ stuck)
        else if p.any held.contains ∨ d1.fwd.lookups.any (fun m => m.frame == id && m.res.isNone) ∨ (f.ready = false ∧ d1.routable f) then
          Dev.fwdPick d1 s t (p ++ held) stuck
        else d1.fwdRun s id f

/-- FORWARD_FRAME (R272): nothing while the slice's forwarding island is out. -/
def forwardFrame (s : Nat) (d : Dev) : Dev := if d.islandOk (fwdIsland s) then d.fwdPick s d.fwd.wait [] [] else d

/-- MAIN_TABLE_LOOKUP_RETURN (R276): the oldest outstanding read of slice `s`. -/
def mainTableLookupReturn (s : Nat) (d : Dev) : Dev :=
  match d.fwd.lookups.find? (fun m => m.slice == s && m.res.isNone) with
  | none => d
  | some m =>
    let r := d.mainReturn s m.key m.src
    { r.2 with fwd := { r.2.fwd with lookups := r.2.fwd.lookups.map (fun x => if x = m then { x with res := some r.1 } else x) } }

/-! ### Meanings -/

/-- Meaning of FORWARD_FRAME. -/
def execForwardFrame (sl : Slice) (s : State) : Host.Outcome State Fault Refusal := onDev (forwardFrame sl.val) s

/-- Meaning of MAIN_TABLE_LOOKUP_RETURN. -/
def execMainTableLookupReturn (sl : Slice) (s : State) : Host.Outcome State Fault Refusal := onDev (mainTableLookupReturn sl.val) s

end Sys2Proof.Machine
end

