-- ==== Sys2Proof/Machine/FwdTables.lean ====
section
/-! DEFINITION. Chapter 9, the tables' own machinery: learning commits, cross-slice reports (R284), aging (R285–R288), generations (R289,
R290), table commands and direct writes (R291, R292, R298), the Try-square (R302–R304), and the writes of the FWD_ registers. -/

namespace Sys2Proof.Machine

/-! ### Learning queue and reports -/

/-- LEARN_COMMIT (R278): the oldest key of slice `s`'s queue, no sooner than 1/64 µs after the last. -/
def learnCommit (s : Nat) (d : Dev) : Dev :=
  match d.fwd.learn.find? (fun e => e.1 == s) with
  | none => d
  | some (_, key, port) =>
    if d.islandOk (fwdIsland s) = false then d
    else
      let d1 := d.waitUp (match Sparse.find d.fwd.learnAt s with | some t => t + 125 * 2 ^ 45 | none => 0)
      let d2 : Dev := { d1 with fwd := { d1.fwd with learn := d1.fwd.learn.erase (s, key, port), learnAt := Sparse.put d1.fwd.learnAt s d1.tim.up } }
      d2.learnKey s key port

/-- XS_RECONCILE (R284): the oldest report of the Joiner's queue. -/
def xsReconcile (d : Dev) : Dev :=
  match d.fwd.reports with
  | [] => d
  | r :: t =>
    let key := fwdKey r.mac r.vid
    let d1 : Dev := { d with fwd := { d.fwd with reports := t } }
    match d.gf Reg.fwdCfg 2 2 with
    | 1 =>
      let d2 := d1.cacheEvict key ((List.range 4).filter (· != r.slice))
      if d2.mainOut then d2.inc (Reg.fwdHbmSkipCnt r.slice)
      else
        let e := d2.mainFind r.slice key
        match e.1 with
        | some i => if getB (e.2.mw i 0) 61 then e.2 else e.2.setMain i (setF (e.2.mw i 0) 62 2 r.slice) (setF (e.2.mw i 1) 2 16 r.port)
        | none => e.2
    | 2 => d1.cacheEvict key [r.slice]
    | _ => d

/-! ### Cache sweeper (R285) -/

/-- One visit of a dynamic entry; one with an uncorrectable error goes (R305). -/
def Dev.sweepVisit (d : Dev) (s i : Nat) : Dev :=
  let d1 := (d.cacheWayRead s i).cacheTouch s i
  let w0 := d1.cw s i 0
  let w1 := d1.cw s i 1
  if eValid w0 = false then d1
  else if getB w0 61 then (d1.setCache s i (setB (setB w0 61 false) 62 false) w1).mainRefresh s (eKey w0) (eDest w1)
  else if getB w0 62 = false then d1.setCache s i (setB w0 62 true) w1
  else { d1 with fwd := { d1.fwd with cacheRem := d1.fwd.cacheRem ++ [(s, i, eKey w0)] } }

/-- CACHE_SWEEP_VISIT (R285): the next dynamic entry in index order, evenly paced over SWEEP_MS. -/
def cacheSweepVisit (s : Nat) (d : Dev) : Dev :=
  if d.islandOk (fwdIsland s) = false then d
  else match nextFrom (d.cacheDyn s) (Sparse.getD d.fwd.sweep s 0) 131072 with
    | none => d
    | some (j, gap) =>
      let due := Sparse.getD d.fwd.sweepAt s 0 + gap * d.sweepStep
      let d1 := d.waitUp due
      let d2 : Dev := { d1 with fwd := { d1.fwd with sweep := Sparse.put d1.fwd.sweep s ((j + 1) % 131072), sweepAt := Sparse.put d1.fwd.sweepAt s (due + d.sweepStep) } }
      d2.sweepVisit s j

/-- CACHE_COMPARE_REMOVE (R285): the oldest compare-and-remove of slice `s`. -/
def cacheCompareRemove (s : Nat) (d : Dev) : Dev :=
  match d.fwd.cacheRem.find? (fun e => e.1 == s) with
  | none => d
  | some (_, i, key) =>
    let d1 := ({ d with fwd := { d.fwd with cacheRem := d.fwd.cacheRem.erase (s, i, key) } }).cacheWayRead s i
    let w0 := d1.cw s i 0
    if eValid w0 ∧ eKey w0 = key ∧ getB w0 61 = false ∧ getB w0 62 then (d1.cacheInvalid s i).inc (Reg.fwdCacheAgeCnt s) else d1

/-! ### Main-table scan (R287, R290) -/

/-- DYN_READY or STAT_READY from the passes of the scan. -/
def readyAt (passes : Nat) (o : Option Nat) : Bool := match o with | some n => decide (n < passes) | none => true

/-- `FWD_CLR.DYN_READY` and `STAT_READY` brought up to date. -/
def Dev.syncReady (d : Dev) : Dev :=
  (d.sb Reg.fwdClr 16 (readyAt d.fwd.passes d.fwd.dynAt)).sb Reg.fwdClr 17 (readyAt d.fwd.passes d.fwd.statAt)

/-- The dynamic entries of a bucket are removed. -/
def Dev.bucketClear (d : Dev) (b : Nat) : Dev :=
  (List.range 4).foldl (fun (x : Dev) w =>
    let i := b * 4 + w
    if eValid (x.mw i 0) ∧ getB (x.mw i 0) 61 = false then x.mainInvalid i else x) d

/-- One visit of a valid entry (R287): the scan counts its errors in instance 0, and removes the dynamic entries of a bucket with an
uncorrectable one (R305). -/
def Dev.scanVisit (d : Dev) (i : Nat) : Dev :=
  match d.fwdReadWords 0 (bucketWords (i / 4)) with
  | (some a, d1) => (d1.fwdEccBad 0 a).bucketClear (i / 4)
  | (none, d1) =>
    let w0 := d1.mw i 0
    let w1 := d1.mw i 1
    if d1.mainCurrent i = false then d1.mainInvalid i
    else if getB w0 61 then d1
    else if d1.gf Reg.fwdAgeCfg 32 15 < (d1.now16 + 65536 - getF w1 38 16) % 65536 then
      { d1 with fwd := { d1.fwd with mainRem := d1.fwd.mainRem ++ [(i, eKey w0, getF w1 38 16)] } }
    else d1

/-- MAIN_SCAN_VISIT (R287): the next valid entry in index order, evenly paced over SCAN_MS, or the end of the pass; the scan pauses while
the main table is out (R277). -/
def mainScanVisit (d : Dev) : Dev :=
  if d.mainOut then d
  else
    let j := d.scanNext
    let due := d.fwd.scanAt + (j - d.fwd.scan) * d.scanStep
    let d1 := d.waitUp due
    if j < 16777216 then
      let d2 : Dev := { d1 with fwd := { d1.fwd with scan := j + 1, scanAt := due + d.scanStep } }
      d2.scanVisit j
    else
      let d2 : Dev := { d1 with fwd := { d1.fwd with scan := 0, scanAt := d1.tim.up, passes := d1.fwd.passes + 1 } }
      d2.syncReady

/-- MAIN_COMPARE_REMOVE (R287): the oldest compare-and-remove re-checks TS. -/
def mainCompareRemove (d : Dev) : Dev :=
  match d.fwd.mainRem with
  | [] => d
  | (i, key, ts) :: t =>
    let d1 : Dev := { d with fwd := { d.fwd with mainRem := t } }
    if d1.mainOut then d1.inc (Reg.fwdHbmSkipCnt 0)
    else
      let r := d1.mainFind 0 key
      if r.1 = some i ∧ getB (r.2.mw i 0) 61 = false ∧ getF (r.2.mw i 1) 38 16 = ts then (r.2.mainInvalid i).inc (Reg.fwdMainAgeCnt 0)
      else r.2

/-- The main table goes out or comes back: the scan pauses where it stands, and goes on later by the length of the outage (R277). -/
def Dev.outageSync (d : Dev) : Dev :=
  match d.mainOut, d.fwd.outSince with
  | true, none => { d with fwd := { d.fwd with outSince := some d.tim.up } }
  | false, some t => { d with fwd := { d.fwd with outSince := none, scanAt := d.fwd.scanAt + (d.tim.up - t) } }
  | _, _ => d

/-! ### Generations (R289, R290) -/

/-- The cached entries of a kind lose VALID. -/
def Dev.flashClear (d : Dev) (static : Bool) : Dev :=
  (List.range 4).foldl (fun (x : Dev) s =>
    ((x.validIn (cacheAddr s 0 0) (cacheAddr s 131072 0) 16).filter (fun i => getB (x.cw s i 0) 63 == static)).foldl
      (fun (y : Dev) i => y.cacheInvalid s i) x) d

/-- The passes that must be complete before the next bump of a kind: one that begins with this bump or later (R290). -/
def Dev.bumpDue (d : Dev) : Nat :=
  d.fwd.passes + (if d.fwd.scan = 0 ∧ d.tim.up ≤ d.fwd.scanAt then 0 else 1)

/-- A generation bump, or its refusal. -/
def Dev.bump (d : Dev) (static : Bool) : Dev :=
  if readyAt d.fwd.passes (if static then d.fwd.statAt else d.fwd.dynAt) = false then d.sb (Reg.fwdStat 0) 3 true
  else
    let lo := if static then 12 else 8
    let d1 := (d.scanRoll.sf Reg.fwdClr lo 4 (d.gf Reg.fwdClr lo 4 + 1)).flashClear static
    (if static then ({ d1 with fwd := { d1.fwd with statAt := some d1.bumpDue } } : Dev)
      else { d1 with fwd := { d1.fwd with dynAt := some d1.bumpDue } }).syncReady

/-- A write of `FWD_CLR`. -/
def Dev.wrFwdClr (d : Dev) (v : Word) : Dev :=
  let d1 := if getB v 0 then d.bump false else d
  if getB v 1 then d1.bump true else d1

/-! ### Table commands (R291) -/

/-- The highest DEST of a DKIND (Table FWD-3). -/
def destMax (kind : Nat) : Nat := match kind with | 0 => 35 | 1 => 4095 | _ => 65535

/-- INSERT: RESULT, and the device after. -/
def Dev.tblInsert (d : Dev) (key : Nat) (w1 : Word) : Nat × Dev :=
  if d.mainOut then (3, d)
  else if destMax (eDkind w1) < eDest w1 then (4, d)
  else
    let r := d.mainFind 0 key
    match r.1.orElse (fun _ => (mainWays key).find? (fun i => !(r.2.mainCurrent i))) with
    | none => (2, r.2)
    | some i =>
      let ts := getF (Config.freeWord d.free) 38 16
      let w := BitVec.ofNat 64 (getF w1 0 38 + fld 38 16 ts + fld 54 4 (d.fwdGen true))
      (0, (r.2.scanRoll.useFree.setMain i (BitVec.ofNat 64 (key + fld 60 1 1 + fld 61 1 1)) w).cacheEvict key [0, 1, 2, 3])

/-- DELETE; by mailbox (`strict`) a key without a main-table entry changes nothing. -/
def Dev.tblDelete (d : Dev) (key : Nat) (strict : Bool) : Nat × Dev :=
  if d.mainOut then (3, d)
  else
    let r := d.mainFind 0 key
    match r.1 with
    | some i => (0, (r.2.mainInvalid i).cacheEvict key [0, 1, 2, 3])
    | none => (1, if strict then r.2 else r.2.cacheEvict key [0, 1, 2, 3])

/-- LOOKUP: RESULT with word 1, OWNER, STATIC, and the device after. -/
def Dev.tblLookup (d : Dev) (key : Nat) : (Nat × Option (Word × Nat × Bool)) × Dev :=
  if d.mainOut then ((3, none), d)
  else
    let r := d.mainFind 0 key
    match r.1 with
    | some i => ((0, some (r.2.mw i 1, getF (r.2.mw i 0) 62 2, getB (r.2.mw i 0) 61)), r.2)
    | none => ((1, none), r.2)

/-- The effect of a table command on the tables: its RESULT and answer, and the device after. -/
def Dev.tblRun (d : Dev) (op : Nat) (strict : Bool) : (Nat × Option (Word × Nat × Bool)) × Dev :=
  let key := d.gf Reg.fwdTblKey 0 60
  match op with
  | 1 => let r := d.tblInsert key (d.rd Reg.fwdTblData); ((r.1, none), r.2)
  | 2 => let r := d.tblDelete key strict; ((r.1, none), r.2)
  | 3 => d.tblLookup key
  | _ => ((0, none), d.cacheEvict key [0, 1, 2, 3])

/-- DONE and RESULT of a table command. -/
def Dev.tblDone (d : Dev) (r : Nat) (o : Option (Word × Nat × Bool)) : Dev :=
  let d1 := ((d.sb Reg.fwdTblStat 1 true).sf Reg.fwdTblStat 4 3 r).sb Reg.fwdTblStat 0 false
  let d2 : Dev := { d1 with fwd := { d1.fwd with tbl := none } }
  match o with
  | some (w, own, st) => ((d2.sf Reg.fwdTblStat 8 2 own).sb Reg.fwdTblStat 10 st).wr Reg.fwdTblData w
  | none => d2

/-- The command in progress completes, where its time has come (R291). -/
def Dev.tblSync (d : Dev) : Dev :=
  match d.fwd.tbl with
  | some r => if r.due ≤ d.tim.up then d.tblDone r.result r.look else d
  | none => d

/-- A command begins: DONE follows in 0.5 to 20 µs, which the specification leaves open in between. -/
def Dev.tblGo (d : Dev) (op : Nat) : Dev :=
  let r := (d.useFree).tblRun op false
  let d1 := r.2.sb Reg.fwdTblStat 0 true
  { d1 with fwd := { d1.fwd with tbl := some ⟨d.tim.up + usU / 2 + Config.pick d.free (20 * usU - usU / 2) % (20 * usU - usU / 2 + 1), r.1.1, r.1.2⟩ } }

/-- A write of `FWD_TBL_CMD`: a GO while a command is in progress is ignored and sets OVR. -/
def Dev.wrTblCmd (d : Dev) (v : Word) : Dev :=
  if inRangeAt Reg.fwdTblCmd v then
    let d1 := d.wrReg Reg.fwdTblCmd v
    if getB v 63 = false then d1
    else if d1.fwd.tbl.isSome then d1.sb Reg.fwdTblStat 2 true
    else d1.tblGo (getF v 0 3)
  else d.outOfRange Reg.fwdTblCmd

/-! ### Direct writes (R292, R298) -/

/-- BAR4 offset of a word of the forwarding tables. -/
def fwdOff : FwdWord → Nat
  | .cache sl i k => 0x3000000 + sl.val * 0x200000 + i.toNat * 16 + k.val * 8
  | .main i k => 0x20000000 + i.toNat * 32 + k.val * 8

/-- BAR4 offset of a word of the trie SRAM (Table FWD-5). -/
def trieOff : TrieWord → Nat
  | .root v6 i => (if v6 then 0x4080000 else 0x4000000) + i.toNat * 8
  | .nextHop n k => 0x4100000 + n.toNat * 16 + k.val * 8
  | .tail t e k => 0x4180000 + t.toNat * 0x80 + e.val * 16 + k.val * 8
  | .node n i => 0x4200000 + n.val * 0x800 + i.toNat * 8

/-- The HBM controller of device address `a` (R397): the one that is out where one is, since the whole range is then unavailable. -/
def Dev.hbmIsl (d : Dev) (a : Nat) : Nat :=
  if d.islandOk 34 = false then 34 else if d.islandOk 35 = false then 35 else 34 + a / 4096 % 2

/-- The island of a word of the forwarding tables: its slice's, or the HBM controller of a main-table word. -/
def Dev.fwdWordIsl (d : Dev) : FwdWord → Nat
  | .cache sl _ _ => fwdIsland sl.val
  | .main i k => d.hbmIsl (i.toNat * 32 + k.val * 8)

/-- A word of the forwarding tables written (R292); an entry that becomes valid behind the sweeper or the scan waits for its next round. -/
def Dev.fwdWrite (d : Dev) (o : Nat) (v : Word) : Dev :=
  (if 0x20000000 ≤ o then d.scanRoll
    else if 0x3000000 ≤ o ∧ o < 0x3800000 then d.sweepRoll ((o - 0x3000000) / 0x200000) else d).stW (bar4Addr o) v

/-! ### Try-square (R302–R304) -/

/-- A configuration of the Try-square: `FWD_TSQ_CTL`, then ADDR, HOST, MASK, WMASK of each region. -/
def Dev.tsqRegs (d : Dev) : List Word :=
  d.rd Reg.fwdTsqCtl :: (List.range 8).flatMap (fun k =>
    [d.rd (Reg.fwdTsqAddr k), d.rd (Reg.fwdTsqHost k), d.rd (Reg.fwdTsqMask k), d.rd (Reg.fwdTsqWmask k)])

/-- Words or entries of region `k`; none where its bit of REGIONS is clear. -/
def Dev.tsqLen (d : Dev) (k : Nat) : Nat := if getB (d.fwd.tsqCfg.getD 0 0) (16 + k) then getF (d.tsqC k 0) 32 27 else 0

/-- BAR4 offset of word `i` of region `k`. -/
def Dev.tsqOfs (d : Dev) (k i : Nat) : Nat := getF (d.tsqC k 0) 0 30 + 8 * i

/-- The next word to visit, from region `k`, word `i` on; `n` bounds the regions. -/
def Dev.tsqNext (d : Dev) : Nat → Nat → Nat → Option (Nat × Nat)
  | 0, _, _ => none
  | n + 1, k, i => if 8 ≤ k then none else if i < d.tsqLen k then some (k, i) else Dev.tsqNext d n (k + 1) 0

/-- The pass ends (PASSES). -/
def Dev.tsqDone (d : Dev) : Dev :=
  let d1 : Dev := { d with fwd := { d.fwd with tsqCfg := [], tsqRegion := 0, tsqIdx := 0 } }
  (d1.sf Reg.fwdTsqStat 16 32 (d1.gf Reg.fwdTsqStat 16 32 + 1)).sb Reg.fwdTsqStat 0 false

/-- The pass ends where nothing is left to visit or compare. -/
def Dev.tsqEndCheck (d : Dev) : Dev :=
  if d.fwd.tsqReads = [] ∧ (d.tsqNext 9 d.fwd.tsqRegion d.fwd.tsqIdx).isNone then d.tsqDone else d

/-- A pass begins with the configuration the registers hold. -/
def Dev.tsqBegin (d : Dev) : Dev :=
  ({ d with fwd := { d.fwd with tsqCfg := d.tsqRegs, tsqRegion := 0, tsqIdx := 0 } }).sb Reg.fwdTsqStat 0 true

/-- The shadow read of a word is issued where its translation is there and the link carries it. -/
def Dev.tsqIssue (d : Dev) (r : TsqRead) : Dev :=
  let len := if d.tsqList r.region then 32 else 8
  let a := (d.tsqC r.region 1).toNat + len * r.idx
  if d.linkL0 = false then d
  else match d.xlate 0 .tsq none a len false with
    | (false, d1) => d1
    | (true, d1) =>
      ({ d1 with fwd := { d1.fwd with tsqReads := d1.fwd.tsqReads.map (fun x => if x = r then { x with sent := true } else x) } }).hostRead 0 none
        a len

/-- The next word of the pass is read, and its shadow asked for; a word that WMASK leaves out is not compared. -/
def Dev.tsqVisit (d : Dev) : Dev :=
  match d.tsqNext 9 d.fwd.tsqRegion d.fwd.tsqIdx with
  | none => d.tsqEndCheck
  | some (k, i) =>
    let rate := max 1 (getF (d.fwd.tsqCfg.getD 0 0) 8 8)
    let d1 := d.waitUp (d.fwd.tsqAt + usU / rate)
    let d2 : Dev := ({ d1 with fwd := { d1.fwd with tsqRegion := k, tsqIdx := i + 1, tsqAt := d1.tim.up } }).sf Reg.fwdTsqStat 4 3 k
    if d2.tsqList k = false ∧ getB (d2.tsqC k 3) (i % 8) = false then d2.tsqEndCheck
    else
      let a := bar4Addr (d2.tsqOfs k i)
      let e : Option Nat × Dev := if d2.tsqList k ∨ d2.tsqOfs k i < 0x4000000 then (none, d2) else d2.fwdReadWords 0 [a]
      let d3 := match e.1 with | some b => e.2.fwdEccBad 0 b | none => e.2
      let r : TsqRead := { region := k, idx := i, word := if d3.tsqList k then 0 else d3.ldW a, bad := e.1.isSome }
      ({ d3 with fwd := { d3.fwd with tsqReads := d3.fwd.tsqReads ++ [r] } }).tsqIssue r

/-- A difference (R303): counted, latched, raised. -/
def Dev.tsqMiss (d : Dev) (k ofs : Nat) (repaired : Bool) : Dev :=
  let d1 := d.inc (Reg.fwdTsqMismCnt 0)
  let d2 := if repaired then d1.inc (Reg.fwdTsqRepairCnt 0) else d1
  let d3 := if d2.gb Reg.fwdTsqMiss 63 then d2
    else d2.wr Reg.fwdTsqMiss (BitVec.ofNat 64 (fld 0 30 ofs + fld 30 3 k + fld 33 1 (bit repaired) + fld 63 1 1))
  d3.raise 10 0 0x12 ofs

/-- A word of an image region is repaired from its shadow where it still holds what was compared: the trie, or a stream record under
R135; a calendar bank is only reported. -/
def Dev.tsqRepair (d : Dev) (ofs : Nat) (was shadow : Word) : Bool × Dev :=
  let a := bar4Addr ofs
  if d.ldW a ≠ was then (false, d)
  else if 0x4000000 ≤ ofs then (true, d.stW a shadow)
  else if 0x2000000 ≤ ofs then
    let n := (ofs - 0x2000000) / 0x40
    let k := ofs % 0x40 / 8
    let t := d.sType n
    if (t = 1 ∧ 3 ≤ k) ∨ (t = 2 ∧ d.sType (d.sg n 0 2 18) = 1) then (false, d.writeRec n k shadow) else (true, d.writeRec n k shadow)
  else (false, d)

/-- A word of an image region compared. -/
def Dev.tsqImage (d : Dev) (r : TsqRead) (shadow : Word) : Dev :=
  let m := d.tsqC r.region 2
  if r.bad = false ∧ r.word &&& m = shadow &&& m then d
  else
    let ofs := d.tsqOfs r.region r.idx
    let x : Bool × Dev := if getB (d.fwd.tsqCfg.getD 0 0) 1 then d.tsqRepair ofs r.word shadow else (false, d)
    x.2.tsqMiss r.region ofs x.1

/-- Word `k` of a shadow entry is compared at all, and how it is compared (R302). -/
def Dev.tsqSame (d : Dev) (r : TsqRead) (k : Nat) (x y : Word) : Bool :=
  !(getB (d.tsqC r.region 3) ((4 * r.idx + k) % 8)) || x &&& d.tsqC r.region 2 == y &&& d.tsqC r.region 2

/-- An entry of a list region compared: MAC, VID, STATIC and word 1 bits 37:0. -/
def Dev.tsqEntry (d : Dev) (r : TsqRead) (s0 s1 : Word) : Dev :=
  let key := getF s0 0 60
  let cmp := fun (x y : Word) (w0 w1 : Word) => d.tsqSame r 0 (BitVec.ofNat 64 (getF x 0 60 + fld 61 1 (getF x 61 1)))
    (BitVec.ofNat 64 (getF y 0 60 + fld 61 1 (getF y 61 1))) && d.tsqSame r 1 (BitVec.ofNat 64 (getF w0 0 38)) (BitVec.ofNat 64 (getF w1 0 38))
  let fix := fun (x : Dev) => if getB (x.fwd.tsqCfg.getD 0 0) 1 then let r := x.tblInsert key s1; (r.1 == 0, r.2) else (false, x)
  let e := d.mainFind 0 key
  match e.1 with
  | some i =>
    if cmp (e.2.mw i 0) s0 (e.2.mw i 1) s1 then e.2
    else let y := fix e.2; y.2.tsqMiss r.region (0x20000000 + i * 0x20) y.1
  | none =>
    let y := fix e.2
    match y.2.mainEntry key with
    | some i => y.2.tsqMiss r.region (0x20000000 + i * 0x20) y.1
    | none => y.2.useFree.tsqMiss r.region (getF (Config.freeWord y.2.free) 0 30) y.1

/-- The oldest word is compared with its shadow. -/
def Dev.tsqJudge (d : Dev) (r : TsqRead) (ws : List Word) : Dev :=
  let d1 : Dev := { d with fwd := { d.fwd with tsqReads := d.fwd.tsqReads.tail } }
  let s0 := ws.getD 0 0
  (if d1.tsqList r.region then d1.tsqEntry r s0 (ws.getD 1 0) else d1.tsqImage r s0).tsqEndCheck

/-- TSQ_COMPARE (R303): the shadow of the oldest word whose read was issued has returned; during a supply warning it is kept, and compared
when the Try-square resumes at that word (R304). -/
def tsqCompare (ws : List Word) (d : Dev) : Dev :=
  match d.fwd.tsqReads with
  | [] => d
  | r :: t =>
    if r.sent = false ∨ r.got.isSome then d
    else if d.gb Reg.smonStat 0 then { d with fwd := { d.fwd with tsqReads := { r with got := some ws } :: t } }
    else d.tsqJudge r ws

/-- TSQ_WORD_VISIT (R302, R304): the Try-square pauses while a supply warning is in force, and holds at a word whose shadow waits for its
translation. -/
def tsqWordVisit (d : Dev) : Dev :=
  if d.islandOk 2 = false then d
  else if d.gb Reg.smonStat 0 then d.sb Reg.fwdTsqStat 1 true
  else
    let d0 := d.sb Reg.fwdTsqStat 1 false
    match d0.fwd.tsqReads.find? (fun r => !r.sent), d0.fwd.tsqReads.head?.bind (fun r => r.got.map (fun ws => (r, ws))) with
    | _, some (r, ws) => d0.tsqJudge r ws
    | some r, none => d0.tsqIssue r
    | none, none =>
      if d0.fwd.tsqCfg ≠ [] then d0.tsqVisit
      else if d0.gb Reg.fwdTsqCtl 0 ∧ d0.gf Reg.fwdTsqCtl 16 8 ≠ 0 then d0.tsqBegin.tsqVisit
      else d0

/-! ### Writes of the registers (R287, R302, R307) -/

/-- A write of `FWD_AGE_CFG` (R287). -/
def Dev.wrFwdAge (d : Dev) (v : Word) : Dev :=
  let tick := max 1 (getF v 16 16)
  if 65536 ≤ getF v 32 15 + (getF v 48 16 + tick - 1) / tick + 1 then d.outOfRange Reg.fwdAgeCfg else ((List.range 4).foldl (fun (x : Dev) s => x.sweepRoll s) d.scanRoll).wrReg Reg.fwdAgeCfg v

/-- A write of `FWD_PORT_CFG[p]`: DEF_VID is 1–4,094 on ring ports; on edge ports it reads 0 and ignores writes. -/
def Dev.wrFwdPort (d : Dev) (p : Nat) (v : Word) : Dev :=
  let a := Reg.fwdPortCfg p
  if p < 32 then d.wr a (setF (v &&& BitVec.ofNat 64 (2 ^ 31 - 1)) 19 12 0)
  else if getF v 19 12 = 0 ∨ getF v 19 12 = 4095 then d.outOfRange a
  else d.wr a (v &&& BitVec.ofNat 64 (2 ^ 31 - 1))

/-- A write of `FWD_VLAN[v]`: VALID of 0 and 4,095 reads 0. -/
def Dev.wrFwdVlan (d : Dev) (n : Nat) (v : Word) : Dev :=
  d.wrReg (Reg.fwdVlan n) (if n = 0 ∨ n = 4095 then setB v 63 false else v)

/-- A region the Try-square takes (R302). -/
def tsqRegionOk (v : Word) : Bool :=
  let o := getF v 0 30
  let n := getF v 32 27
  let inside := fun (lo hi : Nat) => decide (lo ≤ o ∧ o + 8 * n ≤ hi)
  o % 8 == 0 && (match getF v 59 2 with
    | 0 => inside 0x4000000 0x5800000 || inside 0x2000000 0x3000000 || inside 0 0x2000000
    | 1 => o == 0x20000000
    | _ => false)

/-- A write of `FWD_TSQ_ADDR[k]`. -/
def Dev.wrTsqAddr (d : Dev) (k : Nat) (v : Word) : Dev :=
  if tsqRegionOk v then d.wrReg (Reg.fwdTsqAddr k) v else d.outOfRange (Reg.fwdTsqAddr k)

/-- A write of `FWD_TSQ_HOST[k]`: 8-octet aligned. -/
def Dev.wrTsqHost (d : Dev) (k : Nat) (v : Word) : Dev :=
  if getF v 0 3 = 0 then d.wrReg (Reg.fwdTsqHost k) v else d.outOfRange (Reg.fwdTsqHost k)

/-- The index of a copy of a register, where `a` is one of `n` copies `str` apart from `base`. -/
def copyOf (base str n a : Nat) : Option Nat :=
  if base ≤ a ∧ a < base + n * str ∧ (a - base) % str = 0 then some ((a - base) / str) else none

/-- A permitted write of an `FWD_` register. -/
def Dev.wrFwdReg (d : Dev) (a : Nat) (v : Word) : Dev :=
  if a = Reg.fwdClr then d.wrFwdClr v
  else if a = Reg.fwdTblCmd then d.wrTblCmd v
  else if a = Reg.fwdAgeCfg then d.wrFwdAge v
  else match copyOf (Reg.fwdPortCfg 0) 8 36 a, copyOf (Reg.fwdVlan 0) 8 4096 a, copyOf (Reg.fwdTsqAddr 0) 0x20 8 a, copyOf (Reg.fwdTsqHost 0) 0x20 8 a with
    | some p, _, _, _ => d.wrFwdPort p v
    | _, some n, _, _ => d.wrFwdVlan n v
    | _, _, some k, _ => d.wrTsqAddr k v
    | _, _, _, some k => d.wrTsqHost k v
    | _, _, _, _ => d.wrReg a v

/-- Such a write, the table command in progress brought up to date. -/
def Dev.wrFwd (d : Dev) (a : Nat) (v : Word) : Dev := d.tblSync.wrFwdReg a v

/-! ### The fence of a forwarding island (Table FLT-6) -/

/-- A frame of bank `s` that is neither on a wire, suspended nor bound to a launch. -/
def Dev.loseable (d : Dev) (s : Nat) (id : Nat) (f : Frame) : Bool :=
  f.bank == s && !(d.cal.insts.any (fun i => i.frame == some id))
  && !((List.range 36).any (fun p => let x := d.port p
        [x.cur, x.suspP, x.suspX].any (fun o => match o with | some t => t.kind == .frame id | none => false)))

/-- Lookups of slice `s` stop and the frames held in bank `s` are lost; island 2 takes the pass of the Try-square with it. -/
def Dev.fwdFence (d : Dev) (s : Nat) : Dev :=
  let gone := d.frames.filter (fun e => d.loseable s e.1 e.2)
  let d1 := gone.foldl (fun (x : Dev) e =>
    let y := e.2.dests.foldl (fun (z : Dev) p => z.modPort p (fun q => { q with queue := q.queue.filter (fun r => r.2 != e.1) })) x
    let z := match e.2.entry with | some (q, n) => y.endSqe q n 8 0 0 | none => y
    (z.fwdTake e.1).dropFrame e.1) d
  let d2 : Dev := { d1 with fwd := { d1.fwd with learn := d1.fwd.learn.filter (fun e => e.1 != s), cacheRem := d1.fwd.cacheRem.filter (fun e => e.1 != s) } }
  if s = 0 then
    ({ d2 with fwd := { d2.fwd with tsqReads := [], tsqCfg := [], tsqRegion := 0, tsqIdx := 0 } }).sb Reg.fwdTsqStat 0 false
  else d2

/-- Instance `s` restarts with an empty cache. -/
def Dev.fwdRestart (d : Dev) (s : Nat) : Dev := d.clearMem (cacheAddr s 0 0) (cacheAddr s 131072 0)

/-! ### Meanings -/

/-- Meaning of LEARN_COMMIT. -/
def execLearnCommit (sl : Slice) (s : State) : Host.Outcome State Fault Refusal := onDev (learnCommit sl.val) s

/-- Meaning of XS_RECONCILE. -/
def execXsReconcile (s : State) : Host.Outcome State Fault Refusal := onDev xsReconcile s

/-- Meaning of CACHE_SWEEP_VISIT. -/
def execCacheSweepVisit (sl : Slice) (s : State) : Host.Outcome State Fault Refusal := onDev (cacheSweepVisit sl.val) s

/-- Meaning of CACHE_COMPARE_REMOVE. -/
def execCacheCompareRemove (sl : Slice) (s : State) : Host.Outcome State Fault Refusal := onDev (cacheCompareRemove sl.val) s

/-- Meaning of MAIN_SCAN_VISIT. -/
def execMainScanVisit (s : State) : Host.Outcome State Fault Refusal := onDev mainScanVisit s

/-- Meaning of MAIN_COMPARE_REMOVE. -/
def execMainCompareRemove (s : State) : Host.Outcome State Fault Refusal := onDev mainCompareRemove s

/-- Meaning of DGEN_BUMP: a write of `FWD_CLR` with DYN = 1. -/
def execDgenBump (r : Req) (v : Word) (s : State) : Host.Outcome State Fault Refusal :=
  onDev (fun d => d.gate r Reg.fwdClr (fun x => x.wrFwdClr (setB v 0 true))) s

/-- Meaning of SGEN_BUMP: a write of `FWD_CLR` with STAT = 1. -/
def execSgenBump (r : Req) (v : Word) (s : State) : Host.Outcome State Fault Refusal :=
  onDev (fun d => d.gate r Reg.fwdClr (fun x => x.wrFwdClr (setB v 1 true))) s

/-- The word `FWD_TBL_CMD` takes for an operation with GO. -/
def tblCmdWord (op : Nat) : Word := BitVec.ofNat 64 (op + 2 ^ 63)

/-- Meaning of TBL_INSERT. -/
def execTblInsert (r : Req) (s : State) : Host.Outcome State Fault Refusal :=
  onDev (fun d => d.gate r Reg.fwdTblCmd (fun x => x.tblSync.wrTblCmd (tblCmdWord 1))) s

/-- Meaning of TBL_DELETE. -/
def execTblDelete (r : Req) (s : State) : Host.Outcome State Fault Refusal :=
  onDev (fun d => d.gate r Reg.fwdTblCmd (fun x => x.tblSync.wrTblCmd (tblCmdWord 2))) s

/-- Meaning of TBL_LOOKUP. -/
def execTblLookup (r : Req) (s : State) : Host.Outcome State Fault Refusal :=
  onDev (fun d => d.gate r Reg.fwdTblCmd (fun x => x.tblSync.wrTblCmd (tblCmdWord 3))) s

/-- Meaning of TBL_EVICT. -/
def execTblEvict (r : Req) (s : State) : Host.Outcome State Fault Refusal :=
  onDev (fun d => d.gate r Reg.fwdTblCmd (fun x => x.tblSync.wrTblCmd (tblCmdWord 4))) s

/-- Meaning of FWD_TABLE_DIRECT_WRITE (R292). -/
def execFwdTableDirectWrite (r : Req) (w : FwdWord) (v : Word) (s : State) : Host.Outcome State Fault Refusal :=
  onDev (fun d => d.gate4 r (fwdOff w) (d.fwdWordIsl w) 10 (fun x => x.fwdWrite (fwdOff w) v)) s

/-- Meaning of TRIE_WRITE (R298). -/
def execTrieWrite (r : Req) (w : TrieWord) (v : Word) (s : State) : Host.Outcome State Fault Refusal :=
  onDev (fun d => d.gate4 r (trieOff w) 2 10 (fun x => x.fwdWrite (trieOff w) v)) s

/-- Meaning of TSQ_WORD_VISIT. -/
def execTsqWordVisit (s : State) : Host.Outcome State Fault Refusal := onDev tsqWordVisit s

/-- Meaning of TSQ_COMPARE. -/
def execTsqCompare (ws : Vector Word 4) (s : State) : Host.Outcome State Fault Refusal := onDev (tsqCompare ws.toList) s

end Sys2Proof.Machine
end

