-- ==== Sys2Proof/Machine/PortCfg.lean ====
section
/-! DEFINITION. Chapter 8: lane modes and merging (R234–R242), link state (R243), equalisation (R244, R245), the other port registers
(R242, R252, R262, R264), MDIO (R265, R266) and SMBus (R267). -/

namespace Sys2Proof.Machine

/-! ### Lane modes (Table MAC-1) -/

/-- MODE of port `p`. -/
def Dev.laneMode (d : Dev) (p : Nat) : Nat := d.gf (Reg.sdsMode p) 0 3

/-- A FEC code the mode permits. -/
def fecOk (mode fec : Nat) : Bool :=
  match mode with
  | 4 => decide (fec ≤ 1)
  | 5 => decide (fec ≤ 2)
  | 6 => fec == 3
  | _ => fec == 0

/-- The lowest FEC code the mode permits. -/
def lowFec (mode : Nat) : Nat := if mode = 6 then 3 else 0

/-- Transmitter and receiver of port `p` are both disabled. -/
def Dev.macOff (d : Dev) (p : Nat) : Bool := d.gf (Reg.macCfg p) 0 2 == 0

/-- SPEED of `PCS_STAT` for a rate in Mb/s. -/
def speedCode (r : Nat) : Nat :=
  if r = 10 then 0 else if r = 100 then 1 else if r = 1000 then 2 else if r = 2500 then 3 else if r = 5000 then 4
  else if r = 10000 then 5 else if r = 25000 then 6 else 7

/-- The rate of a SPEED code. -/
def rateOfCode (c : Nat) : Nat := [10, 100, 1000, 2500, 5000, 10000, 25000, 100000].getD c 0

/-- The mode negotiates its rate (R236): the codes it can negotiate. -/
def negotiable (mode : Nat) : List Nat := match mode with | 2 => [0, 1, 2] | 3 => [3, 4, 5] | _ => []

/-! ### Link state (R243) -/

/-- A link that goes down: transmissions, reassemblies and waiting frames are lost (Table PRE-9, R123), verification stops, LPI ends, the
ring's measurements are void (R180, Table RNG-18). -/
def Dev.linkLost (d : Dev) (p : Nat) : Dev :=
  let y := d.port p
  let n := bit y.ctxP.isSome + bit y.ctxX.isSome
  let d1 := (((d.sb (Reg.pcsStat p) 0 false).sb (Reg.pcsStat p) 11 true).inc (Reg.pcsLinkDownCnt p)).portStop p (d.islandOk (txIsland p))
  let d2 := (d1.modPort p (fun z => { z with ctxP := none, ctxX := none, skipP := false, skipX := false, wakeEnd := none })).addCnt
    (Reg.preAsmErrCnt p) n
  let d3 := match y.lpiSince with
    | some s => ((d2.modPort p (fun z => { z with lpiSince := none })).sb (Reg.macStat p) 1 false).addCnt (Reg.macTxLpiUsCnt p) ((d.tim.up - s) / usU)
    | none => d2
  let d4 := ((d3.sb (Reg.macStat p) 2 false).preEval p).purge p
  if 32 ≤ p then ((d4.sb (Reg.rngLdly (p - 32)) 32 false).sb (Reg.rngCircuit (p - 32)) 32 false).ringEval else d4

/-- The link is taken down where it is up. -/
def Dev.forceDown (d : Dev) (p : Nat) : Dev := if d.linkUp p then d.linkLost p else d

/-- What keeps a link down whatever the partner does: no lane mode, a disabled MAC, an island that is down or fenced, a merged quad. -/
def Dev.linkAllowed (d : Dev) (p : Nat) : Bool :=
  d.laneMode p != 0 && d.gf (Reg.macCfg p) 0 2 == 3 && d.islandOk (sdsIsland p) && d.islandOk (txIsland p) && d.islandOk (rxIsland p)
  && !(d.mergedAway p)

/-- A condition of the link fails now, or ceases to: it can come up no earlier than LINK_UP_MS from here (R243). -/
def Dev.linkRestart (d : Dev) (p : Nat) : Dev := d.modPort p (fun y => { y with goodSince := d.tim.up, failSince := none })

/-- Links that may no longer be up go down; where an island is out, their conditions have to be met anew. -/
def Dev.linkSync (d : Dev) : Dev :=
  (List.range 36).foldl (fun (x : Dev) p =>
    let y := if x.islandOk (sdsIsland p) && x.islandOk (txIsland p) && x.islandOk (rxIsland p) then x else x.linkRestart p
    if y.linkUp p && !(y.linkAllowed p) then y.linkLost p else y) d

/-- The lanes of port `p` that exist. -/
def Dev.lanes (d : Dev) (p : Nat) : List Nat := if d.laneMode p = 6 then [0, 1, 2, 3] else [0]

/-- A receive adaptation of port `p` starts: it takes in the RX_CTLE shims (R245). -/
def Dev.takeShims (d : Dev) (p : Nat) : Dev :=
  d.modPort p (fun y => { y with rxShims := [0, 1, 2, 3].map (fun l => BitVec.ofNat 8 (d.gf (Reg.sdsEqShim p l) 24 8)) })

/-- The adaptation of a link that has come up: every lane has signal and clock, and shows adaptation complete (R245, log entry 166). -/
def Dev.adapt (d : Dev) (p : Nat) : Dev :=
  (d.lanes p).foldl (fun (x : Dev) l => x.sf (Reg.sdsLaneStat p) (4 * l) 3 7) (d.takeShims p)

/-- Fuse group `g` failed its CRC at the last power-on (R444). -/
def Dev.fuseBad (d : Dev) (g : Nat) : Bool := d.gb Reg.calbStat (g + 1)

/-- `TIM_TS_FUSE[p]` reloaded for the port's lane mode and rate (R49, R235, R236), or at its safe default (Table PWR-11). -/
def Dev.loadTsFuse (d : Dev) (p : Nat) : Dev :=
  d.sf (Reg.timTsFuse p) 0 32 (if d.fuseBad 1 then 0 else (Config.tsFuse p (d.laneMode p) (d.portRate p)).toNat)

/-- The safe default of an equalisation preset (Table PWR-11): TX_PRE 0, TX_MAIN 48, TX_POST 8, RX_CTLE 8. -/
def eqDefault : Nat := fld 8 8 48 + fld 16 8 8 + fld 24 8 8

/-- `SDS_EQ_FUSE[p]` reloaded for the port's lane mode (R235), or at its safe default. -/
def Dev.loadEqFuse (d : Dev) (p : Nat) : Dev :=
  (d.lanes p).foldl (fun (x : Dev) l =>
    x.sf (Reg.sdsEqFuse p l) 0 32 (if d.fuseBad 2 then eqDefault else (Config.eqFuse p l (d.laneMode p)).toNat)) d

/-- The fuse registers of every port loaded (R444). -/
def Dev.loadFuses (d : Dev) : Dev := (List.range 36).foldl (fun (x : Dev) p => (x.loadTsFuse p).loadEqFuse p) d

/-! ### Equalisation (R244, R245) -/

/-- The least and greatest tap of the four settings (Table MAC-2), and their place in the registers. -/
def eqTaps : List (Nat × Nat) := [(0, 15), (8, 63), (16, 31), (24, 15)]

/-- Lane `l` of port `p` exists. -/
def Dev.laneHere (d : Dev) (p l : Nat) : Bool := l == 0 || d.laneMode p == 6

/-- The shim of a setting in effect: a transmit shim as written, the receive shim as the last adaptation found it (R245). -/
def Dev.shimNow (d : Dev) (p l o : Nat) : Int :=
  toSigned 8 (if o = 24 then ((d.port p).rxShims.getD l 0).toNat else d.gf (Reg.sdsEqShim p l) o 8)

/-- SAT of a lane: some fuse plus shim in effect lies outside its tap range. -/
def Dev.laneSat (d : Dev) (p l : Nat) : Bool :=
  eqTaps.any (fun t =>
    let s := (d.gf (Reg.sdsEqFuse p l) t.1 8 : Int) + d.shimNow p l t.1
    decide (s < 0 ∨ (t.2 : Int) < s))

/-- SAT of every lane shown. -/
def Dev.syncSat (d : Dev) (p : Nat) : Dev :=
  [0, 1, 2, 3].foldl (fun (x : Dev) l => x.sb (Reg.sdsLaneStat p) (4 * l + 3) (x.laneHere p l && x.laneSat p l)) d

/-! ### Link events (R236, R243) -/

/-- What a link that comes up shows in `PCS_STAT[p]`: the rate, LINK, LOCK, LINK_CHG, ALIGN on four lanes, AN_DONE, no local fault, no AN_FAIL. -/
def Dev.showUp (d : Dev) (p : Nat) : Dev :=
  let a := Reg.pcsStat p
  let d1 := (((d.sf a 4 3 (speedCode (d.portRate p))).sb a 0 true).sb a 1 true).sb a 11 true
  (((d1.sb a 2 (d.laneMode p == 6)).sb a 3 (d.gb (Reg.pcsCfg p) 2 && decide (1 ≤ d.laneMode p ∧ d.laneMode p ≤ 3))).sb a 8 false).sb a 10 false

/-- The rate negotiated is another than before: it is shown, the timestamp fuses are reloaded, and on a port with SCHED_EN = 1 a port-rate fault is
raised (R236). -/
def Dev.rateChanged (d : Dev) (p code : Nat) : Dev :=
  let e := (d.sb (Reg.pcsStat p) 12 true).loadTsFuse p
  if e.schedEn p then e.raise 8 p 0x10 code else e

/-- LINK_UP (R243, R236): the conditions have held for LINK_UP_MS; a mode that negotiates its rate comes up at the rate of `code`.  Receive
adaptation starts (R245). -/
def linkUpEvent (p code : Nat) (d : Dev) : Dev :=
  let neg := if d.gb (Reg.pcsCfg p) 2 then negotiable (d.laneMode p) else []
  if d.linkAllowed p = false ∨ d.linkUp p ∨ (neg ≠ [] ∧ neg.contains code = false) then d
  else
    let w := d.waitUp ((d.port p).goodSince + d.gf (Reg.pcsCfg p) 16 16 * msU)
    let old := (d.port p).negRate
    let rate := if neg = [] then d.portRate p else rateOfCode code
    let d0 := w.modPort p (fun y => { y with lastRate := some rate, negRate := if neg = [] then y.negRate else some rate, failSince := none })
    let chg : Bool := match old with | some r => !neg.isEmpty && r != rate | none => false
    let d1 := ((d0.showUp p).adapt p).syncSat p
    let d2 := (if chg then d1.rateChanged p code else d1).preEval p
    if 32 ≤ p then d2.ringEval else d2

/-- A condition of the link fails, as `PCS_STAT[p]` now shows it (R243): lock, alignment on four lanes, auto-negotiation, local fault. -/
def Dev.linkBad (d : Dev) (p : Nat) : Bool :=
  let a := Reg.pcsStat p
  !(d.gb a 1) || (d.laneMode p == 6 && !(d.gb a 2))
  || (d.gb (Reg.pcsCfg p) 2 && decide (1 ≤ d.laneMode p ∧ d.laneMode p ≤ 3) && !(d.gb a 3)) || d.gb a 8

/-- What port `p` has on its wire is abandoned: the entry completes with LINK; a suspended frame stays. -/
def Dev.wireAbandon (d : Dev) (p : Nat) : Dev :=
  match (d.port p).cur with
  | some t => (d.wireFree p d.tim.up).dropTx p true (some t)
  | none => d

/-- What follows a new state of the receiving side of port `p`: a link that is up and whose conditions fail goes down once they have failed for
LINK_DN_US, at once where that is 0 or where the failure has been shown before; remote fault in place of frames begins or ends (R243). -/
def Dev.linkJudge (d0 d : Dev) (p : Nat) : Dev :=
  let dn := d.gf (Reg.pcsCfg p) 32 16
  let since := d.port p |>.failSince
  let d1 :=
    if d.linkUp p = false then (if d.linkBad p then d.linkRestart p else d)
    else if d.linkBad p = false then d.modPort p (fun y => { y with failSince := none })
    else match since with
      | some t => ((d.waitUp (t + dn * usU)).linkRestart p).linkLost p
      | none => if dn = 0 then (d.linkRestart p).linkLost p else d.modPort p (fun y => { y with failSince := some d.tim.up })
  let was := d0.linkUp p && d0.remoteFault p
  let is := d1.linkUp p && d1.remoteFault p
  if is && !was then (d1.emit (.remoteFault p true)).wireAbandon p
  else if was && !is then (d1.emit (.remoteFault p false)).choose p
  else d1

/-- LINK_DOWN (R243): the state of the receiving side from now on.  Shown while the link is up, a failed condition starts the wait for LINK_DN_US;
shown again, the wait has ended and the link goes down. -/
def linkDownEvent (p : Nat) (st : LineState) (d : Dev) : Dev :=
  if d.mergedAway p then d
  else
    let hi := d.gb (Reg.pcsStat p) 7
    let d1 := (d.sf (Reg.pcsStat p) 1 3 st.pcs.toNat).sf (Reg.pcsStat p) 7 4 (st.pcs.toNat / 64)
    let d2 := (d.lanes p).foldl (fun (x : Dev) l =>
      (x.sb (Reg.sdsLaneStat p) (4 * l) (st.sig.getLsbD l)).sb (Reg.sdsLaneStat p) (4 * l + 1) (st.cdr.getLsbD l)) d1
    let d3 := if d2.gb (Reg.pcsStat p) 7 ∧ hi = false then d2.inc (Reg.pcsHiberCnt p) else d2
    d.linkJudge d3 p

/-! ### Writes of equalisation and polarity (R244–R246) -/

/-- A write of `SDS_EQ_SHIM[p][l]`: stored clamped, with the CLAMPED bits (R244). -/
def Dev.wrEqShim (d : Dev) (p l : Nat) (v : Word) : Dev :=
  if d.mergedAway p ∨ d.laneHere p l = false then d
  else
    let a := Reg.sdsEqShim p l
    let d1 := d.wrReg a v
    let c := (eqTaps.zipIdx.map (fun t => if d1.gf a t.1.1 8 = getF v t.1.1 8 then 0 else 2 ^ t.2)).sum
    (d1.sf a 32 4 c).syncSat p

/-- A write of `SDS_POL[p]`: lanes that do not exist ignore it (R246).  Where the link is up, a lane whose polarity changes is interrupted: a
transmit lane loses what is on the wire, a receive lane its lock and the reassemblies (log entry 165). -/
def Dev.wrSdsPol (d : Dev) (p : Nat) (v : Word) : Dev :=
  let a := Reg.sdsPol p
  if d.mergedAway p then d
  else
    let w := if d.laneMode p = 6 then v else BitVec.ofNat 64 (getF v 0 1 + fld 4 1 (getF v 4 1))
    let d1 := d.wrReg a w
    if d.linkUp p then
      let d2 := if d1.gf a 0 4 = d.gf a 0 4 then d1 else d1.wireAbandon p
      if d2.gf a 4 4 = d.gf a 4 4 then d2
      else
        let n := bit (d2.port p).ctxP.isSome + bit (d2.port p).ctxX.isSome
        let d3 := (d2.modPort p (fun y => { y with ctxP := none, ctxX := none, skipP := false, skipX := false })).addCnt (Reg.preAsmErrCnt p) n
        d.linkJudge (d3.sb (Reg.pcsStat p) 1 false) p
    else d1

/-! ### Mode writes (R235, R240) -/

/-- The registers of port `q` in the `SDS_`, `PCS_`, `MAC_`, `PRE_` and `TIM_` blocks. -/
def portReg (q a : Nat) : Bool :=
  (0x1000000 + q * 0x10000 ≤ a && a < 0x1010000 + q * 0x10000) || (0x1400000 + q * 0x10000 ≤ a && a < 0x1410000 + q * 0x10000)
  || (0x1800000 + q * 0x10000 ≤ a && a < 0x1810000 + q * 0x10000) || (0x300000 + q * 0x100 ≤ a && a < 0x300100 + q * 0x100)
  || a == Reg.timPortCfg q || a == Reg.timPortLdly q || a == Reg.timTsShim q || a == Reg.timTsFuse q

/-- Port `q` returns with its power-on values (R240). -/
def Dev.resetPort (d : Dev) (q : Nat) : Dev := { d with regs := d.regs.filter (fun e => !(portReg q e.1)), ports := Sparse.del d.ports q }

/-- The lanes of port `p` reinitialise: nothing is locked, and what was negotiated is forgotten. -/
def Dev.laneInit (d : Dev) (p : Nat) : Dev :=
  let d1 := (d.forceDown p).linkRestart p
  (((d1.sf (Reg.sdsLaneStat p) 0 16 0).sf (Reg.pcsStat p) 1 10 0).modPort p (fun y => { y with lastRate := none, negRate := none })).syncSat p

/-- RETRAIN (R245): the link goes down until it comes up again, adaptation starting anew on every lane. -/
def Dev.retrain (d : Dev) (p : Nat) : Dev :=
  (d.lanes p).foldl (fun (x : Dev) l => x.sb (Reg.sdsLaneStat p) (4 * l + 2) false) ((((d.forceDown p).linkRestart p).takeShims p).syncSat p)

/-- An accepted mode write (R235): the fuses of the new mode are loaded. -/
def Dev.setMode (d : Dev) (p mode : Nat) : Dev :=
  let was := d.laneMode p
  let d1 := (d.laneInit p).sf (Reg.sdsMode p) 0 3 mode
  let d2 := ((d1.sf (Reg.pcsCfg p) 0 2 (lowFec mode)).sb (Reg.macEeeCfg p) 0 false).sf (Reg.macEeeCfg p) 16 16 0
  let d3 := (((d2.loadEqFuse p).loadTsFuse p).preEval p).syncSat p
  if p < 32 ∧ was = 6 ∧ mode ≠ 6 then [p + 1, p + 2, p + 3].foldl (fun (x : Dev) q => x.resetPort q) d3
  else if p < 32 ∧ was ≠ 6 ∧ mode = 6 then [p + 1, p + 2, p + 3].foldl (fun (x : Dev) q => (x.forceDown q).purge q) d3
  else d3

/-- A write of `SDS_MODE[p]`: MODE (R235, R240) and RETRAIN (R245).  A write with RETRAIN = 1 that leaves MODE as it is is no mode write. -/
def Dev.wrSdsMode (d : Dev) (p : Nat) (v : Word) : Dev :=
  let a := Reg.sdsMode p
  let mode := getF v 0 3
  let retrain := fun (x : Dev) => if getB v 63 then x.retrain p else x
  if d.mergedAway p then d
  else if 32 ≤ p ∨ (getB v 63 ∧ mode = d.laneMode p) then retrain d
  else if mode = 7 ∨ (mode = 6 ∧ p % 4 ≠ 0) then d.outOfRange a
  else if (if mode = 6 then [p, p + 1, p + 2, p + 3] else [p]).all d.macOff then retrain (d.setMode p mode)
  else d.sb (Reg.pcsStat p) 14 true

/-- A write of `PCS_CFG[p]`: a FEC code the mode does not permit is ignored (R235); it is read-only on ring ports (R242). -/
def Dev.wrPcsCfg (d : Dev) (p : Nat) (v : Word) : Dev :=
  let a := Reg.pcsCfg p
  let w := if p < 32 then v else setF v 0 2 3
  if d.mergedAway p then d
  else if fecOk (d.laneMode p) (getF w 0 2) then d.wrReg a w
  else d.outOfRange a

/-! ### MAC registers -/

/-- The value of a register that governs reception is kept as it was until now, for frames that have started; of those kept before, none older than
20 s (R251, R268, R270). -/
def Dev.noteOld (d : Dev) (a : Nat) : Dev :=
  { d with rxb := { d.rxb with hist := (d.tim.up, a, d.rd a) :: d.rxb.hist.filter (fun h => decide (d.tim.up < h.1 + 20 * secU)) } }

/-- A write of `MAC_CFG[p]`: on ring ports only TX_EN and RX_EN exist (R242); disabling either takes the link down (R243). -/
def Dev.wrMacCfg (d : Dev) (p : Nat) (v : Word) : Dev :=
  let a := Reg.macCfg p
  if d.mergedAway p then d
  else
    let d0 := d.noteOld a
    let d1 := if p < 32 then d0.wrReg a v else d0.sf a 0 2 (getF v 0 2)
    if d1.gf a 0 2 = 3 then d1 else d1.forceDown p

/-- The least TW_NS of a lane mode, none where it has no EEE (Table MAC-6). -/
def leastTw (mode : Nat) : Option Nat :=
  match mode with
  | 1 => some 11250
  | 2 => some 16500
  | 3 => some 7360
  | 4 => some 13260
  | _ => none

/-- A write of `MAC_EEE_CFG[p]` (R262). -/
def Dev.wrEee (d : Dev) (p : Nat) (v : Word) : Dev :=
  let a := Reg.macEeeCfg p
  let tw := getF v 16 16
  if d.mergedAway p ∨ 32 ≤ p then d
  else match leastTw (d.laneMode p) with
    | none => if getB v 0 then d.outOfRange a else (d.wrReg a v).sb a 1 false
    | some m =>
      if getB v 0 ∧ tw = 0 then d.outOfRange a
      else
        let low := decide (tw ≠ 0 ∧ tw < m)
        (d.wrReg a (if low then setF v 16 16 m else v)).sb a 1 low

/-- A write of `MAC_RX_BUF[p]`: XON_KIB below XOFF_KIB, XOFF_KIB at most LIMIT_KIB (R264). -/
def Dev.wrRxBuf (d : Dev) (p : Nat) (v : Word) : Dev :=
  let a := Reg.macRxBuf p
  if d.mergedAway p then d
  else if getF v 32 16 < getF v 16 16 ∧ getF v 16 16 ≤ getF v 0 16 then (d.noteOld a).wrReg a v
  else d.outOfRange a

/-- A write of an address filter entry at `a`: VALID with the other kind of address is ignored (R252). -/
def Dev.wrFilter (d : Dev) (p a : Nat) (mc : Bool) (v : Word) : Dev :=
  if d.mergedAway p ∨ 32 ≤ p then d
  else if getB v 63 ∧ getB v 40 ≠ mc then d.outOfRange a
  else (d.noteOld a).wrReg a v

/-- A write of `MAC_VLAN_CFG[p]` or `MAC_PAUSE_CFG[p]` at `a`: absent on ring ports (R242). -/
def Dev.wrEdgeReg (d : Dev) (p a : Nat) (v : Word) : Dev := if d.mergedAway p ∨ 32 ≤ p then d else (d.noteOld a).wrReg a v

/-! ### MDIO (R265, R266) -/

/-- The 32 bits of an MDIO frame after its preamble, 0 where the device does not drive. -/
def mdioFrame (v : Word) : Nat :=
  let read := if getB v 28 then decide (2 ≤ getF v 26 2) else getF v 26 2 == 2
  fld 30 2 (if getB v 28 then 0 else 1) + fld 28 2 (getF v 26 2) + fld 23 5 (getF v 21 5) + fld 18 5 (getF v 16 5)
    + (if read then 0 else fld 16 2 2 + getF v 0 16)

/-- The command is a read. -/
def mdioRead (v : Word) : Bool := if getB v 28 then decide (2 ≤ getF v 26 2) else getF v 26 2 == 2

/-- A write of `MAC_MDIO_CMD[b]`. -/
def Dev.wrMdioCmd (d : Dev) (b : Nat) (v : Word) : Dev :=
  let a := Reg.macMdioCmd b
  if getB v 28 = false ∧ (getF v 26 2 = 0 ∨ getF v 26 2 = 3) then d.outOfRange a
  else if getB v 63 then
    if d.gb (Reg.macMdioStat b) 16 then d.sb (Reg.macMdioStat b) 19 true
    else
      let d1 := (d.wrReg a v).sb (Reg.macMdioStat b) 16 true
      ({ d1 with mgmt := { d1.mgmt with mdio := Sparse.put d1.mgmt.mdio b ⟨d.tim.up, v, d.rd (Reg.macMdioCfg b)⟩ } }).emit
        (.mdio b (!(d.gb (Reg.macMdioCfg b) 8)) (mdioFrame v))
  else d.wrReg a v

/-- MDIO_FRAME_DONE (R266): the frame ends after the length its GO fixed; in a read, `ack` says that the PHY drove the turnaround. -/
def mdioFrameDone (b : Nat) (ack : Bool) (data : Nat) (d : Dev) : Dev :=
  match Sparse.find d.mgmt.mdio b with
  | none => d
  | some r =>
    let a := Reg.macMdioStat b
    let d1 := d.waitUp (r.at_ + (if getB r.cfg 8 then 32 else 64) * 4 * (getF r.cfg 0 8 + 1) * nsU)
    let d2 := (({ d1 with mgmt := { d1.mgmt with mdio := Sparse.del d1.mgmt.mdio b } }).sb a 16 false).sb a 17 true
    (if mdioRead r.cmd then (if ack then d2.sf a 0 16 data else (d2.sf a 0 16 0xFFFF).sb a 18 true) else d2).wakeMdio b

/-! ### SMBus (R267) -/

/-- One bit step of the Packet Error Code (SMBus: x^8 + x^2 + x + 1). -/
def pecStep (c : Nat) : Nat := if c.testBit 7 then (c * 2 ^^^ 0x107) % 256 else c * 2

/-- The Packet Error Code of octets. -/
def pec (l : List Byte) : Nat :=
  l.foldl (fun c b => pecStep (pecStep (pecStep (pecStep (pecStep (pecStep (pecStep (pecStep (c ^^^ b.toNat))))))))) 0

/-- Octets 0 to LEN − 1 of `MAC_SMB_DATA[c]`. -/
def Dev.smbData (d : Dev) (c n : Nat) : List Byte :=
  ([0, 1, 2, 3].flatMap (fun k => leBytes 8 (d.rd (Reg.macSmbData c k)).toNat)).take n

/-- The octets the device drives for a command, before any PEC. -/
def Dev.smbOctets (d : Dev) (c : Nat) (v : Word) : List Byte :=
  let ad := BitVec.ofNat 8 (getF v 0 7 * 2)
  let of := BitVec.ofNat 8 (getF v 8 8)
  match getF v 22 2 with
  | 0 => ad :: of :: d.smbData c (getF v 16 6)
  | 1 => [ad, of, ad + 1]
  | _ => [ad]

/-- A write of `MAC_SMB_CMD[c]`; after a timeout 9 clocks come before the transaction. -/
def Dev.wrSmbCmd (d : Dev) (c : Nat) (v : Word) : Dev :=
  let a := Reg.macSmbCmd c
  if getF v 16 6 = 0 ∨ 32 < getF v 16 6 ∨ getF v 22 2 = 3 then d.outOfRange a
  else if getB v 63 then
    if d.gb (Reg.macSmbStat c) 0 then d.sb (Reg.macSmbStat c) 6 true
    else
      let l := d.smbOctets c v
      let out := if d.gb (Reg.macSmbCfg c) 1 ∧ getF v 22 2 = 0 then l ++ [BitVec.ofNat 8 (pec l)] else l
      let d1 := if d.mgmt.smbClear.contains c then
          { (d.emit (.smbClocks c)) with mgmt := { d.mgmt with smbClear := d.mgmt.smbClear.erase c } }
        else d
      let d2 := (d1.wrReg a v).sb (Reg.macSmbStat c) 0 true
      ({ d2 with mgmt := { d2.mgmt with smb := Sparse.put d2.mgmt.smb c (v, d.rd (Reg.macSmbCfg c)) } }).emit (.smb c out)
  else d.wrReg a v

/-- SMB_TRANSACTION_END (R267): how the transaction ended (0 complete, 1 NACK, 2 timeout, 3 arbitration lost), data octets transferred of a
write, and the octets received, the PEC last where PEC = 1 at its GO. -/
def smbEnd (c how n : Nat) (l : List Byte) (d0 : Dev) : Dev :=
  match Sparse.find d0.mgmt.smb c with
  | none => d0
  | some (v, cfg) =>
    let a := Reg.macSmbStat c
    let d : Dev := { d0 with mgmt := { d0.mgmt with smb := Sparse.del d0.mgmt.smb c
                                                    smbClear := if how = 2 then c :: d0.mgmt.smbClear.erase c else d0.mgmt.smbClear } }
    let len := getF v 16 6
    let got := l.take len
    let op := getF v 22 2
    let cnt := match op with | 0 => (if how = 0 then len else min n len) | 1 => got.length | _ => 0
    let d1 := ((d.sb a 0 false).sb a 1 true).sf a 8 6 cnt
    let d2 := match how with | 1 => d1.sb a 2 true | 2 => d1.sb a 3 true | 3 => d1.sb a 4 true | _ => d1
    (if op = 1 then
      let bad := how == 0 && getB cfg 1 && decide ((l.getD len 0).toNat ≠ pec (d.smbOctets c v ++ got))
      let data := got ++ (d.smbData c 32).drop got.length
      let d3 := [0, 1, 2, 3].foldl (fun (x : Dev) k => x.wr (Reg.macSmbData c k) (BitVec.ofNat 64 (leNat ((data.drop (8 * k)).take 8)))) d2
      if bad then d3.sb a 5 true else d3
     else d2).wakeSmb c

/-! ### Meanings -/

/-- Meaning of PORT_MODE_WRITE: a write of `SDS_MODE[p]`. -/
def execPortModeWrite (r : Req) (p : Port) (v : Word) (s : State) : Host.Outcome State Fault Refusal :=
  onDev (fun d => d.gate r (Reg.sdsMode p.val) (fun x => x.wrSdsMode p.val v)) s

/-- Meaning of RETRAIN: a write of `SDS_MODE[p]` with RETRAIN = 1. -/
def execRetrain (r : Req) (p : Port) (v : Word) (s : State) : Host.Outcome State Fault Refusal :=
  onDev (fun d => d.gate r (Reg.sdsMode p.val) (fun x => x.wrSdsMode p.val (setB v 63 true))) s

/-- Meaning of LINK_UP. -/
def execLinkUp (p : Port) (code : Fin 8) (s : State) : Host.Outcome State Fault Refusal := onDev (linkUpEvent p.val code.val) s

/-- Meaning of LINK_DOWN. -/
def execLinkDown (p : Port) (st : LineState) (s : State) : Host.Outcome State Fault Refusal := onDev (linkDownEvent p.val st) s

/-- A GO of bus `b` with the C45 bit and OP given. -/
def mdioCmd (c45 : Bool) (op : Nat) (v : Word) : Word := setB (setF (setB v 28 c45) 26 2 op) 63 true

/-- Meaning of MDIO_C22_WRITE. -/
def execMdioC22Write (r : Req) (b : Fin 4) (v : Word) (s : State) : Host.Outcome State Fault Refusal :=
  onDev (fun d => d.gate r (Reg.macMdioCmd b.val) (fun x => x.wrMdioCmd b.val (mdioCmd false 1 v))) s

/-- Meaning of MDIO_C22_READ. -/
def execMdioC22Read (r : Req) (b : Fin 4) (v : Word) (s : State) : Host.Outcome State Fault Refusal :=
  onDev (fun d => d.gate r (Reg.macMdioCmd b.val) (fun x => x.wrMdioCmd b.val (mdioCmd false 2 v))) s

/-- Meaning of MDIO_C45_ADDRESS. -/
def execMdioC45Address (r : Req) (b : Fin 4) (v : Word) (s : State) : Host.Outcome State Fault Refusal :=
  onDev (fun d => d.gate r (Reg.macMdioCmd b.val) (fun x => x.wrMdioCmd b.val (mdioCmd true 0 v))) s

/-- Meaning of MDIO_C45_WRITE. -/
def execMdioC45Write (r : Req) (b : Fin 4) (v : Word) (s : State) : Host.Outcome State Fault Refusal :=
  onDev (fun d => d.gate r (Reg.macMdioCmd b.val) (fun x => x.wrMdioCmd b.val (mdioCmd true 1 v))) s

/-- Meaning of MDIO_C45_READ_INC. -/
def execMdioC45ReadInc (r : Req) (b : Fin 4) (v : Word) (s : State) : Host.Outcome State Fault Refusal :=
  onDev (fun d => d.gate r (Reg.macMdioCmd b.val) (fun x => x.wrMdioCmd b.val (mdioCmd true 2 v))) s

/-- Meaning of MDIO_C45_READ. -/
def execMdioC45Read (r : Req) (b : Fin 4) (v : Word) (s : State) : Host.Outcome State Fault Refusal :=
  onDev (fun d => d.gate r (Reg.macMdioCmd b.val) (fun x => x.wrMdioCmd b.val (mdioCmd true 3 v))) s

/-- Meaning of MDIO_FRAME_DONE. -/
def execMdioFrameDone (b : Fin 4) (ack : Bool) (data : BitVec 16) (s : State) : Host.Outcome State Fault Refusal :=
  onDev (mdioFrameDone b.val ack data.toNat) s

/-- The word of an SMBus command with OP given and GO = 1. -/
def smbCmd (op : Nat) (v : Word) : Word := setB (setF v 22 2 op) 63 true

/-- Meaning of SMB_WRITE. -/
def execSmbWrite (r : Req) (c : Fin 2) (v : Word) (s : State) : Host.Outcome State Fault Refusal :=
  onDev (fun d => d.gate r (Reg.macSmbCmd c.val) (fun x => x.wrSmbCmd c.val (smbCmd 0 v))) s

/-- Meaning of SMB_WRITE_READ. -/
def execSmbWriteRead (r : Req) (c : Fin 2) (v : Word) (s : State) : Host.Outcome State Fault Refusal :=
  onDev (fun d => d.gate r (Reg.macSmbCmd c.val) (fun x => x.wrSmbCmd c.val (smbCmd 1 v))) s

/-- Meaning of SMB_PROBE. -/
def execSmbProbe (r : Req) (c : Fin 2) (v : Word) (s : State) : Host.Outcome State Fault Refusal :=
  onDev (fun d => d.gate r (Reg.macSmbCmd c.val) (fun x => x.wrSmbCmd c.val (smbCmd 2 v))) s

/-- Meaning of SMB_TRANSACTION_END. -/
def execSmbTransactionEnd (c : Fin 2) (how : Fin 4) (n : BitVec 6) (l : List Byte) (s : State) : Host.Outcome State Fault Refusal :=
  onDev (smbEnd c.val how.val n.toNat l) s

end Sys2Proof.Machine
end

