-- ==== Sys2Proof/Machine/Receive.lean ====
section
/-! DEFINITION. Chapters 4 and 8, reception: the Jig before the MAC (R425), mPackets and their reassembly (R122, Table PRE-7), verification
and announcement (Tables PRE-3, PRE-4), and the receive MAC (Table MAC-3, R252–R258, R264). -/

namespace Sys2Proof.Machine

/-! ### The receive MAC (Table MAC-3) -/

/-- The port receives: link up, receiver enabled, receive island up and not fenced. -/
def Dev.canReceive (d : Dev) (p : Nat) : Bool :=
  !(d.mergedAway p) && d.linkUp p && d.gb (Reg.macCfg p) 1 && d.islandOk (rxIsland p)

/-- The values that the registers governing reception held at instant `t` (`up`): writes made after it are undone (R251, R268, R270). -/
def Dev.asOf (d : Dev) (t : Nat) : Dev := d.rxb.hist.foldl (fun x h => if t < h.1 then x.wr h.2.1 h.2.2 else x) d

/-- The octets a frame on port `p` may take: M of R264. -/
def Dev.mostLen (d : Dev) (p : Nat) : Nat := if p < 32 then d.gf (Reg.macCfg p) 16 14 + 12 else 9262

/-- Octets that a received frame held at instant `t`: M while it was being received, then its length until its release (R264). -/
def Recv.heldAt (e : Recv) (t : Nat) : Nat :=
  if t < e.beg || e.gone.any (fun g => decide (g ≤ t)) then 0 else if t < e.fin then e.most else e.len

/-- Octets that received frames of the ports `f` held at the first octet of a frame: frames received since, and those in reception then. -/
def Dev.heldThen (d : Dev) (m : RxMark) (f : Nat → Bool) : Nat :=
  (d.rxb.log.map (fun e => if f e.port then e.heldAt m.beg else 0)).sum
  + (((List.range 36).filter (fun q => m.during.testBit q && f q)).map d.mostLen).sum

/-- The packet buffer admits a frame on port `p` at its first octet (R264). -/
def Dev.admits (d : Dev) (p : Nat) (m : RxMark) : Bool :=
  let own := (d.frames.map (fun e => if e.2.bank = sliceOf p ∧ e.2.rx = none then e.2.len else 0)).sum
  decide (d.heldThen m (· == p) + d.mostLen p ≤ d.gf (Reg.macRxBuf p) 0 16 * 1024)
  && decide (own + d.heldThen m (fun q => sliceOf q == sliceOf p) + d.mostLen p ≤ 16 * 1048576)

/-- The address is a valid unicast (or multicast) entry of the port's filter (R252). -/
def Dev.filterEntry (d : Dev) (p da : Nat) (mc : Bool) : Bool :=
  (List.range 8).any (fun k =>
    let w := d.rd (if mc then Reg.macMcAddr p k else Reg.macUcAddr p k)
    getB w 63 && getF w 0 48 == da)

/-- The destination matches the address filter (R252), of which `e` holds the entries. -/
def Dev.filterMatch (d e : Dev) (p da : Nat) : Bool :=
  e.filterEntry p da false || e.filterEntry p da true || (da == bcastAddr && d.gb (Reg.macCfg p) 3) || (isGroup da && d.gb (Reg.macCfg p) 4)

/-- A reserved group address (R253). -/
def reservedGroup (da : Nat) : Bool := da / 16 == 0x0180C200000

/-- A valid PAUSE frame of `q` quanta takes effect (R258). -/
def Dev.pauseRx (d : Dev) (p q : Nat) : Dev :=
  if d.gb (Reg.macPauseCfg p) 0 = false ∨ (d.schedEn p ∧ d.gb (Reg.macPauseCfg p) 1 = false) ∨ d.portRate p = 0 then d
  else if q = 0 then ((d.modPort p (fun y => { y with pauseEnd := none })).sb (Reg.macStat p) 0 false).choose p
  else (d.modPort p (fun y => { y with pauseEnd := some (d.tim.up + q * 512 * 1000 * nsU / d.portRate p) })).sb (Reg.macStat p) 0 true

/-- Order 8: a MAC control frame is consumed (R257); `e` holds the filter entries. -/
def Dev.macControl (d e : Dev) (p : Nat) (l : List Byte) : Dev :=
  let da := daOf l
  if be16 l 14 = 1 ∧ (da = 0x0180C2000001 ∨ e.filterEntry p da false) then (d.inc (Reg.macRxPauseCnt p)).pauseRx p (be16 l 16)
  else d.inc (Reg.macRxMacctlCnt p)

/-- VLAN acceptance (R255). -/
def Dev.vlanAccept (d : Dev) (p : Nat) (ts : List Tag) : Bool :=
  let vid := match outerVlan ts with | some (_, tci) => tci % 4096 | none => 0
  let acc := d.gf (Reg.macVlanCfg p) 17 2
  vid != 4095 && !(acc == 1 && vid == 0) && !(acc == 2 && vid != 0)

/-- R271: what a passed frame of `n` octets counts on an edge port. -/
def Dev.countPassed (d : Dev) (p n da : Nat) : Dev :=
  let d1 := (d.addCnt (Reg.macRxOctCnt p) n).inc (Reg.macRxBinCnt p (sizeBin n))
  if da = bcastAddr then d1.inc (Reg.macRxBcCnt p) else if isGroup da then d1.inc (Reg.macRxMcCnt p) else d1.inc (Reg.macRxUcCnt p)

/-- Orders 9 to 11 on an edge port: `c` holds the registers in force at the frame's start, `e` the filter entries in force as its destination
address was complete. -/
def Dev.edgePass (d c e : Dev) (p : Nat) (l : List Byte) (ts : List Tag) (stamp : Nat) : Dev :=
  let da := daOf l
  let res := reservedGroup da
  let hit := c.filterMatch e p da || res
  if c.vlanAccept p ts = false then d.inc (Reg.macRxAcceptCnt p)
  else if c.gb (Reg.macCfg p) 2 ∧ hit = false then d.inc (Reg.macRxFiltCnt p)
  else
    let d1 := (d.inc (Reg.macRxOkCnt p)).countPassed p (l.length + 4) da
    let d2 := if res then d1.inc (Reg.macRxResgrpCnt p) else d1
    let v := c.rxVid p ts
    (d2.toPipeline { octets := l, rx := some p, bank := sliceOf p, stamp := stamp, loc := hit, prio := v.2, vid := v.1, total := l.length + 4
                     noRtag := !(d.rtagRx p) }).pauseCheck p

/-- The first row of Table MAC-3 after order 1 that applies to a frame with its FCS: `c` and `e` as for `edgePass`. -/
def Dev.macClassify (d c e : Dev) (p : Nat) (l : List Byte) (m : RxMark) : Dev :=
  let b := body l
  let ts := if p < 32 then tagsOf (c.svlan p) (d.rtagRx p) b else []
  let limit := if p < 32 then c.maxLen p ts else 9262
  let good := fcsGood l
  if m.code then d.inc (Reg.macRxCodeCnt p)
  else if l.length < 64 then d.inc (if good then Reg.macRxRuntCnt p else Reg.macRxFragCnt p)
  else if limit < l.length then d.inc (if good then Reg.macRxOversizeCnt p else Reg.macRxJabberCnt p)
  else if good = false then d.inc (Reg.macRxFcsCnt p)
  else if 32 ≤ p then (d.inc (Reg.macRxOkCnt p)).ringReceive p b m.stamp
  else if be16 b 12 = 0x8808 then d.macControl e p b
  else d.edgePass c e p b ts m.stamp

/-- An admitted frame has ended: it holds its length from now on where `d` stored it (R264).  Frames long released are forgotten. -/
def Dev.received (d old : Dev) (p len : Nat) (m : RxMark) (most : Nat) : Dev :=
  let id := if old.nextFrame < d.nextFrame then some old.nextFrame else none
  let r : Recv := { port := p, beg := m.beg, fin := d.tim.up, most := most, len := len, frame := id
                    gone := if (id.bind d.frame).isSome then none else some d.tim.up }
  { d with rxb := { d.rxb with log := r :: d.rxb.log.filter (fun e => match e.gone with | some g => decide (d.tim.up < g + 20 * secU) | none => true) } }

/-- A frame with its FCS at the receive MAC of port `p`: the first row of Table MAC-3 that applies, by the values in force at its start (R251, R268)
and, of the address filter, as its destination address was complete (R270). -/
def Dev.macReceive (d : Dev) (p : Nat) (l : List Byte) (m : RxMark) : Dev :=
  let c := d.asOf (m.beg - octetTime (d.portRate p) 8)
  let e := d.asOf (m.beg + octetTime (d.portRate p) 6)
  let d0 : Dev := { d with tim := ({ d.tim with ingress := Sparse.put d.tim.ingress p m.stamp }).noteStamp false p }
  if c.admits p m = false then d0.inc (Reg.macRxOvfCnt p)
  else (d0.macClassify c e p l m).received d p l.length m (c.mostLen p)

/-! ### Reassembly (R122, Table PRE-7) -/

/-- The reassembly context of a class. -/
def PortSt.ctx (y : PortSt) (express : Bool) : Option Ctx := if express then y.ctxX else y.ctxP

/-- The context replaced, with whether continuations are discarded until the next initial fragment. -/
def PortSt.setCtx (y : PortSt) (express : Bool) (c : Option Ctx) (skip : Bool) : PortSt :=
  if express then { y with ctxX := c, skipX := skip } else { y with ctxP := c, skipP := skip }

/-- What an mPacket's last four octets are: the frame's FCS, an mCRC, or neither. -/
inductive CheckKind where
  | f | m | bad
  deriving DecidableEq, Repr

/-- The check value of an mPacket against the octets of its frame (R105). -/
def checkOf (pre l : List Byte) : CheckKind :=
  let all := pre ++ body l
  let c := l.drop (l.length - 4)
  if c = fcsOf all then .f else if c = mcrcOf all then .m else .bad

/-- An initial fragment of frame count `n`. -/
def Dev.rxInitial (d : Dev) (p : Nat) (ex : Bool) (n : Nat) (l : List Byte) (m : RxMark) : Dev :=
  let err := Reg.preAsmErrCnt p
  let d1 := if ((d.port p).ctx ex).isSome then d.inc err else d
  let d2 := d1.modPort p (fun y => y.setCtx ex none false)
  match checkOf [] l with
  | .f => d2.macReceive p l m
  | .m =>
    if l.length < 64 then d2.inc err
    else
      let c : Ctx := { fc := n, next := 0, octets := body l, mark := m, since := d.tim.up, timeout := d.gf (Reg.prePortCfg p) 16 16 }
      d2.modPort p (fun y => y.setCtx ex (some c) false)
  | .bad => d2.inc err

/-- A continuation of frame count `n` and frag count `k`. -/
def Dev.rxContinue (d : Dev) (p : Nat) (ex : Bool) (n : Nat) (k : Option Nat) (l : List Byte) (code : Bool) : Dev :=
  let err := Reg.preAsmErrCnt p
  let y := d.port p
  if (if ex then y.skipX else y.skipP) then d
  else match y.ctx ex with
    | none => (d.modPort p (fun z => z.setCtx ex none true)).inc err
    | some c =>
      if c.fc ≠ n ∨ k ≠ some c.next then (d.modPort p (fun z => z.setCtx ex none true)).inc err
      else match checkOf c.octets l with
        | .f =>
          let d1 := ((d.modPort p (fun z => z.setCtx ex none false)).inc (Reg.preFragRxCnt p)).inc (Reg.preAsmOkCnt p)
          d1.macReceive p (c.octets ++ l) { c.mark with code := c.mark.code || code }
        | .m =>
          if l.length < 64 then (d.modPort p (fun z => z.setCtx ex none false)).inc err
          else
            let c1 : Ctx := { c with next := (c.next + 1) % 4, octets := c.octets ++ body l, since := d.tim.up, mark := { c.mark with code := c.mark.code || code } }
            (d.modPort p (fun z => z.setCtx ex (some c1) false)).inc (Reg.preFragRxCnt p)
        | .bad => (d.modPort p (fun z => z.setCtx ex none false)).inc err

/-! ### Verification and announcement (R107, R108, R110) -/

/-- 60 data octets and a valid mCRC. -/
def short60 (l : List Byte) : Bool := l.length == 64 && checkOf [] l == .m

/-- A valid respond mPacket (Table PRE-3). -/
def Dev.rxRespond (d : Dev) (p : Nat) : Dev :=
  if d.verifySt p = 3 then ((d.modPort p (fun y => { y with vSent := none })).sf (Reg.prePortStat p) 0 3 4).preEval p else d

/-- A valid announce mPacket with addFragSize `k` (Table PRE-4). -/
def Dev.rxAnnounce (d : Dev) (p k : Nat) : Dev :=
  let a := Reg.prePortStat p
  let d1 := if d.gb (Reg.prePortCfg p) 4 ∧ d.preActive p then d.modPort p (fun y => { y with annResp := y.annResp + 1 }) else d
  if d.nestSt p = 1 then
    let d2 := (d1.sb a 6 true).sf a 8 2 k
    (if d2.gb a 15 then (d2.modPort p (fun y => { y with nSent := none, nOwed := false })).sf a 4 2 2 else d2).nestSync p
  else if d.nestSt p = 2 then
    (((d1.sb a 15 false).sf a 4 2 1).modPort p (fun y => { y with nTry := 0, nOwed := true, nSent := none })).nestSync p
  else d1

/-- A valid announce response (Table PRE-4). -/
def Dev.rxAnnResp (d : Dev) (p : Nat) : Dev :=
  let a := Reg.prePortStat p
  if d.nestSt p = 1 then
    let d1 := d.sb a 15 true
    (if d1.gb a 6 then (d1.modPort p (fun y => { y with nSent := none, nOwed := false })).sf a 4 2 2 else d1).nestSync p
  else d

/-! ### mPackets (Table PRE-7) -/

/-- Reassembly of express fragments is enabled (R122). -/
def Dev.expressCtx (d : Dev) (p : Nat) : Bool := decide (32 ≤ p) && d.gb (Reg.prePortCfg p) 4 && d.nestSt p == 2

/-- Position of an octet among the four values of a delimiter. -/
def idxOf (l : List Nat) (x : Nat) : Option Nat := (List.range l.length).find? (fun i => l.getD i 256 == x)

/-- The frag count an octet encodes (R104). -/
def fragCount (x : Nat) : Option Nat := idxOf [0xE6, 0x4C, 0x7F, 0xB3] x

/-- An mPacket between the PCS and the MAC, after the Jig: its data octets and check value in `l`. -/
def Dev.rxPacket (d : Dev) (p smd frag : Nat) (l : List Byte) (m : RxMark) : Dev :=
  let smdErr := d.inc (Reg.preSmdErrCnt p)
  if smd = 0xD5 then d.macReceive p l m
  else if d.fastPort p = false then smdErr
  else if smd = 0x07 then
    (if short60 l ∧ (body l).all (· == 0) then d.modPort p (fun y => { y with respond := y.respond + 1 }) else d)
  else if smd = 0x19 then (if short60 l ∧ (body l).all (· == 0) then d.rxRespond p else d)
  else if smd = 0x6B ∧ 32 ≤ p then (if short60 l ∧ l.getD 0 0 = 1 then d.rxAnnounce p ((l.getD 1 0).toNat % 4) else d)
  else if smd = 0xBC ∧ 32 ≤ p then (if short60 l ∧ l.getD 0 0 = 1 then d.rxAnnResp p else d)
  else match idxOf [0xE6, 0x4C, 0x7F, 0xB3] smd, idxOf [0x61, 0x52, 0x2A, 0x9E] smd, idxOf [0x34, 0x8B, 0xC8, 0x5D] smd,
      idxOf [0xA7, 0x1E, 0x73, 0xF8] smd with
    | some n, _, _, _ => d.rxInitial p false n l m
    | _, some n, _, _ => d.rxContinue p false n (fragCount frag) l m.code
    | _, _, some n, _ => if d.expressCtx p then d.rxInitial p true n l m else smdErr
    | _, _, _, some n => if d.expressCtx p then d.rxContinue p true n (fragCount frag) l m.code else smdErr
    | _, _, _, _ => smdErr

/-! ### The Jig on receive (R425, Table FLT-9) -/

/-- A held frame goes on to the MAC, which receives it now. -/
def Dev.jigLet (d : Dev) (h : JigHeld) : Dev :=
  let m : RxMark := { h.mark with beg := d.tim.up - octetTime (d.portRate h.port) h.octets.length }
  ({ d with flt := { d.flt with held := d.flt.held.erase h } }).rxPacket h.port h.smd h.frag h.octets m

/-- Frames that a reorder rule holds and that `port`'s frame has passed: each counts one further frame, and goes on with the last (R425). -/
def Dev.jigPassed (d : Dev) (p : Nat) : Dev :=
  let hits : JigHeld → Bool := fun h => h.reorder && jigTarget (d.gf (Reg.jigRuleCfg h.rule) 8 6) p
  let d1 : Dev := { d with flt := { d.flt with held := d.flt.held.map (fun h => if hits h then { h with left := h.left - 1 } else h) } }
  (d1.flt.held.filter (fun h => h.reorder && h.left == 0)).foldl Dev.jigLet d1

/-- An mPacket that the Jig lets through goes on, behind frames of its target that a delay holds. -/
def Dev.jigOrder (d : Dev) (p smd frag : Nat) (l : List Byte) (m : RxMark) : Dev :=
  match (d.flt.held.filter (fun h => !h.reorder && jigTarget (d.gf (Reg.jigRuleCfg h.rule) 8 6) p)).getLast? with
  | some h => { d with flt := { d.flt with held := d.flt.held ++ [{ h with port := p, smd := smd, frag := frag, octets := l, mark := m }] } }
  | none => (d.rxPacket p smd frag l m).jigPassed p

/-- A counter advanced by `n`, where that is not 0. -/
def Dev.addIf (d : Dev) (a n : Nat) : Dev := if n = 0 then d else d.addCnt a n

/-- What the PCS of port `p` counts of the line (R239, Table MAC-11); without FEC there are no codewords, and symbols only with RS-FEC. -/
def Dev.countLine (d : Dev) (p : Nat) (x : RxLine) : Dev :=
  let fec := d.gf (Reg.pcsCfg p) 0 2
  let d1 := d.addIf (Reg.pcsBlkErrCnt p) x.blkErr
  let d2 := if fec = 0 then d1 else (d1.addIf (Reg.pcsFecCorrCnt p) x.corr).addIf (Reg.pcsFecUncorrCnt p) x.uncorr
  if fec < 2 then d2 else d2.addIf (Reg.pcsFecSymCnt p) x.sym

/-- The frame contains an error code, or a block that RS-FEC marked (R239). -/
def Dev.codeError (d : Dev) (p : Nat) (x : RxLine) : Bool := x.code || (decide (2 ≤ d.gf (Reg.pcsCfg p) 0 2) && decide (0 < x.uncorr))

/-- An mPacket arrives on port `p`: its last octet has been received now. -/
def Dev.rxArrive (d0 : Dev) (p smd frag : Nat) (l : List Byte) (x : RxLine) : Dev :=
  if d0.canReceive p = false then d0
  else
    let d := d0.countLine p x
    let t := octetTime (d.portRate p) l.length
    let m : RxMark := { code := d.codeError p x, stamp := d.ingressStamp p (d.now - t), beg := d.tim.up - t, during := x.during.toNat }
    let c := d.port p
    let ex := (idxOf [0xA7, 0x1E, 0x73, 0xF8] smd).isSome
    let cont := (idxOf [0x61, 0x52, 0x2A, 0x9E] smd).isSome || ex
    let pre := if cont then ((c.ctx ex).map (fun x => x.octets)).getD [] else []
    match d.jigRule p false l (if d.jigActive then d.streamOf p l else none) (!cont) with
    | (none, d1) => d1.jigOrder p smd frag l m
    | (some n, d1) =>
      let held : JigHeld := { rule := n, port := p, left := d.gf (Reg.jigRuleParam n) 16 4, due := d.tim.up + 100 * usU, smd := smd, octets := l
                              frag := frag, mark := m, rx := true, reorder := true }
      match d.jigAction n with
      | 1 => d1
      | 2 => d1.jigOrder p smd frag (d.jigCorrupt n pre (body l) (l.drop (l.length - 4))) m
      | 3 => { d1 with flt := { d1.flt with held := d1.flt.held ++ [held] } }
      | _ =>
        let dl := d.gf (Reg.jigRuleParam n) 32 32 * nsU
        let last := (d1.flt.held.filter (fun h => !h.reorder && jigTarget (d.gf (Reg.jigRuleCfg h.rule) 8 6) p)).foldl (fun m h => max m h.due) 0
        let h1 : JigHeld := { held with reorder := false, due := max last (d.tim.up + dl), mark := { m with stamp := m.stamp + dl } }
        { d1 with flt := { d1.flt with held := d1.flt.held ++ [h1] } }

/-- Every frame the Jig holds is released unchanged (R424). -/
def Dev.jigReleaseAll (d : Dev) : Dev := d.flt.held.foldl Dev.jigLet d

/-- JIG_REORDER_RELEASE (R425): 100 µs have passed for the oldest frame rule `n` holds to reorder. -/
def jigReorderRelease (n : Nat) (d : Dev) : Dev :=
  match d.flt.held.find? (fun h => h.rule == n && h.reorder) with
  | some h => (d.waitUp h.due).jigLet h
  | none => d

/-- JIG_DELAY_RELEASE (R425): DELAY_NS has passed for the oldest frame rule `n` delays; the frames that waited behind it follow. -/
def jigDelayRelease (n : Nat) (d : Dev) : Dev :=
  match d.flt.held.find? (fun h => h.rule == n && !h.reorder) with
  | some h =>
    let d1 := d.waitUp h.due
    (d1.flt.held.filter (fun g => !g.reorder && g.rule == n && decide (g.due ≤ h.due))).foldl Dev.jigLet d1
  | none => d

/-! ### Meanings -/

/-- Meaning of MPACKET_RECEIVE. -/
def execMpacketReceive (p : Port) (smd frag : BitVec 8) (l : List Byte) (line : RxLine) (s : State) : Host.Outcome State Fault Refusal :=
  onDev (fun d => d.rxArrive p.val smd.toNat frag.toNat l line) s

/-- Meaning of MAC_FRAME_RECEIVE: a frame with SMD-E. -/
def execMacFrameReceive (p : Port) (l : List Byte) (line : RxLine) (s : State) : Host.Outcome State Fault Refusal :=
  onDev (fun d => d.rxArrive p.val 0xD5 0 l line) s

/-- Meaning of JIG_REORDER_RELEASE. -/
def execJigReorderRelease (n : Fin 16) (s : State) : Host.Outcome State Fault Refusal := onDev (jigReorderRelease n.val) s

/-- Meaning of JIG_DELAY_RELEASE. -/
def execJigDelayRelease (n : Fin 16) (s : State) : Host.Outcome State Fault Refusal := onDev (jigDelayRelease n.val) s

end Sys2Proof.Machine
end

