-- ==== Sys2Proof/Machine/Reset.lean ====
section
/-! DEFINITION. What the resets share (chapter 15, Table PWR-10): the end of expert unlocks (R385), the Jig's activity (R424), the keep
counter (R44), what follows a change of the islands in service, hot reset (R338, R441), function-level reset, reset of the whole device. -/

namespace Sys2Proof.Machine

/-! ### Unlocks (R385) and the Jig (R424) -/

/-- `JIG_STAT.ACTIVE`: enabled, unlocked, test mode set.  Where one of them ends, held frames are released unchanged. -/
def Dev.jigSync (d : Dev) : Dev :=
  let on := d.gb Reg.jigCtl 0 && d.gb Reg.mbxUnlock 17 && d.gb Reg.mbxUnlock 32
  let d1 := d.sb Reg.jigStat 0 on
  if d.jigActive && !on then d1.jigReleaseAll else d1

/-- Block `k` relocks; with `JIG_` test mode ends. -/
def Dev.relock (d : Dev) (k : Nat) : Dev :=
  let d1 := (d.sb Reg.mbxUnlock k false).sf (Reg.mbxLease k) 16 12 0
  let d2 : Dev := { d1 with mbx := { d1.mbx with leaseEnd := Sparse.del d1.mbx.leaseEnd k } }
  if k = 17 then (d2.sb Reg.mbxUnlock 32 false).jigSync else d2

/-- The unlocks whose holder satisfies `hit` end. -/
def Dev.relockIf (d : Dev) (hit : Nat → Bool) : Dev :=
  ((List.range 23).filter (fun k => d.gb Reg.mbxUnlock k && hit (d.gf (Reg.mbxLease k) 0 3))).foldl (fun (x : Dev) k => x.relock k) d

/-! ### The keep counter (R44) -/

/-- One period of the 32.768 kHz keep clock, 30,517.578125 ns. -/
def tickU : Nat := 1000000000 * 2 ^ 33

/-- The keep domain stores the time base at its next edge, whose place within a period is open, and counts from there. -/
def Dev.keepStore (d : Dev) : Dev :=
  let e := Config.pick d.free tickU % tickU
  ({ d with tim := { d.tim with keepTime := some (d.now + e), keepAt := d.tim.up + e } }).useFree

/-- The time base loaded from the keep count, or started at 0 where the keep domain was unpowered too; COARSE is set, the state is free. -/
def Dev.timeRestore (d : Dev) : Dev :=
  let x := match d.tim.keepTime with | some t => t + (d.tim.up - d.tim.keepAt) / tickU * tickU | none => 0
  let t : Tim := { d.tim.setNow x with keepTime := none, slew := 0, integ := 0, first := true, goodRun := 0, badRun := 0, lastAcc := none }
  ((({ d with tim := t }).sb Reg.timStat 3 true).sb Reg.timStat 6 false).setTimState 0

/-! ### Islands in service -/

/-- What follows a change of the islands in service, the node having been (joined, holder) `j`, `h`: memberships, pins, links, the solver,
`FWD_STAT.MAIN_OUT`, `STR_STAT.CNT_STALL` (R160), and counter updates that waited for the stores. -/
def Dev.islandSync (d : Dev) (j : Bool) (h : Nat) : Dev :=
  let d1 := (d.rebase j h).ringSync.linkSync.solSync
  let d2 := ((List.range 4).foldl (fun (x : Dev) s => x.sb (Reg.fwdStat s) 0 (!d1.hbmOk)) d1).outageSync
  if d2.hbmOk then d2.flushStalled.flushQ else d2.sb Reg.strStat 4 true

/-! ### Hot reset (R338, R441, Table PWR-10) -/

/-- Every function with queues or state of its own, the Bench among them. -/
def Dev.liveFns (d : Dev) : List Nat :=
  (d.hq.fns.map (fun e => e.1) ++ d.hq.sqs.map (fun e => e.2.fn) ++ d.hq.cqs.map (fun e => e.2.fn) ++ d.hq.aqs.map (fun e => e.1)).dedup

/-- `GLB_` at its power-on values, the islands shown as they are. -/
def Dev.resetGlb (d : Dev) : Dev :=
  (({ (d.clearRegs 0 0x100000) with snap := none }).wr Reg.glbIslandUp (d.rd Reg.glbIslandUp)).wr Reg.glbIslandFenced (d.rd Reg.glbIslandFenced)

/-- The configuration space of a function that survives a device reset. -/
def Fn.config (x : Fn) : Fn :=
  { d3 := x.d3, pmeEn := x.pmeEn, pmeStatus := x.pmeStatus, ats := x.ats, pri := x.pri, msixEn := x.msixEn, fnMask := x.fnMask, mps := x.mps
    mrrs := x.mrrs, bigTags := x.bigTags, ltr := x.ltr, errEn := x.errEn, aer := x.aer, masterAbort := x.masterAbort, targetAbort := x.targetAbort
    prAlloc := x.prAlloc }

/-- The host link's state after a reset: the link is down and configuration space cleared, or both are kept. -/
def Hq.afterReset (x : Hq) (cfg : Bool) : Hq :=
  if cfg then {} else { link := x.link, ptmEn := x.ptmEn, l12En := x.l12En, fns := x.fns.map (fun e => (e.1, e.2.config)) }

/-- Islands 33 and 45 and every function reset: `HQ_`, `DMA_`, `XLT_` and the `BEN_AQ_` registers return to their power-on values, every
queue pair is destroyed; words of the Try-square that were being read are read again. -/
def Dev.resetHost (d : Dev) : Dev :=
  let d1 := d.liveFns.foldl (fun (x : Dev) f => x.destroyQueues f) d
  let d2 := (d1.clearRegs 0x3000000 0x3300000).clearRegs Reg.benAqSqBase (Reg.benAqDb + 8)
  { d2 with hq := d2.hq.afterReset true, dma := {}, xlt := {}
            fwd := { d2.fwd with tsqReads := d2.fwd.tsqReads.map (fun r => { r with sent := false }) } }

/-- A reset holds its islands for `lo` to `hi` units of time, which the specification leaves open between (Table PWR-8). -/
def Dev.holdReset (d : Dev) (lo hi : Nat) (all : Bool) : Dev :=
  let t := d.tim.up + lo + Config.pick d.free (hi - lo + 1) % (hi - lo + 1)
  { d.useFree with pwr := { d.pwr with resetUntil := t, resetAll := all } }

/-- The host side in reset: the unlocks of PFs end, PTM stops (R54), the link is down until it has trained. -/
def Dev.hostReset (d : Dev) : Dev := (d.ptmStop.resetGlb.resetHost).relockIf (fun h => decide (h < 4))

/-- A hot reset, or what is handled as one (R335): it takes 1 ms to 10 ms, during which islands 33 and 45 do not serve. -/
def Dev.hotReset (d : Dev) : Dev := d.hostReset.holdReset msU (10 * msU) false

/-! ### Function-level reset (R338, Table PWR-10) -/

/-- A channel stopped as by ABORT with its record abandoned: nothing more reaches the memory of its PF. -/
def Dev.dmaKill (d : Dev) (c : Nat) : Dev :=
  let st := d.chSt c
  let x := d.chan c
  if st = 5 ∧ x.abortRec then (d.abortDrop c).dmaRun c
  else if st = 0 ∨ st = 5 then d
  else
    let d1 := if x.held.isSome then (d.dmaUnwait c).inc (Reg.dmaRecDropCnt c) else d
    let d2 := if (st = 1 ∨ st = 2) ∧ x.ws.isEmpty = false then d1.inc (Reg.dmaRecDropCnt c) else d1
    let d3 := ((d2.dmaDropWaits c true).modChan c (fun y => { y with held := none, xw := [], err := none, rd := 0, lost := false })).sb
      (Reg.dmaChStat c) 3 false
    (d3.setCh c 5).dmaRun c

/-- The functions `fs` are in reset for a time of at most 10 ms, which the specification leaves open; their submission queues are noted. -/
def Dev.beginFlr (d : Dev) (fs : List Nat) : Dev :=
  let t := d.tim.up + (Config.freeWord d.free).toNat % (10 * msU + 1)
  let qs := d.hq.sqs.filter (fun e => fs.contains e.2.fn)
  let d1 : Dev := { d.useFree with hq := { d.hq with flrSqs := qs.foldl (fun m e => Sparse.put m e.1 e.2.fn) d.hq.flrSqs } }
  fs.foldl (fun (x : Dev) f => x.modFn f (fun y => { y with resetEnd := t })) d1

/-- FLR of function `f` (R338): its queues and translations; for a PF also its channels, its unlocks, and for PF0 PTM. -/
def flr (f : Nat) (d0 : Dev) : Dev :=
  let d := if f < 4 then d0.beginFlr (f :: d0.vfsOf f) else if f < 1024 then d0.beginFlr [f] else d0
  if f < 4 then
    let d1 := ((List.range 64).filter (fun c => d.chPf c == f)).foldl (fun (x : Dev) c => x.dmaKill c) d
    let d2 := (d1.flrQueues f).relockIf (fun h => h == f)
    if f = 0 then ({ d2 with hq := { d2.hq with ptmEn := false } }).ptmStop else d2
  else d.flrQueues f

/-- Meaning of FLR. -/
def execFlr (f : Nat) (s : State) : Host.Outcome State Fault Refusal := onDev (flr f) s

/-! ### Reset of the whole device (Table PWR-10) -/

/-- Every engine idle, every buffer empty. -/
def Dev.wipeEngines (d : Dev) : Dev :=
  { d with snap := none, cal := {}, rng := {}, str := {}, mgmt := {}, rxb := {}, fwd := {}, dma := {}, xlt := {}, sol := {}, ports := [], frames := [] }

/-- Registers that a reset of the core keeps: island 47's, the state of the references, the fuse status, and with `tim` = false `TIM_`. -/
def keptReg (tim : Bool) (a : Nat) : Bool :=
  (!tim && 0x100000 ≤ a && a < 0x200000) || a == Reg.rstCause || (Reg.rstHaltMsg ≤ a && a ≤ Reg.rstHaltStat)
  || (0x7400000 ≤ a && a < 0x7500000) || a == Reg.calbStat || a == Reg.clkStat

/-- What the Joiner keeps over a reset of island 44: flash, token store and fuses. -/
def Mbx.afterReset (x : Mbx) : Mbx := { tokens := x.tokens, flash := x.flash, svn := x.svn, verified := x.verified }

/-- Every register block and memory as Table PWR-10 says: `tim`, `hbm`, `cfg` = the time base, the solver and customer regions, and
configuration space with the link are reset too. -/
def Dev.coreReset (d : Dev) (tim hbm cfg : Bool) : Dev :=
  let stays : Nat → Bool := fun a => !hbm && decide (0x40000000 ≤ a ∧ a < 0x600000000)
  let t : Tim := if tim then { sec := d.tim.sec, sub := d.tim.sub, up := d.tim.up, keepTime := d.tim.keepTime, keepAt := d.tim.keepAt }
    else { d.tim with egress := [], ingress := [] }
  let d1 : Dev := { d.wipeEngines with
    regs := d.regs.filter (fun e => keptReg tim e.1)
    hold := d.hold.filter (fun e => keptReg tim e.1)
    mem := d.mem.filter (fun c => stays c.1)
    bad := d.bad.filter stays
    soft := d.soft.filter stays
    tim := t
    flt := {}
    hq := d.hq.afterReset cfg
    mbx := d.mbx.afterReset
    pwr := { d.pwr with goal := none, resetUntil := 0, resetAll := false } }
  ((d1.sf Reg.pwrStat 8 2 (d.gf Reg.pwrStat 8 2)).sb Reg.calbStat 8 false).sf Reg.mbxFwStat 3 7 d.mbx.svn

/-- A reset of the whole device with its cause (Table PWR-13); the fault queue is emptied with `FLT_`. -/
def State.coreReset (s : State) (tim hbm cfg : Bool) (cause : Nat) : State :=
  { s with dev := (s.dev.coreReset tim hbm cfg).sf Reg.rstCause 0 4 cause, fq := [] }

end Sys2Proof.Machine
end

