-- ==== Sys2Proof/Machine/Boot.lean ====
section
/-! DEFINITION. Chapter 12: the flash (Table MBX-1), firmware images (Table MBX-2), boot and boot hold (R372–R374), the resets of the
Joiner (R375, R390, R391), the end of leases and lockouts (R384, R385). -/

namespace Sys2Proof.Machine

/-! ### Flash (Table MBX-1) -/

/-- The `n` octets of the flash from `a` upward; an octet nothing has written reads 0. -/
def Dev.flashN (d : Dev) (a : Nat) : Nat → List Byte
  | 0 => []
  | n + 1 => Sparse.getD d.mbx.flash a 0 :: Dev.flashN d (a + 1) n

/-- A number of `n` octets in the flash, least significant first. -/
def Dev.flashLe (d : Dev) (a n : Nat) : Nat := leNat (d.flashN a n)

/-- Octets written to the flash from `a` upward. -/
def Dev.flashPut (d : Dev) (a : Nat) : List Byte → Dev
  | [] => d
  | b :: t => Dev.flashPut { d with mbx := { d.mbx with flash := Sparse.setD d.mbx.flash a 0 b } } (a + 1) t

/-- Where a firmware slot begins: 0 = A, 1 = B. -/
def slotBase (s : Nat) : Nat := if s = 0 then 0x100000 else 0x800000

/-- Greatest body length, octets. -/
def bodyMax : Nat := 7339520

/-- VERSION, SVN, KEY and LEN of the image in a slot. -/
def Dev.imgVersion (d : Dev) (s : Nat) : Nat := d.flashLe (slotBase s + 4) 4
def Dev.imgSvn (d : Dev) (s : Nat) : Nat := d.flashLe (slotBase s + 8) 1 % 128
def Dev.imgKey (d : Dev) (s : Nat) : Nat := d.flashLe (slotBase s + 9) 1 % 4
def Dev.imgLen (d : Dev) (s : Nat) : Nat := d.flashLe (slotBase s + 12) 4

/-! ### Identity (R2, R310, Tables HQS-1, HQS-2, MBX-2) -/

/-- What a function's configuration header names it by: Vendor ID, Device ID, class code, Subsystem Vendor ID, Subsystem ID. -/
structure PcieId where
  vendor : Nat
  device : Nat
  cls : Nat
  subVendor : Nat
  sub : Nat
  deriving DecidableEq, Repr

/-- The identity of PCIe function `f`; the subsystem IDs are those of the image in the slot that runs. -/
def Dev.pcieId (d : Dev) (f : Nat) : PcieId :=
  let a := slotBase (d.gf Reg.mbxFwStat 2 1) + 0x10
  { vendor := 0x1F6E, device := if f < 4 then 0x7240 else 0x7241, cls := 0x028000, subVendor := d.flashLe a 2, sub := d.flashLe (a + 2) 2 }

/-- The SR-IOV capability of PF `f`: TotalVFs, First VF Offset, VF Stride. -/
def sriovCap (f : Nat) : Nat × Nat × Nat := (255, 256 * (1 + f) - f, 1)

/-! ### The image a slot holds -/

/-- R373: 0 the slot is accepted, else the cause: 1 no valid image, 2 SVN below the fuse, 3 key revoked.  A fuse group 6 that failed its CRC
accepts no key (Table PWR-11). -/
def Dev.slotCause (d : Dev) (s : Nat) : Nat :=
  if d.flashLe (slotBase s) 4 ≠ 0x46504A31 ∨ bodyMax < d.imgLen s ∨ d.gb Reg.calbStat 7 then 1
  else if Config.keyRevoked (d.imgKey s) then 3
  else if Config.imageGenuine (d.flashN (slotBase s) (512 + d.imgLen s)) = false then 1
  else if d.imgSvn s < d.mbx.svn then 2
  else 0

/-- Sequence number of the boot descriptor copy at `a`, none where its CRC-32 is bad (R372). -/
def Dev.bootSeq (d : Dev) (a : Nat) : Option Nat :=
  if crc32 (d.flashN a 4092) = d.flashLe (a + 4092) 4 then some (d.flashLe (a + 4) 4) else none

/-- Of two copies with their sequence numbers, none where a copy is not valid: the valid one with the higher number. -/
def newerCopy : Option Nat → Option Nat → Option Nat
  | some x, some y => some (if x < y then 0x1000 else 0)
  | some _, none => some 0
  | none, some _ => some 0x1000
  | none, none => none

/-- The boot descriptor copy in use (R372). -/
def Dev.bootCopy (d : Dev) : Option Nat := newerCopy (d.bootSeq 0) (d.bootSeq 0x1000)

/-- PREF: the slot tried first. -/
def Dev.prefSlot (d : Dev) : Nat := match d.bootCopy with | some a => if d.flashLe a 1 = 1 then 1 else 0 | none => 0

/-! ### Boot (R373, R374) -/

/-- Islands that run in boot hold: the host link, the Joiner, the time base and the keep domain. -/
def holdIslands : Nat := 2 ^ 32 + 2 ^ 33 + 2 ^ 44 + 2 ^ 46 + 2 ^ 47

/-- A watchdog reset is reported after the restart (Table FLT-3). -/
def Dev.reportWdog (d : Dev) : Dev :=
  if d.mbx.wdogOwed then ({ d with mbx := { d.mbx with wdogOwed := false } }).raise 14 0 0x10 (d.gf Reg.mbxFwStat 16 8) else d

/-- Slot `s` runs: STATE, SLOT, VERSION, and after a reset of the whole device every island and the Bench (Table BEN-6). -/
def Dev.runSlot (d : Dev) (s : Nat) : Dev :=
  let a := Reg.mbxFwStat
  let d1 := ((((d.sf a 0 2 2).sf a 2 1 s).sf a 24 4 0).sf a 32 32 (d.imgVersion s))
  let full : Bool := d1.mbx.coreBoot && d1.gf Reg.pwrStat 0 2 == 0
  let d2 : Dev := if d1.mbx.coreBoot ∧ d1.gf Reg.pwrStat 0 2 = 0 then d1.wr Reg.glbIslandUp (resetOf Reg.glbIslandUp) else d1
  let d3 : Dev := { d2 with mbx := { d2.mbx with coreBoot := false, bootOther := false } }
  ((if full then d3.benchOn else d3).reportWdog).mbxTake

/-- Boot hold with its cause: where the other islands were reset too, they stay in reset. -/
def Dev.bootHold (d : Dev) (cause : Nat) : Dev :=
  let d1 := (d.sf Reg.mbxFwStat 0 2 1).sf Reg.mbxFwStat 24 4 cause
  let d2 : Dev := { d1 with mbx := { d1.mbx with bootOther := false } }
  let d3 := if d2.mbx.coreBoot then d2.wr Reg.glbIslandUp (BitVec.ofNat 64 holdIslands) else d2
  d3.reportWdog.mbxTake

/-- The boot ROM runs (R373, R391): the slot named by PREF, then the other; after the third watchdog reset within 60 s the slot not used before
alone.  Where both slots fail for different causes, which of them is shown is open. -/
def Dev.bootNow (d : Dev) (found : Bool) : Dev :=
  if d.fwState ≠ 0 ∨ d.islandOk 44 = false then d
  else if d.mbx.bootOther then
    let s := 1 - d.gf Reg.mbxFwStat 2 1
    if found ∧ d.slotCause s = 0 then d.runSlot s else d.bootHold 5
  else if found = false then d.bootHold 4
  else
    let p := d.prefSlot
    let c0 := d.slotCause p
    let c1 := d.slotCause (1 - p)
    if c0 = 0 then d.runSlot p
    else if c1 = 0 then d.runSlot (1 - p)
    else if c0 = c1 then d.bootHold c0
    else d.useFree.bootHold (if Config.pick d.free 2 % 2 = 0 then c0 else c1)

/-- FIRMWARE_BOOT: after a device reset the boot follows it (Table PWR-8). -/
def firmwareBoot (found : Bool) (d : Dev) : Dev := (if d.pwr.resetAll then d.waitUp d.pwr.resetUntil else d).bootNow found

/-! ### Resets of the Joiner (R375, R390, R391) -/

/-- A mailbox whose command a reset of island 44 ends: JOINER_RESET, written by hardware. -/
def Dev.mbxAborted (d : Dev) (m : Nat) : Dev := d.mbxRespond m (d.mbxOpc m) (d.mbxSeq m) { status := 0x10 }

/-- Island 44 is reset but for domain 58 (Table PWR-10, column Watchdog): busy mailboxes end with JOINER_RESET, every unlock ends, `MBX_`,
`SOL_` and the island-44 fields of `PWR_`, `CLK_`, `RST_` and `CALB_` return to their power-on values, save what shows the device's present
state, and the boot ROM runs. -/
def Dev.joinerReset (d : Dev) : Dev :=
  let busy := (List.range 16).filter (fun m => d.gb (Reg.mbxStat m) 0)
  let d1 := (busy.foldl (fun (x : Dev) m => x.mbxAborted m) d).relockIf (fun _ => true)
  let done := busy.map (fun m => (m, d1.gf (Reg.mbxStat m) 16 16, d1.ldN (mbxBuf m + 0x800) 0x800))
  let d2 := d1.wrSolCtl 0
  let d3 := (((d2.clearRegs 0x600000 0x700000).clearRegs 0x4000000 0x4100000).clearRegs Reg.clkStat 0x7200000).clearRegs Reg.rstCfg Reg.rstCause
  let d4 := (d3.wr Reg.clkStat (d.rd Reg.clkStat)).wr Reg.pwrCtl 0
  let d5 := ((d4.sf Reg.pwrStat 4 4 0).sb Reg.calbStat 8 false).clearMem (mbxBuf 0) (mbxBuf 16)
  let d6 := done.foldl (fun (x : Dev) e => ((x.sb (Reg.mbxStat e.1) 1 true).sf (Reg.mbxStat e.1) 16 16 e.2.1).stN (mbxBuf e.1 + 0x800) e.2.2) d5
  let kept : Mbx := { d.mbx.afterReset with coreBoot := d.mbx.coreBoot, wdogAt := d.mbx.wdogAt, wdogOwed := d.mbx.wdogOwed
                                            routes := d.mbx.routes, nodes := d.mbx.nodes, tails := d.mbx.tails }
  let d7 : Dev := { d6 with sol := {}, mbx := kept }
  (d7.sf Reg.mbxFwStat 2 1 (d.gf Reg.mbxFwStat 2 1)).sf Reg.mbxFwStat 3 7 d.mbx.svn
    |>.sf Reg.mbxFwStat 16 8 (d.gf Reg.mbxFwStat 16 8) |>.solSync

/-- A Joiner watchdog reset (R390): WDOG_CNT advances, and the third within 60 s boots the other slot alone (R391). -/
def Dev.watchdogReset (d : Dev) : Dev :=
  let d1 := d.joinerReset
  let ats := (d.tim.up :: d.mbx.wdogAt.filter (fun t => decide (d.tim.up < t + 60 * secU))).take 3
  ({ d1 with mbx := { d1.mbx with wdogAt := ats, wdogOwed := true, bootOther := decide (3 ≤ ats.length) } }).sf Reg.mbxFwStat 16 8
    (min 255 (d.gf Reg.mbxFwStat 16 8 + 1))

/-- JOINER_WATCHDOG_RESET: the running firmware missed a service. -/
def joinerWatchdogReset (d : Dev) : Dev := if 2 ≤ d.fwState ∧ d.islandOk 44 then d.watchdogReset else d

/-- JOINER_RESTART (R375): 1 ms after the DONE of FW_RESTART. -/
def joinerRestart (d : Dev) : Dev :=
  match d.mbx.restartAt with
  | some t => if d.islandOk 44 then (d.waitUp t).joinerReset else d
  | none => d

/-- LEASE_EXPIRY (R385): REMAIN_S of block `k` reaches 0. -/
def leaseExpiry (k : Nat) (d : Dev) : Dev :=
  match Sparse.find d.mbx.leaseEnd k with
  | some t => (d.waitUp t).relock k
  | none => d

/-- LOCKOUT_END (R384). -/
def lockoutEnd (k : Nat) (d : Dev) : Dev :=
  match Sparse.find d.mbx.lockEnd k with
  | some t =>
    let d1 := ((d.waitUp t).sb (Reg.mbxLease k) 30 false).sf (Reg.mbxLease k) 28 2 0
    { d1 with mbx := { d1.mbx with lockEnd := Sparse.del d1.mbx.lockEnd k } }
  | none => d

/-! ### Meanings -/

/-- Meaning of FIRMWARE_BOOT. -/
def execFirmwareBoot (found : Bool) (s : State) : Host.Outcome State Fault Refusal := onDev (firmwareBoot found) s

/-- Meaning of JOINER_WATCHDOG_RESET. -/
def execJoinerWatchdogReset (s : State) : Host.Outcome State Fault Refusal := onDev joinerWatchdogReset s

/-- Meaning of JOINER_RESTART. -/
def execJoinerRestart (s : State) : Host.Outcome State Fault Refusal := onDev joinerRestart s

/-- Meaning of LEASE_EXPIRY. -/
def execLeaseExpiry (k : Fin 23) (s : State) : Host.Outcome State Fault Refusal := onDev (leaseExpiry k.val) s

/-- Meaning of LOCKOUT_END. -/
def execLockoutEnd (k : Fin 23) (s : State) : Host.Outcome State Fault Refusal := onDev (lockoutEnd k.val) s

end Sys2Proof.Machine
end

