-- ==== Sys2Proof/Machine/Faults.lean ====
section
/-! DEFINITION. Chapter 14: the fault collector (R409–R423): classes, the queue, reactions, fences and their release, Halt; injection by
the Jig (R426); the `FLT_` and `JIG_` registers (R427). -/

namespace Sys2Proof.Machine

/-! ### Sources and kinds (Tables FLT-2, FLT-3) -/

/-- Block code and unit of a SOURCE (R410). -/
def srcBlock (s : Nat) : Nat × Nat := if s / 256 % 16 = 15 then (15 + s % 256 / 32, s % 32) else (s / 256 % 16, s % 256)

/-- Units of a block that report kind `kind` (Table FLT-2). -/
def unitOk (k u kind : Nat) : Bool :=
  match k with
  | 0 => decide (u < 48)
  | 2 => decide (u < 4)
  | 3 | 7 | 8 | 9 => decide (u < 36)
  | 4 => decide (u < 2)
  | 5 => if kind = 0x10 then decide (32 ≤ u ∧ u < 36) else decide (u < 2)
  | 10 => decide (u < 4)
  | 12 => decide (u < 64)
  | 15 => decide (u < 8)
  | _ => u == 0

/-- Kinds of a block that Table FLT-3 lists. -/
def kindsOf (k : Nat) : List Nat :=
  match k with
  | 0 => [1, 2, 3, 4, 5, 0x10, 0x11]
  | 1 | 3 | 4 => [0x10, 0x11]
  | 2 => [0x10, 0x11, 0x12]
  | 5 => [0x10, 0x11, 0x12, 0x13, 0x14, 0x15]
  | 10 => [0x10, 0x11, 0x12, 0x13]
  | 6 | 8 | 11 | 12 | 13 | 14 | 15 | 16 | 19 | 22 => [0x10]
  | _ => []

/-- Table FLT-3 lists the source and kind. -/
def faultListed (src kind : Nat) : Bool := unitOk (srcBlock src).1 (srcBlock src).2 kind && (kindsOf (srcBlock src).1).contains kind

/-- An island of the scheduled path (R411). -/
def schedIsland (i : Nat) : Bool := (i < 16 && i % 2 == 1) || (16 ≤ i && i < 32) || i == 46

/-- An island that is never fenced (R412, R467). -/
def neverFenced (i : Nat) : Bool := i == 33 || i == 44 || i == 47

/-- The fixed class of a source and kind (R411, R412), none where the severity table gives it. -/
def fixedClass (k u kind : Nat) : Option Nat :=
  if k = 0 ∧ kind < 0x10 then (if schedIsland u then some 2 else if neverFenced u then some 1 else none)
  else if (k = 2 ∧ (kind = 0x10 ∨ kind = 0x12)) ∨ (k = 4 ∧ kind = 0x10) ∨ (k = 5 ∧ kind = 0x10) then some 2
  else none

/-- A word of the severity table as a message that arrives now finds it: a write of this clock comes after it (R416). -/
def Dev.sevWord (d : Dev) (a : Nat) : Word := if d.flt.sevAt = d.tim.up then Sparse.getD d.flt.sevWas a (d.rd a) else d.rd a

/-- A word of the severity table written. -/
def Dev.putSev (d : Dev) (a : Nat) (v : Word) : Dev :=
  let was := if d.flt.sevAt = d.tim.up then d.flt.sevWas else []
  let keep := if (Sparse.find was a).isSome then was else Sparse.put was a (d.rd a)
  ({ d with flt := { d.flt with sevAt := d.tim.up, sevWas := keep } }).wr a v

/-- The class of kind `kind` of block `k` in the severity table. -/
def Dev.sevClass (d : Dev) (k kind : Nat) : Nat := getF (d.sevWord (Reg.fltSev k (kind / 16))) (4 * (kind % 16)) 4

/-- The class the collector assigns (R411, R412); an injected Halt acts as Degrade unless allowed (R426). -/
def Dev.classOf (d : Dev) (w : WireMsg) : Nat :=
  let b := srcBlock w.src
  let c := (fixedClass b.1 b.2 w.kind).getD (d.sevClass b.1 w.kind)
  if w.inj ∧ c = 3 ∧ d.gb Reg.jigCtl 1 = false then 1 else c

/-- A fault message (Table FLT-1). -/
def faultWord (src kind cls addr : Nat) : Word := BitVec.ofNat 64 (fld 52 12 src + fld 44 8 kind + fld 40 4 cls + fld 0 40 addr)

/-- The islands that a fence of a source's unit takes (R411, R467); none where its unit is never fenced (R41, R109, R154, R412; `STR_` kind 0x10 fences a stream). -/
def unitIslands (src kind : Nat) : List Nat :=
  let u := (srcBlock src).2
  match (srcBlock src).1 with
  | 0 => if neverFenced u then [] else [u]
  | 2 => [calIsland u]
  | 3 | 4 => []
  | 8 | 9 => [txIsland u]
  | 5 => if kind = 0x10 then [16 + (u - 32)] else [16 + 2 * u, 17 + 2 * u]
  | 7 => [sdsIsland u]
  | 10 => [fwdIsland u]
  | 12 | 13 => [45]
  | 15 => [36 + u]
  | _ => []

/-! ### The queue (R421, R422) -/

/-- `FLT_Q_HEAD`, `FLT_Q_TIME` and COUNT as the queue stands. -/
def State.fqSync (s : State) : State :=
  let h := s.fq.headD (0, 0)
  { s with dev := ((s.dev.wr Reg.fltQHead h.1).wr Reg.fltQTime h.2).sf Reg.fltQStat 0 11 s.fq.length }

/-- CLASS of a queued message. -/
def msgClass (w : Word) : Nat := getF w 40 4

/-- The first Note message of a queue removed. -/
def dropNote : List (Word × Word) → List (Word × Word)
  | [] => []
  | e :: t => if msgClass e.1 = 0 then t else e :: dropNote t

/-- A message displaced or dropped: counted, OVF set, and with the first since OVF was clear an overflow message is owed. -/
def Dev.fltLost (d : Dev) : Dev :=
  let d1 : Dev := if d.gb Reg.fltStat 5 ∨ d.flt.owed then { d with flt := { d.flt with lost := d.flt.lost + 1 } }
    else { d with flt := { d.flt with lost := 1, owed := true } }
  (d1.inc Reg.fltLostCnt).sb Reg.fltStat 5 true

/-- A message reaches the queue of 1,024 entries (R421, R422). -/
def State.enqueue (s : State) (w : Word) : State :=
  let e := (w, compact s.dev.now)
  if s.fq.length < 1024 then ({ s with fq := s.fq ++ [e] }).fqSync
  else if msgClass w ≠ 0 ∧ s.fq.any (fun x => msgClass x.1 == 0) then
    ({ s with fq := dropNote s.fq ++ [e], dev := s.dev.fltLost }).fqSync
  else { s with dev := s.dev.fltLost }

/-- The oldest message removed (R421). -/
def State.fqPop (s : State) : State := ({ s with fq := s.fq.drop 1 }).fqSync

/-! ### Pins and interrupt (R419, R423) -/

/-- `FLT_STAT.PIN`: a sticky bit at or above PIN_MIN, or an island fenced. -/
def Dev.pinSync (d : Dev) : Dev :=
  let m := d.gf Reg.fltCfg 0 2
  d.sb Reg.fltStat 4 ((List.range 4).any (fun c => decide (m ≤ c) && d.gb Reg.fltStat c) || d.gf Reg.glbIslandFenced 0 48 != 0)

/-- The interrupt of a message of class `c`. -/
def Dev.faultIrq (d : Dev) (c : Nat) : Dev :=
  if d.gb Reg.fltCfg (8 + c) then d.fire (d.gf Reg.fltCfg 16 2) (d.gf Reg.fltCfg 18 11) else d

/-! ### Fences (R413–R415, Table FLT-6) -/

/-- An automatic release is scheduled after a fence while ATTEMPTS < AUTO_MAX. -/
def Dev.autoSchedule (d : Dev) (i : Nat) : Dev :=
  let ms := d.gf Reg.fltFenceCfg 0 16
  if ms ≠ 0 ∧ d.gf (Reg.fltIslStat i) 2 4 < d.gf Reg.fltFenceCfg 16 4 then
    ({ d with flt := { d.flt with autoAt := Sparse.put d.flt.autoAt i (d.tim.up + ms * msU) } }).sb (Reg.fltIslStat i) 1 true
  else d

/-- The time base falls out of service: every calendar slice is out, the time pins are low, the keep domain stores the time. -/
def Dev.calOut (d : Dev) (s : Nat) : Dev :=
  let d1 : Dev := { d with cal := { d.cal with reval := Sparse.del d.cal.reval s, resume := Sparse.del d.cal.resume s } }
  (d1.dropSliceLaunches s).sb Reg.calStat (12 + s) true

/-- What the fence of island `i` does to its units (Table FLT-6), links, rings and solver apart. -/
def Dev.fenceEffect (d : Dev) (i : Nat) : Dev :=
  if i < 16 ∧ i % 4 = 2 then d.fwdFence (i / 4)
  else if i < 16 ∧ i % 4 = 3 then
    let d1 := d.calOut (i / 4)
    if i = 3 ∨ i = 11 then d1.sb Reg.strStat (if i = 3 then 0 else 1) true else d1
  else if i = 32 then d.hotReset
  else if 36 ≤ i ∧ i < 44 then d.benchFault (i - 36)
  else if i = 46 then
    let d1 := (List.range 4).foldl (fun (x : Dev) s => x.calOut s) d
    let d2 : Dev := { d1 with tim := { d1.tim with ppsOut := false, clk10 := false } }
    d2.keepStore
  else d

/-- A fault fences island `i` (R414); one that is fenced already stays so, and during its reset a new automatic release follows (R415). -/
def Dev.fence (d0 : Dev) (i kind : Nat) (msg : Word) : Dev :=
  let d : Dev := { d0 with flt := { d0.flt with struckAt := Sparse.put d0.flt.struckAt i d0.tim.up } }
  if neverFenced i then d0
  else if d.fenced i then
    if (Sparse.find d.flt.resetting i).isSome then
      ({ d with flt := { d.flt with resetting := Sparse.del d.flt.resetting i } }).autoSchedule i
    else d
  else
    let j := d.joined
    let h := d.holder
    let a := Reg.fltIslStat i
    let d1 := (d.sb Reg.glbIslandFenced i true).inc Reg.fltFenceCnt
    let d2 := ((d1.sb a 0 true).sf a 8 8 kind).sf a 16 16 (min 65535 (d1.gf a 16 16 + 1))
    let d3 : Dev := { d2 with flt := { d2.flt with fencedAt := Sparse.put d2.flt.fencedAt i d.tim.up, fencedBy := Sparse.put d2.flt.fencedBy i msg
                                                   freeSince := Sparse.del d2.flt.freeSince i } }
    (((d3.autoSchedule i).fenceEffect i).islandSync j h).pinSync

/-! ### Halt (R417) -/

/-- Every transmitter stops; what is on a wire ends without its FCS. -/
def Dev.stopAll (d : Dev) : Dev := (List.range 36).foldl (fun (x : Dev) p => x.portStop p false) d

/-- A Halt with the message the keep domain stores. -/
def Dev.halt (d : Dev) (msg : Word) : Dev :=
  if d.halted then d
  else
    let d1 := d.stopAll.keepStore
    let t := compact (d1.tim.keepTime.getD 0)
    let a := Reg.rstHaltStat
    let d2 := (((d1.wr Reg.rstHaltMsg msg).wr Reg.rstHaltTime t).sb a 0 true).sb a 1 true
    let d3 := d2.sf a 16 16 (min 65535 (d2.gf a 16 16 + 1))
    let d4 := (List.range 1024).foldl (fun (x : Dev) f => x.emit (.pcie 1 [f])) d3
    let d5 : Dev := { d4.wipeEngines with pwr := { d4.pwr with goal := none }
                                          tim := { d4.tim with ppsOut := false, clk10 := false } }
    [0, 1].foldl (fun (x : Dev) k => (x.sf (Reg.rngStat k) 0 3 6).sb (Reg.rngStat k) 4 false) d5

/-! ### The collector (R413) -/

/-- The reaction of a class (Table FLT-4), with what chapter 12 and 15 add for islands 33 and 44, and for a stream (R155, R426). -/
def Dev.react (d : Dev) (w : WireMsg) (cls : Nat) (msg : Word) : Dev :=
  let b := srcBlock w.src
  if cls = 3 then d.halt msg
  else if cls = 2 then
    if b.1 = 4 ∧ w.kind = 0x10 then
      (List.range 36).foldl (fun (x : Dev) p => if (x.port p).queue.isEmpty then x else x.purge p) (d.setFence w.addr)
    else (unitIslands w.src w.kind).foldl (fun (x : Dev) i => x.fence i w.kind msg) d
  else if b.1 = 0 ∧ w.kind < 0x10 ∧ b.2 = 33 then d.hotReset
  else if b.1 = 0 ∧ w.kind < 0x10 ∧ b.2 = 44 then d.watchdogReset
  else d

/-- A message reaches the collector: its class, counters and sticky bit, the queue, the reaction, the pin and the interrupt. -/
def State.collect (s : State) (w : WireMsg) : State :=
  let cls := s.dev.classOf w
  let msg := faultWord w.src w.kind cls w.addr
  let d0 : Dev := { s.dev with flt := { s.dev.flt with classAt := Sparse.put s.dev.flt.classAt cls s.dev.tim.up } }
  let d1 := (((d0.inc Reg.fltMsgCnt).inc (Reg.fltClassCnt cls)).sb Reg.fltStat cls true).pinSync
  let s1 := ({ s with dev := d1 }).enqueue msg
  let d2 := s1.dev.react w cls msg
  { s1 with dev := if cls = 3 then d2 else d2.faultIrq cls }

/-- The collector runs: neither Halt nor Keep, and its domain powered. -/
def Dev.collectorUp (d : Dev) : Bool := d.islandOk 44

/-- The message that is handled next: the earliest, then by SOURCE, then by KIND (R413). -/
def Dev.nextMsg (d : Dev) : Option WireMsg :=
  d.flt.wire.foldl (fun (best : Option WireMsg) m =>
    match best with
    | none => some m
    | some b =>
      if m.at_ < b.at_ ∨ (m.at_ = b.at_ ∧ (m.src < b.src ∨ (m.src = b.src ∧ m.kind < b.kind))) then some m else some b) none

/-- The next message handled, once it has arrived. -/
def State.handleNext (s : State) : State :=
  match s.dev.nextMsg with
  | none => s
  | some m =>
    let d : Dev := { s.dev with flt := { s.dev.flt with wire := s.dev.flt.wire.erase m } }
    ({ s with dev := d.waitUp m.at_ }).collect m

/-- The messages that were on their way handled one after another, `n` at most. -/
def State.handleAll : Nat → State → State
  | 0, s => s
  | n + 1, s => if s.dev.collectorUp then State.handleAll n s.handleNext else s

/-- A message submitted to the collector and handled with those before it. -/
def State.submit (s : State) (src kind addr : Nat) (inj : Bool) : State :=
  let m : WireMsg := ⟨s.dev.tim.up, src, kind, addr, inj⟩
  ({ s with dev := { s.dev with flt := { s.dev.flt with wire := s.dev.flt.wire ++ [m] } } }).handleAll (s.dev.flt.wire.length + 1)

/-- FAULT_MESSAGE (R413): the next message of the device's own units, or a unit's own detection. -/
def faultMessage (m : Option (BitVec 12 × BitVec 8 × BitVec 40)) (s : State) : State :=
  if s.dev.collectorUp = false then s
  else match m with
    | none => s.handleNext
    | some (src, kind, addr) =>
      if faultListed src.toNat kind.toNat then s.submit src.toNat kind.toNat addr.toNat false else s

/-- FENCE_ESCALATION (R413): isolation of island `i` is not acknowledged within 10 µs of its fence. -/
def fenceEscalation (i : Nat) (d : Dev) : Dev :=
  match Sparse.find d.flt.fencedAt i with
  | some t =>
    if d.fenced i ∧ d.collectorUp then
      ((d.waitUp (t + 10 * usU)).inc Reg.fltEscCnt).halt (Sparse.getD d.flt.fencedBy i 0)
    else d
  | none => d

/-- OVERFLOW_MESSAGE (R422): once space appears, one message with the number of messages lost. -/
def overflowMessage (s : State) : State :=
  if s.dev.flt.owed ∧ s.fq.length < 1024 ∧ s.dev.collectorUp then
    let m : WireMsg := ⟨s.dev.tim.up, srcCode 16 0, 0x10, s.dev.flt.lost % 2 ^ 40, false⟩
    ({ s with dev := { s.dev with flt := { s.dev.flt with owed := false } } }).collect m
  else s

/-! ### Release (R415, R416) -/

/-- A fenced island is released: its reset begins; a fault of the island in the same clock wins, and counts as a new fence (R416). -/
def Dev.release (d : Dev) (i : Nat) : Dev :=
  let d1 := ({ d with flt := { d.flt with autoAt := Sparse.del d.flt.autoAt i } }).sb (Reg.fltIslStat i) 1 false
  if Sparse.find d.flt.struckAt i = some d.tim.up then d1.autoSchedule i
  else { d1 with flt := { d1.flt with
    resetting := if (Sparse.find d.flt.resetting i).isSome then d.flt.resetting else Sparse.put d.flt.resetting i d.tim.up } }

/-- A write of `FLT_FENCE_REL` (R415, R427). -/
def Dev.wrFenceRel (d : Dev) (v : Word) : Dev :=
  let i := getF v 0 6
  if getB v 63 then
    if neverFenced i ∨ 48 ≤ i ∨ d.fenced i = false then d.sb Reg.fltStat 6 true
    else ((d.wrReg Reg.fltFenceRel v).sf (Reg.fltIslStat i) 2 4 0).release i
  else d.wrReg Reg.fltFenceRel v

/-- AUTO_RELEASE (R415). -/
def autoRelease (i : Nat) (d : Dev) : Dev :=
  match Sparse.find d.flt.autoAt i with
  | some t =>
    if d.fenced i ∧ d.collectorUp then
      let d1 := d.waitUp t
      (d1.sf (Reg.fltIslStat i) 2 4 (d1.gf (Reg.fltIslStat i) 2 4 + 1)).release i
    else d
  | none => d

/-- A stream half returns (R156): each of its streams with RCV = 1 is reset under R151. -/
def Dev.halfBack (d : Dev) (h : Nat) : Dev :=
  let d1 := d.sb Reg.strStat h false
  (d1.strIds.filter (fun s => halfOf s == h && d1.sType s == 1 && d1.sRcv s)).foldl (fun (x : Dev) s => x.recoveryReset s) d1

/-- A transmit island returns (R126): its ports restart verification from OFF, and frame counts start at 0. -/
def Dev.txBack (d : Dev) (ps : List Nat) : Dev :=
  ps.foldl (fun (x : Dev) p => ((x.modPort p (fun y => { y with fcP := 0, fcX := 0 })).verifyOff p).preEval p) d

/-- The DMA engine and the translation unit return (R361, R363): channels are IDLE with what was committed, taken and shadowed; translations
are lost and asked for again. -/
def Dev.dmaBack (d : Dev) : Dev :=
  let ws := d.xlt.waits.map (fun w => w.want)
  let chans : Sparse Chan := d.dma.ch.map (fun e => (e.1, { comChain := e.2.comChain, comCfg := e.2.comCfg }))
  let d1 : Dev := { d with dma := { d.dma with ch := chans }, xlt := {} }
  let d2 := (List.range 64).foldl (fun (x : Dev) c => ((x.dmaUnwait c).setCh c 0).sb (Reg.dmaChStat c) 3 false) d1
  (ws.foldl (fun (x : Dev) w => x.resumeWant w) (d2.sb Reg.xltStat 5 false)).hostGo

/-- What the release of island `i` brings back (Table FLT-6), links, rings and solver apart. -/
def Dev.backEffect (d : Dev) (i : Nat) : Dev :=
  if i < 16 ∧ i % 4 = 1 then d.txBack ((List.range 8).map (fun k => 8 * (i / 4) + k))
  else if i < 16 ∧ i % 4 = 2 then d.fwdRestart (i / 4)
  else if i < 16 ∧ i % 4 = 3 then
    let d1 := if i = 3 then d.halfBack 0 else if i = 11 then d.halfBack 1 else d
    if d1.islandOk 46 then d1.revalidate (i / 4) else d1
  else if 16 ≤ i ∧ i < 20 then d.txBack [32 + (i - 16)]
  else if 36 ≤ i ∧ i < 44 then d.benchBack (i - 36)
  else if i = 45 then d.dmaBack
  else if i = 46 then
    (List.range 4).foldl (fun (x : Dev) s => if x.islandOk (calIsland s) then x.revalidate s else x) d.timeRestore.afterStep
  else d

/-- Least duration of an island's reset (R415). -/
def resetMin : Nat := 20 * usU

/-- ISLAND_RESET_DONE (R415). -/
def islandResetDone (i : Nat) (d : Dev) : Dev :=
  match Sparse.find d.flt.resetting i with
  | none => d
  | some t =>
    if d.collectorUp = false then d
    else
      let d0 := d.waitUp (t + resetMin)
      let j := d0.joined
      let h := d0.holder
      let d1 := (d0.sb Reg.glbIslandFenced i false).sb (Reg.fltIslStat i) 0 false
      let d2 : Dev := { d1 with flt := { d1.flt with resetting := Sparse.del d1.flt.resetting i, fencedAt := Sparse.del d1.flt.fencedAt i
                                                     freeSince := Sparse.put d1.flt.freeSince i d1.tim.up } }
      ((d2.backEffect i).islandSync j h).pinSync

/-- ATTEMPTS_CLEAR (R415): unfenced for 3,600 s. -/
def attemptsClear (i : Nat) (d : Dev) : Dev :=
  match Sparse.find d.flt.freeSince i with
  | some t => if d.collectorUp then (d.waitUp (t + 3600 * secU)).sf (Reg.fltIslStat i) 2 4 0 else d
  | none => d

/-! ### Registers (R412, R427) -/

/-- A write of `FLT_SEV[k][j]`: fixed entries keep their class, a class above 3 makes the write ignored; the island kinds' entry governs the
islands whose class is not fixed. -/
def Dev.wrSev (d : Dev) (k j : Nat) (v : Word) : Dev :=
  let fixed : Nat → Bool := fun i => k != 0 && (fixedClass k 0 (16 * j + i)).isSome
  let a := Reg.fltSev k j
  if (List.range 16).any (fun i => decide (3 < getF v (4 * i) 4)) then d.sb Reg.fltStat 6 true
  else
    let w := (List.range 16).foldl (fun (x : Word) i => if fixed i then x else setF x (4 * i) 4 (getF v (4 * i) 4)) (d.rd a)
    let hit := (List.range 16).any (fun i => fixed i && getF v (4 * i) 4 != getF (d.rd a) (4 * i) 4)
    if hit then d.sb Reg.fltStat 6 true else d.putSev a w

/-- A write of `FLT_FENCE_CFG`: AUTO_MS 0 or 10–65,535, AUTO_MAX 1–15. -/
def Dev.wrFenceCfg (d : Dev) (v : Word) : Dev :=
  if (getF v 0 16 ≠ 0 ∧ getF v 0 16 < 10) ∨ getF v 16 4 = 0 then d.sb Reg.fltStat 6 true else d.wrReg Reg.fltFenceCfg v

/-- A write of `FLT_STAT`: a class whose message has arrived in this clock keeps its bit (R419). -/
def Dev.wrFltStat (d : Dev) (v : Word) : Dev :=
  let now := (List.range 4).filter (fun c => Sparse.find d.flt.classAt c == some d.tim.up)
  (now.foldl (fun (x : Dev) c => x.sb Reg.fltStat c true) (d.wrReg Reg.fltStat v)).pinSync

/-- A write of `JIG_RULE_CFG[n]` (R425, R427): with ARM = 1 the action must lie in 1–4; reorder is not permitted on transmit, nor a delay on
transmit above 10,000 ns; Dovetail types match on ring targets only.  Setting ARM starts the counts of the rule. -/
def Dev.wrJigRule (d : Dev) (n : Nat) (v : Word) : Dev :=
  let act := getF v 2 4
  let bad : Bool := (getB v 0 && (act == 0 || decide (4 < act))) || getF v 6 2 == 3 || decide (37 < getF v 8 6)
    || (getB v 1 && act == 3) || (getB v 1 && decide (10000 < d.gf (Reg.jigRuleParam n) 32 32)) || getF v 16 16 == 0
    || (getF v 14 2 == 1 && decide (getF v 8 6 < 32))
  if bad then d.sb Reg.jigStat 1 true
  else
    let d1 : Dev := if getB v 0 ∧ d.gb (Reg.jigRuleCfg n) 0 = false then
      { d with flt := { d.flt with matches_ := Sparse.del d.flt.matches_ n, acts := Sparse.del d.flt.acts n } } else d
    d1.wrReg (Reg.jigRuleCfg n) v

/-- A write of `JIG_RULE_PARAM[n]`: DELAY_NS above 10,000 is out of range for a transmit rule. -/
def Dev.wrJigParam (d : Dev) (n : Nat) (v : Word) : Dev :=
  let t := getF v 32 32
  if getF v 0 14 > 9261 ∨ getF v 16 4 = 0 ∨ t = 0 ∨ 1000000 < t ∨ (d.gb (Reg.jigRuleCfg n) 1 ∧ 10000 < t) then d.sb Reg.jigStat 1 true
  else d.wrReg (Reg.jigRuleParam n) v

/-- The copy of a 64-bit register at `a`, where copies lie `str` apart from `base`. -/
def copyAt (base str cnt a : Nat) : Option Nat :=
  if base ≤ a ∧ a < base + cnt * str ∧ (a - base) % str = 0 then some ((a - base) / str) else none

/-- A permitted write of a `FLT_` or `JIG_` register without a row of its own. -/
def Dev.wrFlt (d : Dev) (a : Nat) (v : Word) : Dev :=
  if a = Reg.fltCfg then (d.wrReg a v).pinSync
  else if a = Reg.fltStat then d.wrFltStat v
  else if a = Reg.fltFenceCfg then d.wrFenceCfg v
  else if a = Reg.fltFenceRel then d.wrFenceRel v
  else if a = Reg.jigCtl then (d.wrReg a v).jigSync
  else if Reg.fltSev 0 0 ≤ a ∧ a < Reg.fltSev 23 0 then d.wrSev ((a - Reg.fltSev 0 0) / 0x80) ((a - Reg.fltSev 0 0) % 0x80 / 8) v
  else match copyAt (Reg.jigRuleCfg 0) 0x20 16 a, copyAt (Reg.jigRuleParam 0) 0x20 16 a with
    | some n, _ => d.wrJigRule n v
    | _, some n => d.wrJigParam n v
    | none, none => d.wrReg a v

/-- A write of `FLT_HALT_CMD` (R417). -/
def Dev.wrHaltCmd (d : Dev) (v : Word) : Dev :=
  let d1 := d.wrReg Reg.fltHaltCmd v
  if getB v 63 ∧ getF v 0 32 = 0x7240 then d1.halt (faultWord (srcCode 16 0) 0 3 0) else d1

/-- A write of `FLT_Q_STAT`: POP removes the head. -/
def State.wrQStat (s : State) (v : Word) : State := if getB v 63 then s.fqPop else s

/-- A write of `JIG_INJ` (R426). -/
def State.wrJigInj (s : State) (v : Word) : State :=
  let src := getF v 52 12
  let kind := getF v 44 8
  let addr := getF v 0 40
  if s.dev.jigActive = false ∨ faultListed src kind = false ∨ ((srcBlock src).1 = 4 ∧ kind = 0x10 ∧ 262143 < addr) then
    { s with dev := s.dev.sb Reg.jigStat 1 true }
  else ({ s with dev := s.dev.inc Reg.jigInjCnt }).submit src kind addr true

/-- A permitted software write with an effect on the whole state; `f` is the effect. -/
def State.gate (s : State) (r : Req) (a : Nat) (f : State → State) : State :=
  if s.dev.unreachable a then { s with dev := s.dev.accFail r false true a 2 (s.dev.islandOf a) }
  else if s.dev.mayWrite r a then f s
  else { s with dev := s.dev.lockRefuse a (s.dev.islandOf a) }

/-! ### Meanings -/

/-- Meaning of FAULT_MESSAGE. -/
def execFaultMessage (m : Option (BitVec 12 × BitVec 8 × BitVec 40)) (s : State) : Host.Outcome State Fault Refusal := .next (faultMessage m s)

/-- Meaning of FENCE_ESCALATION. -/
def execFenceEscalation (i : Fin 48) (s : State) : Host.Outcome State Fault Refusal := onDev (fenceEscalation i.val) s

/-- Meaning of OVERFLOW_MESSAGE. -/
def execOverflowMessage (s : State) : Host.Outcome State Fault Refusal := .next (overflowMessage s)

/-- Meaning of FAULT_POP: a write of `FLT_Q_STAT` with POP = 1. -/
def execFaultPop (r : Req) (v : Word) (s : State) : Host.Outcome State Fault Refusal :=
  .next (s.gate r Reg.fltQStat (fun x => x.wrQStat (setB v 63 true)))

/-- Meaning of FENCE_RELEASE: a write of `FLT_FENCE_REL` with GO = 1. -/
def execFenceRelease (r : Req) (v : Word) (s : State) : Host.Outcome State Fault Refusal :=
  onDev (fun d => d.gate r Reg.fltFenceRel (fun x => x.wrFenceRel (setB v 63 true))) s

/-- Meaning of AUTO_RELEASE. -/
def execAutoRelease (i : Fin 48) (s : State) : Host.Outcome State Fault Refusal := onDev (autoRelease i.val) s

/-- Meaning of ISLAND_RESET_DONE. -/
def execIslandResetDone (i : Fin 48) (s : State) : Host.Outcome State Fault Refusal := onDev (islandResetDone i.val) s

/-- Meaning of ATTEMPTS_CLEAR. -/
def execAttemptsClear (i : Fin 48) (s : State) : Host.Outcome State Fault Refusal := onDev (attemptsClear i.val) s

/-- Meaning of HALT_COMMAND: a write of `FLT_HALT_CMD` with GO = 1. -/
def execHaltCommand (r : Req) (v : Word) (s : State) : Host.Outcome State Fault Refusal :=
  onDev (fun d => d.gate r Reg.fltHaltCmd (fun x => x.wrHaltCmd (setB v 63 true))) s

/-- Meaning of JIG_INJECT: a write of `JIG_INJ`. -/
def execJigInject (r : Req) (v : Word) (s : State) : Host.Outcome State Fault Refusal := .next (s.gate r Reg.jigInj (fun x => x.wrJigInj v))

end Sys2Proof.Machine
end

