-- ==== Sys2Proof/Machine/Power.lean ====
section
/-! DEFINITION. Chapter 15: power states and their transitions (R428–R433), the supply monitor (R434–R438), reference clocks (R440), the
resets (R441, R442, R454, R455), configuration space as far as it acts on the device, the return of the host link (R335). -/

namespace Sys2Proof.Machine

/-! ### States (Tables PWR-1, PWR-2) -/

/-- `PWR_STAT.STATE`: 0 Full, 1 Quiet, 2 Standby. -/
def Dev.pwrState (d : Dev) : Nat := d.gf Reg.pwrStat 0 2

/-- Islands whose domain is off in Quiet: the HBM controllers and the Bench groups. -/
def quietOff : List Nat := [34, 35, 36, 37, 38, 39, 40, 41, 42, 43]

/-- `PWR_DOM_STAT` in a state (Table PWR-1): in Quiet the HBM controllers, the Bench groups and L3 are off; in Standby all but domains 30, 57
and 59. -/
def domWord (st : Nat) : Word :=
  match st with
  | 0 => BitVec.ofNat 64 (2 ^ 64 - 1)
  | 1 => BitVec.ofNat 64 (2 ^ 64 - 1 - (fld 31 2 3) - fld 35 9 511)
  | _ => BitVec.ofNat 64 (2 ^ 30 + 2 ^ 57 + 2 ^ 59)

/-- STATE and `PWR_DOM_STAT` of a state that has been reached; BUSY clears. -/
def Dev.reached (d : Dev) (st : Nat) : Dev :=
  let d1 := ((d.sf Reg.pwrStat 0 2 st).sb Reg.pwrStat 2 false).wr Reg.pwrDomStat (domWord st)
  { d1 with pwr := { d1.pwr with goal := none } }

/-- A transition towards `st` begins. -/
def Dev.towards (d : Dev) (st : Nat) : Dev :=
  let d1 := (d.sb Reg.pwrStat 2 true).sb Reg.pwrStat 3 false
  { d1 with pwr := { d1.pwr with goal := some st, leave := false } }

/-! ### The host link (R335) -/

/-- The link is in L0: fetches, completions and DMA go on, and words of the Try-square that wait are read. -/
def Dev.linkEnter (d : Dev) : Dev :=
  let d1 : Dev := { d with hq := { d.hq with link := .l0 } }
  let d2 := d1.hostGo
  let d3 := (d2.hq.cqs.map (fun e => e.1)).foldl (fun (x : Dev) q => x.drainCq q) d2
  let d4 := d3.dmaRunAll
  if d4.gb Reg.smonStat 0 then d4 else (d4.fwd.tsqReads.filter (fun r => !r.sent)).foldl (fun (x : Dev) r => x.tsqIssue r) d4

/-- PCIE_LINK_L0_ENTRY (R335): not while PERST# holds the link, its islands or its reference are out, or the core is off; after a hot reset
once that is over (Table PWR-8). -/
def pcieLinkL0Entry (d0 : Dev) : Dev :=
  let d := d0.waitUp d0.pwr.resetUntil
  if d.islandOk 32 ∧ d.islandOk 33 ∧ d.gb Reg.clkStat 0 ∧ d.pwrState ≠ 2 then d.linkEnter else d0

/-! ### Requests (R431, R432) -/

/-- REF_CODE of a request for TARGET `t`, 0 where it is accepted. -/
def Dev.pwrRefuse (d : Dev) (t : Nat) : Nat :=
  if t = 3 then 5
  else if t = 1 ∧ d.gf Reg.solStat 0 2 = 2 then 1
  else if d.gb Reg.pwrStat 2 then 2
  else if t = 2 ∧ d.gb Reg.smonStat 0 then 3
  else if t = 2 ∧ d.hq.l12En = false then 4
  else 0

/-- A request for TARGET `t`: refused with its code, or Standby is armed, or a transition begins where the device is not there already. -/
def Dev.pwrRequest (d : Dev) (t : Nat) : Dev :=
  match d.pwrRefuse t with
  | 0 =>
    if t = 2 then d.sb Reg.pwrStat 3 true
    else if d.pwrState = t then d.sb Reg.pwrStat 3 false
    else d.towards t
  | c => d.pwrRef c

/-- A write of `PWR_CTL`. -/
def Dev.wrPwrCtl (d : Dev) (v : Word) : Dev :=
  if getF v 0 2 = 3 then d.pwrRef 5
  else
    let d1 := d.sf Reg.pwrCtl 0 2 (getF v 0 2)
    if getB v 63 then d1.pwrRequest (getF v 0 2) else d1

/-! ### Standby (R430, R432, Table PWR-3) -/

/-- Islands as `GLB_ISLAND_UP` shows them. -/
def Dev.setUp (d : Dev) (w : Nat) : Dev := d.wr Reg.glbIslandUp (BitVec.ofNat 64 w)

/-- Standby is reached: every domain but 30, 57 and 59 is off and its contents are lost; `cause` is STBY_CAUSE. -/
def State.toStandby (s : State) (cause : Nat) : State :=
  let link := if cause = 1 then s.dev.hq.link else .down
  let d0 := s.dev.ptmStop.coreReset false true false
  let d1 : Dev := { d0 with hq := { d0.hq with link := link } }
  { s with dev := ((d1.sf Reg.pwrStat 8 2 cause).reached 2).setUp (2 ^ 46 + 2 ^ 47), fq := [] }

/-- Standby is left: the domains are on, every function is reset, and the boot ROM runs. -/
def State.fromStandby (s : State) : State :=
  let s1 := s.coreReset false true true 5
  { s1 with dev := ((s1.dev.towards 0).sf Reg.pwrStat 0 2 2).wr Reg.pwrDomStat (domWord 0) }

/-- Every function is in D3hot and the link has entered L1 (R432). -/
def Dev.standbyReady (d : Dev) : Bool :=
  (List.range 4).all (fun f => (d.fn f).d3) && d.liveFns.all (fun f => f == benchFn || (d.fn f).d3)
  && (d.hq.link == .l1 || d.hq.link == .l1sub)

/-- STANDBY_ENTRY (R432): the armed Standby begins; the calendar is told to stop. -/
def standbyEntry (d : Dev) : Dev :=
  if d.gb Reg.pwrStat 3 ∧ d.standbyReady ∧ d.gb Reg.pwrStat 2 = false then
    (d.wrCalCtl (setB (d.rd Reg.calCtl) 0 false)).towards 2
  else d

/-- STANDBY_EXIT (R432): 0 the host begins an exit from L1.2, 1 PERST# is asserted, 2 the rails have recovered for 10 ms. -/
def standbyExit (why : Nat) (s : State) : State :=
  let d := s.dev
  if d.pwrState ≠ 2 ∨ d.pwr.keep ∨ d.gb Reg.pwrStat 2 then s
  else if why = 2 then
    if d.gf Reg.pwrStat 8 2 = 2 ∧ d.gb Reg.smonStat 0 = false then
      ({ s with dev := d.waitUp (d.pwr.okSince + 10 * msU) }).fromStandby
    else s
  else if d.gf Reg.pwrStat 8 2 = 1 then
    ({ s with dev := if why = 1 then { d with pwr := { d.pwr with perst := true } } else d }).fromStandby
  else s

/-! ### Transitions (R433, Table PWR-3) -/

/-- Quiet is reached: Bench and solver are out, HBM keeps its contents (R429). -/
def Dev.toQuiet (d : Dev) : Dev :=
  let d1 := quietOff.foldl (fun (x : Dev) i => x.sb Reg.glbIslandUp i false) (d.reached 1)
  d1.benchOff.islandSync d.joined d.holder

/-- Full is reached, from Quiet or, once the Joiner has booted, from Standby. -/
def Dev.toFull (d : Dev) : Dev :=
  let d1 := d.reached 0
  let d2 := if d.pwrState = 1 ∨ d.fwState = 2 then (quietOff.foldl (fun (x : Dev) i => x.sb Reg.glbIslandUp i true) d1).benchOn else d1
  let d3 := d2.islandSync d.joined d.holder
  if d.hq.link = .down ∧ d.pwrState = 2 then pcieLinkL0Entry d3 else d3

/-- POWER_TRANSITION_DONE (R433): the transition in progress reaches its state.  A commanded Standby waits for the calendar to have stopped; a
Standby during whose entry PERST# was asserted is left at once (Table PWR-9); a return from Standby waits for the boot. -/
def powerTransitionDone (s : State) : State :=
  match s.dev.pwr.goal with
  | none => s
  | some 2 =>
    if s.dev.running then s
    else
      let s1 := s.toStandby 1
      if s1.dev.pwr.leave then s1.fromStandby else s1
  | some 1 => { s with dev := s.dev.toQuiet }
  | some _ => if s.dev.fwState = 0 then s else { s with dev := s.dev.toFull }

/-! ### Supply monitor (R434–R438) -/

/-- Rails 0 to 8 below their warning threshold. -/
def Dev.lowRails (d : Dev) : List Nat := (List.range 9).filter (fun r => d.gb (Reg.smonRail r) 48)

/-- Of rails that fall below their thresholds in one clock the lowest is the dip's (R435): its rail, its sample, and the address of its fault. -/
def Dev.dipRail (d : Dev) (r mv : Nat) : Dev :=
  let d1 := (d.sf Reg.smonStat 2 4 r).sf Reg.smonStat 32 16 mv
  { d1 with flt := { d1.flt with wire := d1.flt.wire.map (fun m => if m.src = srcCode 22 0 ∧ m.at_ = d.tim.up ∧ m.inj = false then { m with addr := r } else m) } }

/-- SUPPLY_WARNING (R435): core rail `r` falls below its warning threshold with sample `mv`. -/
def supplyWarning (r mv : Nat) (d : Dev) : Dev :=
  if d.gf (Reg.smonRail r) 16 16 ≤ mv then d
  else
    let a := Reg.smonStat
    let d1 := d.sb (Reg.smonRail r) 48 true
    if d.gb a 0 then
      if d.pwr.dipAt = some d.tim.up ∧ r < d.gf a 2 4 then d1.dipRail r mv
      else if d.gf a 2 4 = r ∧ mv < d.gf a 32 16 then d1.sf a 32 16 mv else d1
    else
      let d2 := (((d1.sb a 0 true).sf a 16 16 (min 65535 (d.gf a 16 16 + 1))).sf a 2 4 r).sf a 32 16 mv
      let d3 : Dev := { d2 with pwr := { d2.pwr with dipAt := some d2.tim.up } }
      if d3.islandOk 44 then (d3.raise 22 0 0x10 r).sb Reg.fwdTsqStat 1 true else d3

/-- SUPPLY_RECOVER (R434, R436): rail `r` is back; with the last of them the warning ends, the freeze and the pause with it. -/
def supplyRecover (r : Nat) (d : Dev) : Dev :=
  if d.gb (Reg.smonRail r) 48 = false then d
  else
    let d1 := (d.sb (Reg.smonRail r) 48 false).sb (Reg.smonRail r) 49 false
    if d1.lowRails = [] then
      let d2 := (d1.sb Reg.smonStat 0 false).sb Reg.fwdTsqStat 1 false
      { d2 with pwr := { d2.pwr with dipAt := none, okSince := d2.tim.up } }
    else d1

/-- DIP_TIMER_EXPIRY (R436): the warning has lasted 50 µs: every transmitter stops, the pins fall, the link goes down, and the device is in
Standby. -/
def dipTimerExpiry (s : State) : State :=
  match s.dev.pwr.dipAt with
  | none => s
  | some t =>
    let d0 := s.dev.waitUp (t + 50 * usU)
    let d1 : Dev := { d0 with pwr := { d0.pwr with dipAt := none } }
    if (d1.pwrState = 2 ∧ d1.gb Reg.pwrStat 2 = false) ∨ d1.pwr.keep ∨ d1.halted then { s with dev := d1 }
    else ({ s with dev := d1.stopAll.inc Reg.smonLongCnt }).toStandby 2

/-- Keep is entered (R437, R438): pins and outputs low, every core domain in reset, the time stored unless the keep domain counts already. -/
def Dev.toKeep (d : Dev) : Dev :=
  let d1 := if d.tim.keepTime.isSome then d else d.keepStore
  let d2 : Dev := { d1.wipeEngines with
    pwr := { d1.pwr with goal := none, dipAt := none, keep := true }
    hq := { d1.hq with link := .down }
    tim := { d1.tim with ppsOut := false, clk10 := false } }
  [0, 1].foldl (fun (x : Dev) k => (x.sf (Reg.rngStat k) 0 3 0).sb (Reg.rngStat k) 4 false) d2

/-- KEEP_ENTRY (R437): core rail `r` crosses its reset threshold. -/
def keepEntry (r : Nat) (d : Dev) : Dev :=
  let d1 := ((d.sb (Reg.smonRail r) 48 true).sb (Reg.smonRail r) 49 true).sb Reg.smonStat 0 true
  let d2 := d1.inc Reg.smonRstCnt
  let d3 := if d.pwr.keep then d2 else d2.toKeep
  { d3 with pwr := { d3.pwr with crossed := true } }

/-- KEEP_SUPPLY_WARNING (R438): VDD_KEEP falls below its warning threshold, or has recovered. -/
def keepSupplyWarning (below : Bool) (d : Dev) : Dev :=
  let d1 := (d.sb Reg.smonStat 1 below).sb (Reg.smonRail 9) 48 below
  if below then d1 else d1.sb (Reg.smonRail 9) 49 false

/-- KEEP_SUPPLY_RESET (R438): VDD_KEEP crosses its reset threshold: the keep domain is reset and with it everything that depends on it; the
time it stored and the halt record are lost. -/
def keepSupplyReset (d : Dev) : Dev :=
  let live := (List.range 9).map (fun r => (r, d.gf (Reg.smonRail r) 48 2))
  let d1 := ((d.toKeep.clearRegs Reg.rstHaltMsg (Reg.rstHaltStat + 8)).clearRegs 0x7400000 0x7500000).sf Reg.pwrStat 8 2 0
  let d2 := live.foldl (fun (x : Dev) e => x.sf (Reg.smonRail e.1) 48 2 e.2) d1
  let d3 := ((d2.sb Reg.smonStat 0 (!d2.lowRails.isEmpty)).sb Reg.smonStat 1 true).sf (Reg.smonRail 9) 48 2 3
  { (d3.sf Reg.rstCause 0 4 0) with pwr := { d3.pwr with keepLost := true }, tim := { d3.tim with keepTime := none } }

/-- A write of `SMON_CLR` (R447): in the clock in which a dip begins it clears first, and the dip is counted. -/
def Dev.wrSmonClr (d : Dev) (v : Word) : Dev :=
  if getB v 63 = false then d
  else if d.pwr.dipAt = some d.tim.up then d.sf Reg.smonStat 16 16 1
  else (d.sf Reg.smonStat 16 16 0).sf Reg.smonStat 32 16 0

/-! ### Power-on reset (R444, R454, Table PWR-8) -/

/-- The device waits for its first power-on reset, or is in Keep. -/
def Dev.awaitsPower (d : Dev) : Bool := d.pwr.keep || (d.mbx.coreBoot && d.fwState == 0 && !(d.gb Reg.calbStat 0) && d.gf Reg.rstCause 0 4 == 0)

/-- POWER_ON_RESET (R454): every core rail has stayed above its warning threshold for 10 ms.  Everything but island 47 takes its power-on
value, the time is restored (R44), the fuses are loaded; `bad` are the fuse groups whose CRC fails (R444). -/
def powerOnReset (bad : Nat) (s : State) : State :=
  let d := s.dev
  if d.awaitsPower = false ∨ d.lowRails ≠ [] ∨ d.gb (Reg.smonRail 9) 49 then s
  else
    let d0 := d.waitUp (d.pwr.okSince + 10 * msU)
    let cause := if d.pwr.keepLost ∨ d.pwr.keep = false then 0 else if d.pwr.crossed then 2 else 1
    let s1 := ({ s with dev := d0 }).coreReset true true true cause
    let d1 := (s1.dev.timeRestore.sb Reg.rstHaltStat 1 false).sf Reg.calbStat 0 8 (1 + 2 * bad)
    let d2 : Dev := { d1 with pwr := { d1.pwr with keep := false, keepLost := false, crossed := false } }
    { s1 with dev := (if bad.testBit 0 then d2.sf Reg.glbId 32 16 0xFF00 else d2).loadFuses }

/-! ### Resets (Table PWR-8, R441, R442) -/

/-- A hot reset from the link. -/
def hotResetEvent (d : Dev) : Dev := if d.islandOk 33 ∧ d.pwrState ≠ 2 then d.hotReset else d

/-- The loss of the data link, handled as a hot reset (R335). -/
def dataLinkDown (d : Dev) : Dev := if d.hq.link = .down then d else hotResetEvent d

/-- DEVICE_RESET_START (R441): 1 ms after the DONE of DEVICE_RESET; the device returns to Full, and its islands stay in reset for 25 ms to
45 ms. -/
def deviceResetStart (s : State) : State :=
  match s.dev.mbx.resetAt with
  | some t =>
    if s.dev.islandOk 44 then
      let s1 := ({ s with dev := s.dev.waitUp t }).coreReset false false false 4
      { s1 with dev := (if s.dev.islandOk 46 then s1.dev else s1.dev.timeRestore).holdReset (25 * msU) (45 * msU) true }
    else s
  | none => s

/-- PERST_ASSERT (R441, R432): the islands and functions of its scope are reset and held; an armed Standby is off, a commanded Standby is
left. -/
def perstAssert (s : State) : State :=
  let d := s.dev
  let held : State := { s with dev := { d with pwr := { d.pwr with perst := true } } }
  if d.pwr.perst then s
  else if d.pwr.keep then held
  else if d.pwrState = 2 then standbyExit 1 held
  else if d.halted then held
  else if d.gb Reg.rstCfg 0 ∧ d.pwr.goal ≠ some 2 then ({ held with dev := held.dev.ptmStop } : State).coreReset false false true 3
  else
    let d1 := held.dev.hostReset.sb Reg.pwrStat 3 false
    { held with dev := { d1 with pwr := { d1.pwr with leave := decide (d.pwr.goal = some 2) } } }

/-- PERST_DEASSERT (R455): link training begins; the link is in L0 with PCIE_LINK_L0_ENTRY. -/
def perstDeassert (d : Dev) : Dev := { d with pwr := { d.pwr with perst := false } }

/-! ### Configuration space -/

/-- Function `f`'s configuration space with the values written: the enables, the transfer sizes, tags, LTR, error messages and the page request
allocation; a PME_Status or AER status bit written 1 clears. -/
def Fn.configured (x : Fn) (pri ats pme msix : Bool) (r : CfgRest) : Fn :=
  { x with pri := pri, ats := ats, pmeEn := pme, msixEn := msix, fnMask := r.mask, pmeStatus := x.pmeStatus && !r.pmeClear
           mps := r.mps.val, mrrs := r.mrrs.val, bigTags := r.bigTags, ltr := r.ltr, errEn := r.errEn
           aer := x.aer &&& ~~~(BitVec.ofNat 64 r.aerClear.toNat), prAlloc := r.prAlloc.toNat }

/-- PCIE_CONFIG_WRITE: configuration space of function `f` as the host has written it (R51, R54, R308, R330, R333, R362, R364, R365, R431). -/
def pcieConfigWrite (f : Nat) (ptm pri ats pme l12 msix : Bool) (rest : CfgRest) (d : Dev) : Dev :=
  if 1024 ≤ f ∨ d.islandOk 33 = false then d
  else
    let d1 := (d.modFn f (fun x => x.configured pri ats pme msix rest)).sendPba f
    let d2 := if f < 4 ∧ pri = false then d1.sb Reg.xltStat f false else d1
    let d3 := (d2.pmeCheck f).prgGo
    if f = 0 then
      let d4 : Dev := { d3 with hq := { d3.hq with ptmEn := ptm, l12En := l12 } }
      if ptm then d4 else d4.ptmStop
    else d3

/-! ### Pins (R419, R420, R452, Table PIN-5) -/

/-- What a pin shows: driven low or high, or high-impedance, which is also what a released open-drain pin is. -/
inductive Pin where
  | low
  | high
  | z
  deriving DecidableEq, Repr

/-- A pin of the keep domain: high-impedance while VDD_KEEP is absent. -/
def Dev.keepPin (d : Dev) (high : Bool) : Pin := if d.pwr.keepLost then .z else if high then .high else .low

/-- HALT_N: low from a Halt until the core rails are restored (R420). -/
def Dev.haltPin (d : Dev) : Pin := d.keepPin (!d.halted)

/-- BYPA_HOLD and BYPB_HOLD: high while the attachment is inserted (R165, R439). -/
def Dev.bypassPin (d : Dev) (a : Nat) : Pin := d.keepPin (d.inserted a && !d.pwr.keep)

/-- FAULT_N, open-drain: low while `FLT_STAT.PIN` = 1, released whenever domain 62 is off (R419, R452). -/
def Dev.faultPin (d : Dev) : Pin := if d.gb Reg.fltStat 4 && d.gb Reg.pwrDomStat 62 && !d.pwr.keep then .low else .z

/-- PPS_OUT and CLK10M_OUT: low in reset, Standby and Keep. -/
def Dev.timePin (d : Dev) (high : Bool) : Pin := if high && d.gb Reg.pwrDomStat 62 && !d.pwr.keep then .high else .low

/-! ### Reference clocks (R440, Table PWR-7) -/

/-- Islands that a reference feeds and that report its loss as their clock lost. -/
def refIslands (k : Nat) : List Nat :=
  match k with
  | 1 => (List.range 16).map (fun i => 16 + i)
  | 2 => List.range 16 ++ quietOff ++ [45, 46]
  | _ => []

/-- The islands of a reference report clock loss after `after`. -/
def Dev.clockLost (d : Dev) (k after : Nat) : Dev :=
  let ms := ((refIslands k).filter (fun i => d.islandOk i)).map (fun i => (⟨d.tim.up + after, srcCode 0 i, 4, 0, false⟩ : WireMsg))
  { d with flt := { d.flt with wire := d.flt.wire ++ ms } }

/-- REFERENCE_LOSS (R440): counted and reported, with the effects of Table PWR-7. -/
def referenceLoss (k : Nat) (d : Dev) : Dev :=
  if d.islandOk 44 = false ∨ d.gb Reg.clkStat k = false then d
  else
    let d1 := (d.sb Reg.clkStat k false).inc (Reg.clkLossCnt k)
    match k with
    | 0 => (d1.raise 19 0 0x10 0).hotReset.sb Reg.clkStat 4 true
    | 1 => (List.range 36).foldl (fun (x : Dev) p => x.forceDown p) ((d1.raise 19 0 0x10 1).clockLost 1 0)
    | 2 => ((d1.raise 19 0 0x10 2).clockLost 2 (10 * usU)).sb Reg.clkStat 5 true
    | _ => d1.sb Reg.clkStat 6 true

/-- REFERENCE_RETURN (R440): islands 33, 44 and 47, never fenced, switch back with it; the others at the release of their fences. -/
def referenceReturn (k : Nat) (d : Dev) : Dev :=
  if d.islandOk 44 = false ∨ d.gb Reg.clkStat k then d
  else
    let d1 := d.sb Reg.clkStat k true
    match k with | 0 => d1.sb Reg.clkStat 4 false | 1 => d1 | 2 => d1.sb Reg.clkStat 5 false | _ => d1.sb Reg.clkStat 6 false

/-! ### Meanings -/

/-- `PWR_CTL` as a request for TARGET `t` writes it. -/
def pwrWord (t : Nat) : Word := BitVec.ofNat 64 (t + 2 ^ 63)

/-- Meaning of POWER_REQUEST_FULL: a write of `PWR_CTL` with GO = 1 and TARGET 0. -/
def execPowerRequestFull (r : Req) (_v : Word) (s : State) : Host.Outcome State Fault Refusal :=
  onDev (fun d => d.gate r Reg.pwrCtl (fun x => x.wrPwrCtl (pwrWord 0))) s

/-- Meaning of POWER_REQUEST_QUIET: TARGET 1. -/
def execPowerRequestQuiet (r : Req) (_v : Word) (s : State) : Host.Outcome State Fault Refusal :=
  onDev (fun d => d.gate r Reg.pwrCtl (fun x => x.wrPwrCtl (pwrWord 1))) s

/-- Meaning of POWER_REQUEST_STANDBY: TARGET 2. -/
def execPowerRequestStandby (r : Req) (_v : Word) (s : State) : Host.Outcome State Fault Refusal :=
  onDev (fun d => d.gate r Reg.pwrCtl (fun x => x.wrPwrCtl (pwrWord 2))) s

/-- Meaning of POWER_TRANSITION_DONE. -/
def execPowerTransitionDone (s : State) : Host.Outcome State Fault Refusal := .next (powerTransitionDone s)

/-- Meaning of STANDBY_ENTRY. -/
def execStandbyEntry (s : State) : Host.Outcome State Fault Refusal := onDev standbyEntry s

/-- Meaning of STANDBY_EXIT. -/
def execStandbyExit (why : Fin 3) (s : State) : Host.Outcome State Fault Refusal := .next (standbyExit why.val s)

/-- Meaning of SUPPLY_WARNING. -/
def execSupplyWarning (rail : Fin 9) (mv : BitVec 16) (s : State) : Host.Outcome State Fault Refusal :=
  onDev (supplyWarning rail.val mv.toNat) s

/-- Meaning of SUPPLY_RECOVER. -/
def execSupplyRecover (rail : Fin 9) (s : State) : Host.Outcome State Fault Refusal := onDev (supplyRecover rail.val) s

/-- Meaning of DIP_TIMER_EXPIRY. -/
def execDipTimerExpiry (s : State) : Host.Outcome State Fault Refusal := .next (dipTimerExpiry s)

/-- Meaning of KEEP_ENTRY. -/
def execKeepEntry (rail : Fin 9) (s : State) : Host.Outcome State Fault Refusal := onDev (keepEntry rail.val) s

/-- Meaning of KEEP_SUPPLY_WARNING. -/
def execKeepSupplyWarning (below : Bool) (s : State) : Host.Outcome State Fault Refusal := onDev (keepSupplyWarning below) s

/-- Meaning of SMON_CLEAR: a write of `SMON_CLR` with GO = 1. -/
def execSmonClear (r : Req) (v : Word) (s : State) : Host.Outcome State Fault Refusal :=
  onDev (fun d => d.gate r Reg.smonClr (fun x => x.wrSmonClr (setB v 63 true))) s

/-- Meaning of POWER_ON_RESET. -/
def execPowerOnReset (bad : BitVec 7) (s : State) : Host.Outcome State Fault Refusal := .next (powerOnReset bad.toNat s)

/-- Meaning of REFERENCE_LOSS. -/
def execReferenceLoss (k : Fin 4) (s : State) : Host.Outcome State Fault Refusal := onDev (referenceLoss k.val) s

/-- Meaning of REFERENCE_RETURN. -/
def execReferenceReturn (k : Fin 4) (s : State) : Host.Outcome State Fault Refusal := onDev (referenceReturn k.val) s

/-- Meaning of PERST_ASSERT. -/
def execPerstAssert (s : State) : Host.Outcome State Fault Refusal := .next (perstAssert s)

/-- Meaning of PERST_DEASSERT. -/
def execPerstDeassert (s : State) : Host.Outcome State Fault Refusal := onDev perstDeassert s

/-- Meaning of HOT_RESET. -/
def execHotReset (s : State) : Host.Outcome State Fault Refusal := onDev hotResetEvent s

/-- Meaning of DATA_LINK_DOWN: as a hot reset (R335). -/
def execDataLinkDown (s : State) : Host.Outcome State Fault Refusal := onDev dataLinkDown s

/-- Meaning of DEVICE_RESET_START. -/
def execDeviceResetStart (s : State) : Host.Outcome State Fault Refusal := .next (deviceResetStart s)

/-- Meaning of PCIE_CONFIG_WRITE. -/
def execPcieConfigWrite (f : Nat) (ptm pri ats pme l12 msix : Bool) (rest : CfgRest) (s : State) : Host.Outcome State Fault Refusal :=
  onDev (pcieConfigWrite f ptm pri ats pme l12 msix rest) s

/-- Meaning of PCIE_LINK_L0_ENTRY. -/
def execPcieLinkL0Entry (s : State) : Host.Outcome State Fault Refusal := onDev pcieLinkL0Entry s

/-- Meaning of KEEP_SUPPLY_RESET. -/
def execKeepSupplyReset (s : State) : Host.Outcome State Fault Refusal := onDev keepSupplyReset s

end Sys2Proof.Machine
end

