-- ==== Sys2Proof/Machine/Hub.lean ====
section
/-! DEFINITION. The register hub (chapter 1): reads and writes through BAR0, BAR4 and the BAR0 of a VF (R12, R17, R24–R29, R377, R401),
bridge timeouts, and the snapshot groups (R22, R23). -/

namespace Sys2Proof.Machine

/-! ### Snapshot groups (Table ARC-7) -/

/-- The island that captures group `g` for index `i`; none for a reserved group or an index out of range. -/
def snapIsland (g i : Nat) : Option Nat :=
  match g with
  | 0 => some 46
  | 1 => if i < 36 then some (txIsland i) else none
  | 2 => if i < 36 then some (rxIsland i) else none
  | 3 => if i < 4 then some (calIsland i) else none
  | 4 => if 32 ≤ i ∧ i < 36 then some (16 + (i - 32)) else none
  | 5 => if i < 64 then some 45 else none
  | _ => none

/-- Group 3 (Table CAL-6): the words of every slice show the one calendar. -/
def Dev.calSnap (d : Dev) : List Word :=
  let act := match d.cal.cur with | some c => c.bank | none => 0
  let nxt := match d.cal.pend with | some q => q.bank | none => 0
  let handed := d.cal.pend.isSome && d.bankSt nxt == 5
  let w1 := match d.cal.cur with | some c => fld 0 12 (c.num % max 1 c.par.hp) + fld 16 48 c.num | none => 0
  [ BitVec.ofNat 64 (fld 0 2 act + fld 2 2 nxt + fld 4 1 (bit d.cal.pend.isSome)
      + fld 16 16 (if d.cal.cur.isSome then d.gf (Reg.calGen act) 16 16 else 0) + fld 32 16 (if handed then d.gf (Reg.calGen nxt) 16 16 else 0)),
    BitVec.ofNat 64 w1 ]

/-- Group 4 (Table RNG-13) of ring port `p`. -/
def Dev.ringSnap (d : Dev) (p : Nat) : List Word :=
  let a := attOf p
  [ BitVec.ofNat 64 (fld 0 3 (d.rngSt a) + fld 3 1 (bit (d.gb (Reg.pcsStat p) 0)) + fld 4 1 (bit (d.rng.rxAny.contains p))
      + fld 16 48 (d.ringNum a d.now)),
    d.rd (Reg.rngMembers (d.memOf a)), BitVec.ofNat 64 (Sparse.getD d.rng.rxv p 0) ]

/-- REM of a descriptor (R352). -/
def Chan.rem (x : Chan) : Nat := if x.ws.isEmpty then 0 else x.count - (if x.mode = 2 then x.dst.iss else x.src.iss)

/-- Group 5 (Table DMA-9) of channel `c`. -/
def Dev.dmaSnap (d : Dev) (c : Nat) : List Word :=
  let x := d.chan c
  [ x.desc, BitVec.ofNat 64 (if x.ws.isEmpty then 0 else x.addrAt 2 (if d.chSt c = 4 then x.dst.done else x.dst.iss)),
    BitVec.ofNat 64 (fld 0 32 x.rem + fld 32 16 (d.gf (Reg.dmaGen c) 16 16) + fld 48 3 (d.chSt c) + fld 51 1 (bit (d.gb (Reg.dmaChStat c) 3))) ]

/-- The words of group `g` for index `i`. -/
def Dev.snapWords (d : Dev) (g i : Nat) : List Word :=
  match g with
  | 0 => timeWords d.now
  | 1 => timeWords (Sparse.getD d.tim.egress i 0)
  | 2 => timeWords (Sparse.getD d.tim.ingress i 0)
  | 3 => d.calSnap
  | 4 => d.ringSnap i
  | _ => d.dmaSnap i

/-- A write of `GLB_SNAP_CTL` (R22, R23). -/
def Dev.wrSnapCtl (d : Dev) (v : Word) : Dev :=
  let g := getF v 0 4
  let i := getF v 16 18
  if getB v 63 then
    if d.gb Reg.glbSnapStat 0 then d.sb Reg.glbSnapStat 3 true
    else
      let d1 := d.wrReg Reg.glbSnapCtl v
      match snapIsland g i with
      | none => d1.sb Reg.glbSnapStat 2 true
      | some isl =>
        if d.islandOk isl then (({ d1 with snap := some (g, i) }.sb Reg.glbSnapStat 0 true).sb Reg.glbSnapStat 1 false).sb Reg.glbSnapStat 2 false
        else d1.sb Reg.glbSnapStat 2 true
  else d.wrReg Reg.glbSnapCtl v

/-- SNAPSHOT_CAPTURE (R22, R23): the owning island is judged again; then the words stand in `GLB_SNAP_DATA`. -/
def snapshotCapture (d : Dev) : Dev :=
  match d.snap with
  | none => d
  | some (g, i) =>
    let d1 := { d with snap := none }.sb Reg.glbSnapStat 0 false
    match snapIsland g i with
    | none => d1.sb Reg.glbSnapStat 2 true
    | some isl =>
      if d.islandOk isl then (d1.wrs (Reg.glbSnapData 0) (d.snapWords g i)).sb Reg.glbSnapStat 1 true
      else d1.sb Reg.glbSnapStat 2 true

/-! ### MSI-X tables (R330, Table ARC-14) -/

/-- Vectors of a function (Table HQS-2). -/
def vectors (f : Nat) : Nat := if f < 4 then 2048 else 64

/-- Word at octet `o` of the MSI-X table of function `f`. -/
def Dev.msixRd (d : Dev) (f o : Nat) : Word :=
  let w := (d.fn f).vector (o / 16)
  if vectors f ≤ o / 16 then 0 else if o % 16 = 0 then w.1 else w.2

/-- That word written: address, data and mask are stored; a vector unmasked sends what is pending (R330). -/
def Dev.msixWr (d : Dev) (f o : Nat) (v : Word) : Dev :=
  let k := o / 16
  if vectors f ≤ k then d
  else
    let w := (d.fn f).vector k
    let n := if o % 16 = 0 then (v, w.2) else (w.1, BitVec.ofNat 64 (getF v 0 33))
    (d.modFn f (fun x => { x with table := Sparse.put x.table k n })).sendPba f

/-- Word `k` of the PBA of function `f`. -/
def Dev.pbaRd (d : Dev) (f k : Nat) : Word :=
  BitVec.ofNat 64 ((((d.fn f).pba.filter (fun v => v / 64 == k)).dedup.map (fun v => 2 ^ (v % 64))).sum)

/-! ### Where an address lies -/

/-- The PF whose MSI-X table the `HQ_` block shows to a requester (R26): none for the Bench and the Joiner. -/
def pfOfReq : Req → Option Nat
  | .pf n => some n.val
  | _ => none

/-- The port whose `PRE_`, `SDS_`, `PCS_` or `MAC_` instance holds `a`. -/
def portOf (a : Nat) : Option Nat :=
  match blockOf a with
  | some 3 => some ((a - 0x300000) / 0x100)
  | some 7 => some ((a - 0x1000000) / 0x10000)
  | some 8 => some ((a - 0x1400000) / 0x10000)
  | some 9 => if a < 0x1C00000 then some ((a - 0x1800000) / 0x10000) else none
  | _ => none

/-- The instance at `a` belongs to a port that its quad has merged away (R29, R129). -/
def Dev.goneAt (d : Dev) (a : Nat) : Bool := match portOf a with | some p => d.mergedAway p | none => false

/-- What a read of BAR0 at `a` shows of the word `v` there: on a ring port the VLAN, PAUSE and EEE registers and the address filter, its fields of
`MAC_CFG` included, read 0 (R242). -/
def ringShown (a : Nat) (v : Word) : Word :=
  if Reg.macCfg 32 ≤ a ∧ a < Reg.macCfg 36 then
    let o := a % 0x10000
    if (0x10 ≤ o ∧ o < 0x28) ∨ (0x40 ≤ o ∧ o < 0xC0) then 0 else if o = 0 then setF v 2 3 0 else v
  else v

/-- What a read of a membership's status shows on a joined node: both attachments show the one membership, whose registers the holder has
(R163); INSERTED, CSEG_SHORT and CFG_ERR are each attachment's own. -/
def Dev.memShown (d : Dev) (a : Nat) (v : Word) : Word :=
  if d.joined then
    let h := d.holder
    if a = Reg.rngStat (1 - h) then
      let w := d.rd (Reg.rngStat h)
      setF (setF w 4 2 (getF v 4 2)) 7 1 (getF v 7 1)
    else if a = Reg.rngCorr (1 - h) ∨ a = Reg.rngMembers (1 - h) then d.rd (Reg.rngCtl h + (a - Reg.rngCtl (1 - h)))
    else v
  else v

/-- `MBX_LEASE.REMAIN_S`: the seconds left of the lease of an unlocked block, a second begun counted whole (Table MBX-13, R385). -/
def Dev.leaseShown (d : Dev) (a : Nat) (v : Word) : Word :=
  if Reg.mbxLease 0 ≤ a ∧ a ≤ Reg.mbxLease 22 then
    match Sparse.find d.mbx.leaseEnd ((a - Reg.mbxLease 0) / 8) with
    | some t => setF v 16 12 ((t - d.tim.up + secU - 1) / secU)
    | none => v
  else v

/-- The mailbox whose buffer or registers hold `a`. -/
def mailboxAt (a : Nat) : Option Nat :=
  if 0x4000000 ≤ a ∧ a < 0x4010000 then some ((a - 0x4000000) / 0x1000)
  else if Reg.mbxCfg 0 ≤ a ∧ a < Reg.mbxCfg 16 then some ((a - Reg.mbxCfg 0) / 0x20)
  else none

/-- The admin queue of a PF whose register `k` lies at `a`. -/
def adminAt (a : Nat) : Option (Nat × Nat) :=
  if Reg.hqAqSqBase 0 ≤ a ∧ a < Reg.hqAqSqBase 4 ∧ (a - Reg.hqAqSqBase 0) % 0x100 < 0x28 then
    some ((a - Reg.hqAqSqBase 0) / 0x100, (a - Reg.hqAqSqBase 0) % 0x100 / 8)
  else if Reg.benAqSqBase ≤ a ∧ a ≤ Reg.benAqDb then some (benchFn, (a - Reg.benAqSqBase) / 8)
  else none

/-- The 64-bit word a read of BAR0 at `a` finds (R26, R29, R163, R242, R377); offsets outside the blocks and reserved ones read 0. -/
def Dev.wordAt (d : Dev) (r : Req) (a : Nat) : Word :=
  if 0x3000000 ≤ a ∧ a < 0x3008000 then (match pfOfReq r with | some f => d.msixRd f (a - 0x3000000) | none => 0)
  else if 0x3008000 ≤ a ∧ a < 0x3010000 then (match pfOfReq r with | some f => d.pbaRd f ((a - 0x3008000) / 8) | none => 0)
  else if d.goneAt a then 0
  else match mailboxAt a with
    | some m => if d.mbxOwns r m then (if a < 0x4010000 then d.ldW (bar0Image + a) else d.rd a) else 0
    | none => d.leaseShown a (d.memShown a (ringShown a (d.rd a)))

/-! ### BAR4 (Table ARC-15) -/

/-- A word of the BAR4 window: its island and the block that owns it; none for a reserved offset. -/
def Dev.bar4At (d : Dev) (o : Nat) : Option (Nat × Nat) :=
  if o < 0x2000000 then some (calIsland (o % 0x800000 / 0x200000), 2)
  else if o < 0x3000000 then some (halfIsland (halfOf ((o - 0x2000000) / 0x40)), 4)
  else if o < 0x3800000 then some (fwdIsland ((o - 0x3000000) / 0x200000), 10)
  else if o < 0x4000000 then none
  else if o < 0x5800000 then some (2, 10)
  else if o < 0x20000000 then none
  else if o < 0x40000000 then some (d.hbmIsl (o - 0x20000000), 10)
  else none

/-- The effect of a write that reaches the table at BAR4 offset `o`: a calendar entry, a stream record, a forwarding word. -/
def Dev.bar4Wr (d : Dev) (o : Nat) (v : Word) : Dev :=
  if o < 0x2000000 then d.writeEntry (o / 0x800000) (o % 0x800000 / 0x200000) (o % 0x200000 / 8) v
  else if o < 0x3000000 then d.writeRec ((o - 0x2000000) / 0x40) (o % 0x40 / 8) v
  else d.fwdWrite o v

/-! ### Reads -/

/-- The data of a read. -/
def Dev.answer (d : Dev) (v : Word) : Dev := { d with rdata := v }

/-- Data of a 32-bit read: the low or the high half of a word. -/
def halfWord (hi : Bool) (v : Word) : Word := BitVec.ofNat 64 (getF v (if hi then 32 else 0) 32)

/-- All ones in every octet of a read of `n` octets (R17). -/
def ones (n : Nat) : Word := BitVec.ofNat 64 (2 ^ (8 * n) - 1)

/-- A counter read whole (R12): cleared, its holding word no longer valid. -/
def Dev.rc64 (d : Dev) (a : Nat) : Dev := ({ d with hold := Sparse.del d.hold a }.answer (d.rd a)).wr a 0

/-- A counter's low word read (R12): the high word is held, the counter cleared. -/
def Dev.rcLow (d : Dev) (a : Nat) : Dev :=
  ({ d with hold := Sparse.put d.hold a (halfWord true (d.rd a)) }.answer (halfWord false (d.rd a))).wr a 0

/-- A counter's high word read (R12): the held word where it is valid, else the current bits. -/
def Dev.rcHigh (d : Dev) (a : Nat) : Dev := d.answer (Sparse.getD d.hold a (halfWord true (d.rd a)))

/-- A Bench access that its map or the access column does not permit (R396, R398). -/
def Dev.benchRefuse (d : Dev) : Dev := d.inc Reg.benAccFaultCnt

/-- An access with a width or an alignment that is not supported is recorded with KIND 3 (R25, R401); the Bench counts it as an access fault
as well (R398). -/
def Dev.badWidth (d : Dev) (r : Req) (bar4 write : Bool) (a isl : Nat) : Dev :=
  (if r = .bench then d.benchRefuse else d).accFail r bar4 write a 3 isl

/-- A read with a width or an alignment that is not supported returns 0 and clears nothing (R25). -/
def Dev.badRead (d : Dev) (r : Req) (bar4 : Bool) (a isl : Nat) : Dev := (d.badWidth r bar4 false a isl).answer 0

/-- BAR0 is accessed by naturally aligned accesses of 4 or 8 octets (R25). -/
def wrongWidth (a n : Nat) : Bool := (n != 4 && n != 8) || a % n != 0

/-- A read of `n` octets through BAR0 (R12, R17, R25, R27). -/
def Dev.read0 (d : Dev) (r : Req) (a n : Nat) : Dev :=
  let w := a / 8 * 8
  if r = .bench ∧ 0x8000000 ≤ a then d.benchRefuse
  else if wrongWidth a n then d.badRead r false a (d.islandOf w)
  else if d.unreachable w then (d.accFail r false false a 2 (d.islandOf w)).answer (ones n)
  else if isCounter w ∧ d.goneAt w = false then (if n = 8 then d.rc64 w else if a % 8 = 0 then d.rcLow w else d.rcHigh w)
  else
    let d1 := if w = Reg.fwdTblStat ∨ w = Reg.fwdTblData then d.tblSync else d
    d1.answer (if n = 8 then d1.wordAt r w else halfWord (a % 8 == 4) (d1.wordAt r w))

/-- A read through BAR4 (R17, R28): 64 bits wide. -/
def Dev.read4 (d : Dev) (r : Req) (o n : Nat) : Dev :=
  match d.bar4At o with
  | none => if r = .bench ∧ 0x40000000 ≤ o then d.benchRefuse else d.answer 0
  | some (isl, k) =>
    if n ≠ 8 ∨ o % 8 ≠ 0 then d.badRead r true o isl
    else if d.islandOk isl = false ∨ d.halted then (d.accFail r true false o 2 isl).answer (ones 8)
    else if d.unlockedBy k r = false then d.answer 0
    else if k = 4 then (let v := d.recShow ((o - 0x2000000) / 0x40) (o % 0x40 / 8); v.2.answer v.1)
    else d.answer (d.ldW (bar4Addr o))

/-- The function a VF space belongs to. -/
def vfOf (r : Req) (n : Nat) : Option Nat := match r with | .pf f => if n = 0 then none else some (f.val + 4 * n) | _ => none

/-- A read through the BAR0 of a VF (Table ARC-13).  One of a wrong width or alignment returns 0 and is neither recorded nor counted
(log entry 154). -/
def Dev.readVf (d : Dev) (f a n : Nat) : Dev :=
  let w := a / 8 * 8
  let v := if w < 0x400 then d.msixRd f w else if w = 0x800 then d.pbaRd f 0
    else if 0x1000 ≤ w ∧ w < 0x1020 then d.aqRd f ((w - 0x1000) / 8) else 0
  if d.islandOk 33 = false ∨ d.fnStopped f then d.answer (ones n)
  else if wrongWidth a n then d.answer 0
  else d.answer (if n = 8 then v else halfWord (a % 8 == 4) v)

/-- The function whose BAR2 a requester names: its own, or, for a PF, that of its VF `n`. -/
def doorbellFn (r : Req) (n : Nat) : Option Nat :=
  match r with
  | .pf f => some (f.val + 4 * n)
  | .bench => some benchFn
  | .joiner => none

/-! ### Memory of the Bench (Table BEN-4, R396–R399) -/

/-- What the Bench may do at an HBM address (R398): `cached` memory takes every width and alignment, main-table words 64-bit accesses. -/
structure BenArea where
  lo : Nat
  hi : Nat
  write : Bool
  cached : Bool
  whole : Bool
  deriving DecidableEq, Repr

/-- The regions of Table BEN-4 that the Bench may access; the solver region is read-only for every hart but the solver's own. -/
def benAreas : List BenArea :=
  [⟨0, 0x20000000, true, false, true⟩, ⟨0x20000000, 0x21000000, false, false, false⟩, ⟨0x21000000, 0x21400000, false, false, false⟩
   , ⟨0x22000000, 0x24000000, false, false, false⟩, ⟨0x40000000, 0x80000000, false, true, false⟩, ⟨0x80000000, 0x600000000, true, true, false⟩]

/-- The region that holds `n` octets at `a` and permits the access; none where R396 or R398 refuses it. -/
def benArea (write : Bool) (a n : Nat) : Option BenArea :=
  benAreas.find? (fun r => decide (r.lo ≤ a ∧ a + n ≤ r.hi) && (!write || r.write) && (!r.whole || n == 8))

/-- The access can be made: HBM is available (R397), and it is aligned where the region is not cached (Table BEN-1).  Where it cannot be, the
hart takes an exception and the device is unchanged. -/
def Dev.benMay (d : Dev) (r : BenArea) (a n : Nat) : Bool := d.hbmOk && (r.cached || a % n == 0)

/-- A load of `n` octets by a hart (R396, R398, R399): a counter of a store is not cleared. -/
def Dev.benLoad (d : Dev) (a n : Nat) : Dev :=
  if bar0Image ≤ a ∧ a < bar0Image + 0x8000000 then d.read0 .bench (a - bar0Image) n
  else if 0x1040000000 ≤ a ∧ a < 0x1080000000 then d.read4 .bench (a - 0x1040000000) n
  else match benArea false a n with
    | none => d.benchRefuse
    | some r => if d.benMay r a n then d.answer (BitVec.ofNat 64 (leNat (d.ldN a n))) else d

/-- A read by a requester; reads of BAR2 return 0 (R25), and the Bench image of it takes writes only (R398). -/
def Dev.hubRead (d : Dev) (r : Req) (sp : Space) (a n : Nat) : Dev :=
  match sp with
  | .bar0 => d.read0 r a n
  | .bar4 => d.read4 r a n
  | .bar2 _ => if r = .bench then d.benchRefuse else d.answer 0
  | .vf k => match vfOf r k.toNat with
    | some f => d.readVf f a n
    | none => if r = .bench then d.benchRefuse else d.answer 0
  | .dev => if r = .bench then d.benLoad a n else d.answer 0

/-! ### Register writes -/

/-- The word a 32-bit write of half `hi` stands for: RW fields of the other half as they are stored, its trigger and clear bits 0. -/
def mergeHalf (l : List Fld) (hi : Bool) (v x : Word) : Word :=
  let keep := l.foldl (fun (y : Word) f => if f.acc = .rw then setF y f.lo f.wid (getF x f.lo f.wid) else y) 0
  if hi then setF keep 32 32 (getF v 0 32) else setF keep 0 32 (getF v 0 32)

/-- The 64-bit value a write of 4 or 8 octets at `a` stands for. -/
def Dev.merged (d : Dev) (a width : Nat) (v : Word) : Word :=
  if width = 8 then v
  else match regAt (a / 8 * 8) with
    | some (rg, _) => mergeHalf rg.flds (a % 8 == 4) v (d.rd (a / 8 * 8))
    | none => 0

/-- A permitted write of a `GLB_` or `TIM_` register. -/
def Dev.wrTim (d : Dev) (a : Nat) (v : Word) : Dev :=
  if a = Reg.glbSnapCtl then d.wrSnapCtl v
  else if a = Reg.timServoIn then d.wrServoIn v
  else if a = Reg.timCtl then d.wrTimCtl v
  else if a = Reg.timAdj then d.wrTimAdj v
  else if a = Reg.timSetNs then d.wrTimSetNs v
  else if a = Reg.timPpsoutCfg ∨ a = Reg.timClk10Cfg then d.wrPinCfg a v
  else if a = Reg.timPtmCtl then d.wrPtmCtl v
  else if a = Reg.timSnaptCtl then d.wrSnaptCtl v
  else match copyAt (Reg.timTsShim 0) 0x20 36 a, copyAt (Reg.timPortCfg 32) 0x20 4 a with
    | some p, _ => d.wrTsShim p v
    | _, some _ => d
    | none, none => d.wrReg a v

/-- A permitted write of a `CAL_` register. -/
def Dev.wrCal (d : Dev) (a : Nat) (v : Word) : Dev :=
  if a = Reg.calCtl then d.wrCalCtl v
  else if a = Reg.calFetchLead then d.wrFetchLead v
  else if a = Reg.calCmd then d.wrCalCmd v
  else if a = Reg.calAct then d.wrCalAct v
  else if Reg.calBankCyc 0 ≤ a ∧ a < Reg.calBankCyc 4 ∧ (a - Reg.calBankCyc 0) % 0x20 < 0x10 then
    d.wrShadow ((a - Reg.calBankCyc 0) / 0x20) a v
  else if Reg.calDir 0 0 ≤ a ∧ a < Reg.calDir 4 0 then d.wrShadow ((a - Reg.calDir 0 0) / 0x200) a v
  else match copyAt (Reg.calPortCfg 0) 0x40 36 a with
    | some p => d.wrCalPort p v
    | none => d.wrReg a v

/-- A permitted write of a `PRE_` register. -/
def Dev.wrPre (d : Dev) (a : Nat) (v : Word) : Dev :=
  match copyAt (Reg.prePortCfg 0) 0x100 36 a, copyAt (Reg.preClassMap 0) 0x100 36 a with
  | some p, _ => d.wrPreCfg p v
  | _, some p => d.wrClassMap p v
  | none, none => d.wrReg a v

/-- A write of `STR_LE_PROF[k]`: RESET_MS is 0 or at least TEST_MS (R161). -/
def Dev.wrLeProf (d : Dev) (a : Nat) (v : Word) : Dev :=
  if getF v 16 16 ≠ 0 ∧ getF v 16 16 < getF v 0 16 then d.outOfRange a else d.wrReg a v

/-- A permitted write of a `STR_` register. -/
def Dev.wrStr (d : Dev) (a : Nat) (v : Word) : Dev :=
  if a = Reg.strCmd then d.wrStrCmd v
  else if a = Reg.strCntSel then d.wrCntSel v
  else if (copyAt (Reg.strLeProf 0) 8 8 a).isSome then d.wrLeProf a v
  else d.wrReg a v

/-- A permitted write of an `RNG_` register. -/
def Dev.wrRng (d : Dev) (a : Nat) (v : Word) : Dev :=
  if a = Reg.rngMsCtl then d.wrMsCtl v
  else if a = Reg.rngBarCtl then d.wrBarCtl v
  else if a = Reg.rngBcCtl then d.wrBcCtl v
  else if a = Reg.rngBcStat then d.wrBcStat v
  else if a = Reg.rngCtl 0 ∨ a = Reg.rngCtl 1 then d.wrRngCtl ((a - Reg.rngCtl 0) / 0x100) v
  else if a = Reg.rngCycCfg 0 ∨ a = Reg.rngCycCfg 1 then d.wrRngCyc ((a - Reg.rngCycCfg 0) / 0x100) v
  else if a = Reg.rngBeCfg 0 ∨ a = Reg.rngBeCfg 1 then d.wrRngBe ((a - Reg.rngBeCfg 0) / 0x100) v
  else if a = Reg.rngTiming 0 ∨ a = Reg.rngTiming 1 then d.wrRngTiming ((a - Reg.rngTiming 0) / 0x100) v
  else if a = Reg.rngFedCfg 0 ∨ a = Reg.rngFedCfg 1 then d.wrRngFed ((a - Reg.rngFedCfg 0) / 0x100) v
  else d.wrReg a v

/-- A permitted write of a `SOL_` register. -/
def Dev.wrSol (d : Dev) (a : Nat) (v : Word) : Dev :=
  if a = Reg.solCmd then d.wrSolCmd v
  else if a = Reg.solResStat then d.wrSolRes v
  else if a = Reg.solFileAddr then d.wrSolFile v
  else if a = Reg.solCtl then d.wrSolCtl v
  else d.wrReg a v

/-- A permitted write of an `SDS_`, `PCS_` or `MAC_` register; an instance merged away ignores it (R29). -/
def Dev.wrPort (d : Dev) (a : Nat) (v : Word) : Dev :=
  match portOf a with
  | none =>
    (match copyAt (Reg.macMdioCmd 0) 0x20 4 a, copyAt (Reg.macSmbCmd 0) 0x40 2 a with
     | some b, _ => if a < Reg.macSmbCfg 0 then d.wrMdioCmd b v else d.wrReg a v
     | _, some c => d.wrSmbCmd c v
     | none, none => d.wrReg a v)
  | some p =>
    if d.mergedAway p then d
    else if a = Reg.sdsMode p then d.wrSdsMode p v
    else if a = Reg.sdsPol p then d.wrSdsPol p v
    else if a = Reg.pcsCfg p then d.wrPcsCfg p v
    else if a = Reg.macCfg p then d.wrMacCfg p v
    else if a = Reg.macVlanCfg p ∨ a = Reg.macPauseCfg p then d.wrEdgeReg p a v
    else if a = Reg.macEeeCfg p then d.wrEee p v
    else if a = Reg.macRxBuf p then d.wrRxBuf p v
    else match copyAt (Reg.sdsEqShim p 0) 0x10 4 a, copyAt (Reg.macUcAddr p 0) 8 8 a, copyAt (Reg.macMcAddr p 0) 8 8 a with
      | some l, _, _ => d.wrEqShim p l v
      | _, some _, _ => d.wrFilter p a false v
      | _, _, some _ => d.wrFilter p a true v
      | none, none, none => d.wrReg a v

/-- A permitted write of a `DMA_` or `XLT_` register. -/
def Dev.wrDma (d : Dev) (a : Nat) (v : Word) : Dev :=
  if a = Reg.xltCfg then d.wrXltCfg v
  else match copyAt (Reg.dmaChCmd 0) 0x100 64 a, copyAt (Reg.dmaCrCfg 0) 0x20 16 a, copyAt (Reg.dmaCrBase 0) 0x20 16 a,
      copyAt (Reg.dmaCrHead 0) 0x20 16 a with
    | some c, _, _, _ => d.wrDmaCmd c v
    | _, some k, _, _ => d.wrCrCfg k v
    | _, _, some k, _ => d.wrCrBase k v
    | _, _, _, some k => d.wrCrHead k v
    | none, none, none, none => d.wrReg a v

/-- A permitted write of an admin register: the halves of the doorbell that are written count alone. -/
def Dev.wrAdmin (d : Dev) (f k : Nat) (lo hi : Bool) (v : Word) : Dev :=
  match k with
  | 0 | 1 => d.wrAqBase f k v
  | 2 => d.wrAqCfg f v
  | 3 => d.aqWr f 3 (writeFlds [⟨1, 1, .w1c, 0, .any⟩, ⟨2, 1, .w1c, 0, .any⟩, ⟨3, 1, .w1c, 0, .any⟩] v (d.aqRd f 3))
  | _ => d.aqDoorbell f lo hi v

/-- A permitted write of a `HQ_` or `BEN_` register. -/
def Dev.wrHq (d : Dev) (a : Nat) (v : Word) : Dev :=
  if a = Reg.hqQcntSel then d.wrQcntSel v
  else if a = Reg.benQpCfg then d.wrBenQpCfg v
  else match adminAt a with
    | some (f, k) => d.wrAdmin f k true true v
    | none => d.wrReg a v

/-- A permitted write of the register at `a` that changes the device alone. -/
def Dev.wrAny (d : Dev) (a : Nat) (v : Word) : Dev :=
  match blockOf a with
  | some 0 | some 1 => d.wrTim a v
  | some 2 => d.wrCal a v
  | some 3 => d.wrPre a v
  | some 4 => d.wrStr a v
  | some 5 => d.wrRng a v
  | some 6 => d.wrSol a v
  | some 7 | some 8 | some 9 => d.wrPort a v
  | some 10 => d.wrFwd a v
  | some 11 | some 15 => d.wrHq a v
  | some 12 | some 13 => d.wrDma a v
  | some 16 => if a = Reg.fltHaltCmd then d.wrHaltCmd v else d.wrFlt a v
  | some 17 => d.wrFlt a v
  | some 18 => if a = Reg.pwrCtl then d.wrPwrCtl v else d.wrReg a v
  | some 22 => if a = Reg.smonClr then d.wrSmonClr v else d.wrReg a v
  | some _ => d.wrReg a v
  | none => d

/-- A permitted write of the register at `a`. -/
def State.wrAny (s : State) (a : Nat) (v : Word) : State :=
  if a = Reg.fltQStat then s.wrQStat v
  else if a = Reg.jigInj then s.wrJigInj v
  else { s with dev := s.dev.wrAny a v }

/-- A write that reaches mailbox `m` at `a` from its owner (R377, R378): the response area ignores it. -/
def Dev.wrMailbox (d : Dev) (m a width : Nat) (v : Word) : Dev :=
  let w := a / 8 * 8
  if a < 0x4010000 then
    let o := (w - 0x4000000) % 0x1000
    let x := d.ldW (bar0Image + w)
    let full := if width = 8 then v else setF x (if a % 8 = 4 then 32 else 0) 32 (getF v 0 32)
    if o < 0x800 then d.wrMbxReq m (o / 8) full else d
  else if w = Reg.mbxDb m then d.wrMbxDb m (if width = 8 then v else if a % 8 = 4 then setF 0 32 32 (getF v 0 32) else 0)
  else d.wrReg w (d.merged a width v)

/-! ### Writes through the hub -/

/-- A write of BAR0 by a requester (R17, R25, R27, R29, R377, R401). -/
def State.write0 (s : State) (r : Req) (a width : Nat) (v : Word) : State :=
  let d := s.dev
  let w := a / 8 * 8
  let onD := fun (f : Dev → Dev) => { s with dev := f s.dev }
  if r = .bench ∧ 0x8000000 ≤ a then onD Dev.benchRefuse
  else if wrongWidth a width then onD (fun x => x.badWidth r false true a (x.islandOf w))
  else if d.unreachable w then onD (fun x => x.accFail r false true a 2 (x.islandOf w))
  else if 0x3000000 ≤ w ∧ w < 0x3010000 then
    (match pfOfReq r with
     | some f =>
       if w < 0x3008000 then
         onD (fun x => x.msixWr f (w - 0x3000000) (if width = 8 then v else setF (x.msixRd f (w - 0x3000000)) (if a % 8 = 4 then 32 else 0) 32 (getF v 0 32)))
       else s
     | none => s)
  else match mailboxAt w with
    | some m => if d.mbxOwns r m then onD (fun x => x.wrMailbox m a width v) else onD (fun x => x.inc Reg.mbxOwnErrCnt)
    | none =>
      if d.mayWrite r w = false then onD (fun x => x.lockRefuse a (x.islandOf w))
      else match adminAt w with
        | some (f, k) => onD (fun x => x.wrAdmin f k (width == 8 || a % 8 == 0) (width == 8 || a % 8 == 4) (if width = 8 then v
            else if k = 4 then setF 0 (if a % 8 = 4 then 32 else 0) 32 (getF v 0 32) else x.merged a width v))
        | none => s.wrAny w (d.merged a width v)

/-- A write of BAR4 by a requester (R17, R28): 64 bits wide. -/
def Dev.write4 (d : Dev) (r : Req) (o width : Nat) (v : Word) : Dev :=
  match d.bar4At o with
  | none => if r = .bench ∧ 0x40000000 ≤ o then d.benchRefuse else d
  | some (isl, k) =>
    if width ≠ 8 ∨ o % 8 ≠ 0 then d.badWidth r true true o isl
    else d.gate4 r o isl k (fun x => x.bar4Wr o v)

/-- A write of the BAR0 of a VF (Table ARC-13). -/
def Dev.writeVf (d : Dev) (f a width : Nat) (v : Word) : Dev :=
  let w := a / 8 * 8
  let hi := decide (a % 8 = 4)
  let place := fun (x : Word) => if width = 8 then v else setF x (if hi then 32 else 0) 32 (getF v 0 32)
  if d.islandOk 33 = false ∨ d.fnStopped f ∨ wrongWidth a width then d
  else if w < 0x400 then d.msixWr f w (place (d.msixRd f w))
  else if 0x1000 ≤ w ∧ w ≤ 0x1020 then
    let k := (w - 0x1000) / 8
    d.wrAdmin f k (width == 8 || !hi) (width == 8 || hi) (place (if k < 3 then d.aqRd f k else 0))
  else d

/-- A write of a doorbell slot of function `f` (R314): each half that is written counts; another width or alignment is dropped. -/
def Dev.writeDb (d : Dev) (f o width : Nat) (v : Word) : Dev :=
  if wrongWidth o width then d
  else
    let d1 := if width = 8 ∨ o % 8 = 0 then sqDoorbell f (o / 8) (getF v 0 32) d else d
    if width = 8 then cqDoorbell f (o / 8) (getF v 32 32) d1
    else if o % 8 = 4 then cqDoorbell f (o / 8) (getF v 0 32) d1 else d1

/-- A store of `n` octets by a hart (R396, R398): the main table takes a write under R292. -/
def State.benStore (s : State) (a n : Nat) (v : Word) : State :=
  let onD := fun (f : Dev → Dev) => { s with dev := f s.dev }
  if bar0Image ≤ a ∧ a < bar0Image + 0x8000000 then s.write0 .bench (a - bar0Image) n v
  else if 0x1040000000 ≤ a ∧ a < 0x1080000000 then onD (fun d => d.write4 .bench (a - 0x1040000000) n v)
  else if 0x1010000000 ≤ a ∧ a < 0x1010080000 then
    onD (fun d => if wrongWidth a n then d.benchRefuse else d.writeDb benchFn (a - 0x1010000000) n v)
  else match benArea true a n with
    | none => onD Dev.benchRefuse
    | some r => onD (fun d =>
        if d.benMay r a n = false then d
        else if r.whole then d.fwdWrite (0x20000000 + a) v
        else if n = 8 ∧ a % 8 = 0 then d.stW a v
        else d.stN a (leBytes n v.toNat))

/-- A write by a requester. -/
def State.hubWrite (s : State) (r : Req) (sp : Space) (a width : Nat) (v : Word) : State :=
  match sp with
  | .bar0 => s.write0 r a width v
  | .bar4 => { s with dev := s.dev.write4 r a width v }
  | .bar2 k => match doorbellFn r k.toNat with
    | some f => if r = .bench ∧ wrongWidth a width then { s with dev := s.dev.benchRefuse } else { s with dev := s.dev.writeDb f a width v }
    | none => s
  | .vf k => match vfOf r k.toNat with
    | some f => { s with dev := s.dev.writeVf f a width v }
    | none => if r = .bench then { s with dev := s.dev.benchRefuse } else s
  | .dev => if r = .bench then s.benStore a width v else s

/-! ### Bridge timeouts (R17) -/

/-- BRIDGE_TIMEOUT (R17): a crossing to an island that serves its units has had no answer within 2 µs, or 200 µs for island 47. -/
def bridgeTimeout (r : Req) (sp : Space) (write : Bool) (a : Nat) (d : Dev) : Dev :=
  let tgt : Option (Bool × Nat) := match sp with
    | .bar0 => some (false, d.islandOf (a / 8 * 8))
    | .bar4 => (d.bar4At a).map (fun e => (true, e.1))
    | .vf _ | .bar2 _ | .dev => none
  match tgt with
  | none => d
  | some (b4, isl) =>
    let down := d.islandOk isl = false ∨ d.halted
    let d1 := if down then d else d.waitUp (d.tim.up + (if isl = 47 then 200 else 2) * usU)
    let d2 := d1.accFail r b4 write a (if down then 2 else 1) isl
    if write then d2 else d2.answer (ones 8)

/-! ### Meanings -/

/-- Meaning of RC_READ_64: a 64-bit read, or one of a width that R25 turns away. -/
def execRcRead64 (r : Req) (sp : Space) (a : ReadAt) (s : State) : Host.Outcome State Fault Refusal :=
  onDev (fun d => d.hubRead r sp a.off a.octets) s

/-- Meaning of RC_READ_LOW: a 32-bit read of a low word. -/
def execRcReadLow (r : Req) (sp : Space) (a : Nat) (s : State) : Host.Outcome State Fault Refusal := onDev (fun d => d.hubRead r sp a 4) s

/-- Meaning of RC_READ_HIGH: a 32-bit read of the high word of the word at `a`. -/
def execRcReadHigh (r : Req) (sp : Space) (a : Nat) (s : State) : Host.Outcome State Fault Refusal :=
  onDev (fun d => d.hubRead r sp (a + 4) 4) s

/-- Meaning of REGISTER_WRITE. -/
def execRegisterWrite (r : Req) (sp : Space) (a : Nat) (width : Nat) (v : Word) (s : State) : Host.Outcome State Fault Refusal :=
  .next (s.hubWrite r sp a width v)

/-- Meaning of BRIDGE_TIMEOUT. -/
def execBridgeTimeout (r : Req) (sp : Space) (write : Bool) (a : Nat) (s : State) : Host.Outcome State Fault Refusal :=
  onDev (bridgeTimeout r sp write a) s

/-- Meaning of SNAPSHOT_GO: a write of `GLB_SNAP_CTL` with GO = 1. -/
def execSnapshotGo (r : Req) (v : Word) (s : State) : Host.Outcome State Fault Refusal :=
  onDev (fun d => d.gate r Reg.glbSnapCtl (fun x => x.wrSnapCtl (setB v 63 true))) s

/-- Meaning of SNAPSHOT_CAPTURE. -/
def execSnapshotCapture (s : State) : Host.Outcome State Fault Refusal := onDev snapshotCapture s

end Sys2Proof.Machine
end

