-- ==== Sys2Proof/Machine/DmaBeat.lean ====
section
/-! DEFINITION. Chapter 11: what a beat of a DMA descriptor does when it is answered (R343, R344, R349–R352, R359, R397, R398,
Tables BEN-3, BEN-4). -/

namespace Sys2Proof.Machine

/-! ### The device address map, space 1 (R343, R396–R398) -/

/-- A PF as a requester. -/
def reqPf (n : Nat) : Req := .pf ⟨n % 4, Nat.mod_lt n (by decide)⟩

/-- The octets from `a` on lie in HBM. -/
def inHbm (a n : Nat) : Bool := decide (a + n ≤ 0x600000000)

/-- HBM a channel may read: all but the reserved and the Joiner's regions (R398). -/
def hbmReadable (a n : Nat) : Bool :=
  decide (a + n ≤ 0x21400000 ∨ (0x22000000 ≤ a ∧ a + n ≤ 0x24000000) ∨ (0x40000000 ≤ a ∧ a + n ≤ 0x600000000))

/-- The images of the BARs (Table BEN-3): the BAR, and the offset in it. -/
def barImage (a n : Nat) : Option (Nat × Nat) :=
  if 0x1000000000 ≤ a ∧ a + n ≤ 0x1008000000 then some (0, a - 0x1000000000)
  else if 0x1010000000 ≤ a ∧ a + n ≤ 0x1010080000 then some (2, a - 0x1010000000)
  else if 0x1040000000 ≤ a ∧ a + n ≤ 0x1080000000 then some (4, a - 0x1040000000)
  else none

/-- A width and an alignment the image of a BAR serves. -/
def imageFits (bar o n : Nat) : Bool := (n == 8 || (bar != 4 && n == 4)) && o % n == 0

/-- The island behind an offset of BAR0 or BAR4 answers. -/
def Dev.imageUp (d : Dev) (bar o : Nat) : Bool :=
  match bar with
  | 0 => !(d.unreachable (o / 8 * 8))
  | 4 => (match d.bar4At o with | some (isl, _) => d.islandOk isl && !d.halted | none => true)
  | _ => d.islandOk 33

/-- A read of `n` octets of the device map for PF `f`: none where it is a device error. -/
def Dev.mapRead (d : Dev) (f a n : Nat) : Option (List Byte × Dev) :=
  if inHbm a n then
    (if d.hbmOk && hbmReadable a n && !((List.range ((n + 14) / 8)).any (fun i => d.isBad (a / 8 * 8 + 8 * i) && decide (a / 8 * 8 + 8 * i < a + n))) then
      some (d.ldN a n, d) else none)
  else match barImage a n with
    | none => none
    | some (bar, o) =>
      if imageFits bar o n && d.imageUp bar o then
        let x := match bar with | 0 => d.read0 (reqPf f) o n | 4 => d.read4 (reqPf f) o n | _ => d.answer 0
        some (leBytes n x.rdata.toNat, { x with rdata := d.rdata })
      else none

/-- HBM octets written: a word written whole has a good error check again. -/
def Dev.hbmWrite (d : Dev) (a : Nat) (l : List Byte) : Dev :=
  let x := d.stN a l
  { x with bad := x.bad.filter (fun b => !(decide (a ≤ b ∧ b + 8 ≤ a + l.length))) }

/-- A write of octets to the device map for PF `f`: none where it is a device error.  A table that refuses it under its own rules is no error
(R344). -/
def State.mapWrite (s : State) (f a : Nat) (l : List Byte) : Option State :=
  let n := l.length
  let v := BitVec.ofNat 64 (leNat l)
  if inHbm a n then (if s.dev.hbmOk && hbmWritable a n then some { s with dev := s.dev.hbmWrite a l } else none)
  else match barImage a n with
    | none => none
    | some (bar, o) =>
      if imageFits bar o n && s.dev.imageUp bar o then
        some (match bar with
          | 0 => s.write0 (reqPf f) o n v
          | 4 => { s with dev := s.dev.write4 (reqPf f) o n v }
          | _ => { s with dev := s.dev.writeDb f o n v })
      else none

/-! ### COMPARE (R350) -/

/-- Octets of both streams compared in order: how many are equal now, the first difference, and what is left of each stream. -/
def compareRun : List Byte → List Byte → Nat → Option Nat × Nat × List Byte × List Byte
  | a :: s, b :: t, n => if a = b then compareRun s t (n + 1) else (some n, n, a :: s, b :: t)
  | s, t, n => (none, n, s, t)

/-- What COMPARE holds is compared as far as both sides have come. -/
def Chan.compared (x : Chan) : Chan :=
  if x.mism.isSome then { x with hold := [], holdD := [] }
  else
    let r := compareRun x.hold x.holdD x.eq
    { x with mism := r.1, eq := r.2.1, hold := r.2.2.1, holdD := r.2.2.2 }

/-! ### The answer to a beat -/

/-- Octets read for a side are taken in: an index word, source octets, or destination octets of COMPARE. -/
def Chan.take (x : Chan) (k : Nat) (l : List Byte) : Chan :=
  let s := x.side k
  let y := x.setSide k { s with ack := s.ack + l.length, done := s.done + l.length }
  match k, x.mode with
  | 0, _ => { y with offs := y.offs ++ [leNat l] }
  | 1, 3 => ({ y with hold := y.hold ++ l }).compared
  | 1, 4 => { y with hold := y.hold ++ l, offs := y.offs.drop 1 }
  | 1, _ => { y with hold := y.hold ++ l }
  | _, _ => ({ y with holdD := y.holdD ++ l }).compared

/-- A beat of side `k` is answered without effect: it failed, or an earlier beat of its side did. -/
def Dev.beatAck (d : Dev) (c k w : Nat) : Dev :=
  d.modChan c (fun x => x.setSide k { x.side k with ack := (x.side k).ack + w })

/-- A beat of side `k` at octet `o` fails with a kind: 1 host data, 2 device error, 4 an index out of step (R351, R359). -/
def Dev.beatFail (d : Dev) (c k o w kind : Nat) : Dev := (d.beatAck c k w).dmaFail c k o ((d.chan c).addrAt k o) kind

/-- Data of a beat that was read. -/
def Dev.beatData (d : Dev) (c k o : Nat) (l : List Byte) : Dev :=
  let x := d.chan c
  if k = 0 ∧ leNat l % x.srcW ≠ 0 then d.beatFail c 0 o 4 4 else d.modChan c (fun y => y.take k l)

/-- The next beat of side `k` of channel `c` is answered: `bad` for an error, `l` for the data of a host read. -/
def State.beat (s : State) (c k : Nat) (bad : Bool) (l : List Byte) : State :=
  let d := s.dev
  let x := d.chan c
  let sd := x.side k
  let w := x.width k
  let o := sd.ack
  let dev := fun (y : Dev) => { s with dev := y }
  if sd.iss ≤ sd.ack then s
  else if sd.done < sd.ack then dev (d.beatAck c k w)
  else if x.sp k then
    (if bad then dev (d.beatFail c k o w 2)
     else if x.reads k then
       (match d.mapRead (d.chPf c) (x.addrAt k o) w with
        | some (m, y) => dev (y.beatData c k o m)
        | none => dev (d.beatFail c k o w 2))
     else match s.mapWrite (d.chPf c) (x.addrAt k o) (x.stream o w) with
       | some t => { t with dev := t.dev.modChan c (fun y => { y with
           dst := { y.dst with ack := y.dst.ack + w, done := y.dst.done + w }, hold := if x.mode = 2 then y.hold else y.hold.drop w }) }
       | none => dev (d.beatFail c k o w 2))
  else if bad ∨ l.length < w then dev (d.beatFail c k o w 1)
  else dev (d.beatData c k o (l.take w))

/-- The beats of one answer, one after another: an answer of a merged host read carries the octets of all of them (R349). -/
def State.beats : Nat → State → Nat → Nat → Bool → List Byte → State
  | 0, s, _, _, _, _ => s
  | n + 1, s, c, k, bad, l => State.beats n (s.beat c k bad l) c k bad (l.drop ((s.dev.chan c).width k))

/-- How many beats an answer is for. -/
def Dev.beatCount (d : Dev) (c k : Nat) (bad : Bool) (l : List Byte) : Nat :=
  if (d.chan c).sp k ∨ bad then 1 else max 1 (l.length / (d.chan c).width k)

/-- DMA_BEAT_COMPLETE (R352): the channel goes on, ends its descriptor, or halts. -/
def dmaBeatComplete (c k : Nat) (bad : Bool) (l : List Byte) (s : State) : State :=
  if s.dev.islandOk 45 = false then s
  else
    let t := State.beats (s.dev.beatCount c k bad l) s c k bad l
    { t with dev := t.dev.dmaRun c }

/-- Meaning of DMA_BEAT_COMPLETE. -/
def execDmaBeatComplete (c : Fin 64) (side : Fin 3) (bad : Bool) (octets : List Byte) (s : State) : Host.Outcome State Fault Refusal :=
  .next (dmaBeatComplete c.val side.val bad octets s)

end Sys2Proof.Machine
end

