-- ==== Sys2Proof/Machine/Launch.lean ====
section
/-! DEFINITION. Chapter 3: from entry to wire — fetch, arm and launch (R83–R87, Table CAL-9), with R139, R142, R155, R156 and R179. -/

namespace Sys2Proof.Machine

/-! ### Fetch (R83, Table CAL-9 orders 1 and 2) -/

/-- The source that supplies entry `i` of port `p` in cycle `n`, its word and its instant. -/
def Dev.launchSrc (d : Dev) (p i n : Nat) : Option (CalSrc × Word × Nat) :=
  let cand := [d.curSrc, match d.cal.pend with | some q => if d.bankSt q.bank = 5 then d.pendSrc else none | none => none].filterMap id
  cand.findSome? (fun (c : CalSrc) =>
    let r := c.par.region p
    if r.1 ≤ i ∧ i < r.1 + r.2 then
      let e := d.ldW (entryAddr c.bank (sliceOf p) i)
      let l : Int := c.instant e (n : Int)
      let capped : Bool := match d.cal.pend with
        | some q => decide (l < (q.at_ : Int)) || c.bank == q.bank || d.bankSt q.bank != 5
        | none => true
      if n % c.par.hp == eCyc e && c.covers l && capped then some (c, e, l.toNat) else none
    else none)

/-- Launches of stream `s` in the hyperperiod cycle of source `c` that holds cycle `n`: one per port with scheduled transmission. -/
def Dev.countCopies (d : Dev) (c : CalSrc) (s n : Nat) : Nat :=
  ((List.range 36).filter (fun p => (d.sPorts s).testBit p && !(d.sliceOut (sliceOf p)) &&
    (d.entries c.bank c.par p).any (fun e => eKind e.2 == 1 && eArg e.2 == s && eCyc e.2 == n % c.par.hp
      && getB (d.portCfgAt p (c.instant e.2 n).toNat) 0))).length

/-- Why a host source gives no entry: 0 it gives one, 1 held (order 1), 2 empty (order 2). -/
def Dev.hostSource (d : Dev) (q : Nat) : Nat :=
  match d.sq q with
  | none => if (match Sparse.find d.hq.flrSqs q with | some f => d.fnResetting f | none => false) then 1 else 2
  | some s =>
    if d.fnStopped s.fn then 1
    else if s.kind ≠ 2 ∨ s.err ∨ s.drain then (if d.sqHeld s then 1 else 2)
    else if d.sqHeld s ∨ s.rd = 1 ∨ s.ifMax ≤ s.claimed - s.done ∨ trackers ≤ d.inFlight + (s.claimed - s.fetched) then 1
    else if s.claimed < s.tail then 0 else 2

/-- A launch instant whose fetch was held, or that found no frame (Table CAL-9). -/
def Dev.countNone (d : Dev) (p : Nat) (held : Bool) : Dev := if held then d.inc (Reg.calHeldCnt p) else d.inc (Reg.calEmptyCnt p)

/-- The fetch for launch `l`, whose instance is new: a host source gives its next entry, or none; a fabric frame is bound at arm. -/
def Dev.newInst (d : Dev) (l : Launch) (copies : Nat) : Dev :=
  let i : Inst := { stream := l.stream, cyc := l.cyc, key := l.key, left := copies }
  let add := fun (x : Dev) (j : Inst) => { x with cal := { x.cal with insts := x.cal.insts ++ [j], launches := x.cal.launches ++ [l] } }
  if d.sFabric l.stream then add d i
  else
    let q := d.sg l.stream 1 0 16
    match d.hostSource q with
    | 0 =>
      let n := ((d.sq q).map (fun s => s.claimed)).getD 0
      (((add d { i with qp := some q, entry := some (q, n) }).modSq q (fun s => { s with claimed := s.claimed + 1 })).pumpSq q)
    | k =>
      let d1 := add d { i with qp := some q, none_ := true, held := k == 1 }
      let d2 := if k = 1 ∧ (d.sq q).isSome then d1.qCount q 6 1 else d1
      (d2.countNone l.port (k == 1)).noFrame l 1

/-- The fetch for a further copy of an instance (R142). -/
def Dev.moreCopy (d : Dev) (l : Launch) (i : Inst) : Dev :=
  let d1 : Dev := { d with cal := { d.cal with launches := d.cal.launches ++ [l] } }
  if i.none_ then (d1.countNone l.port i.held).noFrame l 1 else d1

/-- Nothing is fetched for the instant `l` of port `p`: it has come or passed, the port has no schedule then, its slice is out (R95), or the
instant is launched or released already. -/
def Dev.fetchBarred (d : Dev) (p l : Nat) : Bool :=
  decide (l ≤ d.now) || !(getB (d.portCfgAt p l) 0)
  || (d.sliceOut (sliceOf p) && !(match Sparse.find d.cal.resume (sliceOf p) with | some b => decide (b ≤ l) | none => false))
  || d.cal.launches.any (fun x => x.port == p && x.at_ == l) || (d.port p).released.contains l

/-- The launch of stream `s` for entry `i` of port `p` in cycle `n` at `l`, its record read and good. -/
def Dev.fetchLaunch (d : Dev) (p i n : Nat) (c : CalSrc) (e : Word) (l : Nat) : Dev :=
  let s := eArg e
  let rep := d.sReplicated s
  let la : Launch := { port := p, idx := i, stream := s, at_ := l, hcyc := eCyc e, cyc := n, key := if rep then 0 else l
                       resLen := d.sResLen s, cls := d.launchCls p s }
  match d.instOf la with
  | some j => d.moreCopy la j
  | none => d.newInst la (if rep then max 1 (d.countCopies c s n) else 1)

/-- Counters of a barred launch: one whose record is not valid counts as an empty instant too (R137), a fenced stream's does not (R155). -/
def Dev.countBarred (d : Dev) (p : Nat) (b : Bar) : Dev := if b = .invalid then (d.countBar b).inc (Reg.calEmptyCnt p) else d.countBar b

/-- The stream record that an entry names is read; a record that bars its launch is counted and its interval released (R137, R155, R156). -/
def Dev.fetchStream (d : Dev) (p i n : Nat) (c : CalSrc) (e : Word) (l : Nat) : Dev :=
  let d2 := if d.sType (eArg e) = 1 then d.readRec (eArg e) else d
  if d2.strBar (eArg e) (some p) = .none then d2.fetchLaunch p i n c e l
  else (d2.countBarred p (d2.strBar (eArg e) (some p))).releaseAt p l

/-- LAUNCH_FETCH (R83, R94): at L − `CAL_FETCH_LEAD` entry `i` of port `p` is read for cycle `n`; a launch entry fetches. -/
def launchFetch (p i n : Nat) (d : Dev) : Dev :=
  match d.launchSrc p i n with
  | none => d
  | some (c, e, l) =>
    if d.fetchBarred p l then d
    else
      let d1 := (d.waitLocal (l - d.leadU)).scrub (entryAddr c.bank (sliceOf p) i) Reg.calEccCnt
      if d1.isBad (entryAddr c.bank (sliceOf p) i) then d1.raise 2 (sliceOf p) 0x10 (entryOffset c.bank (sliceOf p) i)
      else if eKind e = 1 then d1.fetchStream p i n c e l
      else d1

/-! ### Arm (R84, Table CAL-9 orders 2 to 6) -/

/-- The next launch of a port that waits for its arm, or, armed, for its instant. -/
def Dev.nextLaunch (d : Dev) (p : Nat) (armed : Bool) : Option Launch :=
  (d.cal.launches.filter (fun l => l.port == p && l.armed == armed)).foldl
    (fun best l => match best with | none => some l | some b => if l.at_ < b.at_ then some l else some b) none

/-- A fabric frame is bound: the oldest frame of the stream stored for binding (R83, R301); a stream that has ended (`ok` false) binds none
(R137). -/
def Dev.bindFabric (d : Dev) (ok : Bool) (l : Launch) (i : Inst) : Dev :=
  if i.frame.isSome ∨ i.none_ then d
  else match d.frames.find? (fun e => ok && e.2.fabric && e.2.ready && e.2.stream == some l.stream) with
    | some (id, f) => (d.setFrame id { f with fabric := false }).modInst i (fun j => { j with frame := some id })
    | none => d.modInst i (fun j => { j with none_ := true })

/-- The port transmits: its link is up, it has no remote fault to send in place of frames (R243, log entry 164), and on a ring port the attachment
is inserted (R165). -/
def Dev.portOpen (d : Dev) (p : Nat) : Bool := d.linkUp p && !(d.remoteFault p) && (decide (p < 32) || d.inserted (attOf p))

/-- Link conditions of a launch: link up, lane rate able to carry it (R236), attachment inserted (R165) and in a launching state (R172). -/
def Dev.launchLink (d : Dev) (p : Nat) : Bool :=
  d.portOpen p && decide (1000 ≤ d.portRate p) && (decide (p < 32) || d.ringLaunch (attOf p))

/-- The launch with the record values that judge it at arm (R136): those in force, or, where the record is no longer good, those of its fetch (R137). -/
def Dev.judged (d : Dev) (l : Launch) : Launch :=
  if d.recOk l.stream then { l with resLen := d.sResLen l.stream, cls := d.launchCls l.port l.stream } else l

/-- Order 5: longer than the reserved length, over the port's limit (R250), or not done before the port's next reserved interval. -/
def Dev.overrun (d : Dev) (l : Launch) (f : Frame) : Bool :=
  let n := (d.egress l.port f true l.at_).length + 4
  decide (l.resLen < n) || d.tooLong l.port f
  || (match d.nextResv l.port (l.at_ + 1) with
      | some r => decide (r.at_ < l.at_ + d.wireTime l.port n)
      | none => false)

/-- Order 6: a pause holds the class at L (R258–R260, Table MAC-5). -/
def Dev.pausedAt (d : Dev) (l : Launch) : Bool :=
  decide (l.port < 32) && (l.cls == 0 || d.gb (Reg.macPauseCfg l.port) 2) && d.pauseActs l.port l.at_
  && (match (d.port l.port).pauseEnd with
      | some e => decide (d.tim.up + (l.at_ - d.now) < e)
      | none => false)

/-- Orders 3 to 6 for a launch whose source gave an entry or a frame. -/
def Dev.armChecks (d : Dev) (l : Launch) (i : Inst) : Dev :=
  if d.launchLink l.port = false then d.lateDiscard l 5
  else match i.frame.bind d.frame with
    | none => d.lateDiscard l 1
    | some f =>
      if f.ready = false then d.lateDiscard l 1
      else if d.overrun (d.judged l) f then (if d.tooLong l.port f then d.inc (Reg.macTxLenDropCnt l.port) else d).lateDiscard l 2
      else if d.pausedAt (d.judged l) then d.lateDiscard l 4
      else { d with cal := { d.cal with launches := d.cal.launches.map (fun x => if x = l then { d.judged l with armed := true } else x) } }

/-- The arm of launch `l` of instance `i`: a fabric frame is bound, and what is there is checked. -/
def Dev.armLaunch (d : Dev) (p : Nat) (ok : Bool) (l : Launch) (i : Inst) : Dev :=
  let d1 := if i.qp.isNone then d.bindFabric ok l i else d
  match d1.instOf l with
  | none => d1
  | some j =>
    if j.none_ then (d1.inc (Reg.calEmptyCnt p)).noFrame l 1
    else if j.frame.isNone ∧ j.lost = 2 then (d1.inc (Reg.calEmptyCnt p)).noFrame l 1
    else if decide (32 ≤ p) && (match j.frame.bind d1.frame with
        | some f => (match f.dove with | some h => h.2.1 == 63 | none => false)
        | none => false) then (d1.inc (Reg.rngDropCnt (p - 32))).noFrame l 1
    else d1.armChecks l j

/-- The arm of launch `l`.  A stream that is fenced or out of service gives no frame (R155, R156); one that has ended still launches what is
fetched or bound (R137). -/
def Dev.armAt (d : Dev) (p : Nat) (l : Launch) : Dev :=
  match d.strBar l.stream (some p), d.instOf l with
  | _, none => d.dropLaunch l
  | .none, some i => d.armLaunch p true l i
  | .invalid, some i => d.armLaunch p (decide (d.sType l.stream = 1)) l i
  | b, some _ => (d.countBar b).noFrame l 8

/-- LAUNCH_ARM (R84): at L − 1,000 ns the frame is bound or checked. -/
def launchArm (p : Nat) (d : Dev) : Dev :=
  match d.nextLaunch p false with
  | none => d
  | some l => (d.waitLocal (l.at_ - 1000 * nsU)).armAt p l

/-! ### Launch (R85, Table CAL-9 orders 7 and 8) -/

/-- A transmission whose end lies at or before instant `u` has left the wire. -/
def Dev.settleWire (d : Dev) (p u : Nat) : Dev :=
  match (d.port p).cur with
  | some t => if d.txEnd p t + d.gapU p ≤ u ∧ d.dataMissing t = false ∧ d.overLimit p t = false then d.endTx p t else d
  | none => d

/-- The transmitter is still leaving LPI at instant `u`. -/
def Dev.waking (d : Dev) (p u : Nat) : Bool :=
  (d.port p).lpiSince.isSome || (match (d.port p).wakeEnd with | some w => decide (u < w) | none => false)

/-- LAUNCH (R85): at L the frame starts, or is discarded for a busy wire or a wake in progress. -/
def launch (p : Nat) (d : Dev) : Dev :=
  match d.nextLaunch p true with
  | none => d
  | some l =>
    let d0 := (d.waitLocal l.at_).settleWire p (d.waitLocal l.at_).tim.up
    let y := d0.port p
    match (d0.instOf l).bind (fun i => i.frame) with
    | none => d0.dropLaunch l
    | some id =>
      match d0.frame id with
      | none => d0.dropLaunch l
      | some f =>
        if d0.portOpen p = false then d0.lateDiscard l 5
        else if y.cur.isSome ∨ d0.tim.up < y.gapEnd then d0.lateDiscard l 3
        else if d0.waking p d0.tim.up then d0.lateDiscard l 7
        else
          let lim := if p < 32 then none else some (l.at_ + d0.wireTime p l.resLen)
          ((d0.inc (Reg.calLaunchCnt p)).newTx p id f l.cls true d0.tim.up d0.now (d0.launchStamp p d0.now) lim).dropLaunch l

/-! ### Meanings -/

/-- Meaning of LAUNCH_FETCH. -/
def execLaunchFetch (p : Port) (i : BitVec 18) (n : BitVec 48) (s : State) : Host.Outcome State Fault Refusal :=
  onDev (launchFetch p.val i.toNat n.toNat) s

/-- Meaning of LAUNCH_ARM. -/
def execLaunchArm (p : Port) (s : State) : Host.Outcome State Fault Refusal := onDev (launchArm p.val) s

/-- Meaning of LAUNCH. -/
def execLaunch (p : Port) (s : State) : Host.Outcome State Fault Refusal := onDev (launch p.val) s

end Sys2Proof.Machine
end

