-- ==== Sys2Proof/Machine/Mailbox.lean ====
section
/-! DEFINITION. Chapter 12: how a mailbox command is checked and answered (R380, R381, R387, R468, Table MBX-6), and the register writes
and reads the Joiner makes for it. -/

namespace Sys2Proof.Machine

/-! ### One command (R387) -/

/-- A command of Table MBX-8 as one request carries it: the argument octets it must have, whether its requester may issue it, whether it is
marked H, the blocks it writes, the first argument word out of range, and what the device is after it ran. -/
structure MbxCmd where
  len : Nat
  may : Bool := true
  hold : Bool := false
  blks : List Nat := []
  bad : Option Nat := none
  run : Dev

/-- Block `k` is unlocked by a holder other than the owner of mailbox `m` (R381). -/
def Dev.mbxHeld (d : Dev) (m k : Nat) : Bool := d.gb Reg.mbxUnlock k && d.gf (Reg.mbxLease k) 0 3 != d.mbxOwner m

/-- Block `k` is unlocked by the owner of mailbox `m`. -/
def Dev.mbxHolds (d : Dev) (m k : Nat) : Bool := d.gb Reg.mbxUnlock k && d.gf (Reg.mbxLease k) 0 3 == d.mbxOwner m

/-- Order 2 of Table MBX-6: reserved header fields 0, ARG_LEN the command's length. -/
def Dev.mbxLenOk (d : Dev) (m len : Nat) : Bool :=
  getF (d.mbxReq m 0) 43 21 == 0 && [1, 2, 3, 4, 5, 6, 7].all (fun k => d.mbxReq m k == 0) && d.mbxLen m == len
  && len % 8 == 0 && decide (len ≤ 1984)

/-- A response without words. -/
def Dev.mbxSt (d : Dev) (m st : Nat) : Dev := d.mbxDone m { status := st }

/-- BAD_FIELD and its word. -/
def Dev.mbxBad (d : Dev) (m n : Nat) : Dev := d.mbxDone m { status := 3, errWord := n }

/-- REFUSED and its code. -/
def Dev.mbxRefused (d : Dev) (m code : Nat) : Dev := d.mbxDone m { status := 7, errCode := code }

/-- OK with its words. -/
def Dev.mbxOk (d : Dev) (m : Nat) (ws : List Word) : Dev := d.mbxDone m { words := ws }

/-- The mailbox of the request at the front of the pending GOs, where it is command `opc` and the Joiner takes requests. -/
def Dev.mbxFront (d : Dev) (opc : Nat) : Option Nat :=
  match d.mbx.go with
  | [] => none
  | (m, _) :: _ => if d.joinerUp && d.mbxOpc m == opc then some m else none

/-- The checks of Table MBX-6 in their order: none where all pass, else the response. -/
def Dev.mbxJudge (d : Dev) (m : Nat) (k : MbxCmd) : Option Resp :=
  if d.mbxLenOk m k.len = false then some { status := 2 }
  else if k.may = false then some { status := 4 }
  else if d.fwState = 1 ∧ (m ≠ 0 ∨ k.hold = false) then some { status := 0x11 }
  else if k.blks.any (d.mbxHeld m) then some { status := 5 }
  else k.bad.map (fun n => { status := 3, errWord := n })

/-- The request at the front of the pending GOs is executed where it is this command. -/
def Dev.mbxRun (d : Dev) (opc : Nat) (c : Nat → MbxCmd) : Dev :=
  match d.mbxFront opc with
  | none => d
  | some m =>
    match d.mbxJudge m (c m) with
    | some r => d.mbxDone m r
    | none => (c m).run

/-! ### Argument words -/

/-- The bits of a word outside a list of fields (lowest bit, width) are 0. -/
def onlyBits (l : List (Nat × Nat)) (v : Word) : Bool :=
  v.toNat &&& (2 ^ 64 - 1 - (l.map (fun f => (2 ^ f.2 - 1) * 2 ^ f.1)).sum) == 0

/-- The first argument word whose check fails: `l` lists the checks in ascending order of words. -/
def firstBad : List (Nat × Bool) → Option Nat
  | [] => none
  | (n, ok) :: t => if ok then firstBad t else some n

/-- The image `v` of the register at `a` passes order 6 of Table MBX-6 (R380): reserved bits 0, WO fields 0 but for those in `honour`, every RW
field in range. -/
def imgOk (a honour : Nat) (v : Word) : Bool :=
  match regAt a with
  | none => v == 0
  | some (r, _) =>
    let bits := (r.flds.filter (fun f => f.acc != .wo)).foldl (fun n f => n ||| (2 ^ f.wid - 1) * 2 ^ f.lo) honour
    (v.toNat &&& (2 ^ 64 - 1 - bits)) == 0 && fldsOk r.flds v

/-- Argument word 0 names a port: bits 5:0, 0–35. -/
def portArg (v : Word) : Bool := onlyBits [(0, 6)] v && decide (getF v 0 6 < 36)

/-! ### Accesses the Joiner makes (R380, R468) -/

/-- Registers written in order; the argument word of the first access that fails. -/
def Dev.mbxPut (d : Dev) : List (Nat × Nat × Word) → Option Nat × Dev
  | [] => (none, d)
  | (n, a, v) :: t =>
    if d.unreachable a then (some n, d.accFail .joiner false true a 2 (d.islandOf a)) else Dev.mbxPut (d.wrAny a v) t

/-- ACC_FAIL and its word. -/
def Dev.mbxAcc (d : Dev) (m n : Nat) : Dev := d.mbxDone m { status := 0x13, errWord := n }

/-- Registers are written, then `f` ends the command. -/
def Dev.mbxSet (d : Dev) (m : Nat) (l : List (Nat × Nat × Word)) (f : Dev → Dev) : Dev :=
  match d.mbxPut l with
  | (some n, x) => x.mbxAcc m n
  | (none, x) => f x

/-- Registers are read; the words of an OK response. -/
def Dev.mbxShow (d : Dev) (m : Nat) (l : List Nat) : Dev :=
  match l.find? d.unreachable with
  | some a => (d.accFail .joiner false false a 2 (d.islandOf a)).mbxAcc m 0
  | none => d.mbxOk m (l.map (d.wordAt .joiner))

/-- Registers are written, and others shown. -/
def Dev.mbxSetShow (d : Dev) (m : Nat) (l : List (Nat × Nat × Word)) (r : List Nat) : Dev := d.mbxSet m l (fun x => x.mbxShow m r)

/-- An access to a table at BAR4 offset `o` of island `isl`: where it fails, the command ends at argument word `n`. -/
def Dev.mbxTable (d : Dev) (m n o isl : Nat) (write : Bool) (f : Dev → Dev) : Dev :=
  if d.islandOk isl then f d else (d.accFail .joiner true write o 2 isl).mbxAcc m n

end Sys2Proof.Machine
end

