-- ==== Sys2Proof/Machine/MbxConfig.lean ====
section
/-! DEFINITION. Chapter 12, Table MBX-8: mailbox commands of the time base, the calendar, preemption, streams, the ring and the solver. -/

namespace Sys2Proof.Machine

/-- A command of one block whose argument words are images of registers, written in ascending order (R380): `l` gives each word's register
and the WO bits it honours. -/
def Dev.mbxImages (d : Dev) (opc blk : Nat) (l : List (Nat × Nat)) : Dev :=
  d.mbxRun opc (fun m =>
    { len := 8 * l.length, blks := [blk]
      bad := firstBad (l.zipIdx.map (fun e => (e.2, imgOk e.1.1 e.1.2 (d.mbxArg m e.2))))
      run := d.mbxSet m (l.zipIdx.map (fun e => (e.2, e.1.1, d.mbxArg m e.2))) (fun x => x.mbxOk m []) })

/-- A command whose word 0 names a port and whose further words are images of that port's registers (R380). -/
def Dev.mbxPortImages (d : Dev) (opc blk : Nat) (l : Nat → List (Nat × Nat)) : Dev :=
  d.mbxRun opc (fun m =>
    let p := getF (d.mbxArg m 0) 0 6
    { len := 8 + 8 * (l p).length, blks := [blk]
      bad := firstBad ((0, portArg (d.mbxArg m 0)) :: (l p).zipIdx.map (fun e => (e.2 + 1, imgOk e.1.1 e.1.2 (d.mbxArg m (e.2 + 1)))))
      run := d.mbxSet m ((l p).zipIdx.map (fun e => (e.2 + 1, e.1.1, d.mbxArg m (e.2 + 1)))) (fun x => x.mbxOk m []) })

/-- An access at `a` for argument word `n`: the command goes on, or ends ACC_FAIL. -/
def Dev.mbxAt (d : Dev) (m n a : Nat) (f : Dev → Dev) : Dev :=
  if d.unreachable a then (d.accFail .joiner false true a 2 (d.islandOf a)).mbxAcc m n else f d

/-- The GO bit of a register with GO at bit 63. -/
def goBit : Nat := 2 ^ 63

/-! ### Time base (R39, R59) -/

/-- TIME_SOURCE. -/
def timeSource (d : Dev) : Dev := d.mbxImages 0x0301 1 [(Reg.timCtl, 0), (Reg.timServoCfg, 0), (Reg.timHoldCfg, 0)]

/-- PTP_INSTANCE: the instance the firmware runs. -/
def ptpInstance (d : Dev) : Dev :=
  d.mbxRun 0x0302 (fun m =>
    let w := d.mbxArg m 0
    { len := 8
      bad := firstBad [(0, onlyBits [(0, 2), (2, 1), (3, 1), (4, 2), (8, 8), (16, 8), (24, 8)] w && decide (getF w 4 2 ≤ 2 ∧ getF w 8 8 ≤ 127))]
      run := ({ d with mbx := { d.mbx with ptpInst := Sparse.put d.mbx.ptpInst (getF w 0 2) w } }).mbxOk m [] })

/-- PTP_PORT: the port's instance, its direction and delay registers. -/
def ptpPortCmd (d : Dev) : Dev :=
  d.mbxRun 0x0303 (fun m =>
    let w := d.mbxArg m 0
    let p := getF w 0 6
    { len := 24, blks := [1]
      bad := firstBad [(0, onlyBits [(0, 6), (8, 2), (10, 1)] w && decide (p < 32)), (1, imgOk (Reg.timPortCfg p) 0 (d.mbxArg m 1)),
        (2, imgOk (Reg.timTsShim p) 0 (d.mbxArg m 2))]
      run := d.mbxSet m [(1, Reg.timPortCfg p, d.mbxArg m 1), (2, Reg.timTsShim p, d.mbxArg m 2)]
        (fun x => ({ x with mbx := { x.mbx with ptpPort := Sparse.put x.mbx.ptpPort p w } }).mbxOk m []) })

/-- PTP_STATUS: what the firmware's protocol state is, the specification leaves open. -/
def ptpStatus (d : Dev) : Dev :=
  d.mbxRun 0x0304 (fun m =>
    let f := fun k => Config.freeWord (d.free + k)
    let w0 := BitVec.ofNat 64 (fld 0 4 (getF (f 0) 0 4) + fld 32 32 (getF (f 0) 32 32))
    { len := 8, bad := firstBad [(0, onlyBits [(0, 2)] (d.mbxArg m 0))]
      run := ({ d with free := d.free + 4 }).mbxOk m [w0, f 1, f 2, BitVec.ofNat 64 (getF (f 3) 0 16)] })

/-- TIME_PINS. -/
def timePins (d : Dev) : Dev := d.mbxImages 0x0305 1 [(Reg.timPpsinCfg, 0), (Reg.timPpsoutCfg, 0), (Reg.timClk10Cfg, 0)]

/-- TIME_ADJUST: a step that is not permitted writes nothing (R39, R387). -/
def timeAdjust (d : Dev) : Dev :=
  d.mbxRun 0x0306 (fun m =>
    let v := d.mbxArg m 0
    { len := 8, blks := [1], bad := firstBad [(0, imgOk Reg.timAdj goBit v)]
      run := d.mbxAt m 0 Reg.timAdj (fun x =>
        if getB v 63 ∧ getB v 48 = false ∧ x.stepsPermitted = false then x.stepRefused.mbxRefused m 1
        else (x.wrTimAdj v).mbxOk m []) })

/-- TIME_SET: a SET that is not permitted writes nothing (R39, R387). -/
def timeSet (d : Dev) : Dev :=
  d.mbxRun 0x0307 (fun m =>
    let v := d.mbxArg m 1
    { len := 16, blks := [1], bad := firstBad [(0, imgOk Reg.timSetSec 0 (d.mbxArg m 0)), (1, imgOk Reg.timSetNs goBit v)]
      run := d.mbxAt m 0 Reg.timSetSec (fun x =>
        if getB v 63 ∧ x.stepsPermitted = false then x.stepRefused.mbxRefused m 1
        else x.mbxSet m [(0, Reg.timSetSec, d.mbxArg m 0), (1, Reg.timSetNs, v)] (fun y => y.mbxOk m [])) })

/-- SNAPSHOT_ARM (R59): a refused ARM leaves FAIL alone behind. -/
def snapshotArm (d : Dev) : Dev :=
  d.mbxRun 0x0308 (fun m =>
    let v := d.mbxArg m 2
    { len := 24, blks := [1]
      bad := firstBad [(0, imgOk Reg.timSnaptSec 0 (d.mbxArg m 0)), (1, imgOk Reg.timSnaptNs 0 (d.mbxArg m 1)),
        (2, imgOk Reg.timSnaptCtl 3 v && !(getB v 0 && getB v 1))]
      run := d.mbxSet m [(0, Reg.timSnaptSec, d.mbxArg m 0), (1, Reg.timSnaptNs, d.mbxArg m 1), (2, Reg.timSnaptCtl, v)] (fun x =>
        let c := x.gf Reg.timSnaptStat 16 4
        if getB v 0 ∧ c ≠ 0 then (d.sf Reg.timSnaptStat 16 4 c).mbxRefused m c else x.mbxOk m [x.rd Reg.timSnaptStat]) })

/-! ### Calendar (R81, R82) -/

/-- CAL_START: a start refused writes nothing but REF and its code. -/
def calStartCmd (d : Dev) : Dev :=
  d.mbxRun 0x0401 (fun m =>
    let w := d.mbxArg m 0
    let ctl := BitVec.ofNat 64 (1 + fld 1 1 (getF w 2 1) + fld 2 2 (getF w 0 2))
    { len := 24, blks := [2]
      bad := firstBad [(0, onlyBits [(0, 2), (2, 1)] w), (1, imgOk Reg.calStartSec 0 (d.mbxArg m 1)), (2, imgOk Reg.calStartNs 0 (d.mbxArg m 2))]
      run := d.mbxSet m [(1, Reg.calStartSec, d.mbxArg m 1), (2, Reg.calStartNs, d.mbxArg m 2), (0, Reg.calCtl, ctl)] (fun x =>
        if x.gf Reg.calCtl 0 4 = ctl.toNat then x.mbxOk m []
        else (let c := x.gf Reg.calStat 4 4; (d.calRef c).mbxRefused m c)) })

/-- CAL_STOP: CYCNUM of Bs, or bit 63 where a start still SCHEDULED was cancelled. -/
def calStopCmd (d : Dev) : Dev :=
  d.mbxRun 0x0402 (fun m =>
    { len := 0, blks := [2]
      run := d.mbxAt m 0 Reg.calCtl (fun x =>
        if x.gb Reg.calCtl 0 = false then x.mbxRefused m 4
        else
          let bs := x.boundaryFrom (x.now + 1000 * nsU)
          let y := x.wrCalCtl (setB (x.rd Reg.calCtl) 0 false)
          y.mbxOk m [match y.cal.stopAt, bs with
            | some _, some (_, n) => BitVec.ofNat 64 (fld 0 48 n)
            | _, _ => BitVec.ofNat 64 (2 ^ 63)]) })

/-- CAL_PORT. -/
def calPortCmd (d : Dev) : Dev := d.mbxPortImages 0x0403 2 (fun p => [(Reg.calPortCfg p, 0)])

/-- CAL_STATUS. -/
def calStatus (d : Dev) : Dev :=
  d.mbxRun 0x0404 (fun m =>
    { len := 0, run := d.mbxShow m (Reg.calStat :: (List.range 4).map Reg.calBankStat ++ (List.range 4).map Reg.calGen) })

/-! ### Preemption -/

/-- The class codes a map may hold (R127). -/
def classMapOk (p : Nat) (v : Word) : Bool :=
  (List.range 8).all (fun i => getF v (2 * i) 2 != 3 && (decide (32 ≤ p) || getF v (2 * i) 2 != 2))

/-- PRE_PORT. -/
def prePort (d : Dev) : Dev :=
  d.mbxRun 0x0501 (fun m =>
    let p := getF (d.mbxArg m 0) 0 6
    { len := 24, blks := [3]
      bad := firstBad [(0, portArg (d.mbxArg m 0)), (1, imgOk (Reg.prePortCfg p) goBit (d.mbxArg m 1)),
        (2, imgOk (Reg.preClassMap p) 0 (d.mbxArg m 2) && classMapOk p (d.mbxArg m 2))]
      run := d.mbxSet m [(1, Reg.prePortCfg p, d.mbxArg m 1), (2, Reg.preClassMap p, d.mbxArg m 2)] (fun x => x.mbxOk m []) })

/-! ### Streams (R135, R158, R161) -/

/-- BAR4 offset of word `k` of a stream record. -/
def recOff (s k : Nat) : Nat := 0x2000000 + s * 0x40 + k * 8

/-- Record words written in order by the Joiner: word `k` is word `k + 1` of the request, `arg`. -/
def Dev.mbxRecs (d : Dev) (m s : Nat) (arg : Nat → Word) : List Nat → Dev
  | [] => d.mbxOk m []
  | k :: t =>
    d.mbxTable m (k + 1) (recOff s k) (halfIsland (halfOf s)) true (fun x =>
      if x.recLocked s k then x.strWrRef.mbxRefused m 1 else Dev.mbxRecs (x.writeRec s k (arg (k + 1))) m s arg t)

/-- The reserved bits of record words 0 to 2 (`w`) are 0, by the TYPE they carry (Tables STR-1, STR-2): word `k`. -/
def recArgOk (w0 : Word) (k : Nat) (v : Word) : Bool :=
  match getF w0 0 2, k with
  | 1, 0 => !(getB v 9)
  | 1, 1 => getF v 50 14 == 0
  | 1, _ => getF v 36 28 == 0
  | 2, 0 => getF v 20 44 == 0
  | _, _ => true

/-- STREAM_WRITE: words 1 and 2, then word 0. -/
def streamWrite (d : Dev) : Dev :=
  d.mbxRun 0x0601 (fun m =>
    { len := 32, blks := [4]
      bad := firstBad ((0, onlyBits [(0, 18)] (d.mbxArg m 0)) :: [0, 1, 2].map (fun k => (k + 1, recArgOk (d.mbxArg m 1) k (d.mbxArg m (k + 1)))))
      run := d.mbxRecs m (getF (d.mbxArg m 0) 0 18) (d.mbxArg m) [1, 2, 0] })

/-- The words of a record as they read. -/
def Dev.recWordsShown (d : Dev) (s : Nat) : List Nat → List Word × Dev
  | [] => ([], d)
  | k :: t =>
    let v := d.recShow s k
    let r := Dev.recWordsShown v.2 s t
    (v.1 :: r.1, r.2)

/-- STREAM_READ. -/
def streamRead (d : Dev) : Dev :=
  d.mbxRun 0x0602 (fun m =>
    let s := getF (d.mbxArg m 0) 0 18
    { len := 8, bad := firstBad [(0, onlyBits [(0, 18)] (d.mbxArg m 0))]
      run := d.mbxTable m 0 (recOff s 0) (halfIsland (halfOf s)) false (fun x =>
        let r := x.recWordsShown s [0, 1, 2, 3, 4, 5, 6, 7]
        r.2.mbxOk m r.1) })

/-- STREAM_CMD: the Joiner gives GO. -/
def streamCmd (d : Dev) : Dev :=
  d.mbxRun 0x0603 (fun m =>
    let v := d.mbxArg m 0
    { len := 8, blks := [4], bad := firstBad [(0, imgOk Reg.strCmd 0 v)]
      run := d.mbxAt m 0 Reg.strCmd (fun x =>
        if x.recOk (getF v 0 18) ∧ x.strFenced (getF v 0 18) = false then (x.wrStrCmd (setB v 63 true)).mbxOk m [] else (x.sb Reg.strStat 3 true).mbxRefused m 1) })

/-- STREAM_COUNTERS: the eight counters, cleared where CLEAR = 1; while their store cannot be reached the command is not taken. -/
def streamCounters (d : Dev) : Dev :=
  d.mbxRun 0x0604 (fun m =>
    let w := d.mbxArg m 0
    let s := getF w 0 18
    { len := 8, bad := firstBad [(0, onlyBits [(0, 18), (32, 1)] w)]
      run := if d.gb Reg.strStat (halfOf s) ∨ d.gb Reg.strStat 4 ∨ d.hbmOk = false then d.mbxSt m 6
        else
          let vals := d.ldWs (cntAddr s 0) 8
          (if getB w 32 then d.stWs (cntAddr s 0) (List.replicate 8 0) else d).mbxOk m vals })

/-- STREAM_PORT. -/
def streamPort (d : Dev) : Dev := d.mbxPortImages 0x0605 4 (fun p => [(Reg.strPortCfg p, 0)])

/-! ### Ring (R197, R200, R201, R208) -/

/-- HALT and RESTART forced to 0 (Table MBX-5). -/
def ringCtlForced (v : Word) : Word := setF v 62 2 0

/-- One of the five images of RING_ATTACH would be ignored in the state before the command (R168, R208). -/
def Dev.attachBad (d : Dev) (a : Nat) (ctl cyc be fed : Word) : Bool :=
  let held := fun (w : Word) => (getF w 3 1, getF w 4 6, getF w 12 4)
  let rc := Reg.rngCycCfg a
  (d.rngSt a != 0 && held ctl != held (d.rd (Reg.rngCtl a)))
  || (d.rngSt a != 0 && (getF cyc 0 30 != d.gf rc 0 30 || getF cyc 32 30 != d.gf rc 32 30))
  || decide (getF cyc 0 30 < 2 * getF cyc 32 30)
  || decide (getF be 0 30 < getF cyc 32 30 ∨ getF be 32 30 ≤ getF be 0 30 ∨ getF cyc 0 30 < getF be 32 30)
  || (getB fed 4 && d.mainAtt == d.memOf a)

/-- RING_ATTACH. -/
def ringAttach (d : Dev) : Dev :=
  d.mbxRun 0x0701 (fun m =>
    let w := d.mbxArg m
    let a := getF (w 0) 0 1
    let ctl := ringCtlForced (w 1)
    { len := 48, blks := [5]
      bad := firstBad [(0, onlyBits [(0, 1)] (w 0)), (1, imgOk (Reg.rngCtl a) 0 ctl), (2, imgOk (Reg.rngCycCfg a) 0 (w 2)),
        (3, imgOk (Reg.rngBeCfg a) 0 (w 3)), (4, imgOk (Reg.rngTiming a) 0 (w 4) && decide (getF (w 4) 16 16 ≤ getF (w 4) 0 16)),
        (5, imgOk (Reg.rngFedCfg a) 0 (w 5))]
      run := d.mbxAt m 1 (Reg.rngCtl a) (fun x =>
        if x.attachBad a ctl (w 2) (w 3) (w 5) then (x.cfgErr (Reg.rngCtl a)).mbxRefused m 1
        else x.mbxSet m [(2, Reg.rngCycCfg a, w 2), (3, Reg.rngBeCfg a, w 3), (4, Reg.rngTiming a, w 4), (5, Reg.rngFedCfg a, w 5),
          (1, Reg.rngCtl a, ctl)] (fun y => y.mbxOk m [])) })

/-- RING_STATUS. -/
def ringStatus (d : Dev) : Dev :=
  d.mbxRun 0x0702 (fun m =>
    let a := getF (d.mbxArg m 0) 0 1
    { len := 8, bad := firstBad [(0, onlyBits [(0, 1)] (d.mbxArg m 0))]
      run := d.mbxShow m [Reg.rngStat a, Reg.rngMembers a, Reg.rngCorr a, Reg.rngMsStat] })

/-- RING_SWITCH: proposed; a proposal refused at once answers at once, else the command waits for the decision. -/
def ringSwitch (d : Dev) : Dev :=
  d.mbxRun 0x0703 (fun m =>
    let w := d.mbxArg m 0
    { len := 8, blks := [5], bad := firstBad [(0, onlyBits [(0, 2)] w)]
      run := d.mbxSet m [(0, Reg.rngMsCtl, setB w 63 true)] (fun x =>
        let r := x.gf Reg.rngMsStat 4 4
        if r ≠ 0 then x.mbxRefused m r else x.mbxWait m (x.tim.up + 5 * x.ringC x.mainAtt + msU)) })

/-- RING_BARRIER: arrival, and a wait of WAIT_MS at most. -/
def ringBarrier (d : Dev) : Dev :=
  d.mbxRun 0x0704 (fun m =>
    let w := d.mbxArg m 0
    { len := 8, blks := [5], bad := firstBad [(0, onlyBits [(0, 16), (32, 16)] w && decide (1 ≤ getF w 32 16))]
      run := d.mbxSet m [(0, Reg.rngBarCtl, BitVec.ofNat 64 (fld 0 16 (getF w 0 16) + goBit))] (fun x =>
        x.mbxWait m (x.tim.up + getF w 32 16 * msU)) })

/-- RING_BCAST: the payload is written and the broadcast asked for; the command waits until it has left. -/
def ringBcast (d : Dev) : Dev :=
  d.mbxRun 0x0705 (fun m =>
    let w := d.mbxArg m 0
    let n := getF w 8 7
    let a := getF w 0 1
    { len := 72, blks := [5], bad := firstBad [(0, onlyBits [(0, 1), (8, 7)] w && decide (1 ≤ n ∧ n ≤ 64))]
      run := if d.gb Reg.rngBcStat 5 then d.mbxSt m 6
        else d.mbxSet m ((List.range 8).map (fun k => (k + 1, Reg.rngBcTx k, d.mbxArg m (k + 1)))
          ++ [(0, Reg.rngBcCtl, BitVec.ofNat 64 (fld 0 7 n + fld 8 1 a + goBit))])
          (fun x => x.mbxWait m (x.tim.up + 3 * x.ringC a)) })

/-! ### Solver (Table SOL-7) -/

/-- A request passed as words 0 to 7, its file at `addr`: code 0, 1 or 2 (R218, Table SOL-3). -/
def Dev.mbxSolve (d : Dev) (m addr len : Nat) (ok : SolReq → Bool) : Dev :=
  let q : SolReq := { words := (List.range 8).map (d.mbxArg m), fileAddr := addr, fileLen := len }
  let x := q.words.zipIdx.foldl (fun (y : Dev) e => y.wr (Reg.solReq e.2) e.1) d
  let code := fun (y : Dev) (c : Nat) => y.mbxOk m [BitVec.ofNat 64 c]
  if 16 ≤ x.sol.queue.length then code (x.inc Reg.solRefuseCnt) 1
  else if q.formatOk && ok q then code (x.solQueue q.words addr len).2 0
  else code (x.inc Reg.solRefuseCnt) 2

/-- SOLVE_SUBMIT. -/
def solveSubmit (d : Dev) : Dev :=
  d.mbxRun 0x0801 (fun m =>
    { len := 64, blks := [6], run := d.mbxSolve m (d.gf Reg.solFileAddr 0 35) (d.gf Reg.solFileLen 0 32) (fun _ => true) })

/-- SOLVE_FULL: a FULL request and its file. -/
def solveFull (d : Dev) : Dev :=
  d.mbxRun 0x0802 (fun m =>
    let a := d.mbxArg m 8
    let n := d.mbxArg m 9
    { len := 80, blks := [6]
      bad := firstBad [(8, imgOk Reg.solFileAddr 0 a && decide (getF a 0 35 % 64 = 0 ∧ 0x40000000 ≤ getF a 0 35 ∧ getF a 0 35 < 0x80000000)),
        (9, imgOk Reg.solFileLen 0 n)]
      run := ((d.wr Reg.solFileAddr a).wr Reg.solFileLen n).mbxSolve m (getF a 0 35) (getF n 0 32) (fun q => q.op == 3) })

/-- SOLVE_RESULT: the head result is returned and removed (R231). -/
def solveResult (d : Dev) : Dev :=
  d.mbxRun 0x0803 (fun m =>
    { len := 0, blks := [6]
      run := match d.sol.results with
        | [] => d.mbxSt m 9
        | (x, y) :: _ => d.solPop.mbxOk m [x, y] })

/-- SOLVE_ACTIVATE (R227). -/
def solveActivate (d : Dev) : Dev :=
  d.mbxRun 0x0804 (fun m => { len := 0, blks := [6], run := (let x := d.solActivate; x.mbxOk m [x.rd Reg.solActStat]) })

/-- SOLVE_ABORT (R229). -/
def solveAbort (d : Dev) : Dev := d.mbxRun 0x0805 (fun m => { len := 0, blks := [6], run := d.solAbort.mbxOk m [] })

/-- SOLVE_STATUS. -/
def solveStatus (d : Dev) : Dev := d.mbxRun 0x0806 (fun m => { len := 0, run := d.mbxShow m [Reg.solStat, Reg.solResStat] })

/-! ### Meanings -/

/-- Meaning of TIME_SOURCE. -/
def execTimeSource (s : State) : Host.Outcome State Fault Refusal := onDev timeSource s

/-- Meaning of PTP_INSTANCE. -/
def execPtpInstance (s : State) : Host.Outcome State Fault Refusal := onDev ptpInstance s

/-- Meaning of PTP_PORT. -/
def execPtpPort (s : State) : Host.Outcome State Fault Refusal := onDev ptpPortCmd s

/-- Meaning of PTP_STATUS. -/
def execPtpStatus (s : State) : Host.Outcome State Fault Refusal := onDev ptpStatus s

/-- Meaning of TIME_PINS. -/
def execTimePins (s : State) : Host.Outcome State Fault Refusal := onDev timePins s

/-- Meaning of TIME_ADJUST. -/
def execTimeAdjust (s : State) : Host.Outcome State Fault Refusal := onDev timeAdjust s

/-- Meaning of TIME_SET. -/
def execTimeSet (s : State) : Host.Outcome State Fault Refusal := onDev timeSet s

/-- Meaning of SNAPSHOT_ARM. -/
def execSnapshotArm (s : State) : Host.Outcome State Fault Refusal := onDev snapshotArm s

/-- Meaning of CAL_START. -/
def execCalStart (s : State) : Host.Outcome State Fault Refusal := onDev calStartCmd s

/-- Meaning of CAL_STOP. -/
def execCalStop (s : State) : Host.Outcome State Fault Refusal := onDev calStopCmd s

/-- Meaning of CAL_PORT. -/
def execCalPort (s : State) : Host.Outcome State Fault Refusal := onDev calPortCmd s

/-- Meaning of CAL_STATUS. -/
def execCalStatus (s : State) : Host.Outcome State Fault Refusal := onDev calStatus s

/-- Meaning of PRE_PORT. -/
def execPrePort (s : State) : Host.Outcome State Fault Refusal := onDev prePort s

/-- Meaning of STREAM_WRITE. -/
def execStreamWrite (s : State) : Host.Outcome State Fault Refusal := onDev streamWrite s

/-- Meaning of STREAM_READ. -/
def execStreamRead (s : State) : Host.Outcome State Fault Refusal := onDev streamRead s

/-- Meaning of STREAM_CMD. -/
def execStreamCmd (s : State) : Host.Outcome State Fault Refusal := onDev streamCmd s

/-- Meaning of STREAM_COUNTERS. -/
def execStreamCounters (s : State) : Host.Outcome State Fault Refusal := onDev streamCounters s

/-- Meaning of STREAM_PORT. -/
def execStreamPort (s : State) : Host.Outcome State Fault Refusal := onDev streamPort s

/-- Meaning of RING_ATTACH. -/
def execRingAttach (s : State) : Host.Outcome State Fault Refusal := onDev ringAttach s

/-- Meaning of RING_STATUS. -/
def execRingStatus (s : State) : Host.Outcome State Fault Refusal := onDev ringStatus s

/-- Meaning of RING_SWITCH. -/
def execRingSwitch (s : State) : Host.Outcome State Fault Refusal := onDev ringSwitch s

/-- Meaning of RING_BARRIER. -/
def execRingBarrier (s : State) : Host.Outcome State Fault Refusal := onDev ringBarrier s

/-- Meaning of RING_BCAST. -/
def execRingBcast (s : State) : Host.Outcome State Fault Refusal := onDev ringBcast s

/-- Meaning of SOLVE_SUBMIT. -/
def execSolveSubmit (s : State) : Host.Outcome State Fault Refusal := onDev solveSubmit s

/-- Meaning of SOLVE_FULL. -/
def execSolveFull (s : State) : Host.Outcome State Fault Refusal := onDev solveFull s

/-- Meaning of SOLVE_RESULT. -/
def execSolveResult (s : State) : Host.Outcome State Fault Refusal := onDev solveResult s

/-- Meaning of SOLVE_ACTIVATE. -/
def execSolveActivate (s : State) : Host.Outcome State Fault Refusal := onDev solveActivate s

/-- Meaning of SOLVE_ABORT. -/
def execSolveAbort (s : State) : Host.Outcome State Fault Refusal := onDev solveAbort s

/-- Meaning of SOLVE_STATUS. -/
def execSolveStatus (s : State) : Host.Outcome State Fault Refusal := onDev solveStatus s

end Sys2Proof.Machine
end

