-- ==== Sys2Proof/Machine/MbxDevice.lean ====
section
/-! DEFINITION. Chapter 12: mailbox commands of the device itself: information, mailboxes, firmware (R375, R376), expert unlocks and test mode
(R382–R386), host link, Bench (R406), faults and power. -/

namespace Sys2Proof.Machine

/-! ### Information, mailboxes, reset -/

/-- The owner of mailbox `m` is PF0. -/
def Dev.mbxPf0 (d : Dev) (m : Nat) : Bool := d.mbxOwner m == 0

/-- GET_INFO, word 0: the header of the running image; without one its values are open. -/
def Dev.infoWord (d : Dev) : Word × Dev :=
  let s := d.gf Reg.mbxFwStat 2 1
  if d.fwState = 1 then (BitVec.ofNat 64 (getF (Config.freeWord d.free) 0 39 + fld 40 1 s), d.useFree)
  else (BitVec.ofNat 64 (fld 0 32 (d.gf Reg.mbxFwStat 32 32) + fld 32 7 (d.imgSvn s) + fld 40 1 s), d)

/-- GET_INFO. -/
def getInfo (d : Dev) : Dev :=
  d.mbxRun 0x0001 (fun m => { len := 0, hold := true, run := (let w := d.infoWord; w.2.mbxOk m [w.1, w.2.rd Reg.glbId]) })

/-- GET_STATUS. -/
def getStatus (d : Dev) : Dev := d.mbxRun 0x0002 (fun m => { len := 0, hold := true, run := d.mbxShow m [Reg.mbxFwStat, Reg.mbxUnlock] })

/-- MBX_ASSIGN (R377): not while the mailbox named is BUSY. -/
def mbxAssign (d : Dev) : Dev :=
  d.mbxRun 0x0003 (fun m =>
    let w := d.mbxArg m 0
    let t := getF w 0 4
    { len := 8, may := d.mbxPf0 m, bad := firstBad [(0, onlyBits [(0, 4), (4, 3)] w && decide (getF w 4 3 ≤ 4))]
      run := if d.mbxBusy t then d.mbxSt m 6 else (d.sf (Reg.mbxStat t) 4 3 (getF w 4 3)).mbxOk m [] })

/-- DEVICE_RESET: the reset starts 1 ms after DONE. -/
def deviceReset (d : Dev) : Dev :=
  d.mbxRun 0x0004 (fun m =>
    { len := 8, may := d.mbxPf0 m, bad := firstBad [(0, d.mbxArg m 0 == 0x7240)]
      run := ({ d with mbx := { d.mbx with resetAt := some (d.tim.up + msU) } }).mbxOk m [] })

/-! ### Firmware (R375, R376) -/

/-- A supply warning is in force (R376). -/
def Dev.frozen (d : Dev) : Bool := d.gb Reg.smonStat 0

/-- The slot not running. -/
def Dev.otherSlot (d : Dev) : Nat := 1 - d.gf Reg.mbxFwStat 2 1

/-- FW_WRITE. -/
def fwWrite (d : Dev) : Dev :=
  d.mbxRun 0x0101 (fun m =>
    let w := d.mbxArg m 0
    let ofs := getF w 0 23
    let len := getF w 32 11
    let s := d.otherSlot
    let d1 := d.flashPut (slotBase s + ofs) (d.ldN (mbxBuf m + 0x48) len)
    { len := 8 + len, may := d.mbxPf0 m, hold := true
      bad := firstBad [(0, onlyBits [(0, 23), (32, 11)] w && ofs % 256 == 0 && len % 256 == 0 && decide (256 ≤ len ∧ len ≤ 1024 ∧ ofs + len ≤ 0x700000))]
      run := if d.frozen then d.mbxSt m 0x0C
        else ({ d1 with mbx := { d1.mbx with verified := if d1.mbx.verified = some s then none else d1.mbx.verified } }).mbxOk m [] })

/-- FW_VERIFY (R373). -/
def fwVerify (d : Dev) : Dev :=
  d.mbxRun 0x0102 (fun m =>
    let s := d.otherSlot
    { len := 0, may := d.mbxPf0 m, hold := true
      run := if d.slotCause s = 0 then
          ({ d with mbx := { d.mbx with verified := some s } }).mbxOk m [BitVec.ofNat 64 (d.imgVersion s + fld 32 7 (d.imgSvn s))]
        else ({ d with mbx := { d.mbx with verified := none } }).mbxSt m 0x0D })

/-- Of two copies with their sequence numbers, none where a copy is not valid: the one with the lower number, a copy that is not valid before
one that is. -/
def olderCopy : Option Nat → Option Nat → Nat
  | some x, some y => if x < y then 0 else 0x1000
  | some _, none => 0x1000
  | none, _ => 0

/-- The boot descriptor copy FW_ACTIVATE writes (R375). -/
def Dev.oldCopy (d : Dev) : Nat := olderCopy (d.bootSeq 0) (d.bootSeq 0x1000)

/-- The octets of a boot descriptor naming slot `s` with sequence number `n` (R372). -/
def descOctets (s n : Nat) : List Byte :=
  let l : List Byte := leBytes 4 s ++ leBytes 4 n ++ List.replicate 4084 0
  l ++ leBytes 4 (crc32 l)

/-- FW_ACTIVATE. -/
def fwActivate (d : Dev) : Dev :=
  d.mbxRun 0x0103 (fun m =>
    let s := d.otherSlot
    let n := match d.bootCopy with | some a => d.flashLe (a + 4) 4 + 1 | none => 1
    { len := 0, may := d.mbxPf0 m, hold := true
      run := if d.frozen then d.mbxSt m 0x0C
        else if d.mbx.verified = some s then (d.flashPut d.oldCopy (descOctets s n)).mbxOk m []
        else d.mbxSt m 0x0D })

/-- FW_RESTART: the restart comes 1 ms after DONE; from now on no request is taken. -/
def fwRestart (d : Dev) : Dev :=
  d.mbxRun 0x0104 (fun m =>
    { len := 0, may := d.mbxPf0 m, hold := true
      run := (({ d with mbx := { d.mbx with restartAt := some (d.tim.up + msU) } }).sf Reg.mbxFwStat 0 2 3).mbxOk m [] })

/-- FW_COMMIT_SVN. -/
def fwCommitSvn (d : Dev) : Dev :=
  d.mbxRun 0x0105 (fun m =>
    let w := d.mbxArg m 0
    let n := getF w 0 7
    { len := 8, may := d.mbxPf0 m
      bad := firstBad [(0, onlyBits [(0, 7)] w && decide (n ≤ 64 ∧ d.mbx.svn ≤ n ∧ n ≤ d.imgSvn (d.gf Reg.mbxFwStat 2 1)))]
      run := if d.frozen then d.mbxSt m 0x0C
        else (({ d with mbx := { d.mbx with svn := n } }).sf Reg.mbxFwStat 3 7 n).mbxOk m [] })

/-! ### Expert unlock (R382–R386) -/

/-- Block `k` is locked out (R384). -/
def Dev.lockedOut (d : Dev) (k : Nat) : Bool := d.gb (Reg.mbxLease k) 30

/-- The token of block `k` (R382). -/
def Dev.token (d : Dev) (k : Nat) : Nat := Sparse.getD d.mbx.tokens k 0

/-- The instant of the GO at the front. -/
def Dev.goTime (d : Dev) : Nat := match d.mbx.go with | (_, t) :: _ => t | [] => d.tim.up

/-- A wrong token (R384): answered no earlier than 100 ms after the GO; the third failure in a row locks the block out for 60 s. -/
def Dev.wrongToken (d : Dev) (m k : Nat) : Dev :=
  let d1 := (d.waitUp (d.goTime + 100 * msU)).inc Reg.mbxUnlockFailCnt
  let n := min 3 (d1.gf (Reg.mbxLease k) 28 2 + 1)
  let d2 := d1.sf (Reg.mbxLease k) 28 2 n
  let d3 : Dev := if n = 3 then
      ({ d2 with mbx := { d2.mbx with lockEnd := Sparse.put d2.mbx.lockEnd k (d2.tim.up + 60 * secU) } }).sb (Reg.mbxLease k) 30 true
    else d2
  d3.mbxSt m 0x0E

/-- EXPERT_UNLOCK (R383): LOCKED_OUT, then EXPERT_HELD, and only then is the token compared. -/
def expertUnlock (d : Dev) : Dev :=
  d.mbxRun 0x0201 (fun m =>
    let w := d.mbxArg m 0
    let k := getF w 0 5
    let lease := getF w 16 16
    let x := d.mbxArg m 1
    let d1 := (((d.sf (Reg.mbxLease k) 0 3 (d.mbxOwner m)).sf (Reg.mbxLease k) 16 12 lease).sf (Reg.mbxLease k) 28 2 0).sb Reg.mbxUnlock k true
    { len := 16
      bad := firstBad [(0, onlyBits [(0, 5), (16, 16)] w && decide (k ≤ 22 ∧ 1 ≤ lease ∧ lease ≤ 3600)), (1, onlyBits [(0, 32)] x)]
      run := if d.lockedOut k then d.mbxSt m 0x0F
        else if d.mbxHeld m k then d.mbxSt m 5
        else if d.token k ≠ 0 ∧ d.token k = x.toNat then
          ({ d1 with mbx := { d1.mbx with leaseEnd := Sparse.put d1.mbx.leaseEnd k (d1.tim.up + lease * secU) } }).mbxOk m [w]
        else d.wrongToken m k })

/-- EXPERT_LOCK (R385): the requester holds every block named. -/
def expertLock (d : Dev) : Dev :=
  d.mbxRun 0x0202 (fun m =>
    let w := d.mbxArg m 0
    let l := (List.range 23).filter (fun k => getB w k)
    { len := 8, may := l.all (d.mbxHolds m), bad := firstBad [(0, onlyBits [(0, 23)] w && w != 0)]
      run := (l.foldl (fun (x : Dev) k => x.relock k) d).mbxOk m [] })

/-- TOKEN_SET (R376, R382). -/
def tokenSet (d : Dev) : Dev :=
  d.mbxRun 0x0203 (fun m =>
    let w := d.mbxArg m 0
    let k := getF w 0 5
    let old := getF (d.mbxArg m 1) 0 32
    let new := getF (d.mbxArg m 1) 32 32
    let d1 := ({ d with mbx := { d.mbx with tokens := Sparse.setD d.mbx.tokens k 0 new } }).sf (Reg.mbxLease k) 28 2 0
    { len := 16, may := d.mbxPf0 m, bad := firstBad [(0, onlyBits [(0, 5)] w && decide (k ≤ 22))]
      run := if d.frozen then d.mbxSt m 0x0C
        else if d.lockedOut k then d.mbxSt m 0x0F
        else if old ≠ d.token k then d.wrongToken m k
        else (if new = 0 then d1.relock k else d1).mbxOk m [] })

/-- TEST_MODE (R386): from the holder of `JIG_`. -/
def testMode (d : Dev) : Dev :=
  d.mbxRun 0x0204 (fun m =>
    let w := d.mbxArg m 0
    { len := 8, may := d.mbxHolds m 17, bad := firstBad [(0, onlyBits [(0, 1)] w)]
      run := (d.sb Reg.mbxUnlock 32 (getB w 0)).jigSync.mbxOk m [] })

/-! ### Host link, Bench -/

/-- HOST_LINK: the D-state of the requester; rate, width and flit mode of the link are open. -/
def hostLink (d : Dev) : Dev :=
  d.mbxRun 0x0B01 (fun m =>
    let x := Config.freeWord d.free
    { len := 0, may := decide (d.mbxOwner m < 4)
      run := d.useFree.mbxOk m [BitVec.ofNat 64 (fld 0 4 (1 + getF x 0 8 % 6) + fld 4 5 (getF x 8 5) + fld 9 1 (getF x 13 1)
        + fld 16 2 (if (d.fn (d.mbxOwner m)).d3 then 3 else 0))] })

/-- Group 0 is the solver's (Table MBX-8): REFUSED, with a code the specification does not state. -/
def Dev.benRefused (d : Dev) (m : Nat) : Dev := d.useFree.mbxRefused m (getF (Config.freeWord d.free) 0 8)

/-- BENCH_LOAD (R406, Table BEN-6): `data` are the octets read from host memory. -/
def benchLoad (data : Option (List Byte)) (d : Dev) : Dev :=
  d.mbxRun 0x0D01 (fun m =>
    let g := getF (d.mbxArg m 0) 0 3
    let len := (d.mbxArg m 2).toNat
    let a := (d.mbxArg m 3).toNat
    { len := 32, may := d.mbxPf0 m, blks := [15]
      bad := firstBad [(0, onlyBits [(0, 3)] (d.mbxArg m 0)), (1, getF (d.mbxArg m 1) 0 3 == 0),
        (2, decide (len % 8 = 0 ∧ 8 ≤ len ∧ len ≤ 268435456)), (3, decide (0x80000000 ≤ a ∧ a + len ≤ 0x600000000))]
      run := match data with
        | none => d.mbxSt m 0x0B
        | some l =>
          if l.length ≠ len then d.mbxSt m 0x0B
          else if g = 0 ∧ d.gb Reg.solCtl 0 then d.benRefused m
          else if d.grp g ≠ 1 ∨ d.hbmOk = false then d.mbxSt m 6
          else
            let d1 := d.stN a l
            (({ d1 with bad := d1.bad.filter (fun b => decide (b + 8 ≤ a ∨ a + len ≤ b)) }).wr (Reg.benEntry g)
              (BitVec.ofNat 64 (a / 4 * 4))).mbxOk m [] })

/-- A command that moves a group from one of the states `from_` to `to_`. -/
def Dev.benchMove (d : Dev) (opc : Nat) (from_ : List Nat) (to_ : Nat) : Dev :=
  d.mbxRun opc (fun m =>
    let g := getF (d.mbxArg m 0) 0 3
    { len := 8, may := d.mbxPf0 m, blks := [15], bad := firstBad [(0, onlyBits [(0, 3)] (d.mbxArg m 0))]
      run := if g = 0 ∧ d.gb Reg.solCtl 0 then d.benRefused m
        else if from_.contains (d.grp g) then (d.setGrp g to_).mbxOk m []
        else d.mbxSt m 6 })

/-- BENCH_START. -/
def benchStart (d : Dev) : Dev := d.benchMove 0x0D02 [1] 2

/-- BENCH_STOP. -/
def benchStop (d : Dev) : Dev := d.benchMove 0x0D03 [2, 4] 1

/-- BENCH_STATUS. -/
def benchStatus (d : Dev) : Dev :=
  d.mbxRun 0x0D04 (fun m =>
    let w := d.mbxArg m 0
    { len := 8, may := d.mbxPf0 m, bad := firstBad [(0, onlyBits [(0, 3)] w)]
      run := d.mbxShow m [Reg.benGrpStat (getF w 0 3)] })

/-! ### Faults and power -/

/-- FLT_SEVERITY (R412): a class other than a fixed one is refused; an island kind names the entry its other islands share. -/
def fltSeverity (d : Dev) : Dev :=
  d.mbxRun 0x0E01 (fun m =>
    let w := d.mbxArg m 0
    let b := srcBlock (getF w 0 12)
    let kind := getF w 12 8
    let a := Reg.fltSev b.1 (kind / 16)
    { len := 8, blks := [16], bad := firstBad [(0, onlyBits [(0, 12), (12, 8), (20, 4)] w && decide (getF w 20 4 ≤ 3))]
      run := match fixedClass b.1 b.2 kind with
        | some c => if c = getF w 20 4 then d.mbxOk m [] else d.mbxRefused m 1
        | none => d.mbxSet m [(0, a, setF (d.rd a) (4 * (kind % 16)) 4 (getF w 20 4))] (fun x => x.mbxOk m []) })

/-- The first messages of the queue are taken off it. -/
def State.fqTake (s : State) (n : Nat) : State := ({ s with fq := s.fq.drop n }).fqSync

/-- FLT_READ (R421): up to MAX messages, oldest first, are returned and removed. -/
def fltRead (s : State) : State :=
  match s.dev.mbxFront 0x0E02 with
  | none => s
  | some m =>
    let w := s.dev.mbxArg m 0
    let n := min (getF w 0 8) s.fq.length
    let ok := onlyBits [(0, 8)] w && decide (1 ≤ getF w 0 8 ∧ getF w 0 8 ≤ 240)
    match s.dev.mbxJudge m { len := 8, bad := firstBad [(0, ok)], run := s.dev } with
    | some r => { s with dev := s.dev.mbxDone m r }
    | none =>
      let t := s.fqTake n
      { t with dev := t.dev.mbxOk m (BitVec.ofNat 64 n :: (s.fq.take n).map (fun e => e.1)) }

/-- PWR_STATE (R431). -/
def pwrStateCmd (d : Dev) : Dev :=
  d.mbxRun 0x0F01 (fun m =>
    let w := d.mbxArg m 0
    let t := getF w 0 2
    { len := 8, may := d.mbxPf0 m, blks := [18], bad := firstBad [(0, onlyBits [(0, 2)] w && decide (t ≤ 2))]
      run := match d.pwrRefuse t with
        | 0 => (d.wrPwrCtl (setB w 63 true)).mbxOk m []
        | c => (d.pwrRef c).mbxRefused m c })

/-- PWR_STATUS. -/
def pwrStatus (d : Dev) : Dev :=
  d.mbxRun 0x0F02 (fun m =>
    { len := 0
      run := if d.unreachable Reg.smonStat then (d.accFail .joiner false false Reg.smonStat 2 47).mbxAcc m 0
        else d.mbxOk m [BitVec.ofNat 64 (fld 0 2 (d.gf Reg.pwrStat 0 2) + fld 16 16 (d.gf Reg.smonStat 16 16) + fld 32 16 (d.gf Reg.smonStat 32 16))] })

/-! ### Meanings -/

/-- Meaning of GET_INFO. -/
def execGetInfo (s : State) : Host.Outcome State Fault Refusal := onDev getInfo s

/-- Meaning of GET_STATUS. -/
def execGetStatus (s : State) : Host.Outcome State Fault Refusal := onDev getStatus s

/-- Meaning of MBX_ASSIGN. -/
def execMbxAssign (s : State) : Host.Outcome State Fault Refusal := onDev mbxAssign s

/-- Meaning of DEVICE_RESET. -/
def execDeviceReset (s : State) : Host.Outcome State Fault Refusal := onDev deviceReset s

/-- Meaning of FW_WRITE. -/
def execFwWrite (s : State) : Host.Outcome State Fault Refusal := onDev fwWrite s

/-- Meaning of FW_VERIFY. -/
def execFwVerify (s : State) : Host.Outcome State Fault Refusal := onDev fwVerify s

/-- Meaning of FW_ACTIVATE. -/
def execFwActivate (s : State) : Host.Outcome State Fault Refusal := onDev fwActivate s

/-- Meaning of FW_RESTART. -/
def execFwRestart (s : State) : Host.Outcome State Fault Refusal := onDev fwRestart s

/-- Meaning of FW_COMMIT_SVN. -/
def execFwCommitSvn (s : State) : Host.Outcome State Fault Refusal := onDev fwCommitSvn s

/-- Meaning of EXPERT_UNLOCK. -/
def execExpertUnlock (s : State) : Host.Outcome State Fault Refusal := onDev expertUnlock s

/-- Meaning of EXPERT_LOCK. -/
def execExpertLock (s : State) : Host.Outcome State Fault Refusal := onDev expertLock s

/-- Meaning of TOKEN_SET. -/
def execTokenSet (s : State) : Host.Outcome State Fault Refusal := onDev tokenSet s

/-- Meaning of TEST_MODE. -/
def execTestMode (s : State) : Host.Outcome State Fault Refusal := onDev testMode s

/-- Meaning of HOST_LINK. -/
def execHostLink (s : State) : Host.Outcome State Fault Refusal := onDev hostLink s

/-- Meaning of BENCH_LOAD. -/
def execBenchLoad (data : Option (List Byte)) (s : State) : Host.Outcome State Fault Refusal := onDev (benchLoad data) s

/-- Meaning of BENCH_START. -/
def execBenchStart (s : State) : Host.Outcome State Fault Refusal := onDev benchStart s

/-- Meaning of BENCH_STOP. -/
def execBenchStop (s : State) : Host.Outcome State Fault Refusal := onDev benchStop s

/-- Meaning of BENCH_STATUS. -/
def execBenchStatus (s : State) : Host.Outcome State Fault Refusal := onDev benchStatus s

/-- Meaning of FLT_SEVERITY. -/
def execFltSeverity (s : State) : Host.Outcome State Fault Refusal := onDev fltSeverity s

/-- Meaning of FLT_READ. -/
def execFltRead (s : State) : Host.Outcome State Fault Refusal := .next (fltRead s)

/-- Meaning of PWR_STATE. -/
def execPwrState (s : State) : Host.Outcome State Fault Refusal := onDev pwrStateCmd s

/-- Meaning of PWR_STATUS. -/
def execPwrStatus (s : State) : Host.Outcome State Fault Refusal := onDev pwrStatus s

end Sys2Proof.Machine
end

