-- ==== Sys2Proof/Machine/MbxPorts.lean ====
section
/-! DEFINITION. Chapter 12, Table MBX-8: mailbox commands of the ports, the forwarding tables, the Try-square and the DMA channels. -/

namespace Sys2Proof.Machine

/-! ### Ports (R235, R240, R244, R252, R262, R265, R267) -/

/-- The lane mode and FEC code of an image of PORT_MODE; those of ring ports are fixed (R242). -/
def modeArg (p : Nat) (v : Word) : Nat := if p < 32 then getF v 0 3 else 6

/-- PORT_MODE: a mode write refused for a MAC that is enabled writes nothing but REF. -/
def portMode (d : Dev) : Dev :=
  d.mbxRun 0x0901 (fun m =>
    let w := d.mbxArg m
    let p := getF (w 0) 0 6
    let mode := modeArg p (w 1)
    let fec := if p < 32 then getF (w 2) 0 2 else 3
    let ports := if mode = 6 ∧ p < 32 then [p, p + 1, p + 2, p + 3] else [p]
    { len := 24, blks := [7, 8]
      bad := firstBad [(0, portArg (w 0)),
        (1, imgOk (Reg.sdsMode p) goBit (setF (w 1) 0 3 mode) && mode != 7 && (mode != 6 || decide (32 ≤ p ∨ p % 4 = 0))),
        (2, imgOk (Reg.pcsCfg p) 0 (w 2) && fecOk mode fec)]
      run := d.mbxAt m 1 (Reg.sdsMode p) (fun x =>
        if p < 32 ∧ x.mergedAway p = false ∧ (getB (w 1) 63 && mode == x.laneMode p) = false ∧ ports.all x.macOff = false then
          (x.sb (Reg.pcsStat p) 14 true).mbxRefused m 1
        else x.mbxSet m [(1, Reg.sdsMode p, w 1), (2, Reg.pcsCfg p, w 2)] (fun y => y.mbxOk m [])) })

/-- PORT_MAC: ring ports have no MAX_LEN (R242). -/
def portMac (d : Dev) : Dev :=
  d.mbxRun 0x0902 (fun m =>
    let w := d.mbxArg m
    let p := getF (w 0) 0 6
    { len := 32, blks := [9]
      bad := firstBad [(0, portArg (w 0)), (1, imgOk (Reg.macCfg p) 0 (if p < 32 then w 1 else setF (w 1) 16 14 1522)),
        (2, imgOk (Reg.macVlanCfg p) 0 (w 2)),
        (3, imgOk (Reg.macRxBuf p) 0 (w 3) && decide (getF (w 3) 32 16 < getF (w 3) 16 16 ∧ getF (w 3) 16 16 ≤ getF (w 3) 0 16))]
      run := d.mbxSet m [(1, Reg.macCfg p, w 1), (2, Reg.macVlanCfg p, w 2), (3, Reg.macRxBuf p, w 3)] (fun x => x.mbxOk m []) })

/-- PORT_FILTER: an address of the other kind with VALID = 1 is ignored by the block, which sets CFG_ERR (R252). -/
def portFilter (d : Dev) : Dev :=
  d.mbxRun 0x0903 (fun m =>
    let w := d.mbxArg m 0
    let v := d.mbxArg m 1
    let p := getF w 0 6
    let a := if getB w 8 then Reg.macMcAddr p (getF w 9 3) else Reg.macUcAddr p (getF w 9 3)
    { len := 16, blks := [9]
      bad := firstBad [(0, onlyBits [(0, 6), (8, 1), (9, 3)] w && decide (p < 36)),
        (1, imgOk a 0 v)]
      run := d.mbxSet m [(1, a, v)] (fun x => x.mbxOk m []) })

/-- PORT_PAUSE: EXP is forced to 0 (R259, Table MBX-5). -/
def portPause (d : Dev) : Dev :=
  d.mbxRun 0x0904 (fun m =>
    let p := getF (d.mbxArg m 0) 0 6
    let v := setB (d.mbxArg m 1) 2 false
    { len := 16, blks := [9], bad := firstBad [(0, portArg (d.mbxArg m 0)), (1, imgOk (Reg.macPauseCfg p) 0 v)]
      run := d.mbxSet m [(1, Reg.macPauseCfg p, v)] (fun x => x.mbxOk m []) })

/-- PORT_EEE: the register as it is stored (R262). -/
def portEee (d : Dev) : Dev :=
  d.mbxRun 0x0905 (fun m =>
    let p := getF (d.mbxArg m 0) 0 6
    { len := 16, blks := [9], bad := firstBad [(0, portArg (d.mbxArg m 0)), (1, imgOk (Reg.macEeeCfg p) 0 (d.mbxArg m 1))]
      run := d.mbxSetShow m [(1, Reg.macEeeCfg p, d.mbxArg m 1)] [Reg.macEeeCfg p] })

/-- PORT_SHIM: the shim as it is stored, with CLAMPED (R244). -/
def portShim (d : Dev) : Dev :=
  d.mbxRun 0x0906 (fun m =>
    let w := d.mbxArg m 0
    let a := Reg.sdsEqShim (getF w 0 6) (getF w 8 2)
    { len := 16, blks := [7], bad := firstBad [(0, onlyBits [(0, 6), (8, 2)] w && decide (getF w 0 6 < 36)), (1, imgOk a 0 (d.mbxArg m 1))]
      run := d.mbxSetShow m [(1, a, d.mbxArg m 1)] [a] })

/-- PORT_STATUS. -/
def portStatus (d : Dev) : Dev :=
  d.mbxRun 0x0907 (fun m =>
    let p := getF (d.mbxArg m 0) 0 6
    { len := 8, bad := firstBad [(0, portArg (d.mbxArg m 0))]
      run := d.mbxShow m [Reg.pcsStat p, Reg.macStat p, Reg.sdsLaneStat p, Reg.prePortStat p] })

/-- MDIO_XFER: the Joiner gives GO and waits for the frame, 1 ms at most. -/
def mdioXfer (d : Dev) : Dev :=
  d.mbxRun 0x0908 (fun m =>
    let b := getF (d.mbxArg m 0) 0 2
    let v := d.mbxArg m 1
    { len := 16, blks := [9]
      bad := firstBad [(0, onlyBits [(0, 2)] (d.mbxArg m 0)),
        (1, imgOk (Reg.macMdioCmd b) 0 v && (getB v 28 || getF v 26 2 == 1 || getF v 26 2 == 2))]
      run := if d.gb (Reg.macMdioStat b) 16 then d.mbxSt m 6
        else d.mbxSet m [(1, Reg.macMdioCmd b, setB v 63 true)] (fun x => x.mbxWait m (x.tim.up + msU)) })

/-- SMB_XFER: rate, PEC, data and command are written and the transaction awaited, 100 ms at most. -/
def smbXfer (d : Dev) : Dev :=
  d.mbxRun 0x0909 (fun m =>
    let w := d.mbxArg m 0
    let c := getF w 0 1
    let v := d.mbxArg m 1
    let cfg := BitVec.ofNat 64 (fld 0 1 (getF w 8 1) + fld 1 1 (getF w 9 1))
    { len := 48, blks := [9]
      bad := firstBad [(0, onlyBits [(0, 1), (8, 1), (9, 1)] w), (1, imgOk (Reg.macSmbCmd c) 0 v && getF v 22 2 != 3)]
      run := if d.gb (Reg.macSmbStat c) 0 then d.mbxSt m 6
        else d.mbxSet m ((0, Reg.macSmbCfg c, cfg) :: (List.range 4).map (fun k => (k + 2, Reg.macSmbData c k, d.mbxArg m (k + 2)))
          ++ [(1, Reg.macSmbCmd c, setB v 63 true)]) (fun x => x.mbxWait m (x.tim.up + 100 * msU)) })

/-! ### Forwarding tables (R284, R290, R291) -/

/-- A table command given by mailbox: DELETE of a key without a main-table entry changes nothing (R291). -/
def Dev.tblMbx (d : Dev) (op : Nat) : Dev :=
  let r := (d.sf Reg.fwdTblCmd 0 3 op).tblRun op true
  r.2.tblDone r.1.1 r.1.2

/-- FDB_CMD: a command with a RESULT other than 0 is refused and leaves nothing behind. -/
def fdbCmd (d : Dev) : Dev :=
  d.mbxRun 0x0A01 (fun m =>
    let w := d.mbxArg m
    { len := 24, blks := [10]
      bad := firstBad [(0, onlyBits [(0, 3)] (w 0) && decide (1 ≤ getF (w 0) 0 3 ∧ getF (w 0) 0 3 ≤ 4)), (1, imgOk Reg.fwdTblKey 0 (w 1))]
      run := if d.tblSync.fwd.tbl.isSome then d.mbxSt m 6 else d.tblSync.mbxSet m [(1, Reg.fwdTblKey, w 1), (2, Reg.fwdTblData, w 2)] (fun x =>
        let y := x.tblMbx (getF (w 0) 0 3)
        let r := y.gf Reg.fwdTblStat 4 3
        if r = 0 then y.mbxOk m [y.rd Reg.fwdTblStat, y.rd Reg.fwdTblData] else d.mbxRefused m r) })

/-- FDB_CLEAR: a generation that may not be bumped refuses the whole command (R290). -/
def fdbClear (d : Dev) : Dev :=
  d.mbxRun 0x0A02 (fun m =>
    let w := d.mbxArg m 0
    let no := (getB w 0 && !(readyAt d.fwd.passes d.fwd.dynAt)) || (getB w 1 && !(readyAt d.fwd.passes d.fwd.statAt))
    { len := 8, blks := [10], bad := firstBad [(0, onlyBits [(0, 1), (1, 1)] w)]
      run := d.mbxAt m 0 Reg.fwdClr (fun x =>
        if no then (x.sb (Reg.fwdStat 0) 3 true).mbxRefused m 1 else (x.wrFwdClr w).mbxOk m []) })

/-- The two words of a cross-slice report. -/
def XsRep.words (r : XsRep) : List Word :=
  [BitVec.ofNat 64 (fld 0 48 r.mac + fld 48 12 r.vid), BitVec.ofNat 64 (fld 0 2 r.slice + fld 8 6 r.port + fld 16 6 r.mainPort)]

/-- XS_REPORTS: up to MAX reports, oldest first, are taken from the queue. -/
def xsReports (d : Dev) : Dev :=
  d.mbxRun 0x0A03 (fun m =>
    let w := d.mbxArg m 0
    let l := d.fwd.reports.take (getF w 0 7)
    { len := 8, bad := firstBad [(0, onlyBits [(0, 7)] w && decide (1 ≤ getF w 0 7 ∧ getF w 0 7 ≤ 120))]
      run := ({ d with fwd := { d.fwd with reports := d.fwd.reports.drop (getF w 0 7) } }).mbxOk m
        (BitVec.ofNat 64 l.length :: l.flatMap XsRep.words) })

/-- A command whose word 0 is an index and word 1 an image of the register it names. -/
def Dev.mbxIndexed (d : Dev) (opc wid lo hi : Nat) (reg : Nat → Nat) (ok : Nat → Word → Bool) : Dev :=
  d.mbxRun opc (fun m =>
    let w := d.mbxArg m 0
    let n := getF w 0 wid
    { len := 16, blks := [10]
      bad := firstBad [(0, onlyBits [(0, wid)] w && decide (lo ≤ n ∧ n ≤ hi)), (1, imgOk (reg n) 0 (d.mbxArg m 1) && ok n (d.mbxArg m 1))]
      run := d.mbxSet m [(1, reg n, d.mbxArg m 1)] (fun x => x.mbxOk m []) })

/-- VLAN_SET. -/
def vlanSet (d : Dev) : Dev := d.mbxIndexed 0x0A08 12 1 4094 Reg.fwdVlan (fun _ _ => true)

/-- MCG_SET. -/
def mcgSet (d : Dev) : Dev := d.mbxIndexed 0x0A09 12 0 4095 Reg.fwdMcg (fun _ _ => true)

/-- FWD_PORT: DEF_VID counts on ring ports alone. -/
def fwdPortCmd (d : Dev) : Dev :=
  d.mbxIndexed 0x0A0A 6 0 35 Reg.fwdPortCfg (fun p v => decide (p < 32 ∨ (1 ≤ getF v 19 12 ∧ getF v 19 12 ≤ 4094)))

/-- FWD_SET. -/
def fwdSet (d : Dev) : Dev := d.mbxImages 0x0A0B 10 [(Reg.fwdCfg, 0), (Reg.fwdAgeCfg, 0), (Reg.fwdMoveCfg, 0), (Reg.fwdRmac, 0)]

/-- The register of word `n` of TSQ_SET. -/
def tsqReg (n : Nat) : Nat :=
  let k := (n - 1) / 4
  match n, (n - 1) % 4 with
  | 0, _ => Reg.fwdTsqCtl
  | _, 0 => Reg.fwdTsqAddr k
  | _, 1 => Reg.fwdTsqHost k
  | _, 2 => Reg.fwdTsqMask k
  | _, _ => Reg.fwdTsqWmask k

/-- What a word of TSQ_SET must be beyond its register's fields: regions and shadows are 8-octet aligned, MODE is 0 or 1. -/
def tsqArgOk (n : Nat) (v : Word) : Bool :=
  match n, (n - 1) % 4 with
  | 0, _ => true
  | _, 0 => getF v 0 3 == 0 && decide (getF v 59 2 ≤ 1)
  | _, 1 => getF v 0 3 == 0
  | _, _ => true

/-- TSQ_SET: REPAIR is forced to 0 (Table MBX-5). -/
def tsqSet (d : Dev) : Dev :=
  d.mbxRun 0x0A0C (fun m =>
    let w := fun n => if n = 0 then setB (d.mbxArg m 0) 1 false else d.mbxArg m n
    { len := 264, blks := [10], bad := firstBad ((List.range 33).map (fun n => (n, imgOk (tsqReg n) 0 (w n) && tsqArgOk n (w n))))
      run := d.mbxSet m ((List.range 33).map (fun n => (n, tsqReg n, w n))) (fun x => x.mbxOk m []) })

/-- TSQ_STATUS. -/
def tsqStatus (d : Dev) : Dev := d.mbxRun 0x0A0D (fun m => { len := 0, run := d.mbxShow m [Reg.fwdTsqStat, Reg.fwdTsqMiss] })

/-! ### DMA channels and rings (Table DMA-6, R353, R371) -/

/-- The requester is a PF. -/
def Dev.mbxPf (d : Dev) (m : Nat) : Bool := decide (d.mbxOwner m < 4)

/-- A command of channel `c` is tried: 0 and the device after, or the code of its refusal. -/
def Dev.dmaTry (d : Dev) (c : Nat) (f : Dev → Dev) : Nat × Dev :=
  let a := Reg.dmaChStat c
  let y := f (d.sb a 4 false)
  if y.gb a 4 then (y.gf a 5 3, d) else (0, (y.sb a 4 (d.gb a 4)).sf a 5 3 (d.gf a 5 3))

/-- DMA_CHANNEL: the shadow set is written for the requesting PF and committed, and handed over where OP is 2. -/
def dmaChannel (d : Dev) : Dev :=
  d.mbxRun 0x0C01 (fun m =>
    let w := d.mbxArg m
    let c := getF (w 0) 0 6
    let cfg := setF (w 2) 0 2 (d.mbxOwner m)
    { len := 24, may := d.mbxPf m, blks := [12]
      bad := firstBad [(0, onlyBits [(0, 6), (8, 2)] (w 0) && decide (getF (w 0) 8 2 = 1 ∨ getF (w 0) 8 2 = 2)),
        (1, imgOk (Reg.dmaShChain c) 0 (w 1)), (2, imgOk (Reg.dmaShCfg c) 0 cfg)]
      run := d.mbxSet m [(1, Reg.dmaShChain c, w 1), (2, Reg.dmaShCfg c, cfg)] (fun x =>
        let r := x.dmaTry c (fun y => y.wrDmaCmd c (BitVec.ofNat 64 (1 + goBit)))
        let q := if r.1 = 0 ∧ getF (w 0) 8 2 = 2 then r.2.dmaTry c (fun y => y.wrDmaCmd c (BitVec.ofNat 64 (2 + goBit))) else r
        if q.1 = 0 then q.2.mbxOk m [q.2.rd (Reg.dmaGen c)] else (d.dmaRef c q.1).mbxRefused m q.1) })

/-- DMA_RING: what a ring in use holds fixed is refused as BUSY (R371). -/
def dmaRing (d : Dev) : Dev :=
  d.mbxRun 0x0C02 (fun m =>
    let w := d.mbxArg m
    let r := getF (w 0) 0 4
    let old := d.rd (Reg.dmaCrCfg r)
    let held := fun (v : Word) => (getF v 0 7, getB v 19, getF v 32 20)
    { len := 24, may := d.mbxPf m, blks := [12]
      bad := firstBad [(0, onlyBits [(0, 4)] (w 0)), (1, imgOk (Reg.dmaCrBase r) 0 (w 1)), (2, imgOk (Reg.dmaCrCfg r) 0 (w 2))]
      run := if getB old 20 ∧ (w 1 ≠ d.rd (Reg.dmaCrBase r) ∨ held (w 2) ≠ held old) then d.mbxSt m 6
        else d.mbxSet m [(1, Reg.dmaCrBase r, w 1), (2, Reg.dmaCrCfg r, w 2)] (fun x => x.mbxOk m []) })

/-- DMA_CONTROL: CONT, SKIP, ABORT or clear HO_PEND, for the PF that owns the channel. -/
def dmaControl (d : Dev) : Dev :=
  d.mbxRun 0x0C03 (fun m =>
    let w := d.mbxArg m 0
    let c := getF w 0 6
    let op := getF w 8 3
    { len := 8, may := d.mbxPf m && d.chPf c == d.mbxOwner m, blks := [12]
      bad := firstBad [(0, onlyBits [(0, 6), (8, 3)] w && decide (3 ≤ op ∧ op ≤ 6))]
      run := d.mbxAt m 0 (Reg.dmaChCmd c) (fun x =>
        let r := x.dmaTry c (fun y => y.wrDmaCmd c (BitVec.ofNat 64 (op + goBit)))
        if r.1 = 0 then r.2.mbxOk m [r.2.rd (Reg.dmaChStat c)] else (x.dmaRef c r.1).mbxRefused m r.1) })

/-- DMA_RING_HEAD, for the PF of the ring. -/
def dmaRingHead (d : Dev) : Dev :=
  d.mbxRun 0x0C04 (fun m =>
    let w := d.mbxArg m 0
    let r := getF w 0 4
    { len := 8, may := d.mbxPf m && d.gf (Reg.dmaCrCfg r) 5 2 == d.mbxOwner m, blks := [12]
      bad := firstBad [(0, onlyBits [(0, 4), (16, 16)] w)]
      run := d.mbxSetShow m [(0, Reg.dmaCrHead r, BitVec.ofNat 64 (getF w 16 16))] [Reg.dmaCrStat r] })

/-! ### Meanings -/

/-- Meaning of PORT_MODE. -/
def execPortMode (s : State) : Host.Outcome State Fault Refusal := onDev portMode s

/-- Meaning of PORT_MAC. -/
def execPortMac (s : State) : Host.Outcome State Fault Refusal := onDev portMac s

/-- Meaning of PORT_FILTER. -/
def execPortFilter (s : State) : Host.Outcome State Fault Refusal := onDev portFilter s

/-- Meaning of PORT_PAUSE. -/
def execPortPause (s : State) : Host.Outcome State Fault Refusal := onDev portPause s

/-- Meaning of PORT_EEE. -/
def execPortEee (s : State) : Host.Outcome State Fault Refusal := onDev portEee s

/-- Meaning of PORT_SHIM. -/
def execPortShim (s : State) : Host.Outcome State Fault Refusal := onDev portShim s

/-- Meaning of PORT_STATUS. -/
def execPortStatus (s : State) : Host.Outcome State Fault Refusal := onDev portStatus s

/-- Meaning of MDIO_XFER. -/
def execMdioXfer (s : State) : Host.Outcome State Fault Refusal := onDev mdioXfer s

/-- Meaning of SMB_XFER. -/
def execSmbXfer (s : State) : Host.Outcome State Fault Refusal := onDev smbXfer s

/-- Meaning of FDB_CMD. -/
def execFdbCmd (s : State) : Host.Outcome State Fault Refusal := onDev fdbCmd s

/-- Meaning of FDB_CLEAR. -/
def execFdbClear (s : State) : Host.Outcome State Fault Refusal := onDev fdbClear s

/-- Meaning of XS_REPORTS. -/
def execXsReports (s : State) : Host.Outcome State Fault Refusal := onDev xsReports s

/-- Meaning of VLAN_SET. -/
def execVlanSet (s : State) : Host.Outcome State Fault Refusal := onDev vlanSet s

/-- Meaning of MCG_SET. -/
def execMcgSet (s : State) : Host.Outcome State Fault Refusal := onDev mcgSet s

/-- Meaning of FWD_PORT. -/
def execFwdPort (s : State) : Host.Outcome State Fault Refusal := onDev fwdPortCmd s

/-- Meaning of FWD_SET. -/
def execFwdSet (s : State) : Host.Outcome State Fault Refusal := onDev fwdSet s

/-- Meaning of TSQ_SET. -/
def execTsqSet (s : State) : Host.Outcome State Fault Refusal := onDev tsqSet s

/-- Meaning of TSQ_STATUS. -/
def execTsqStatus (s : State) : Host.Outcome State Fault Refusal := onDev tsqStatus s

/-- Meaning of DMA_CHANNEL. -/
def execDmaChannel (s : State) : Host.Outcome State Fault Refusal := onDev dmaChannel s

/-- Meaning of DMA_RING. -/
def execDmaRing (s : State) : Host.Outcome State Fault Refusal := onDev dmaRing s

/-- Meaning of DMA_CONTROL. -/
def execDmaControl (s : State) : Host.Outcome State Fault Refusal := onDev dmaControl s

/-- Meaning of DMA_RING_HEAD. -/
def execDmaRingHead (s : State) : Host.Outcome State Fault Refusal := onDev dmaRingHead s

end Sys2Proof.Machine
end

