-- ==== Sys2Proof/Machine/MbxRoutes.lean ====
section
/-! DEFINITION. Chapters 9 and 12: the route commands, and the tries the Joiner keeps for them (R294–R298, Tables FWD-5 to FWD-7, MBX-8). -/

namespace Sys2Proof.Machine

/-! ### The set of prefixes and its nodes -/

/-- Address bits of a family. -/
def famBits (v6 : Bool) : Nat := if v6 then 128 else 32

/-- A path: its family and length as one number, and its bits. -/
def pathKey (v6 : Bool) (b bits : Nat) : Nat × Nat := (2 * b + bit v6, bits)

/-- The first `b` bits of a route's address. -/
def Route.top (r : Route) (b : Nat) : Nat := r.addr / 2 ^ (famBits r.v6 - b)

/-- The boundaries of the nodes a prefix of length `l` needs (Table FWD-7). -/
def nodeBounds (l : Nat) : List Nat := ((List.range 12).map (fun j => 16 + 8 * j)).filter (fun b => decide (b < min l 112))

/-- The paths of a route's nodes. -/
def Route.paths (r : Route) : List (Nat × Nat) := (nodeBounds r.plen).map (fun b => pathKey r.v6 b (r.top b))

/-- The path of a route's tail block: IPv6 prefixes longer than 112. -/
def Route.tail (r : Route) : Option (Nat × Nat) := if r.v6 ∧ 112 < r.plen then some (pathKey true 112 (r.top 112)) else none

/-- The number a path has in a table. -/
def pathNum (t : Sparse (Nat × Nat)) (k : Nat × Nat) : Option Nat := (t.find? (fun e => e.2 == k)).map (fun e => e.1)

/-- The lowest number not in use. -/
def freeNum (t : Sparse (Nat × Nat)) : Nat := ((List.range (t.length + 1)).find? (fun n => (Sparse.find t n).isNone)).getD 0

/-- Paths without a number take the lowest free ones. -/
def takeNums (t : Sparse (Nat × Nat)) : List (Nat × Nat) → Sparse (Nat × Nat)
  | [] => t
  | k :: l => if (pathNum t k).isSome then takeNums t l else takeNums (Sparse.put t (freeNum t) k) l

/-! ### Words of the tries (Table FWD-6) -/

/-- The routes whose prefix ends in the stride of an entry and covers it. -/
def coverOf (l : List Route) (v6 : Bool) (b bits : Nat) : List Route :=
  l.filter (fun r => r.v6 == v6 && decide (r.plen ≤ b ∧ (b = 16 ∨ b < r.plen + 8)) && r.addr / 2 ^ (famBits v6 - r.plen) == bits / 2 ^ (b - r.plen))

/-- The trie entry for the path of `b` bits: the longest prefix of its stride, and its child (R295). -/
def Mbx.entry (x : Mbx) (v6 : Bool) (b bits : Nat) : Word :=
  let res := (coverOf x.routes v6 b bits).foldl (fun (m : Word) r => if getB m 15 = false ∨ tPlen m < r.plen then r.res else m) 0
  if v6 ∧ b = 112 then
    match pathNum x.tails (pathKey true 112 bits) with
    | some t => setB (setF (setB res 0 true) 1 14 t) 58 true
    | none => res
  else match pathNum x.nodes (pathKey v6 b bits) with
    | some n => setF (setB res 0 true) 1 14 n
    | none => res

/-- The place of the entry for a path of `b` bits, where its node is in use. -/
def Mbx.place (x : Mbx) (v6 : Bool) (b bits : Nat) : Option Nat :=
  if b = 16 then some (trieRoot v6 bits)
  else (pathNum x.nodes (pathKey v6 (b - 8) (bits / 256))).map (fun n => trieNode n (bits % 256))

/-- The 16 words of a tail block (R294). -/
def Mbx.tailWords (x : Mbx) (k : Nat × Nat) : List Word :=
  let l := x.routes.filter (fun r => r.tail == some k)
  let ws := l.flatMap (fun r => [BitVec.ofNat 64 (fld 0 16 r.addr + fld 16 5 (r.plen - 112) + fld 21 1 1), setF (setF r.res 0 15 0) 58 6 0])
  (ws ++ List.replicate 16 0).take 16

/-- A tail block written. -/
def Dev.putTail (d : Dev) (k : Nat × Nat) : Dev :=
  match pathNum d.mbx.tails k with
  | some t => d.stWs (bar4Addr (0x4180000 + t * 0x80)) (d.mbx.tailWords k)
  | none => d

/-- Entries of paths of `b` bits written, where their nodes are in use. -/
def Dev.putEntries (d : Dev) (v6 : Bool) (b : Nat) (l : List Nat) : Dev :=
  l.foldl (fun (x : Dev) bits => match x.mbx.place v6 b bits with
    | some a => x.stW a (x.mbx.entry v6 b bits)
    | none => x) d

/-- The end of a prefix's last stride (R295). -/
def strideEnd (l : Nat) : Nat := if l ≤ 16 then 16 else (l + 7) / 8 * 8

/-- The paths of the entries a prefix of at most 112 bits covers (R295). -/
def Route.covers (r : Route) : List Nat :=
  let n := 2 ^ (strideEnd r.plen - r.plen)
  (List.range n).map (fun i => r.top r.plen * n + i)

/-- What changes in the tries with a route: new nodes whole, deepest first, its tail block, the entries it covers, and the entries of the
paths whose nodes or tail blocks came or went (R298). -/
def Dev.putRoute (d : Dev) (r : Route) (fresh : List Nat) (changed : List Nat) : Dev :=
  let d1 := fresh.reverse.foldl (fun (x : Dev) b => x.putEntries r.v6 (b + 8) ((List.range 256).map (fun i => r.top b * 256 + i))) d
  let d2 := match r.tail with
    | some k => (d1.putTail k).putEntries true 112 [r.top 112]
    | none => d1.putEntries r.v6 (strideEnd r.plen) r.covers
  changed.reverse.foldl (fun (x : Dev) b => x.putEntries r.v6 b [r.top b]) d2

/-! ### One item -/

/-- The same prefix. -/
def Route.same (r q : Route) : Bool := r.v6 == q.v6 && r.plen == q.plen && r.addr == q.addr

/-- The number of prefixes of a family. -/
def Mbx.prefixes (x : Mbx) (v6 : Bool) : Nat := (x.routes.filter (fun r => r.v6 == v6)).length

/-- Boundaries of a route's paths whose nodes are not in `t`. -/
def Route.missing (r : Route) (t : Sparse (Nat × Nat)) : List Nat :=
  (nodeBounds r.plen).filter (fun b => (pathNum t (pathKey r.v6 b (r.top b))).isNone)

/-- ROUTE_ADD of one prefix: 0, or NO_SPACE (Table MBX-8, R295).  A prefix already held takes the new result. -/
def Dev.routeAdd (d : Dev) (r : Route) : Nat × Dev :=
  let x := d.mbx
  if x.routes.any r.same then
    (0, ({ d with mbx := { x with routes := x.routes.map (fun q => if r.same q then r else q) } }).putRoute r [] [])
  else
    let miss := r.missing x.nodes
    let newTail : Bool := match r.tail with | some k => (pathNum x.tails k).isNone | none => false
    let full : Bool := match r.tail with | some k => decide (8 ≤ (x.routes.filter (fun q => q.tail == some k)).length) | none => false
    let most : Nat := if r.v6 then 262144 else 1048576
    if decide (most ≤ x.prefixes r.v6 ∨ 11264 < x.nodes.length + miss.length) || full || (newTail && decide (4096 ≤ x.tails.length)) then
      (0x0A, d)
    else
      let y : Mbx := { x with routes := x.routes ++ [r], nodes := takeNums x.nodes r.paths, tails := takeNums x.tails r.tail.toList }
      (0, ({ d with mbx := y }).putRoute r miss miss)

/-- A path some route still needs. -/
def needed (l : List Route) (k : Nat × Nat) : Bool := l.any (fun r => r.paths.contains k || r.tail == some k)

/-- ROUTE_DEL of one prefix: 0, or NOT_FOUND.  Nodes and tail blocks no prefix needs any more are free, after what pointed to them. -/
def Dev.routeDel (d : Dev) (r : Route) : Nat × Dev :=
  let x := d.mbx
  if x.routes.any r.same then
    let l := x.routes.filter (fun q => !(r.same q))
    let gone := (nodeBounds r.plen).filter (fun b => !(needed l (pathKey r.v6 b (r.top b))))
    let y : Mbx := { x with routes := l, nodes := x.nodes.filter (fun e => needed l e.2), tails := x.tails.filter (fun e => needed l e.2) }
    (0, ({ d with mbx := y }).putRoute r [] gone)
  else (9, d)

/-- BAR4 offset of the root entry of an item: for the record of an access that fails. -/
def Route.rootOff (r : Route) : Nat := bar4Of (trieRoot r.v6 (r.top 16))

/-! ### Batches (R387) -/

/-- Item `i` of a batch: words 1 + 3i to 3 + 3i. -/
def Dev.routeItem (d : Dev) (m i : Nat) : Route :=
  let hi := (d.mbxArg m (1 + 3 * i)).toNat
  let lo := (d.mbxArg m (2 + 3 * i)).toNat
  let w := d.mbxArg m (3 + 3 * i)
  let v6 := getB w 0
  let n := getF w 8 8
  let a := if v6 then hi * 2 ^ 64 + lo else lo
  let sh := famBits v6 - n
  { v6 := v6, plen := n, addr := a / 2 ^ sh * 2 ^ sh
    res := BitVec.ofNat 64 (fld 15 1 1 + fld 16 8 n + fld 24 15 (getF w 16 15) + fld 39 1 (getF w 31 1) + fld 40 18 (getF w 32 18)) }

/-- The checks of an item's words: IPv4 addresses fill bits 31:0, PLEN is at most the family's bits; a deletion names no result. -/
def Dev.itemChecks (d : Dev) (m : Nat) (del : Bool) (i : Nat) : List (Nat × Bool) :=
  let w := d.mbxArg m (3 + 3 * i)
  let v6 := getB w 0
  [(1 + 3 * i, v6 || d.mbxArg m (1 + 3 * i) == 0), (2 + 3 * i, v6 || getF (d.mbxArg m (2 + 3 * i)) 32 32 == 0),
   (3 + 3 * i, onlyBits (if del then [(0, 1), (8, 8)] else [(0, 1), (8, 8), (16, 15), (31, 1), (32, 18)]) w && decide (getF w 8 8 ≤ famBits v6))]

/-- The items of a batch in order, from item `i`: it stops at the first that fails. -/
def Dev.routeBatch (f : Dev → Route → Nat × Dev) (m : Nat) : Nat → Nat → Dev → Dev
  | 0, _, d => d.mbxOk m []
  | n + 1, i, d =>
    let r := d.routeItem m i
    if d.islandOk 2 = false then
      (d.accFail .joiner true true (r.rootOff) 2 2).mbxDone m { status := 0x12, done := i }
    else match f d r with
      | (0, x) => Dev.routeBatch f m n (i + 1) x
      | (_, _) => d.mbxDone m { status := 0x12, done := i }

/-- A batch command. -/
def Dev.routeCmd (d : Dev) (opc : Nat) (del : Bool) (f : Dev → Route → Nat × Dev) : Dev :=
  d.mbxRun opc (fun m =>
    let w := d.mbxArg m 0
    let n := getF w 0 7
    { len := 8 + 24 * n, blks := [10]
      bad := firstBad ((0, onlyBits [(0, 7)] w && decide (1 ≤ n ∧ n ≤ 82)) :: (List.range n).flatMap (d.itemChecks m del))
      run := Dev.routeBatch f m n 0 d })

/-- ROUTE_ADD. -/
def routeAddCmd (d : Dev) : Dev := d.routeCmd 0x0A04 false Dev.routeAdd

/-- ROUTE_DEL. -/
def routeDelCmd (d : Dev) : Dev := d.routeCmd 0x0A05 true Dev.routeDel

/-- NEXTHOP_SET (R297). -/
def nexthopSet (d : Dev) : Dev :=
  d.mbxRun 0x0A06 (fun m =>
    let w := d.mbxArg m
    let o := 0x4100000 + getF (w 0) 0 15 * 0x10
    { len := 24, blks := [10]
      bad := firstBad [(0, onlyBits [(0, 15)] (w 0)), (1, onlyBits [(0, 2), (2, 6), (8, 12), (32, 16)] (w 1) && decide (getF (w 1) 2 6 ≤ 35)),
        (2, onlyBits [(0, 48)] (w 2))]
      run := d.mbxTable m 1 o 2 true (fun x => (x.stWs (bar4Addr o) [w 1, w 2]).mbxOk m []) })

/-- ROUTE_COUNT. -/
def routeCount_ (d : Dev) : Dev :=
  d.mbxRun 0x0A07 (fun m =>
    let x := d.mbx
    { len := 0
      run := d.mbxOk m [BitVec.ofNat 64 (fld 0 21 (x.prefixes false) + fld 32 19 (x.prefixes true)),
        BitVec.ofNat 64 (fld 0 14 x.nodes.length + fld 16 13 x.tails.length)] })

/-! ### Meanings -/

/-- Meaning of ROUTE_ADD. -/
def execRouteAdd (s : State) : Host.Outcome State Fault Refusal := onDev routeAddCmd s

/-- Meaning of ROUTE_DEL. -/
def execRouteDel (s : State) : Host.Outcome State Fault Refusal := onDev routeDelCmd s

/-- Meaning of NEXTHOP_SET. -/
def execNexthopSet (s : State) : Host.Outcome State Fault Refusal := onDev nexthopSet s

/-- Meaning of ROUTE_COUNT. -/
def execRouteCount (s : State) : Host.Outcome State Fault Refusal := onDev routeCount_ s

end Sys2Proof.Machine
end

