-- ==== Sys2Proof/Machine/Dispatch.lean ====
section
/-! DEFINITION. The dispatch: one arm per command of spec/opcode_table.json, each a direct call of its meaning. -/

namespace Sys2Proof.Machine

/-- The effect of a command on everything but the queue. -/
def exec (cmd : Instr) (s : State) : Host.Outcome State Fault Refusal :=
  match cmd with
  | .rcRead64 r sp a => Sys2Proof.Machine.execRcRead64 r sp a s
  | .rcReadLow r sp a => Sys2Proof.Machine.execRcReadLow r sp a s
  | .rcReadHigh r sp a => Sys2Proof.Machine.execRcReadHigh r sp a s
  | .registerWrite r sp a width v => Sys2Proof.Machine.execRegisterWrite r sp a width v s
  | .bridgeTimeout r sp write a => Sys2Proof.Machine.execBridgeTimeout r sp write a s
  | .snapshotGo r v => Sys2Proof.Machine.execSnapshotGo r v s
  | .snapshotCapture => Sys2Proof.Machine.execSnapshotCapture s
  | .servoInWrite r v => Sys2Proof.Machine.execServoInWrite r v s
  | .srcWrite r v => Sys2Proof.Machine.execSrcWrite r v s
  | .sourceTimeout => Sys2Proof.Machine.execSourceTimeout s
  | .holdoverExpiry => Sys2Proof.Machine.execHoldoverExpiry s
  | .slewComplete => Sys2Proof.Machine.execSlewComplete s
  | .timeStep r v => Sys2Proof.Machine.execTimeStep r v s
  | .timeSlew r v => Sys2Proof.Machine.execTimeSlew r v s
  | .timeSetLoad r v => Sys2Proof.Machine.execTimeSetLoad r v s
  | .ptmRequest r v => Sys2Proof.Machine.execPtmRequest r v s
  | .ptmPeriodTimer => Sys2Proof.Machine.execPtmPeriodTimer s
  | .ptmResponse tm delay => Sys2Proof.Machine.execPtmResponse tm delay s
  | .ptmTimeout => Sys2Proof.Machine.execPtmTimeout s
  | .ppsInEdge rising heldNs => Sys2Proof.Machine.execPpsInEdge rising heldNs s
  | .snaptArm r v => Sys2Proof.Machine.execSnaptArm r v s
  | .snaptCancel r v => Sys2Proof.Machine.execSnaptCancel r v s
  | .snaptCapture => Sys2Proof.Machine.execSnaptCapture s
  | .snaptImageDone => Sys2Proof.Machine.execSnaptImageDone s
  | .calCopy r v => Sys2Proof.Machine.execCalCopy r v s
  | .calCopyDone b => Sys2Proof.Machine.execCalCopyDone b s
  | .calCommit r v => Sys2Proof.Machine.execCalCommit r v s
  | .calValidationDone b => Sys2Proof.Machine.execCalValidationDone b s
  | .calUnstage r v => Sys2Proof.Machine.execCalUnstage r v s
  | .calEntryWrite r b sl i v => Sys2Proof.Machine.execCalEntryWrite r b sl i v s
  | .calActivate r v => Sys2Proof.Machine.execCalActivate r v s
  | .calActCancel r v => Sys2Proof.Machine.execCalActCancel r v s
  | .calendarStart r v => Sys2Proof.Machine.execCalendarStart r v s
  | .calendarStop r v => Sys2Proof.Machine.execCalendarStop r v s
  | .calHandOver => Sys2Proof.Machine.execCalHandOver s
  | .cycleBoundary => Sys2Proof.Machine.execCycleBoundary s
  | .calPortCfgWrite r p v => Sys2Proof.Machine.execCalPortCfgWrite r p v s
  | .launchFetch p i n => Sys2Proof.Machine.execLaunchFetch p i n s
  | .launchArm p => Sys2Proof.Machine.execLaunchArm p s
  | .launch p => Sys2Proof.Machine.execLaunch p s
  | .nonschedFrameStart p => Sys2Proof.Machine.execNonschedFrameStart p s
  | .transmissionEnd p => Sys2Proof.Machine.execTransmissionEnd p s
  | .lpiEntry p => Sys2Proof.Machine.execLpiEntry p s
  | .lpiWake p => Sys2Proof.Machine.execLpiWake p s
  | .rxLpi p enter => Sys2Proof.Machine.execRxLpi p enter s
  | .calRevalidationEnd sl => Sys2Proof.Machine.execCalRevalidationEnd sl s
  | .preemptHoldRaise p => Sys2Proof.Machine.execPreemptHoldRaise p s
  | .preemptCut p k => Sys2Proof.Machine.execPreemptCut p k s
  | .preemptHoldRelease p => Sys2Proof.Machine.execPreemptHoldRelease p s
  | .mpacketReceive p smd frag octets line => Sys2Proof.Machine.execMpacketReceive p smd frag octets line s
  | .verifySend p => Sys2Proof.Machine.execVerifySend p s
  | .verifyTimeout p => Sys2Proof.Machine.execVerifyTimeout p s
  | .respondSend p => Sys2Proof.Machine.execRespondSend p s
  | .announceSend p => Sys2Proof.Machine.execAnnounceSend p s
  | .announceResponseSend p => Sys2Proof.Machine.execAnnounceResponseSend p s
  | .announceTimeout p => Sys2Proof.Machine.execAnnounceTimeout p s
  | .prePortCfgWrite r p v => Sys2Proof.Machine.execPrePortCfgWrite r p v s
  | .preemptRestart r p v => Sys2Proof.Machine.execPreemptRestart r p v s
  | .reasmTimeout p express => Sys2Proof.Machine.execReasmTimeout p express s
  | .streamRecordWrite r st k v => Sys2Proof.Machine.execStreamRecordWrite r st k v s
  | .recoveryScan => Sys2Proof.Machine.execRecoveryScan s
  | .latentTest k => Sys2Proof.Machine.execLatentTest k s
  | .latentProfileReset k => Sys2Proof.Machine.execLatentProfileReset k s
  | .resetRcv r st => Sys2Proof.Machine.execResetRcv r st s
  | .clearLatent r st => Sys2Proof.Machine.execClearLatent r st s
  | .streamCounterCapture r v => Sys2Proof.Machine.execStreamCounterCapture r v s
  | .streamCaptureDone => Sys2Proof.Machine.execStreamCaptureDone s
  | .ringCycleBoundary a => Sys2Proof.Machine.execRingCycleBoundary a s
  | .controlFrameForward p => Sys2Proof.Machine.execControlFrameForward p s
  | .controlSegmentEnd a => Sys2Proof.Machine.execControlSegmentEnd a s
  | .collectionWindowEnd a => Sys2Proof.Machine.execCollectionWindowEnd a s
  | .coldstartAbortWait a => Sys2Proof.Machine.execColdstartAbortWait a s
  | .bypassInsert a => Sys2Proof.Machine.execBypassInsert a s
  | .ringHalt r a v => Sys2Proof.Machine.execRingHalt r a v s
  | .ringRestart r a v => Sys2Proof.Machine.execRingRestart r a v s
  | .msPropose r v => Sys2Proof.Machine.execMsPropose r v s
  | .barrierArrive r v => Sys2Proof.Machine.execBarrierArrive r v s
  | .bcastGo r v => Sys2Proof.Machine.execBcastGo r v s
  | .bcastTransmit => Sys2Proof.Machine.execBcastTransmit s
  | .bcastPop r v => Sys2Proof.Machine.execBcastPop r v s
  | .bcastRelay => Sys2Proof.Machine.execBcastRelay s
  | .guardianCut p => Sys2Proof.Machine.execGuardianCut p s
  | .solSubmit r v => Sys2Proof.Machine.execSolSubmit r v s
  | .solAbort r v => Sys2Proof.Machine.execSolAbort r v s
  | .solActivate r v => Sys2Proof.Machine.execSolActivate r v s
  | .solResultPop r v => Sys2Proof.Machine.execSolResultPop r v s
  | .solverEnable r v => Sys2Proof.Machine.execSolverEnable r v s
  | .solverReady => Sys2Proof.Machine.execSolverReady s
  | .solverDisable r v => Sys2Proof.Machine.execSolverDisable r v s
  | .solverJobStart => Sys2Proof.Machine.execSolverJobStart s
  | .solverPlacement => Sys2Proof.Machine.execSolverPlacement s
  | .solverResultPost => Sys2Proof.Machine.execSolverResultPost s
  | .pendingEndWrite => Sys2Proof.Machine.execPendingEndWrite s
  | .portModeWrite r p v => Sys2Proof.Machine.execPortModeWrite r p v s
  | .retrain r p v => Sys2Proof.Machine.execRetrain r p v s
  | .linkUp p code => Sys2Proof.Machine.execLinkUp p code s
  | .linkDown p st => Sys2Proof.Machine.execLinkDown p st s
  | .macFrameReceive p octets line => Sys2Proof.Machine.execMacFrameReceive p octets line s
  | .pauseExpiry p => Sys2Proof.Machine.execPauseExpiry p s
  | .pauseFrameSend p => Sys2Proof.Machine.execPauseFrameSend p s
  | .pauseRepeat p => Sys2Proof.Machine.execPauseRepeat p s
  | .mdioC22Write r b v => Sys2Proof.Machine.execMdioC22Write r b v s
  | .mdioC22Read r b v => Sys2Proof.Machine.execMdioC22Read r b v s
  | .mdioC45Address r b v => Sys2Proof.Machine.execMdioC45Address r b v s
  | .mdioC45Write r b v => Sys2Proof.Machine.execMdioC45Write r b v s
  | .mdioC45ReadInc r b v => Sys2Proof.Machine.execMdioC45ReadInc r b v s
  | .mdioC45Read r b v => Sys2Proof.Machine.execMdioC45Read r b v s
  | .mdioFrameDone b ack data => Sys2Proof.Machine.execMdioFrameDone b ack data s
  | .smbWrite r c v => Sys2Proof.Machine.execSmbWrite r c v s
  | .smbWriteRead r c v => Sys2Proof.Machine.execSmbWriteRead r c v s
  | .smbProbe r c v => Sys2Proof.Machine.execSmbProbe r c v s
  | .smbTransactionEnd c how n octets => Sys2Proof.Machine.execSmbTransactionEnd c how n octets s
  | .forwardFrame sl => Sys2Proof.Machine.execForwardFrame sl s
  | .mainTableLookupReturn sl => Sys2Proof.Machine.execMainTableLookupReturn sl s
  | .learnCommit sl => Sys2Proof.Machine.execLearnCommit sl s
  | .xsReconcile => Sys2Proof.Machine.execXsReconcile s
  | .cacheSweepVisit sl => Sys2Proof.Machine.execCacheSweepVisit sl s
  | .cacheCompareRemove sl => Sys2Proof.Machine.execCacheCompareRemove sl s
  | .mainScanVisit => Sys2Proof.Machine.execMainScanVisit s
  | .mainCompareRemove => Sys2Proof.Machine.execMainCompareRemove s
  | .dgenBump r v => Sys2Proof.Machine.execDgenBump r v s
  | .sgenBump r v => Sys2Proof.Machine.execSgenBump r v s
  | .tblInsert r => Sys2Proof.Machine.execTblInsert r s
  | .tblDelete r => Sys2Proof.Machine.execTblDelete r s
  | .tblLookup r => Sys2Proof.Machine.execTblLookup r s
  | .tblEvict r => Sys2Proof.Machine.execTblEvict r s
  | .fwdTableDirectWrite r w v => Sys2Proof.Machine.execFwdTableDirectWrite r w v s
  | .trieWrite r w v => Sys2Proof.Machine.execTrieWrite r w v s
  | .tsqWordVisit => Sys2Proof.Machine.execTsqWordVisit s
  | .tsqCompare ws => Sys2Proof.Machine.execTsqCompare ws s
  | .sqTailDoorbell f slot v => Sys2Proof.Machine.execSqTailDoorbell f slot v s
  | .cqHeadDoorbell f slot v => Sys2Proof.Machine.execCqHeadDoorbell f slot v s
  | .sqEntryFetched q ws => Sys2Proof.Machine.execSqEntryFetched q ws s
  | .nop q => Sys2Proof.Machine.execNop q s
  | .send q head => Sys2Proof.Machine.execSend q head s
  | .sendFwd q head => Sys2Proof.Machine.execSendFwd q head s
  | .sendSched q => Sys2Proof.Machine.execSendSched q s
  | .rxBuf q => Sys2Proof.Machine.execRxBuf q s
  | .hostFrameFetched q n octets => Sys2Proof.Machine.execHostFrameFetched q n octets s
  | .entryRetire q => Sys2Proof.Machine.execEntryRetire q s
  | .writebackUpdate q => Sys2Proof.Machine.execWritebackUpdate q s
  | .cqTimerExpiry q => Sys2Proof.Machine.execCqTimerExpiry q s
  | .msixUnmask f v => Sys2Proof.Machine.execMsixUnmask f v s
  | .l1Request aspm => Sys2Proof.Machine.execL1Request aspm s
  | .d3hotEntry f => Sys2Proof.Machine.execD3hotEntry f s
  | .d3hotExit f => Sys2Proof.Machine.execD3hotExit f s
  | .dataLinkDown => Sys2Proof.Machine.execDataLinkDown s
  | .hostReadError q n => Sys2Proof.Machine.execHostReadError q n s
  | .flr f => Sys2Proof.Machine.execFlr f s
  | .adminDoorbell r f lo hi v => Sys2Proof.Machine.execAdminDoorbell r f lo hi v s
  | .adminQueueEnable r f v => Sys2Proof.Machine.execAdminQueueEnable r f v s
  | .adminQueueDisable r f v => Sys2Proof.Machine.execAdminQueueDisable r f v s
  | .createCq f ws => Sys2Proof.Machine.execCreateCq f ws s
  | .createSq f ws => Sys2Proof.Machine.execCreateSq f ws s
  | .destroySq f ws => Sys2Proof.Machine.execDestroySq f ws s
  | .destroySqDone f => Sys2Proof.Machine.execDestroySqDone f s
  | .destroyCq f ws => Sys2Proof.Machine.execDestroyCq f ws s
  | .modifyCq f ws => Sys2Proof.Machine.execModifyCq f ws s
  | .queryQp f ws => Sys2Proof.Machine.execQueryQp f ws s
  | .setVfQuota f ws => Sys2Proof.Machine.execSetVfQuota f ws s
  | .adminGetInfo f ws => Sys2Proof.Machine.execAdminGetInfo f ws s
  | .queueCounterCapture r v => Sys2Proof.Machine.execQueueCounterCapture r v s
  | .queueCaptureDone => Sys2Proof.Machine.execQueueCaptureDone s
  | .dmaCommit r c v => Sys2Proof.Machine.execDmaCommit r c v s
  | .dmaHandover r c v => Sys2Proof.Machine.execDmaHandover r c v s
  | .dmaCont r c v => Sys2Proof.Machine.execDmaCont r c v s
  | .dmaSkip r c v => Sys2Proof.Machine.execDmaSkip r c v s
  | .dmaAbort r c v => Sys2Proof.Machine.execDmaAbort r c v s
  | .dmaClearHoPend r c v => Sys2Proof.Machine.execDmaClearHoPend r c v s
  | .dmaDescriptorRead c bad ws => Sys2Proof.Machine.execDmaDescriptorRead c bad ws s
  | .dmaBeatComplete c side bad octets => Sys2Proof.Machine.execDmaBeatComplete c side bad octets s
  | .dmaRingEnable r k v => Sys2Proof.Machine.execDmaRingEnable r k v s
  | .dmaRingHeadWrite r k v => Sys2Proof.Machine.execDmaRingHeadWrite r k v s
  | .translationCompletion rid pasid page ok size rd wr => Sys2Proof.Machine.execTranslationCompletion rid pasid page ok size rd wr s
  | .pageResponse rid pasid page code => Sys2Proof.Machine.execPageResponse rid pasid page code s
  | .prgTimeout => Sys2Proof.Machine.execPrgTimeout s
  | .invalidateRequest itag rid pasid page size => Sys2Proof.Machine.execInvalidateRequest itag rid pasid page size s
  | .invalidateComplete => Sys2Proof.Machine.execInvalidateComplete s
  | .atcFlush r v => Sys2Proof.Machine.execAtcFlush r v s
  | .firmwareBoot found => Sys2Proof.Machine.execFirmwareBoot found s
  | .mailboxGo r m v => Sys2Proof.Machine.execMailboxGo r m v s
  | .mailboxRequestWrite r m w v => Sys2Proof.Machine.execMailboxRequestWrite r m w v s
  | .mailboxCommandTimeout m => Sys2Proof.Machine.execMailboxCommandTimeout m s
  | .joinerWatchdogReset => Sys2Proof.Machine.execJoinerWatchdogReset s
  | .leaseExpiry k => Sys2Proof.Machine.execLeaseExpiry k s
  | .lockoutEnd k => Sys2Proof.Machine.execLockoutEnd k s
  | .getInfo => Sys2Proof.Machine.execGetInfo s
  | .getStatus => Sys2Proof.Machine.execGetStatus s
  | .mbxAssign => Sys2Proof.Machine.execMbxAssign s
  | .deviceReset => Sys2Proof.Machine.execDeviceReset s
  | .deviceResetStart => Sys2Proof.Machine.execDeviceResetStart s
  | .fwWrite => Sys2Proof.Machine.execFwWrite s
  | .fwVerify => Sys2Proof.Machine.execFwVerify s
  | .fwActivate => Sys2Proof.Machine.execFwActivate s
  | .fwRestart => Sys2Proof.Machine.execFwRestart s
  | .fwCommitSvn => Sys2Proof.Machine.execFwCommitSvn s
  | .expertUnlock => Sys2Proof.Machine.execExpertUnlock s
  | .expertLock => Sys2Proof.Machine.execExpertLock s
  | .tokenSet => Sys2Proof.Machine.execTokenSet s
  | .testMode => Sys2Proof.Machine.execTestMode s
  | .timeSource => Sys2Proof.Machine.execTimeSource s
  | .ptpInstance => Sys2Proof.Machine.execPtpInstance s
  | .ptpPort => Sys2Proof.Machine.execPtpPort s
  | .ptpStatus => Sys2Proof.Machine.execPtpStatus s
  | .timePins => Sys2Proof.Machine.execTimePins s
  | .timeAdjust => Sys2Proof.Machine.execTimeAdjust s
  | .timeSet => Sys2Proof.Machine.execTimeSet s
  | .snapshotArm => Sys2Proof.Machine.execSnapshotArm s
  | .calStart => Sys2Proof.Machine.execCalStart s
  | .calStop => Sys2Proof.Machine.execCalStop s
  | .calPort => Sys2Proof.Machine.execCalPort s
  | .calStatus => Sys2Proof.Machine.execCalStatus s
  | .prePort => Sys2Proof.Machine.execPrePort s
  | .streamWrite => Sys2Proof.Machine.execStreamWrite s
  | .streamRead => Sys2Proof.Machine.execStreamRead s
  | .streamCmd => Sys2Proof.Machine.execStreamCmd s
  | .streamCounters => Sys2Proof.Machine.execStreamCounters s
  | .streamPort => Sys2Proof.Machine.execStreamPort s
  | .ringAttach => Sys2Proof.Machine.execRingAttach s
  | .ringStatus => Sys2Proof.Machine.execRingStatus s
  | .ringSwitch => Sys2Proof.Machine.execRingSwitch s
  | .ringBarrier => Sys2Proof.Machine.execRingBarrier s
  | .ringBcast => Sys2Proof.Machine.execRingBcast s
  | .solveSubmit => Sys2Proof.Machine.execSolveSubmit s
  | .solveFull => Sys2Proof.Machine.execSolveFull s
  | .solveResult => Sys2Proof.Machine.execSolveResult s
  | .solveActivate => Sys2Proof.Machine.execSolveActivate s
  | .solveAbort => Sys2Proof.Machine.execSolveAbort s
  | .solveStatus => Sys2Proof.Machine.execSolveStatus s
  | .portMode => Sys2Proof.Machine.execPortMode s
  | .portMac => Sys2Proof.Machine.execPortMac s
  | .portFilter => Sys2Proof.Machine.execPortFilter s
  | .portPause => Sys2Proof.Machine.execPortPause s
  | .portEee => Sys2Proof.Machine.execPortEee s
  | .portShim => Sys2Proof.Machine.execPortShim s
  | .portStatus => Sys2Proof.Machine.execPortStatus s
  | .mdioXfer => Sys2Proof.Machine.execMdioXfer s
  | .smbXfer => Sys2Proof.Machine.execSmbXfer s
  | .fdbCmd => Sys2Proof.Machine.execFdbCmd s
  | .fdbClear => Sys2Proof.Machine.execFdbClear s
  | .xsReports => Sys2Proof.Machine.execXsReports s
  | .routeAdd => Sys2Proof.Machine.execRouteAdd s
  | .routeDel => Sys2Proof.Machine.execRouteDel s
  | .nexthopSet => Sys2Proof.Machine.execNexthopSet s
  | .routeCount => Sys2Proof.Machine.execRouteCount s
  | .vlanSet => Sys2Proof.Machine.execVlanSet s
  | .mcgSet => Sys2Proof.Machine.execMcgSet s
  | .fwdPort => Sys2Proof.Machine.execFwdPort s
  | .fwdSet => Sys2Proof.Machine.execFwdSet s
  | .tsqSet => Sys2Proof.Machine.execTsqSet s
  | .tsqStatus => Sys2Proof.Machine.execTsqStatus s
  | .hostLink => Sys2Proof.Machine.execHostLink s
  | .dmaChannel => Sys2Proof.Machine.execDmaChannel s
  | .dmaRing => Sys2Proof.Machine.execDmaRing s
  | .dmaControl => Sys2Proof.Machine.execDmaControl s
  | .dmaRingHead => Sys2Proof.Machine.execDmaRingHead s
  | .benchLoad data => Sys2Proof.Machine.execBenchLoad data s
  | .benchStart => Sys2Proof.Machine.execBenchStart s
  | .benchStop => Sys2Proof.Machine.execBenchStop s
  | .benchStatus => Sys2Proof.Machine.execBenchStatus s
  | .fltSeverity => Sys2Proof.Machine.execFltSeverity s
  | .fltRead => Sys2Proof.Machine.execFltRead s
  | .pwrState => Sys2Proof.Machine.execPwrState s
  | .pwrStatus => Sys2Proof.Machine.execPwrStatus s
  | .benchTimerInterrupt h => Sys2Proof.Machine.execBenchTimerInterrupt h s
  | .benchQpConfig r v => Sys2Proof.Machine.execBenchQpConfig r v s
  | .benchAdminEnable r v => Sys2Proof.Machine.execBenchAdminEnable r v s
  | .faultMessage m => Sys2Proof.Machine.execFaultMessage m s
  | .fenceEscalation i => Sys2Proof.Machine.execFenceEscalation i s
  | .overflowMessage => Sys2Proof.Machine.execOverflowMessage s
  | .faultPop r v => Sys2Proof.Machine.execFaultPop r v s
  | .fenceRelease r v => Sys2Proof.Machine.execFenceRelease r v s
  | .autoRelease i => Sys2Proof.Machine.execAutoRelease i s
  | .islandResetDone i => Sys2Proof.Machine.execIslandResetDone i s
  | .attemptsClear i => Sys2Proof.Machine.execAttemptsClear i s
  | .haltCommand r v => Sys2Proof.Machine.execHaltCommand r v s
  | .jigInject r v => Sys2Proof.Machine.execJigInject r v s
  | .jigReorderRelease n => Sys2Proof.Machine.execJigReorderRelease n s
  | .jigDelayRelease n => Sys2Proof.Machine.execJigDelayRelease n s
  | .powerRequestFull r v => Sys2Proof.Machine.execPowerRequestFull r v s
  | .powerRequestQuiet r v => Sys2Proof.Machine.execPowerRequestQuiet r v s
  | .powerRequestStandby r v => Sys2Proof.Machine.execPowerRequestStandby r v s
  | .powerTransitionDone => Sys2Proof.Machine.execPowerTransitionDone s
  | .standbyEntry => Sys2Proof.Machine.execStandbyEntry s
  | .standbyExit why => Sys2Proof.Machine.execStandbyExit why s
  | .supplyWarning rail mv => Sys2Proof.Machine.execSupplyWarning rail mv s
  | .supplyRecover rail => Sys2Proof.Machine.execSupplyRecover rail s
  | .dipTimerExpiry => Sys2Proof.Machine.execDipTimerExpiry s
  | .keepEntry rail => Sys2Proof.Machine.execKeepEntry rail s
  | .keepSupplyWarning below => Sys2Proof.Machine.execKeepSupplyWarning below s
  | .smonClear r v => Sys2Proof.Machine.execSmonClear r v s
  | .powerOnReset bad => Sys2Proof.Machine.execPowerOnReset bad s
  | .referenceLoss k => Sys2Proof.Machine.execReferenceLoss k s
  | .referenceReturn k => Sys2Proof.Machine.execReferenceReturn k s
  | .perstAssert => Sys2Proof.Machine.execPerstAssert s
  | .perstDeassert => Sys2Proof.Machine.execPerstDeassert s
  | .hotReset => Sys2Proof.Machine.execHotReset s
  | .joinerRestart => Sys2Proof.Machine.execJoinerRestart s
  | .pcieConfigWrite f ptm pri ats pme l12 msix rest => Sys2Proof.Machine.execPcieConfigWrite f ptm pri ats pme l12 msix rest s
  | .pcieLinkL0Entry => Sys2Proof.Machine.execPcieLinkL0Entry s
  | .keepSupplyReset => Sys2Proof.Machine.execKeepSupplyReset s
  | .ppsOutEdge clk rise => Sys2Proof.Machine.execPpsOutEdge clk rise s

end Sys2Proof.Machine
end

