-- ==== Sys2Proof/Machine/Step.lean ====
section
/-! DEFINITION. One step: the command at the front of the queue is executed; with no command waiting, one clock of the time base (1 ns, Table ARC-4) passes. -/

namespace Sys2Proof.Machine

/-- One step of the block.  DESIGN CHOICE (log entry 3): on an empty queue the block idles for one clock, in which local time, the free-running
clock and a slew in progress go on and nothing else happens. -/
def step (s : State) : Host.Outcome State Fault Refusal :=
  match s.pending with
  | [] => .next { s with dev := s.dev.clocks 1 }
  | c :: t => exec c { s with pending := t }

/-- The state with the command that a word of the opcode table spells at the front of its queue; unchanged where the word spells none. -/
def State.withFetchWord (s : State) (nbits w : Nat) : State :=
  match decodeTableWord nbits w with
  | some c => { s with pending := c :: s.pending }
  | none => s

end Sys2Proof.Machine
end

