-- ==== Sys2Proof/WellFormed.lean ====
section
/-! DEFINITION. Which commands a sender can form: what the operand types leave open and a rule or a bus bounds. -/

namespace Sys2Proof

/-- A function: PF0–PF3 and VF n of PF f as f + 4n, or the Bench as 5000. -/
def fnOk (f : Nat) : Bool := decide (f < 1024 ∨ f = 5000)

/-- An offset of a space lies in its window: BAR0 128 MiB, BAR2 512 KiB, BAR4 1 GiB; the BAR0 of a VF 16 KiB and its BAR2 4 KiB,
which a PF's requester alone names.  The device map is the Bench's, whose physical addresses have 56 bits. -/
def spaceOk (r : Req) (sp : Space) (a : Nat) : Bool :=
  match sp with
  | .bar0 => decide (a < 0x8000000)
  | .bar4 => decide (a < 0x40000000)
  | .bar2 n => if n = 0 then decide (a < 0x80000) && r != .joiner else decide (a < 0x1000) && (match r with | .pf _ => true | _ => false)
  | .vf n => decide (a < 0x4000 ∧ n ≠ 0) && (match r with | .pf _ => true | _ => false)
  | .dev => decide (a < 2 ^ 56) && r == .bench

/-- An access of `n` octets carries no more than `n` octets of data. -/
def dataOk (n : Nat) (v : Word) : Bool := (n == 1 || n == 2 || n == 4 || n == 8) && decide (v.toNat < 2 ^ (8 * n))

/-- A translated range is 4 KiB or more, by its binary logarithm. -/
def sizeOk (n : Fin 64) : Bool := decide (12 ≤ n.val)

/-- The checks a command passes by name: none where it is well formed, else the first check that refuses it. -/
def Instr.illFormed : Instr → Option String
  | .rcRead64 r sp a => if spaceOk r sp a.off = false then some "offset" else if 1 ≤ a.octets ∧ a.octets ≤ 8 then none else some "width"
  | .rcReadLow r sp a | .rcReadHigh r sp a => if spaceOk r sp a = false then some "offset" else if a % 8 ≠ 0 then some "half" else none
  | .registerWrite r sp a width v =>
    if spaceOk r sp a = false then some "offset" else if dataOk width v = false then some "width" else none
  | .bridgeTimeout r sp _ a => if spaceOk r sp a then none else some "offset"
  | .sqTailDoorbell f _ _ | .cqHeadDoorbell f _ _ | .adminDoorbell _ f _ _ _ | .adminQueueEnable _ f _ | .adminQueueDisable _ f _
  | .createCq f _ | .createSq f _ | .destroySq f _ | .destroySqDone f | .destroyCq f _ | .modifyCq f _ | .queryQp f _
  | .setVfQuota f _ | .adminGetInfo f _ => if fnOk f then none else some "function"
  | .msixUnmask f _ | .d3hotEntry f | .d3hotExit f | .flr f => if f < 1024 then none else some "function"
  | .translationCompletion _ _ _ _ size _ _ => if sizeOk size.log then none else some "size"
  | .invalidateRequest _ _ _ _ size => if sizeOk size then none else some "size"
  | .smbTransactionEnd _ _ _ l => if l.length ≤ 33 then none else some "octets"
  | .dmaBeatComplete _ _ _ l => if l.length ≤ 4096 then none else some "octets"
  | .benchLoad (some l) => if l.length ≤ 268435456 then none else some "octets"
  | _ => none

/-- A command a sender can form. -/
def Instr.wf (c : Instr) : Bool := c.illFormed.isNone

end Sys2Proof
end

