-- ==== Sys2Proof/Safety.lean ====
section
/-! DEFINITION. What counts as a safe run, in the terms the statements use: a step goes on, the fault queue stays within its 1,024 entries
(R421), memory and the register file stay in canonical form; and the words of the frames: what two states of the device have in
common. -/

namespace Sys2Proof.Machine

/-- A step answers a next state. -/
def goesOn (o : Host.Outcome State Fault Refusal) : Prop := ∃ t, o = .next t

/-- The fault queue holds at most 1,024 entries (R421). -/
def State.queueBound (s : State) : Prop := s.fq.length ≤ 1024

/-- Memory is in canonical form: addresses strictly rising, no listed octet equal to what an unlisted one reads as (0). -/
def Memory.wf (m : List Host.Cell) : Bool := Sparse.sorted m && m.all (fun c => c.2 != 0)

/-- The register file is in canonical form: addresses strictly rising, no listed word at its reset value. -/
def Regs.wf (m : Sparse Word) : Bool := Sparse.sorted m && m.all (fun c => c.2 != resetOf c.1)

/-- A software write by `r` of the register at `a` reaches it (R17, R417) and takes effect (R27). -/
abbrev State.takes (s : State) (r : Req) (a : Nat) : Prop := s.dev.unreachable a = false ∧ s.dev.mayWrite r a = true

/-- A software access by `r` to a table of block `k` in island `isl` through BAR4 reaches it (R17, R417) and is permitted (R28). -/
abbrev State.takes4 (s : State) (r : Req) (isl k : Nat) : Prop :=
  s.dev.islandOk isl = true ∧ s.dev.halted = false ∧ s.dev.unlockedBy k r = true

/-- The request at the front is command `opc` of mailbox `m`, and its checks of Table MBX-6, orders 2, 4 and 5, pass: its argument octets, boot
hold (`hold` where it is marked H), and no other holder of the blocks it writes. -/
abbrev State.asks (s : State) (opc m len : Nat) (hold : Bool) (blks : List Nat) : Prop :=
  s.dev.mbxFront opc = some m ∧ s.dev.mbxLenOk m len = true ∧ (s.dev.fwState ≠ 1 ∨ (m = 0 ∧ hold = true)) ∧ ∀ k ∈ blks, s.dev.mbxHeld m k = false

/-- Every octet of memory reads as before. -/
def Dev.sameMem (d e : Dev) : Prop := ∀ a, e.ldB a = d.ldB a

/-- Every octet of memory outside the `n` octets from `x` reads as before. -/
def Dev.sameMemBut (d e : Dev) (x n : Nat) : Prop := ∀ a, (a < x ∨ x + n ≤ a) → e.ldB a = d.ldB a

/-- Every register but those at the listed addresses reads as before. -/
def Dev.sameRegsBut (l : List Nat) (d e : Dev) : Prop := ∀ a, a ∉ l → e.rd a = d.rd a

/-- Every field of a register but the listed bits reads as before. -/
def sameBitsBut (l : List Nat) (x y : Word) : Prop := ∀ i, i ∉ l → getB y i = getB x i

/-- The engines beside the registers, memory and the time base: ports, packet buffer, calendar, ring, streams, forwarding, queues,
translation, DMA, solver, Joiner, sequencer and management buses are as before. -/
def Dev.sameEngines (d e : Dev) : Prop :=
  e.hq = d.hq ∧ e.xlt = d.xlt ∧ e.cal = d.cal ∧ e.rng = d.rng ∧ e.str = d.str ∧ e.mgmt = d.mgmt ∧ e.rxb = d.rxb ∧ e.fwd = d.fwd ∧ e.dma = d.dma ∧ e.sol = d.sol
    ∧ e.mbx = d.mbx ∧ e.pwr = d.pwr ∧ e.ports = d.ports ∧ e.frames = d.frames ∧ e.nextFrame = d.nextFrame

end Sys2Proof.Machine
end

