-- ==== Sys2Proof/Certificates/Slice0/Obligations.lean ====
section
/-! DEFINITION. The statements for the provers, one definition each; OBLIGATIONS.json lists them in this order.  A docstring that begins
"From R…" names the rules a statement draws on; what rests on a choice of the model names its log entry. -/

open Sys2Proof Sys2Proof.Machine

/-- Every command of the opcode table answers a next state, from every state, and leaves the commands that wait as they are; so no step faults or
refuses. -/
def Obligations.EveryCommandGoesOn : Prop :=
  (∀ (c : Instr) (s : State), ∃ t, exec c s = .next t ∧ t.pending = s.pending)
  ∧ (∀ s : State, goesOn (step s))

/-- One step takes the command at the front of the queue and executes it with the queue's rest. -/
def Obligations.StepExecutesTheFrontCommand : Prop :=
  ∀ (c : Instr) (l : List Instr) (s : State), s.pending = c :: l → step s = exec c { s with pending := l }

/-- The model's choice (log entry 3): on an empty queue one clock passes. Local time, the free-running clock and a slew in progress go on; registers but
`TIM_STAT`, memory, the engines and the queues stay as they are. -/
def Obligations.EmptyQueueIdlesOneClock : Prop :=
  ∀ s : State, s.pending = [] → step s = .next { s with dev := s.dev.clocks 1 }
    ∧ s.dev.sameRegsBut [Reg.timStat] (s.dev.clocks 1) ∧ s.dev.sameMem (s.dev.clocks 1) ∧ s.dev.sameEngines (s.dev.clocks 1)
    ∧ s.dev.tim.up ≤ (s.dev.clocks 1).tim.up ∧ (s.dev.tim.slew = 0 → (s.dev.clocks 1).tim.slew = 0 ∧ (s.dev.clocks 1).rd Reg.timStat = s.dev.rd Reg.timStat)

/-- From R421: the fault queue holds at most 1,024 entries: every command keeps it so, from every state in which it is so, and so does every step. -/
def Obligations.FaultQueueStaysBounded : Prop :=
  (∀ (c : Instr) (s t : State), s.queueBound → exec c s = .next t → t.queueBound)
  ∧ (∀ s t : State, s.queueBound → step s = .next t → t.queueBound)

/-- Memory stays a canonical list of octets, as reset leaves it: addresses strictly rising and no listed octet equal to what an unlisted one reads as:
every command keeps it so, from every state in which it is so, and so does every step. -/
def Obligations.MemoryStaysCanonical : Prop :=
  (∀ (c : Instr) (s t : State), Memory.wf s.dev.mem = true → exec c s = .next t → Memory.wf t.dev.mem = true)
  ∧ (∀ s t : State, Memory.wf s.dev.mem = true → step s = .next t → Memory.wf t.dev.mem = true)

/-- From R377 and the reset columns of the register tables: the machine after reset: its queues are empty, its memory lists nothing, every register
reads its reset value, and mailbox m belongs to PF (m div 4). -/
def Obligations.ResetState : Prop :=
  State.reset.pending = [] ∧ State.reset.fq = [] ∧ State.reset.queueBound ∧ Memory.wf State.reset.dev.mem = true ∧ Regs.wf State.reset.dev.regs = true
  ∧ (∀ a, State.reset.dev.rd a = resetOf a ∧ State.reset.dev.ldB a = 0)
  ∧ (∀ m < 16, State.reset.dev.mbxOwner m = m / 4)
  ∧ State.reset.dev.gf Reg.fltCfg 0 2 = 1 ∧ State.reset.dev.gf Reg.fltCfg 8 4 = 0b1110 ∧ State.reset.dev.gf Reg.fltFenceCfg 0 16 = 1000
  ∧ State.reset.dev.gb Reg.glbAccErr 63 = false ∧ State.reset.dev.rd Reg.mbxUnlock = 0

/-- The frame of reads and of commands that act on a few registers: every other register, memory, the engines and both queues stay as they are; a read
of the table-command registers first lets a table command end whose time has come. -/
def Obligations.FrameOfReadsAndRegisterCommands : Prop :=
  (∀ (s t : State) (r : Req) (a : Nat) (c : Instr) (l : List Nat),
      (c, l) ∈ [(Instr.rcRead64 r .bar0 ⟨a, 8⟩, [a / 8 * 8]), (.rcReadLow r .bar0 a, [a / 8 * 8]), (.rcReadHigh r .bar0 a, [(a + 4) / 8 * 8])] →
      exec c s = .next t → ∃ d : Dev, (d = s.dev ∨ (Reg.fwdTblStat ∈ l ∨ Reg.fwdTblData ∈ l) ∧ d = s.dev.tblSync)
        ∧ d.sameRegsBut (l ++ [Reg.glbAccErr, Reg.glbAccErrCnt, Reg.benAccFaultCnt]) t.dev ∧ d.sameMem t.dev
        ∧ d.sameEngines t.dev ∧ t.fq = s.fq ∧ t.pending = s.pending)
  ∧ (∀ (s t : State) (r : Req) (v : Word) (b : Bool) (i : Fin 48) (h : Fin 32) (c : Instr) (l : List Nat),
      (c, l) ∈ [(Instr.smonClear r v, [Reg.smonStat]), (.keepSupplyWarning b, [Reg.smonStat, Reg.smonRail 9]), (.timeSlew r v, [Reg.timAdj, Reg.timStat])
        , (.attemptsClear i, [Reg.fltIslStat i.val, Reg.timStat]), (.benchTimerInterrupt h, [Reg.timStat])
        , (.ptmTimeout, [Reg.timPtmToCnt, Reg.timPtmCtl, Reg.timStat])] →
      exec c s = .next t → s.dev.sameRegsBut (l ++ [Reg.glbAccErr, Reg.glbAccErrCnt, Reg.glbLockWrCnt]) t.dev ∧ s.dev.sameMem t.dev
        ∧ s.dev.sameEngines t.dev ∧ t.fq = s.fq ∧ t.pending = s.pending)
  ∧ (∀ (s t : State) (r : Req) (v : Word) (c : Instr), c ∈ [Instr.powerRequestFull r v, .powerRequestQuiet r v, .powerRequestStandby r v] →
      exec c s = .next t → s.dev.sameRegsBut [Reg.pwrCtl, Reg.pwrStat, Reg.glbAccErr, Reg.glbAccErrCnt, Reg.glbLockWrCnt] t.dev
        ∧ s.dev.sameMem t.dev ∧ t.fq = s.fq ∧ t.pending = s.pending)
  ∧ (∀ (s t : State) (r : Req) (v : Word), exec (.faultPop r v) s = .next t →
      s.dev.sameRegsBut [Reg.fltQHead, Reg.fltQTime, Reg.fltQStat, Reg.glbAccErr, Reg.glbAccErrCnt, Reg.glbLockWrCnt] t.dev
        ∧ s.dev.sameMem t.dev ∧ s.dev.sameEngines t.dev ∧ t.pending = s.pending)

/-- The frame of the commands that store to memory: every octet outside the word stored, every register but the named status, the engines and both
queues stay as they are; a word of the forwarding tables alone lets the positions of the sweeper and the scan catch up with their pace. -/
def Obligations.FrameOfStoresToMemory : Prop :=
  ∀ (s t : State) (r : Req) (m : Mailbox) (w : BitVec 8) (b : Bank) (sl : Slice) (i : BitVec 18) (fw : FwdWord) (tw : TrieWord) (v : Word)
    (c : Instr) (x : Nat) (l : List Nat) (moves : Bool),
    (c, x, l, moves) ∈
      [ (Instr.mailboxRequestWrite r m w v, mbxBuf m.val + 8 * w.toNat, [Reg.mbxStat m.val, Reg.mbxOwnErrCnt], false)
      , (.calEntryWrite r b sl i v, entryAddr b.val sl.val i.toNat, [Reg.calStat, Reg.calWrRefCnt, Reg.solStat, Reg.solForeignCnt], false)
      , (.fwdTableDirectWrite r fw v, bar4Addr (fwdOff fw), [], true), (.trieWrite r tw v, bar4Addr (trieOff tw), [], false) ] →
    exec c s = .next t →
    s.dev.sameMemBut t.dev x 8 ∧ s.dev.sameRegsBut (l ++ [Reg.glbAccErr, Reg.glbAccErrCnt, Reg.glbLockWrCnt]) t.dev
      ∧ s.dev.sameEngines { t.dev with fwd := (if moves then { t.dev.fwd with
          scan := s.dev.fwd.scan, scanAt := s.dev.fwd.scanAt, sweep := s.dev.fwd.sweep, sweepAt := s.dev.fwd.sweepAt } else t.dev.fwd) }
      ∧ t.fq = s.fq ∧ t.pending = s.pending

/-- Chapters 0 and 1: a counter read whole, by its low word and by its high word (R12), and any other word of BAR0 read whole or by halves: the device
holds the data in `rdata`, and nothing else changes; the status and data of the forwarding tables are shown once a table command that has completed
by now is (R291). From R25: an unaligned or odd-width read of BAR0 by a PF returns 0, clears no counter, and is recorded with KIND = 3; such a write
is dropped and recorded so. From R396–R398: loads and stores of the Bench in HBM: the customer region takes both, the solver region loads alone, and
what no region permits is counted. -/
def Obligations.ReadsThroughTheHub : Prop :=
  (∀ (s : State) (r : Req) (a : Nat), a % 8 = 0 → a < 0x8000000 → s.dev.unreachable a = false →
      (isCounter a = true → s.dev.goneAt a = false →
        exec (.rcRead64 r .bar0 ⟨a, 8⟩) s
            = .next { s with dev := ({ s.dev with hold := Sparse.del s.dev.hold a, rdata := s.dev.rd a } : Dev).wr a 0 }
        ∧ exec (.rcReadLow r .bar0 a) s
            = .next { s with dev := ({ s.dev with hold := Sparse.put s.dev.hold a (BitVec.ofNat 64 (getF (s.dev.rd a) 32 32)),
                                                  rdata := BitVec.ofNat 64 (getF (s.dev.rd a) 0 32) } : Dev).wr a 0 }
        ∧ (∀ h, Sparse.find s.dev.hold a = some h → exec (.rcReadHigh r .bar0 a) s = .next { s with dev := { s.dev with rdata := h } })
        ∧ (Sparse.find s.dev.hold a = none →
            exec (.rcReadHigh r .bar0 a) s
              = .next { s with dev := { s.dev with rdata := BitVec.ofNat 64 (getF (s.dev.rd a) 32 32) } }))
      ∧ ((isCounter a = false ∨ s.dev.goneAt a = true) →
        ∀ d : Dev, d = (if a = Reg.fwdTblStat ∨ a = Reg.fwdTblData then s.dev.tblSync else s.dev) →
        exec (.rcRead64 r .bar0 ⟨a, 8⟩) s = .next { s with dev := { d with rdata := d.wordAt r a } }
        ∧ exec (.rcReadLow r .bar0 a) s = .next { s with dev := { d with rdata := BitVec.ofNat 64 (getF (d.wordAt r a) 0 32) } }
        ∧ exec (.rcReadHigh r .bar0 a) s = .next { s with dev := { d with rdata := BitVec.ofNat 64 (getF (d.wordAt r a) 32 32) } }))
  ∧ (∀ (s : State) (n : Fin 4) (a w : Nat) (v : Word),
      (((w ≠ 4 ∧ w ≠ 8) ∨ a % w ≠ 0) → exec (.rcRead64 (.pf n) .bar0 ⟨a, w⟩) s
          = .next { s with dev := { (s.dev.accFail (.pf n) false false a 3 (s.dev.islandOf (a / 8 * 8))) with rdata := 0 } })
      ∧ (((w ≠ 4 ∧ w ≠ 8) ∨ a % w ≠ 0) → exec (.registerWrite (.pf n) .bar0 a w v) s
          = .next { s with dev := s.dev.accFail (.pf n) false true a 3 (s.dev.islandOf (a / 8 * 8)) }))
  ∧ (∀ (s : State) (a n : Nat) (v : Word), s.dev.hbmOk = true → 0 < n → n ≤ 8 →
      (0x40000000 ≤ a → a + n ≤ 0x600000000 → (a + n ≤ 0x80000000 ∨ 0x80000000 ≤ a) →
          exec (.rcRead64 .bench .dev ⟨a, n⟩) s = .next { s with dev := { s.dev with rdata := BitVec.ofNat 64 (leNat (s.dev.ldN a n)) } })
        ∧ (0x80000000 ≤ a → a + n ≤ 0x600000000 → (n ≠ 8 ∨ a % 8 ≠ 0) →
            exec (.registerWrite .bench .dev a n v) s = .next { s with dev := s.dev.stN a (leBytes n v.toNat) })
        ∧ (0x80000000 ≤ a → a + n ≤ 0x600000000 → n = 8 → a % 8 = 0 →
            exec (.registerWrite .bench .dev a n v) s = .next { s with dev := s.dev.stW a v })
        ∧ (0x40000000 ≤ a → a + n ≤ 0x80000000 → exec (.registerWrite .bench .dev a n v) s = .next { s with dev := s.dev.inc Reg.benAccFaultCnt })
        ∧ (a < 0x20000000 → n ≠ 8 → exec (.rcRead64 .bench .dev ⟨a, n⟩) s = .next { s with dev := s.dev.inc Reg.benAccFaultCnt }
            ∧ exec (.registerWrite .bench .dev a n v) s = .next { s with dev := s.dev.inc Reg.benAccFaultCnt }))

/-- From R24: what a failed access leaves: the first one's record while VALID = 0, the count advanced by one, and a fault message of the `GLB_` block's
kind 0x10. From R17: a crossing to an island that serves its units and that has had no answer ends after 2 µs, after 200 µs for island 47: the
access is recorded with KIND = 1, and a read returns all ones. -/
def Obligations.FailedAccesses : Prop :=
  (∀ (d : Dev) (r : Req) (b4 wr : Bool) (off kind isl : Nat),
      (d.gb Reg.glbAccErr 63 = true → (d.accFail r b4 wr off kind isl).rd Reg.glbAccErr = d.rd Reg.glbAccErr)
      ∧ (d.gb Reg.glbAccErr 63 = false →
          (d.accFail r b4 wr off kind isl).rd Reg.glbAccErr = BitVec.ofNat 64 (accRecord r b4 wr off kind isl + 2 ^ 63))
      ∧ (d.accFail r b4 wr off kind isl).rd Reg.glbAccErrCnt = BitVec.ofNat 64 ((d.rd Reg.glbAccErrCnt).toNat + 1)
      ∧ (d.accFail r b4 wr off kind isl).flt.wire
          = d.flt.wire ++ [⟨d.tim.up, srcCode 0 isl, 0x10, accRecord r b4 wr off kind isl % 2 ^ 37 % 2 ^ 40, false⟩]
      ∧ (∀ a, a ≠ Reg.glbAccErr → a ≠ Reg.glbAccErrCnt → (d.accFail r b4 wr off kind isl).rd a = d.rd a)
      ∧ d.sameMem (d.accFail r b4 wr off kind isl) ∧ d.sameEngines (d.accFail r b4 wr off kind isl))
  ∧ (∀ (s : State) (r : Req) (write : Bool) (a : Nat), s.dev.islandOk (s.dev.islandOf (a / 8 * 8)) = true → s.dev.halted = false →
      ∃ d : Dev,
        d = (s.dev.waitUp (s.dev.tim.up + (if s.dev.islandOf (a / 8 * 8) = 47 then 200 else 2) * usU)).accFail r false write a 1
              (s.dev.islandOf (a / 8 * 8))
        ∧ exec (.bridgeTimeout r .bar0 write a) s
            = .next { s with dev := if write then d else { d with rdata := BitVec.ofNat 64 (2 ^ 64 - 1) } })

/-- From R27, R28: a write without the unlock is dropped, counted in `GLB_LOCK_WR_CNT` and reported; the register it names, memory and every other
register keep what they hold. From R17, R27, R28, Table SCO-6: a 64-bit write that its island takes and the unlock permits. A register of the clock
generator, the reset or the calibration block holds afterwards what its fields' access codes make of the value; every other address of BAR0 follows
the write rule of its block; a word of a forwarding table in BAR4 is stored in memory, and no other octet or register changes. -/
def Obligations.RegisterWritesAndTheUnlock : Prop :=
  ((∀ (s : State) (r : Req) (a : Nat) (v : Word), a % 8 = 0 → a < 0x8000000 → (a < 0x3000000 ∨ 0x3010000 ≤ a) → mailboxAt a = none →
        s.dev.unreachable a = false → s.dev.mayWrite r a = false →
        exec (.registerWrite r .bar0 a 8 v) s = .next { s with dev := (s.dev.inc Reg.glbLockWrCnt).raise 0 (s.dev.islandOf a) 0x11 a })
    ∧ (∀ (s : State) (r : Req) (o isl k : Nat) (v : Word), o % 8 = 0 → s.dev.bar4At o = some (isl, k) → s.dev.islandOk isl = true →
        s.dev.halted = false → s.dev.unlockedBy k r = false →
        exec (.rcRead64 r .bar4 ⟨o, 8⟩) s = .next { s with dev := { s.dev with rdata := 0 } }
        ∧ exec (.registerWrite r .bar4 o 8 v) s = .next { s with dev := (s.dev.inc Reg.glbLockWrCnt).raise 0 isl 0x11 o }))
  ∧ ((∀ (s : State) (r : Req) (a k : Nat) (v : Word) (g : RegDesc) (ix : List Nat), a % 8 = 0 → blockOf a = some k → 19 ≤ k → k ≤ 21 →
        regAt a = some (g, ix) → fldsOk g.flds v = true → s.takes r a →
        exec (.registerWrite r .bar0 a 8 v) s = .next { s with dev := s.dev.wr a (writeFlds g.flds v (s.dev.rd a)) })
    ∧ (∀ (s : State) (r : Req) (a : Nat) (v : Word), a % 8 = 0 → a < 0x8000000 → (a < 0x3000000 ∨ 0x3010000 ≤ a) → mailboxAt a = none →
        adminAt a = none → s.takes r a → exec (.registerWrite r .bar0 a 8 v) s = .next (s.wrAny a v))
    ∧ (∀ (s : State) (r : Req) (o isl k : Nat) (v : Word), o % 8 = 0 → 0x3000000 ≤ o → s.dev.bar4At o = some (isl, k) →
        s.dev.islandOk isl = true → s.dev.halted = false → s.dev.unlockedBy k r = true →
        ∃ x : Dev, x.mem = s.dev.mem ∧ x.regs = s.dev.regs ∧ (0x4000000 ≤ o → o < 0x20000000 → x = s.dev)
        ∧ exec (.registerWrite r .bar4 o 8 v) s = .next { s with dev := x.stW (bar4Addr o) v }
        ∧ s.dev.sameMemBut (x.stW (bar4Addr o) v) (bar4Addr o) 8))

/-- From R22, R23: a snapshot GO and its capture. -/
def Obligations.SnapshotGroupsCapture : Prop :=
  (∀ (s : State) (r : Req) (v : Word) (isl : Nat), s.takes r Reg.glbSnapCtl → s.dev.gb Reg.glbSnapStat 0 = false →
      snapIsland (getF (setB v 63 true) 0 4) (getF (setB v 63 true) 16 18) = some isl → s.dev.islandOk isl = true →
      exec (.snapshotGo r v) s
        = .next { s with dev := ((({ (s.dev.wrReg Reg.glbSnapCtl (setB v 63 true)) with
            snap := some (getF (setB v 63 true) 0 4, getF (setB v 63 true) 16 18) } : Dev).sb Reg.glbSnapStat 0 true).sb
              Reg.glbSnapStat 1 false).sb Reg.glbSnapStat 2 false })
  ∧ (∀ (s : State) (r : Req) (v : Word), s.takes r Reg.glbSnapCtl → s.dev.gb Reg.glbSnapStat 0 = true →
      exec (.snapshotGo r v) s = .next { s with dev := s.dev.sb Reg.glbSnapStat 3 true })
  ∧ (∀ (s : State) (g i isl : Nat), s.dev.snap = some (g, i) → snapIsland g i = some isl → s.dev.islandOk isl = true →
      exec .snapshotCapture s
        = .next { s with dev := ((({ s.dev with snap := none } : Dev).sb Reg.glbSnapStat 0 false).wrs (Reg.glbSnapData 0)
            (s.dev.snapWords g i)).sb Reg.glbSnapStat 1 true })
  ∧ (∀ (s : State) (g i isl : Nat), s.dev.snap = some (g, i) → snapIsland g i = some isl → s.dev.islandOk isl = false →
      exec .snapshotCapture s
        = .next { s with dev := (({ s.dev with snap := none } : Dev).sb Reg.glbSnapStat 0 false).sb Reg.glbSnapStat 2 true })

/-- R36: when a sample written to `TIM_SERVO_IN`, or arriving from the PPS pin or a PTM exchange, is accepted and when it is rejected. -/
def Obligations.ServoSampleAcceptance : Prop :=
  (∀ (s : State) (r : Req) (v : Word), s.takes r Reg.timServoIn → s.dev.gf Reg.timCtl 0 3 = 1 →
      (∀ t, s.dev.tim.lastAcc = some t → 10 * usU ≤ s.dev.tim.up - t) →
      exec (.servoInWrite r v) s = .next { s with dev := s.dev.acceptSample (toSigned 48 v.toNat) })
  ∧ (∀ (s : State) (r : Req) (v : Word), s.takes r Reg.timServoIn →
      (s.dev.gf Reg.timCtl 0 3 ≠ 1 ∨ ∃ t, s.dev.tim.lastAcc = some t ∧ s.dev.tim.up - t < 10 * usU) →
      exec (.servoInWrite r v) s = .next { s with dev := (s.dev.sb Reg.timStat 5 true).inc Reg.timSampRejCnt })
  ∧ (∀ (d : Dev) (src : Nat) (x : Int), d.gf Reg.timCtl 0 3 ≠ src → d.sourceSample src x = d)
  ∧ (∀ (d : Dev) (src t : Nat) (x : Int), d.gf Reg.timCtl 0 3 = src → d.tim.lastAcc = some t → d.tim.up - t < 10 * usU →
      d.sourceSample src x = (d.sb Reg.timStat 5 true).inc Reg.timSampRejCnt)
  ∧ (∀ (d : Dev) (src : Nat) (x : Int), d.gf Reg.timCtl 0 3 = src → (∀ t, d.tim.lastAcc = some t → 10 * usU ≤ d.tim.up - t) →
      d.sourceSample src x = d.acceptSample x)

/-- From R37: what every accepted sample does before Table TIM-3 judges it: THETA and SEQ of `TIM_SERVO_OFS`, the restart of the SRC_TIMEOUT count, and
the sample's place as the previous accepted one; and what an applied sample does to the rate. From Table TIM-3: the writes and timers that move the
servo between free, acquire, locked and holdover. -/
def Obligations.ServoSamplesAndStates : Prop :=
  ((∀ (d : Dev) (x : Int), ∃ e : Dev,
        e = ({ ((d.sf Reg.timServoOfs 0 48 (ofSigned 48 x)).sf Reg.timServoOfs 48 16 (d.gf Reg.timServoOfs 48 16 + 1)) with
                tim := { d.tim with lastAcc := some d.tim.up, srcSince := d.tim.up } } : Dev)
        ∧ d.acceptSample x = e.servoSample x
        ∧ e.gf Reg.timServoOfs 0 48 = ofSigned 48 x % 2 ^ 48 ∧ e.gf Reg.timServoOfs 48 16 = (d.gf Reg.timServoOfs 48 16 + 1) % 2 ^ 16
        ∧ (∀ a, a ≠ Reg.timServoOfs → e.rd a = d.rd a) ∧ d.sameMem e ∧ d.sameEngines e)
    ∧ (∀ (d : Dev) (x : Int) (q1 q2 : Int × Dev), d.tim.first = false → 
        q1 = d.freeDiv (x * 2 ^ (80 - d.gf Reg.timServoCfg 5 5)) ((d.tim.up - d.tim.lastApp : Nat) : Int) →
        q2 = q1.2.freeDiv (x * 2 ^ (80 - d.gf Reg.timServoCfg 0 5)) ((d.tim.up - d.tim.lastApp : Nat) : Int) →
        (d.applySample x).gf Reg.timRate 0 40 = ofSigned 40 (clampI (-rateLim) rateLim (d.tim.integ - q1.1 - q2.1)) % 2 ^ 40
        ∧ (d.applySample x).gf Reg.timServoInteg 0 40 = ofSigned 40 (clampI (-rateLim) rateLim (d.tim.integ - q1.1)) % 2 ^ 40
        ∧ (∀ a, a ≠ Reg.timRate → a ≠ Reg.timServoInteg → (d.applySample x).rd a = d.rd a)
        ∧ d.sameMem (d.applySample x) ∧ d.sameEngines (d.applySample x)))
  ∧ ((∀ (s : State) (r : Req) (v : Word), s.takes r Reg.timCtl → getF v 0 3 = 0 →
        exec (.srcWrite r v) s = .next { s with dev := (s.dev.sf Reg.timCtl 0 3 0).setTimState 0 })
    ∧ (∀ (s : State) (r : Req) (v : Word), s.takes r Reg.timCtl → getF v 0 3 ≠ 0 → getF v 0 3 ≤ 4 → getF v 0 3 ≠ s.dev.gf Reg.timCtl 0 3 →
        exec (.srcWrite r v) s = .next { s with dev := (s.dev.sf Reg.timCtl 0 3 (getF v 0 3)).enterAcquire })
    ∧ (∀ (s : State) (r : Req) (v : Word), s.takes r Reg.timCtl → 4 < getF v 0 3 →
        exec (.srcWrite r v) s = .next { s with dev := s.dev.sb Reg.timStat 5 true })
    ∧ (∀ (s : State) (e : Dev), s.dev.timState = 1 →
        e = s.dev.waitUp (s.dev.tim.srcSince + s.dev.gf Reg.timServoCfg 32 16 * 100 * usU) →
        exec .sourceTimeout s = .next { s with dev := ((e.sb Reg.timStat 4 true).raise 1 0 0x10 (e.gf Reg.timCtl 0 3)).setTimState 0 })
    ∧ (∀ (s : State) (e f : Dev), s.dev.timState = 2 →
        e = s.dev.waitUp (s.dev.tim.srcSince + s.dev.gf Reg.timServoCfg 32 16 * 100 * usU) →
        f = ((((e.sb Reg.timStat 4 true).raise 1 0 0x10 (e.gf Reg.timCtl 0 3)).sf Reg.timRate 0 40
                (((e.sb Reg.timStat 4 true).raise 1 0 0x10 (e.gf Reg.timCtl 0 3)).gf Reg.timServoInteg 0 40)).inc Reg.timHoldCnt) →
        exec .sourceTimeout s
            = .next { s with dev := ({ f with tim := { f.tim with holdSince := f.tim.up, badRun := 0 } } : Dev).setTimState 3 })
    ∧ (∀ (s : State), s.dev.timState = 3 → s.dev.gf Reg.timHoldCfg 0 32 ≠ 0 → s.dev.gb Reg.timStat 2 = false →
        exec .holdoverExpiry s
          = .next { s with dev := (((s.dev.waitUp (s.dev.tim.holdSince + s.dev.gf Reg.timHoldCfg 0 32 * secU)).sb Reg.timStat 2 true).raise
              1 0 0x11 0).squelch }))

/-- From R39: while a port transmits its schedule, or an attachment is in coldstart, integrate, active or passive, no step is permitted: a software step
or SET sets `TIM_STAT.ADJ_REFUSED` and counts, and a step of the servo is a slew. -/
def Obligations.StepsNotPermitted : Prop :=
  (∀ d : Dev, d.stepsPermitted = false ↔
      (d.gb Reg.calStat 0 = true ∧ ∃ p < 36, d.gb (Reg.calPortCfg p) 0 = true)
      ∨ ∃ a < 2, 2 ≤ d.gf (Reg.rngStat a) 0 3 ∧ d.gf (Reg.rngStat a) 0 3 ≠ 6)
  ∧ (∀ (s : State) (r : Req) (v : Word), s.takes r Reg.timAdj →
      (s.dev.wrReg Reg.timAdj (setB (setB v 63 true) 48 false)).stepsPermitted = false →
      exec (.timeStep r v) s = .next { s with dev :=
        (((s.dev.wrReg Reg.timAdj (setB (setB v 63 true) 48 false)).sb Reg.timStat 7 true).inc Reg.timAdjRefCnt) })
  ∧ (∀ (s : State) (r : Req) (v : Word), s.takes r Reg.timSetNs → inRangeAt Reg.timSetNs (setB v 63 true) = true →
      (s.dev.wrReg Reg.timSetNs (setB v 63 true)).stepsPermitted = false →
      exec (.timeSetLoad r v) s = .next { s with dev :=
        (((s.dev.wrReg Reg.timSetNs (setB v 63 true)).sb Reg.timStat 7 true).inc Reg.timAdjRefCnt) })
  ∧ (∀ (d : Dev) (x : Int), d.stepsPermitted = false → d.tim.steppedAt ≠ some d.tim.up →
      (d.correctPhase x).tim.slew = -x * 2 ^ 32 ∧ (d.correctPhase x).now = d.now)

/-- From R38, R39: a permitted step, a slew, a SET, and the end of a slew. From R51–R53: a PTM request, one of the period timer, the response that
completes it and its timeout. -/
def Obligations.TimeBaseAndPtm : Prop :=
  ((∀ (s : State) (r : Req) (v : Word) (d : Dev), s.takes r Reg.timAdj → d = s.dev.wrReg Reg.timAdj (setB (setB v 63 true) 48 false) →
        d.stepsPermitted = true →
        exec (.timeStep r v) s = .next { s with dev := d.stepAccepted.stepBy (toSigned 48 (getF v 0 48) * 2 ^ 32) })
    ∧ (∀ (s : State) (r : Req) (v : Word), s.takes r Reg.timAdj →
        exec (.timeSlew r v) s = .next { s with dev :=
          (s.dev.wrReg Reg.timAdj (setB (setB v 63 true) 48 true)).slewBy (toSigned 48 (getF v 0 48) * 2 ^ 32) })
    ∧ (∀ (s : State) (r : Req) (v : Word) (d : Dev), s.takes r Reg.timSetNs → inRangeAt Reg.timSetNs (setB v 63 true) = true →
        d = s.dev.wrReg Reg.timSetNs (setB v 63 true) → d.stepsPermitted = true →
        exec (.timeSetLoad r v) s
          = .next { s with dev := d.stepAccepted.setLocal (d.gf Reg.timSetSec 0 48 * secU + getF v 16 32 * nsU + getF v 0 16 * 2 ^ 32) })
    ∧ (∀ (s : State) (n : Nat), s.dev.tim.slew ≠ 0 → s.dev.slewClocks = some n →
        exec .slewComplete s = .next { s with dev := s.dev.clocks n } ∧ (s.dev.clocks n).tim.slew = 0
        ∧ (s.dev.clocks n).gb Reg.timStat 6 = false))
  ∧ ((∀ d : Dev, d.ptmReady = true → d.tim.ptmSent = none →
        d.ptmIssue = { d with tim := { d.tim with ptmSent := some d.tim.up, ptmT1 := stampOf d.now }, out := .pcie 0 [] :: d.out })
    ∧ (∀ d : Dev, d.ptmReady = false ∨ d.tim.ptmSent ≠ none → d.ptmIssue = d)
    ∧ (∀ (s : State) (r : Req) (v : Word), s.takes r Reg.timPtmCtl → inRangeAt Reg.timPtmCtl (setB v 2 true) = true →
        (getB v 1 = false ∨ s.dev.gb Reg.timPtmCtl 1 = true) →
        exec (.ptmRequest r v) s = .next { s with dev := (s.dev.wrReg Reg.timPtmCtl (setB v 2 true)).ptmIssue })
    ∧ (∀ (s : State) (e : Dev), s.dev.gb Reg.timPtmCtl 1 = true →
        e = s.dev.waitUp (s.dev.tim.ptmLast + s.dev.gf Reg.timPtmCtl 16 10 * msU) →
        exec .ptmPeriodTimer s = .next { s with dev := ({ e with tim := { e.tim with ptmLast := e.tim.up } } : Dev).ptmIssue })
    ∧ (∀ (s : State) (tm : Word) (dl : BitVec 32) (t : Nat), s.dev.tim.ptmSent = some t → s.dev.gf Reg.timCtl 0 3 ≠ 4 →
        ∃ e : Dev, exec (.ptmResponse tm dl) s = .next { s with dev := e }
          ∧ e.rd Reg.timPtmLocal = compact s.dev.tim.ptmT1 ∧ e.rd Reg.timPtmMaster = tm
          ∧ e.gf Reg.timPtmDelay 0 32 = dl.toNat ∧ e.gf Reg.timPtmDelay 48 16 = (s.dev.gf Reg.timPtmDelay 48 16 + 1) % 2 ^ 16
          ∧ e.gb Reg.timPtmCtl 63 = true ∧ e.tim.ptmSent = none ∧ e.tim.ptmMiss = 0)
    ∧ (∀ (s : State) (t : Nat) (e : Dev), s.dev.tim.ptmSent = some t → e = s.dev.waitUp (t + msU) →
        exec .ptmTimeout s = .next { s with dev :=
          (if 3 ≤ s.dev.tim.ptmMiss + 1 then
            (({ e with tim := { e.tim with ptmSent := none, ptmMiss := e.tim.ptmMiss + 1 } } : Dev).inc Reg.timPtmToCnt).sb Reg.timPtmCtl 63 false
          else ({ e with tim := { e.tim with ptmSent := none, ptmMiss := e.tim.ptmMiss + 1 } } : Dev).inc Reg.timPtmToCnt) }))

/-- From R55–R58: the PPS input's accepted and rejected edges, and the edges of the two time outputs. From R59, R60, R62, R400: a scheduled snapshot is
armed or refused with its code, cancelled, captured at T, and its image stands in HBM. -/
def Obligations.TimePinsAndSnapshots : Prop :=
  ((∀ (s : State) (rising : Bool) (held : Nat), s.dev.gb Reg.timPpsinCfg 0 = true → rising ≠ s.dev.gb Reg.timPpsinCfg 1 →
        s.dev.gf Reg.timPpsinCfg 8 8 ≤ held →
        ((∃ t, s.dev.tim.ppsLast = some t ∧ (s.dev.tim.up - t) * 2 < secU)
          ∨ ((s.dev.timState = 2 ∨ s.dev.timState = 3)
              ∧ s.dev.gf Reg.timPpsinCfg 16 16 * 100 * nsU < (secondOffset (stampOf s.dev.now)).natAbs)) →
        exec (.ppsInEdge rising held) s = .next { s with dev := s.dev.inc Reg.timPpsinRejCnt })
    ∧ (∀ (s : State) (rising : Bool) (held : Nat), s.dev.gb Reg.timPpsinCfg 0 = true → rising ≠ s.dev.gb Reg.timPpsinCfg 1 →
        s.dev.gf Reg.timPpsinCfg 8 8 ≤ held → s.dev.tim.ppsLast = none →
        (s.dev.timState ≤ 1 ∨ (secondOffset (stampOf s.dev.now)).natAbs ≤ s.dev.gf Reg.timPpsinCfg 16 16 * 100 * nsU) →
        exec (.ppsInEdge rising held) s
          = .next { s with dev := ({ (s.dev.wr Reg.timPpsinCap (compact (stampOf s.dev.now))) with
              tim := { s.dev.tim with ppsLast := some s.dev.tim.up } } : Dev).sourceSample 3 (secondOffset (stampOf s.dev.now) / 2 ^ 32) })
    ∧ (∀ (s : State) (e : Dev), s.dev.pinLow Reg.timPpsoutCfg = false → s.dev.tim.ppsOut = false →
        e = s.dev.waitLocal (nextSecond s.dev.now (toSigned 24 (s.dev.gf Reg.timPpsoutCfg 8 24) * (nsU : Nat))) →
        exec (.ppsOutEdge false true) s = .next { s with dev := { e with tim := { e.tim with ppsOut := true, ppsAt := e.tim.up } } })
    ∧ (∀ (s : State) (e : Dev), s.dev.pinLow Reg.timPpsoutCfg = false → s.dev.tim.ppsOut = true →
        e = s.dev.waitUp (s.dev.tim.ppsAt + s.dev.gf Reg.timPpsoutCfg 32 20 * usU) →
        exec (.ppsOutEdge false false) s = .next { s with dev := { e with tim := { e.tim with ppsOut := false, ppsAt := e.tim.up, ppsKeep := false } } })
    ∧ (∀ (s : State) (e : Dev), s.dev.pinLow Reg.timClk10Cfg = false → s.dev.tim.clk10 = true →
        e = s.dev.waitUp (s.dev.tim.clk10At + 50 * nsU) →
        exec (.ppsOutEdge true false) s = .next { s with dev := { e with tim := { e.tim with clk10 := false, clk10At := e.tim.up } } }))
  ∧ ((∀ (s : State) (r : Req) (v : Word) (d : Dev) (t : Nat), s.takes r Reg.timSnaptCtl → getB v 1 = false →
        d = s.dev.wrReg Reg.timSnaptCtl (setB v 0 true) → t = d.gf Reg.timSnaptSec 0 48 * secU + d.gf Reg.timSnaptNs 0 32 * nsU →
        (d.gf Reg.timSnaptCtl 2 3 = 0 → exec (.snaptArm r v) s = .next { s with dev := d.sf Reg.timSnaptStat 16 4 4 })
        ∧ (d.gf Reg.timSnaptCtl 2 3 ≠ 0 → (d.snaptState = 1 ∨ d.snaptState = 2) →
            exec (.snaptArm r v) s = .next { s with dev := d.sf Reg.timSnaptStat 16 4 3 })
        ∧ (d.gf Reg.timSnaptCtl 2 3 ≠ 0 → d.snaptState ≠ 1 → d.snaptState ≠ 2 →
            (t < d.now + 10 * usU ∨ (d.gb Reg.timSnaptCtl 5 = true ∧ d.beforeSecond t = true)) →
            exec (.snaptArm r v) s = .next { s with dev := d.sf Reg.timSnaptStat 16 4 1 })
        ∧ (d.gf Reg.timSnaptCtl 2 3 ≠ 0 → d.snaptState ≠ 1 → d.snaptState ≠ 2 → d.now + 10 * usU ≤ t → d.gb Reg.timSnaptCtl 5 = true →
            d.beforeSecond t = false → d.anyActive = false →
            exec (.snaptArm r v) s = .next { s with dev := d.sf Reg.timSnaptStat 16 4 2 })
        ∧ (d.gf Reg.timSnaptCtl 2 3 ≠ 0 → d.snaptState ≠ 1 → d.snaptState ≠ 2 → d.now + 10 * usU ≤ t → d.gb Reg.timSnaptCtl 5 = false →
            exec (.snaptArm r v) s
              = .next { s with dev := d.snapArm (d.gf Reg.timSnaptCtl 8 8) (d.gf Reg.timSnaptCtl 2 3) (d.gb Reg.timSnaptCtl 6) false t }))
    ∧ (∀ (s : State) (r : Req) (v : Word), s.takes r Reg.timSnaptCtl → getB v 1 = true →
        exec (.snaptArm r v) s = .next { s with dev := s.dev.sb Reg.timStat 5 true })
    ∧ (∀ (s : State) (r : Req) (v : Word) (d : Dev), s.takes r Reg.timSnaptCtl → getB v 0 = false →
        d = s.dev.wrReg Reg.timSnaptCtl (setB v 1 true) → d.snaptState = 1 →
        exec (.snaptCancel r v) s = .next { s with dev := d.sf Reg.timSnaptStat 0 2 0 })
    ∧ (∀ (s : State), s.dev.snaptState = 1 →
        exec .snaptCapture s = .next { s with dev := (s.dev.waitLocal s.dev.tim.snapT).snapCapture false })
    ∧ (∀ (s : State), s.dev.snaptState = 2 → s.dev.tim.snapQuiet = false →
        exec .snaptImageDone s = .next { s with dev := ({ s.dev.writeImage with
          tim := { s.dev.writeImage.tim with snapImage := [], snapBytes := [] } } : Dev).sf Reg.timSnaptStat 0 2 3 }))

/-- From R74, R77, Table CAL-5: an accepted COPY, COMMIT and UNSTAGE. The shadow parameters are captured by the COMMIT, and by the COPY of an IDLE
source. From R77, Table CAL-5: a COMMIT of a bank that is neither IDLE nor STAGED, or that a COPY in progress reads, and an UNSTAGE of one that is
not STAGED, is refused with REF_CODE 1. -/
def Obligations.BankCommands : Prop :=
  (∀ (s : State) (r : Req) (v : Word) (op : Nat) (d : Dev), s.takes r Reg.calCmd → d = s.dev.wrReg Reg.calCmd (calCmdWord op v) →
      s.dev.solLocked (getF v 4 2) = false →
      (op = 1 → s.dev.solLocked (getF v 8 2) = false → (d.bankSt (getF v 4 2) = 0 ∨ d.bankSt (getF v 4 2) = 3) → getF v 8 2 ≠ getF v 4 2 →
        d.bankSt (getF v 8 2) ≠ 1 → d.bankSt (getF v 8 2) ≠ 2 → getF v 4 2 ∉ d.copySources →
        exec (.calCopy r v) s = .next { s with dev := (((d.setBank (getF v 4 2) { (d.bank (getF v 4 2)) with
            cap := if d.bankSt (getF v 8 2) = 0 then d.shadowPar (getF v 8 2) else (d.bank (getF v 8 2)).par
            src := some (getF v 8 2), since := d.tim.up }).setBankSt (getF v 4 2) 1).solTouch (getF v 4 2)) })
      ∧ (op = 2 → (d.bankSt (getF v 4 2) = 0 ∨ d.bankSt (getF v 4 2) = 3) → getF v 4 2 ∉ d.copySources →
        exec (.calCommit r v) s = .next { s with dev := (((d.setBank (getF v 4 2) { (d.bank (getF v 4 2)) with
            cap := d.shadowPar (getF v 4 2), back := d.bankSt (getF v 4 2), since := d.tim.up }).setBankSt (getF v 4 2) 2).solTouch
              (getF v 4 2)) })
      ∧ (op = 3 → d.bankSt (getF v 4 2) = 3 → getF v 4 2 ∉ d.copySources →
        exec (.calUnstage r v) s = .next { s with dev := ((d.setBankSt (getF v 4 2) 0).solTouch (getF v 4 2)) }))
  ∧ (∀ (s : State) (r : Req) (v : Word) (op : Nat) (d : Dev), s.takes r Reg.calCmd → d = s.dev.wrReg Reg.calCmd (calCmdWord op v) →
      s.dev.solLocked (getF v 4 2) = false →
      (op = 2 → ((d.bankSt (getF v 4 2) ≠ 0 ∧ d.bankSt (getF v 4 2) ≠ 3) ∨ getF v 4 2 ∈ d.copySources) →
        exec (.calCommit r v) s
          = .next { s with dev := (d.sb Reg.calStat 2 true).sf Reg.calStat 4 4 1 })
      ∧ (op = 3 → (d.bankSt (getF v 4 2) ≠ 3 ∨ getF v 4 2 ∈ d.copySources) →
        exec (.calUnstage r v) s
          = .next { s with dev := (d.sb Reg.calStat 2 true).sf Reg.calStat 4 4 1 }))

/-- From R71, R72, R74, Table CAL-5: the end of a validation. A bank that passes takes the captured parameters as its committed copy, one generation on,
and is STAGED; a bank that fails returns to the state it had, with the first failure recorded and counted. From R64, R65, R74, R77, R96, R98: a copy
that is done, a cycle boundary of a running calendar that neither stops nor hands over, a port configuration written while the calendar runs and
while it does not, and the end of a slice's revalidation. -/
def Obligations.ValidationAndCycles : Prop :=
  (∀ (s : State) (b : Bank) (d : Dev) (k p i : Nat), s.dev.bankSt b.val = 2 →
      d = (s.dev.waitUp ((s.dev.bank b.val).since + ((s.dev.bank b.val).cap.largest + 2000) * nsU)).readEntries b.val (s.dev.bank b.val).cap
            (List.range 36) →
      d.validate b.val (s.dev.bank b.val).cap (List.range 36) = (k, p, i) →
      ∃ e : Dev,
        e = (((d.sf (Reg.calBankStat b.val) 4 4 k).sf (Reg.calBankStat b.val) 8 6 p).sf (Reg.calBankStat b.val) 16 18 i)
        ∧ (k = 0 → exec (.calValidationDone b) s = .next { s with dev :=
            (((e.sf (Reg.calGen b.val) 0 16 (e.gf (Reg.calGen b.val) 0 16 + 1)).setBank b.val
              { (e.bank b.val) with par := (s.dev.bank b.val).cap }).setBankSt b.val 3) })
        ∧ (k ≠ 0 → k ≠ 9 → exec (.calValidationDone b) s
            = .next { s with dev := (e.inc Reg.calValFailCnt).setBankSt b.val (e.bank b.val).back }))
  ∧ ((∀ (s : State) (b : Bank) (src : Nat), (s.dev.bank b.val).src = some src → s.dev.bankSt b.val = 1 →
        ∃ d e : Dev, exec (.calCopyDone b) s = .next { s with dev := e }
          ∧ e = (d.setBank b.val { (d.bank b.val) with src := none }).setBankSt b.val 0
          ∧ d.gf (Reg.calGen b.val) 0 16 = d.gf (Reg.calGen src) 0 16)
    ∧ (∀ (s : State) (c : CalSrc), s.dev.running = true → s.dev.cal.cur = some c → s.dev.cal.pend = none →
        ∀ (bd n : Nat) (d : Dev), bd = c.beg + s.dev.cycLen c.bank → n = (c.num + 1) % 2 ^ 48 →
        d = (((s.dev.waitLocal bd).takeCfg bd).takeResume bd).takePorts bd → ¬ (d.cal.stopAt = some bd ∧ d.running = true) →
        exec .cycleBoundary s = .next { s with dev := (d.beginCycle bd n).syncMode })
    ∧ (∀ (s : State) (r : Req) (p : Port) (v : Word), s.takes r (Reg.calPortCfg p.val) → s.dev.running = false →
        exec (.calPortCfgWrite r p v) s = .next { s with dev := s.dev.wrReg (Reg.calPortCfg p.val) v })
    ∧ (∀ (s : State) (r : Req) (p : Port) (v : Word) (bd n : Nat) (d : Dev), s.takes r (Reg.calPortCfg p.val) → s.dev.running = true →
        s.dev.boundaryFrom (s.dev.now + 1000 * nsU) = some (bd, n) → d = s.dev.wrReg (Reg.calPortCfg p.val) v →
        exec (.calPortCfgWrite r p v) s = .next { s with dev := { d with cal := { d.cal with
          cfgPend := d.cal.cfgPend.filter (fun e => !(e.1 == p.val && e.2.1 == bd)) ++ [(p.val, bd, d.rd (Reg.calPortCfg p.val))]
          cfgOld := Sparse.put d.cal.cfgOld p.val (Sparse.getD s.dev.cal.cfgOld p.val (s.dev.rd (Reg.calPortCfg p.val))) } } })
    ∧ (∀ (s : State) (sl : Slice) (t : Nat) (c : CalSrc) (e d : Dev), Sparse.find s.dev.cal.reval sl.val = some t → s.dev.cal.cur = some c →
        e = s.dev.waitUp (t + (c.par.covered sl.val + 2000) * nsU) →
        d = ({ e with cal := { e.cal with reval := Sparse.del e.cal.reval sl.val } } : Dev).readEntries c.bank c.par (slicePorts sl.val) →
        ((d.validate c.bank c.par (slicePorts sl.val)).1 = 0 → ∀ bd n, d.boundaryFrom (d.now + 1000 * nsU) = some (bd, n) →
          exec (.calRevalidationEnd sl) s
            = .next { s with dev := { d with cal := { d.cal with resume := Sparse.put d.cal.resume sl.val bd } } })
        ∧ (∀ k p i, d.validate c.bank c.par (slicePorts sl.val) = (k, p, i) → k ≠ 0 →
          exec (.calRevalidationEnd sl) s
            = .next { s with dev := d.raise 2 sl.val 0x12 (if 5 ≤ k then entryOffset c.bank sl.val i else 0) })))

/-- R75: an entry write takes effect only while its bank is IDLE and no COPY in progress reads it; otherwise it is dropped, shown in WR_REF and counted. -/
def Obligations.EntryWriteNeedsIdleBank : Prop :=
  ∀ (s : State) (r : Req) (b : Bank) (sl : Slice) (i : BitVec 18) (v : Word), s.takes4 r (calIsland sl.val) 2 →
    s.dev.solLocked b.val = false →
    (s.dev.bankSt b.val = 0 → b.val ∉ s.dev.copySources →
      exec (.calEntryWrite r b sl i v) s = .next { s with dev :=
        { (s.dev.stW (entryAddr b.val sl.val i.toNat) v) with soft := s.dev.soft.filter (· != entryAddr b.val sl.val i.toNat) } }
      ∧ s.dev.sameMemBut (s.dev.stW (entryAddr b.val sl.val i.toNat) v) (entryAddr b.val sl.val i.toNat) 8)
    ∧ ((s.dev.bankSt b.val ≠ 0 ∨ b.val ∈ s.dev.copySources) →
      exec (.calEntryWrite r b sl i v) s = .next { s with dev := (s.dev.sb Reg.calStat 8 true).inc Reg.calWrRefCnt })

/-- From R78: which GO of `CAL_ACT` is accepted, for which boundary, and the first REF_CODE that applies to one that is not; and CANCEL. -/
def Obligations.ActivationAcceptance : Prop :=
  ∀ (s : State) (r : Req) (v : Word) (d : Dev) (b cyc : Nat), s.takes r Reg.calAct → b = getF v 0 2 → cyc = getF v 8 48 →
    (getB v 62 = false → d = s.dev.wrReg Reg.calAct (setB v 63 true) → s.dev.solLocked b = false →
      (d.calRing = true → exec (.calActivate r v) s = .next { s with dev := d.calRef 3 })
      ∧ (d.calRing = false → d.running = false → exec (.calActivate r v) s = .next { s with dev := d.calRef 4 })
      ∧ (d.calRing = false → d.running = true → (d.bankSt b ≠ 3 ∨ d.cal.pend ≠ none) →
          exec (.calActivate r v) s = .next { s with dev := d.calRef 1 })
      ∧ (∀ at_ n c, d.calRing = false → d.running = true → d.bankSt b = 3 → d.cal.pend = none →
          d.boundaryFrom (d.now + 1000 * nsU) = some (at_, n) → d.cal.cur = some c →
          (cyc = 0 → exec (.calActivate r v) s = .next { s with dev := d.schedule ⟨b, at_, n, false, true⟩ })
          ∧ (cyc ≠ 0 → (cyc ≤ c.num ∨ c.beg + (cyc - c.num) * d.cycLen c.bank < at_) →
              exec (.calActivate r v) s = .next { s with dev := d.calRef 2 })
          ∧ (c.num < cyc → at_ ≤ c.beg + (cyc - c.num) * d.cycLen c.bank →
              exec (.calActivate r v) s
                = .next { s with dev := d.schedule ⟨b, c.beg + (cyc - c.num) * d.cycLen c.bank, cyc, false, true⟩ })))
    ∧ (getB v 63 = false → d = s.dev.wrReg Reg.calAct (setB v 62 true) → s.dev.solLocked b = false → d.calRing = false →
      ∀ q, d.cal.pend = some q → q.act = true → d.bankSt q.bank ≠ 5 →
        exec (.calActCancel r v) s = .next { s with dev := d.unschedule })

/-- From R81, R82: the write that starts the calendar, the one that stops it, and the one that cancels a start. From R76, R81, R172: at the hand-over
point of a pending boundary the calendar takes the committed generation and the bank is HANDED; a start on a ring whose main attachment is not
integrated moves on by a cycle. -/
def Obligations.CalendarStartsAndHandsOver : Prop :=
  ((∀ (s : State) (r : Req) (v : Word) (d : Dev), s.takes r Reg.calCtl → s.dev.running = false → getB (s.dev.rd Reg.calCtl) 0 = false →
        d = s.dev.wrReg Reg.calCtl (setB v 0 true) →
        ((s.dev.bankSt (getF v 2 2) ≠ 3 ∨ s.dev.cal.stopAt ≠ none) →
          exec (.calendarStart r v) s = .next { s with dev := s.dev.calRef 1 })
        ∧ (s.dev.bankSt (getF v 2 2) = 3 → s.dev.cal.stopAt = none → s.dev.calStartAt < s.dev.now + s.dev.leadU + 3000 * nsU →
          exec (.calendarStart r v) s = .next { s with dev := s.dev.calRef 5 })
        ∧ (s.dev.bankSt (getF v 2 2) = 3 → s.dev.cal.stopAt = none → s.dev.now + s.dev.leadU + 3000 * nsU ≤ s.dev.calStartAt →
          d.calRing = false →
          exec (.calendarStart r v) s = .next { s with dev := d.schedule ⟨getF v 2 2, s.dev.calStartAt, 0, true, false⟩ })
        ∧ (s.dev.bankSt (getF v 2 2) = 3 → s.dev.cal.stopAt = none → s.dev.now + s.dev.leadU + 3000 * nsU ≤ s.dev.calStartAt →
          d.calRing = true →
          ∀ at_, at_ = (s.dev.calStartAt + d.ringC d.mainAtt - 1) / d.ringC d.mainAtt * d.ringC d.mainAtt →
          exec (.calendarStart r v) s
            = .next { s with dev := d.schedule ⟨getF v 2 2, at_, d.ringNum d.mainAtt at_, true, false⟩ }))
    ∧ (∀ (s : State) (r : Req) (v : Word) (d : Dev), s.takes r Reg.calCtl → getB (s.dev.rd Reg.calCtl) 0 = true →
        getF (setB v 0 false) 1 3 = getF (s.dev.rd Reg.calCtl) 1 3 → d = s.dev.wrReg Reg.calCtl (setB v 0 false) →
        (∀ q, s.dev.running = false → s.dev.cal.pend = some q → q.start = true → s.dev.bankSt q.bank = 4 →
          exec (.calendarStop r v) s = .next { s with dev := d.unschedule })
        ∧ (∀ bs n, s.dev.running = true → s.dev.boundaryFrom (s.dev.now + 1000 * nsU) = some (bs, n) →
          exec (.calendarStop r v) s = .next { s with dev :=
            ((({ d with cal := { d.cal with stopAt := some bs } } : Dev).sb Reg.calStat 1 true).dropStopped bs) })))
  ∧ (∀ (s : State) (q : CalPend) (d : Dev), s.dev.cal.pend = some q → s.dev.bankSt q.bank = 4 → d = s.dev.waitLocal (s.dev.handOver q.at_) →
      ((q.start = false ∨ d.calRing = false ∨ d.ringStartOk = true) →
        exec .calHandOver s = .next { s with dev :=
          ((((d.sf (Reg.calGen q.bank) 16 16 (d.gf (Reg.calGen q.bank) 0 16)).sb (Reg.calGen q.bank) 32 true).setBankSt q.bank 5).sf
            Reg.calActStat 0 2 2) })
      ∧ (q.start = true → d.calRing = true → d.ringStartOk = false →
        exec .calHandOver s = .next { s with dev :=
          (({ d with cal := { d.cal with pend := some { q with at_ := q.at_ + d.ringC d.mainAtt, cyc := (q.cyc + 1) % 2 ^ 48 } } } : Dev).actStat 1
            q.bank ((q.cyc + 1) % 2 ^ 48)) }))

/-- From R83: the fetch of a launch entry whose stream has no instance yet: for a host source the next entry of its submission queue is claimed and its
fetch begun; a fabric frame waits to be bound at arm. From R84, R85: at arm a launch whose frame stands ready, whose link can carry it, that fits
its reserved length and the port's next reserved interval, and that no pause holds, is armed; at L an armed launch starts on a free, awake wire and
is counted. From R84, Table CAL-9: what a discarded launch leaves: the late counts of the port and the stream, the record of the first one, the
interval released at L, and the launch gone; an armed launch that finds the wire busy is so discarded with cause 3. -/
def Obligations.LaunchFromFetchToWire : Prop :=
  (∀ (s : State) (p : Port) (i : BitVec 18) (n : BitVec 48) (c : CalSrc) (e : Word) (l : Nat) (b d : Dev) (la : Launch),
      s.dev.launchSrc p.val i.toNat n.toNat = some (c, e, l) → s.dev.now < l → getB (s.dev.portCfgAt p.val l) 0 = true →
      s.dev.sliceOut (sliceOf p.val) = false → s.dev.cal.launches = [] → (s.dev.port p.val).released = [] →
      b = (s.dev.waitLocal (l - s.dev.leadU)).scrub (entryAddr c.bank (sliceOf p.val) i.toNat) Reg.calEccCnt →
      b.isBad (entryAddr c.bank (sliceOf p.val) i.toNat) = false → eKind e = 1 → b.sType (eArg e) = 1 → d = b.readRec (eArg e) → d.strBar (eArg e) (some p.val) = .none →
      d.sReplicated (eArg e) = false →
      la = { port := p.val, idx := i.toNat, stream := eArg e, at_ := l, hcyc := eCyc e, cyc := n.toNat, key := l
             resLen := d.sResLen (eArg e), cls := d.launchCls p.val (eArg e) } →
      d.instOf la = none →
      (d.sFabric (eArg e) = true →
        exec (.launchFetch p i n) s = .next { s with dev := { d with cal := { d.cal with
          insts := d.cal.insts ++ [{ stream := eArg e, cyc := n.toNat, key := l, left := 1 }], launches := d.cal.launches ++ [la] } } })
      ∧ (∀ q sq, d.sFabric (eArg e) = false → d.sg (eArg e) 1 0 16 = q → d.hostSource q = 0 → d.sq q = some sq →
        exec (.launchFetch p i n) s = .next { s with dev := ((({ d with cal := { d.cal with
          insts := d.cal.insts ++ [{ stream := eArg e, cyc := n.toNat, key := l, left := 1, qp := some q, entry := some (q, sq.claimed) }]
          launches := d.cal.launches ++ [la] } } : Dev).modSq q (fun x => { x with claimed := x.claimed + 1 })).pumpSq q) }))
  ∧ ((∀ (s : State) (p : Port) (l : Launch) (d : Dev) (i : Inst) (id : Nat) (f : Frame), p.val < 32 → s.dev.nextLaunch p.val false = some l →
        l.port = p.val → d = s.dev.waitLocal (l.at_ - 1000 * nsU) → d.strBar l.stream (some p.val) = .none →
        d.instOf l = some i → i.none_ = false → i.frame = some id → d.frame id = some f → f.ready = true → d.launchLink p.val = true →
        d.overrun (d.judged l) f = false → d.pausedAt (d.judged l) = false →
        exec (.launchArm p) s = .next { s with dev := { d with cal := { d.cal with
          launches := d.cal.launches.map (fun x => if x = l then { d.judged l with armed := true } else x) } } })
    ∧ (∀ (s : State) (p : Port) (l : Launch) (d : Dev) (i : Inst) (id : Nat) (f : Frame), s.dev.nextLaunch p.val true = some l →
        d = (s.dev.waitLocal l.at_).settleWire p.val (s.dev.waitLocal l.at_).tim.up → d.instOf l = some i → i.frame = some id →
        d.frame id = some f → d.portOpen p.val = true → (d.port p.val).cur = none → (d.port p.val).gapEnd ≤ d.tim.up →
        d.waking p.val d.tim.up = false →
        exec (.launch p) s = .next { s with dev := (((d.inc (Reg.calLaunchCnt p.val)).newTx p.val id f l.cls true d.tim.up d.now
          (d.launchStamp p.val d.now) (if p.val < 32 then none else some (l.at_ + d.wireTime p.val l.resLen))).dropLaunch l) }
        ))
  ∧ ((∀ (d : Dev) (l : Launch) (cause : Nat), d.instOf l = none →
        d.lateDiscard l cause
          = ((let d1 := (d.inc (Reg.calLateCnt l.port)).strCount l.stream 7 1
              (if d1.gb (Reg.calLastLate l.port) 63 then d1
               else d1.wr (Reg.calLastLate l.port)
                 (BitVec.ofNat 64 (fld 0 18 l.stream + fld 20 4 cause + fld 24 12 l.hcyc + fld 63 1 1))).releaseAt l.port l.at_).copyLost l 1
                cause).dropLaunch l)
    ∧ (∀ (d : Dev) (l : Launch), l ∉ (d.dropLaunch l).cal.launches)
    ∧ (∀ (s : State) (p : Port) (l : Launch) (d : Dev) (i : Inst) (id : Nat) (f : Frame), s.dev.nextLaunch p.val true = some l →
        d = (s.dev.waitLocal l.at_).settleWire p.val (s.dev.waitLocal l.at_).tim.up → d.instOf l = some i → i.frame = some id →
        d.frame id = some f → d.portOpen p.val = true → ((d.port p.val).cur ≠ none ∨ d.tim.up < (d.port p.val).gapEnd) →
        exec (.launch p) s = .next { s with dev := d.lateDiscard l 3 }))

/-- From R88, R89, R107, R108, R110, R115, R261: what a free wire of a port that can send starts: the item of its own command, or the first that is
present, not held and fits. From R103–R105, R271, R196: at its end an mPacket stands on the wire with its SMD, data and check value, is counted, and
the next item is chosen; one still running at its guardian limit is stomped, counted and reported. -/
def Obligations.WireStartsAndEnds : Prop :=
  (∀ (s : State) (p : Port) (d : Dev) (u x : Nat), d = (s.dev.pauseCheck p.val).purge p.val → (d.port p.val).cur = none →
      u = max (max d.tim.up (d.port p.val).gapEnd) ((d.port p.val).wakeEnd.getD 0) → x = d.now + (u - d.tim.up) → d.canSend p.val u = true →
      (d.pickItem p.val x (fun i => i == .verify) = some .verify →
        exec (.verifySend p) s = .next { s with dev := (((d.modPort p.val (fun y => { y with vTry := y.vTry + 1, vSent := none })).sf
          (Reg.prePortStat p.val) 0 3 3).go p.val { kind := .verify, cls := 2, octets := List.replicate 60 0, start := u, local_ := x } none) })
      ∧ (d.pickItem p.val x (fun i => i == .respond) = some .respond →
        exec (.respondSend p) s = .next { s with dev := ((d.modPort p.val (fun y => { y with respond := y.respond - 1 })).go p.val
          { kind := .respond, cls := 2, octets := List.replicate 60 0, start := u, local_ := x } none) })
      ∧ (d.pickItem p.val x (fun i => i == .announce) = some .announce →
        exec (.announceSend p) s
          = .next { s with dev := ((d.modPort p.val (fun y => { y with nOwed := false, nTry := y.nTry + 1, nSent := none })).go p.val
              { kind := .announce, cls := 2, octets := d.annOctets p.val, start := u, local_ := x } none) })
      ∧ (d.pickItem p.val x (fun i => i == .annResp) = some .annResp →
        exec (.announceResponseSend p) s
          = .next { s with dev := ((d.modPort p.val (fun y => { y with annResp := y.annResp - 1 })).go p.val
              { kind := .annResp, cls := 2, octets := d.annOctets p.val, start := u, local_ := x } none) })
      ∧ (∀ q, d.pickItem p.val x (fun i => i == .pause) = some .pause → (d.port p.val).pauseOwed = some q →
        exec (.pauseFrameSend p) s
          = .next { s with dev := ((d.useFree.modPort p.val (fun y => { y with pauseOwed := none, pauseLast := u })).go p.val
              { kind := .pause, cls := 2, octets := pauseOctets (Config.freeWord d.free) q, start := u, local_ := x } none) })
      ∧ (∀ pr id c f, (s.dev.port p.val).cur = none → d.pickItem p.val x (fun _ => true) = some (.new pr id c) →
        d.frame id = some f → (((d.startItem p.val u x (.new pr id c)).port p.val).cur).isSome = true →
        exec (.nonschedFrameStart p) s
          = .next { s with dev := ((d.modPort p.val (fun y => { y with queue := y.queue.filter (fun e => e != (pr, id)) })).newTx p.val id f c
              false u x (d.egressStamp p.val x) (d.beLimit p.val x)) }))
  ∧ ((∀ (s : State) (p : Port) (t : Tx), (s.dev.port p.val).cur = some t → s.dev.dataMissing t = false → s.dev.overLimit p.val t = false →
        exec (.transmissionEnd p) s
          = .next { s with dev := (((s.dev.waitUp (s.dev.txEnd p.val t)).endTx p.val t).choose p.val) })
    ∧ (∀ (d : Dev) (p : Nat) (t : Tx), t.jig = 0 →
        d.emitTx p t = { d with out := .wire p t.smd t.fragOctet (t.data ++ t.check) :: d.out })
    ∧ (∀ (s : State) (p : Port) (t : Tx) (l : Nat) (d : Dev), (s.dev.port p.val).cur = some t → t.limit = some l →
        s.dev.overLimit p.val t = true → t.kind = .control false → d = s.dev.waitLocal l →
        exec (.guardianCut p) s = .next { s with dev := ((((((d.emitTx p.val { t with
            stompAt := some (min (max ((d.tim.up - t.start) * s.dev.portRate p.val / (8000 * nsU) - 12)
              (s.dev.sentAt p.val t s.dev.tim.up)) t.dataLen) }).wireFree p.val d.tim.up).inc
              (Reg.rngGuardCutCnt (p.val - 32))).inc (Reg.preStompCnt p.val)).txDone p.val t 2 0).raise 5 p.val 0x10 0) }))

/-- From R92, R258, R261, R263: entry to LPI and wake, LPI of the receiver, the end of a received pause and a repeated PAUSE frame. -/
def Obligations.LowPowerIdleAndPause : Prop :=
  (∀ (s : State) (p : Port) (y : PortSt) (d : Dev), y = s.dev.port p.val → d = s.dev.waitUp (y.idleSince + s.dev.gf (Reg.macEeeCfg p.val) 32 16 * usU) →
      s.dev.gb (Reg.macEeeCfg p.val) 0 = true → s.dev.lpiMode p.val = true → s.dev.linkUp p.val = true → y.cur = none → y.lpiSince = none →
      y.suspP = none → y.suspX = none → s.dev.items p.val = [] → s.dev.schedEn p.val = false →
      exec (.lpiEntry p) s = .next { s with dev := (((d.modPort p.val (fun z => { z with
        lpiSince := some d.tim.up, tw := s.dev.gf (Reg.macEeeCfg p.val) 16 16 })).sb (Reg.macStat p.val) 1 true).inc (Reg.macTxLpiCnt p.val)) })
  ∧ (∀ (s : State) (p : Port) (t : Nat), (s.dev.port p.val).lpiSince = some t → s.dev.items p.val ≠ [] →
      exec (.lpiWake p) s = .next { s with dev := (((s.dev.modPort p.val (fun z => { z with
        lpiSince := none, wakeEnd := some (s.dev.tim.up + (s.dev.port p.val).tw * nsU) })).sb (Reg.macStat p.val) 1 false).addCnt
          (Reg.macTxLpiUsCnt p.val) ((s.dev.tim.up - t) / usU)) })
  ∧ (∀ (s : State) (p : Port) (enter : Bool), p.val < 32 → s.dev.mergedAway p.val = false → s.dev.linkUp p.val = true →
      exec (.rxLpi p enter) s = .next { s with dev :=
        (if enter = true ∧ s.dev.gb (Reg.macStat p.val) 2 = false then (s.dev.sb (Reg.macStat p.val) 2 enter).inc (Reg.macRxLpiCnt p.val)
         else s.dev.sb (Reg.macStat p.val) 2 enter) })
  ∧ (∀ (s : State) (p : Port) (t : Nat), (s.dev.port p.val).pauseEnd = some t →
      exec (.pauseExpiry p) s = .next { s with dev :=
        ((((s.dev.waitUp t).modPort p.val (fun y => { y with pauseEnd := none })).sb (Reg.macStat p.val) 0 false).choose p.val) })
  ∧ (∀ (s : State) (p : Port) (q : Nat) (d : Dev), p.val < 32 → s.dev.gb (Reg.macPauseCfg p.val) 3 = true → s.dev.gb (Reg.macStat p.val) 3 = true →
      s.dev.gf (Reg.macRxBuf p.val) 32 16 * 1024 < s.dev.heldFor p.val → s.dev.portRate p.val ≠ 0 → q = s.dev.gf (Reg.macPauseCfg p.val) 16 16 →
      d = s.dev.waitUp ((s.dev.port p.val).pauseLast + q * 512 * 1000 * nsU / (2 * s.dev.portRate p.val)) →
      exec (.pauseRepeat p) s
        = .next { s with dev := (d.modPort p.val (fun y => { y with pauseOwed := some q })).chooseOf p.val (fun i => i == .pause) })

/-- From R114, R116, R117: a hold is raised at N − HOLD_ADV for the next interval that raises one, counted, and asks for a cut; the hold that is due
first is released; a cut requested of a transmission that may still be cut ends its mPacket at a permitted boundary, and one that may not is counted
as deferred; with ACTIVE = 0 a request lapses (R106). From Tables PRE-3 and PRE-4: a verify that is not answered is repeated, and after the third
the port fails verification, counted and reported; an announcement that is not answered is repeated, and after the third fails. From R127, R128: a
write of a port's pre-emption configuration that changes no verification setting is stored and the state machines are evaluated again; RESTART at
the end of a verification starts it over. -/
def Obligations.HoldsCutsAndVerification : Prop :=
  ((∀ (s : State) (p : Port) (r : Resv) (d : Dev), s.dev.preActive p.val = true → s.dev.nextHold p.val = some r →
        d = s.dev.waitLocal (r.at_ - s.dev.holdAdvU p.val) →
        exec (.preemptHoldRaise p) s = .next { s with dev :=
          (((d.modPort p.val (fun y => { y with holds := y.holds ++ [⟨r.cls == 2, r.at_, r.until_⟩] })).inc (Reg.preHoldCnt p.val)).askCut p.val
            r.cls) })
    ∧ (∀ (s : State) (p : Port) (h : Hold), (s.dev.port p.val).holds = [h] → (s.dev.port p.val).released = [] →
        exec (.preemptHoldRelease p) s
          = .next { s with dev := (((s.dev.waitLocal h.until_).modPort p.val (fun y => { y with holds := y.holds.erase h })).choose p.val) })
    ∧ (∀ (s : State) (p : Port) (k kk a : Nat) (t : Tx), (s.dev.port p.val).cur = some t → t.cutAt = some a → t.cutTo = none →
        t.stompAt = none → s.dev.preActive p.val = true →
        kk = max (clampN (s.dev.sentAt p.val t (a + 4 * nsU)) (s.dev.sentAt p.val t (a + 16 * nsU)) k) t.fmin →
        (kk < t.dataLen → 64 + kk ≤ t.left → (t.nest = false ∨ t.cutCrit = false) →
          exec (.preemptCut p k) s
            = .next { s with dev := (s.dev.modPort p.val (fun y => { y with cur := some { t with cutTo := some kk } })) })
        ∧ ((t.dataLen ≤ kk ∨ t.left < 64 + kk) → t.cuttable = true →
          exec (.preemptCut p k) s
            = .next { s with dev :=
                ((s.dev.modPort p.val (fun y => { y with cur := some { t with cuttable := false } })).inc (Reg.preCutDeferCnt p.val)) }))
    ∧ (∀ (s : State) (p : Port) (k a : Nat) (t : Tx), (s.dev.port p.val).cur = some t → t.cutAt = some a → t.cutTo = none →
        t.stompAt = none → s.dev.preActive p.val = false →
        exec (.preemptCut p k) s = .next { s with dev := (s.dev.modPort p.val (fun y => { y with cur := some { t with cutAt := none } })) }))
  ∧ ((∀ (s : State) (p : Port) (t : Nat) (d : Dev), (s.dev.port p.val).vSent = some t → s.dev.verifySt p.val = 3 →
        d = (s.dev.waitUp (t + (s.dev.port p.val).vTime * msU)).modPort p.val (fun y => { y with vSent := none }) →
        ((s.dev.port p.val).vTry < 3 → exec (.verifyTimeout p) s = .next { s with dev := d.sf (Reg.prePortStat p.val) 0 3 2 })
        ∧ (3 ≤ (s.dev.port p.val).vTry → exec (.verifyTimeout p) s = .next { s with dev :=
            ((((d.sf (Reg.prePortStat p.val) 0 3 5).inc (Reg.preVerifyFailCnt p.val)).raise 3 p.val 0x10 0).preEval p.val) }))
    ∧ (∀ (s : State) (p : Port) (t : Nat), (s.dev.port p.val).nSent = some t → s.dev.nestSt p.val = 1 →
        s.dev.gb (Reg.prePortStat p.val) 15 = false →
        ((s.dev.port p.val).nTry < 3 → exec (.announceTimeout p) s = .next { s with dev :=
          ((s.dev.waitUp (t + (s.dev.port p.val).nTime * msU)).modPort p.val (fun y => { y with nSent := none, nOwed := true })) })
        ∧ (3 ≤ (s.dev.port p.val).nTry → exec (.announceTimeout p) s = .next { s with dev :=
          ((((s.dev.waitUp (t + (s.dev.port p.val).nTime * msU)).modPort p.val (fun y => { y with nSent := none })).sf
            (Reg.prePortStat p.val) 4 2 3).raise 3 p.val 0x11 0) })))
  ∧ ((∀ (s : State) (r : Req) (p : Port) (v : Word) (d : Dev), s.takes r (Reg.prePortCfg p.val) → s.dev.mergedAway p.val = false →
        inRangeAt (Reg.prePortCfg p.val) v = true → getB v 63 = false →
        d = s.dev.wrReg (Reg.prePortCfg p.val) (if p.val < 32 then setB v 4 false else v) →
        d.gb (Reg.prePortCfg p.val) 1 = s.dev.gb (Reg.prePortCfg p.val) 1 →
        exec (.prePortCfgWrite r p v) s = .next { s with dev := d.preEval p.val })
    ∧ (∀ (s : State) (r : Req) (p : Port) (v : Word) (d : Dev), s.takes r (Reg.prePortCfg p.val) → s.dev.mergedAway p.val = false →
        inRangeAt (Reg.prePortCfg p.val) (setB v 63 true) = true → 4 ≤ s.dev.verifySt p.val →
        d = s.dev.wrReg (Reg.prePortCfg p.val) (if p.val < 32 then setB (setB v 63 true) 4 false else setB v 63 true) →
        exec (.preemptRestart r p v) s
          = .next { s with dev := ((((d.verifyOff p.val).sb (Reg.prePortStat p.val) 3 false).nestEval p.val).preEval p.val) }))

/-- From R122, Table PRE-7: an initial fragment that ends with its mCRC opens a context of its frame count; a continuation that fits it and ends with
the FCS completes the frame, one that fits and ends with the mCRC is appended, and one that does not fit is discarded with the reassembly and
counted once. From R47, R48, R122: an mPacket or a frame that arrives on a port that can receive, with no Jig rule in its way: what the line showed
is counted (R239), it is stamped where its first bit crossed the reference plane, and meets the MAC. -/
def Obligations.ReceptionAndReassembly : Prop :=
  ((∀ (d : Dev) (p : Nat) (ex : Bool) (n : Nat) (l : List Byte) (m : RxMark), (d.port p).ctx ex = none →
        checkOf [] l = .m → 64 ≤ l.length →
        d.rxInitial p ex n l m = (d.modPort p (fun y => y.setCtx ex none false)).modPort p (fun y => y.setCtx ex
          (some { fc := n, next := 0, octets := body l, mark := m, since := d.tim.up, timeout := d.gf (Reg.prePortCfg p) 16 16 }) false))
    ∧ (∀ (d : Dev) (p : Nat) (ex : Bool) (n : Nat) (k : Option Nat) (l : List Byte) (code : Bool) (c : Ctx), (if ex then (d.port p).skipX else (d.port p).skipP) = false →
        (d.port p).ctx ex = some c → c.fc = n → k = some c.next →
        (checkOf c.octets l = .f → d.rxContinue p ex n k l code
          = (((d.modPort p (fun z => z.setCtx ex none false)).inc (Reg.preFragRxCnt p)).inc (Reg.preAsmOkCnt p)).macReceive p
              (c.octets ++ l) { c.mark with code := c.mark.code || code })
        ∧ (checkOf c.octets l = .m → 64 ≤ l.length → d.rxContinue p ex n k l code
          = (d.modPort p (fun z => z.setCtx ex (some { c with
              next := (c.next + 1) % 4, octets := c.octets ++ body l, since := d.tim.up, mark := { c.mark with code := c.mark.code || code } }) false)).inc (Reg.preFragRxCnt p))
        ∧ ((checkOf c.octets l = .bad ∨ (checkOf c.octets l = .m ∧ l.length < 64)) → d.rxContinue p ex n k l code
          = (d.modPort p (fun z => z.setCtx ex none false)).inc (Reg.preAsmErrCnt p)))
    ∧ (∀ (d : Dev) (p : Nat) (ex : Bool) (n : Nat) (k : Option Nat) (l : List Byte) (code : Bool), (if ex then (d.port p).skipX else (d.port p).skipP) = false →
        ((d.port p).ctx ex = none ∨ ∃ c, (d.port p).ctx ex = some c ∧ (c.fc ≠ n ∨ k ≠ some c.next)) →
        d.rxContinue p ex n k l code = (d.modPort p (fun z => z.setCtx ex none true)).inc (Reg.preAsmErrCnt p))
    ∧ (∀ (s : State) (p : Port) (ex : Bool) (c : Ctx), (s.dev.port p.val).ctx ex = some c →
        exec (.reasmTimeout p ex) s = .next { s with dev := (((s.dev.waitUp (c.since + c.timeout * usU)).modPort p.val
          (fun y => if ex then { y with ctxX := none } else { y with ctxP := none })).inc (Reg.preReasmToCnt p.val)) }))
  ∧ (∀ (s : State) (p : Port) (l : List Byte) (x : RxLine) (t : Nat) (m : RxMark) (d e : Dev), s.dev.canReceive p.val = true →
      d = s.dev.countLine p.val x → t = octetTime (d.portRate p.val) l.length →
      m = { code := d.codeError p.val x, stamp := d.ingressStamp p.val (d.now - t), beg := d.tim.up - t, during := x.during.toNat } →
      d.jigRule p.val false l (if d.jigActive then d.streamOf p.val l else none) true = (none, e) → e.flt.held = [] →
      exec (.macFrameReceive p l x) s = .next { s with dev := ((e.macReceive p.val l m).jigPassed p.val) }
      ∧ (∀ (smd frag : BitVec 8), (idxOf [0xA7, 0x1E, 0x73, 0xF8] smd.toNat) = none → (idxOf [0x61, 0x52, 0x2A, 0x9E] smd.toNat) = none →
        exec (.mpacketReceive p smd frag l x) s
          = .next { s with dev := ((e.rxPacket p.val smd.toNat frag.toNat l m).jigPassed p.val) }))

/-- From R134, R135: a software write of a stream record. While TYPE = 0b01 a write of words 3 to 7 is dropped, shown and counted; words 0 to 2 may be
written at any time; a write of word 0 that makes the record a stream initialises it; any other write is stored. From R158: the capture of the eight
counters of a stream, and the end of a capture. From R151, R153: the scanner at each millisecond, the tests and resets of a latent-error profile,
and the two stream commands. -/
def Obligations.StreamRecordsAndCounters : Prop :=
  (∀ (s : State) (r : Req) (st : BitVec 18) (k : Fin 8) (v : Word), s.takes4 r (halfIsland (halfOf st.toNat)) 4 →
      ((s.dev.sType st.toNat = 1 ∧ 3 ≤ k.val) →
        exec (.streamRecordWrite r st k v) s = .next { s with dev := (s.dev.sb Reg.strStat 2 true).inc Reg.strWrRefCnt })
      ∧ ((s.dev.sType st.toNat = 2 ∧ s.dev.sType (s.dev.sg st.toNat 0 2 18) = 1) →
        exec (.streamRecordWrite r st k v) s = .next { s with dev := (s.dev.sb Reg.strStat 2 true).inc Reg.strWrRefCnt })
      ∧ (s.dev.recLocked st.toNat k.val = false → k.val ≠ 0 →
        exec (.streamRecordWrite r st k v) s = .next { s with dev := s.dev.setSw st.toNat k.val v })
      ∧ (s.dev.recLocked st.toNat k.val = false → k.val = 0 → s.dev.sType st.toNat ≠ 1 → getF v 0 2 = 1 →
        exec (.streamRecordWrite r st k v) s = .next { s with dev := (s.dev.setSw st.toNat 0 v).initStream st.toNat }))
  ∧ ((∀ (s : State) (r : Req) (v : Word) (d : Dev) (st : Nat), s.takes r Reg.strCntSel → s.dev.gb Reg.strCntStat 0 = false →
        st = getF v 0 18 → s.dev.gb Reg.strStat (halfOf st) = false → s.dev.gb Reg.strStat 4 = false → s.dev.hbmOk = true →
        getB v 32 = false → d = s.dev.wrReg Reg.strCntSel (setB v 63 true) →
        exec (.streamCounterCapture r v) s = .next { s with dev :=
          (((({ d with str := { d.str with capture := some (st, d.ldWs (cntAddr st 0) 8) } } : Dev).sb Reg.strCntStat 0 true).sb
            Reg.strCntStat 1 false).sb Reg.strCntStat 2 false) })
    ∧ (∀ (s : State) (r : Req) (v : Word) (d : Dev) (st : Nat), s.takes r Reg.strCntSel → s.dev.gb Reg.strCntStat 0 = false →
        st = getF v 0 18 → s.dev.gb Reg.strStat (halfOf st) = false → s.dev.gb Reg.strStat 4 = false → s.dev.hbmOk = true →
        getB v 32 = true → d = s.dev.wrReg Reg.strCntSel (setB v 63 true) →
        exec (.streamCounterCapture r v) s = .next { s with dev :=
          (((({ d.stWs (cntAddr st 0) (List.replicate 8 0) with
            str := { (d.stWs (cntAddr st 0) (List.replicate 8 0)).str with capture := some (st, d.ldWs (cntAddr st 0) 8) } } : Dev).sb
              Reg.strCntStat 0 true).sb Reg.strCntStat 1 false).sb Reg.strCntStat 2 false) })
    ∧ (∀ (s : State) (st : Nat) (vals : List Word), s.dev.str.capture = some (st, vals) →
        exec .streamCaptureDone s = .next { s with dev :=
          (((({ (s.dev.wrs (Reg.strCntData 0) vals) with str := { s.dev.str with capture := none } } : Dev).sb Reg.strCntStat 0 false).sb
            Reg.strCntStat 1 true).sf Reg.strCntStat 8 18 st) }))
  ∧ ((∀ (s : State) (ms : Nat) (d : Dev), ms = max (s.dev.str.scanMs + 1) ((s.dev.now + msU - 1) / msU) →
        d = { s.dev.waitLocal (ms * msU) with str := { (s.dev.waitLocal (ms * msU)).str with scanMs := ms } } →
        exec .recoveryScan s
          = .next { s with dev := (d.scanIds (fun x => d.sRcv x && d.sg x 0 53 11 != 0)).foldl Dev.recoveryVisit d })
    ∧ (∀ (d e : Dev) (x : Nat), e = d.readRec x →
        (d.recBad x = true → d.recoveryVisit x = e ∧ d.latentVisit x = e)
        ∧ (d.recBad x = false → e.sg x 3 34 11 = 1 → d.recoveryVisit x = (e.ss x 3 34 11 0).recoveryReset x)
        ∧ (d.recBad x = false → 1 < e.sg x 3 34 11 → d.recoveryVisit x = e.ss x 3 34 11 (e.sg x 3 34 11 - 1))
        ∧ (d.recBad x = false →
            e.sg x 1 42 8 < (((e.sg x 4 0 16 * e.sg x 1 37 2 : Nat) : Int) - (e.sg x 4 16 16 : Int)).natAbs →
            e.sg x 4 0 16 ≠ 65535 → e.sg x 4 16 16 ≠ 65535 →
            d.latentVisit x = ((e.ss x 3 33 1 1).raise 4 (halfOf x) 0x11 x).inc Reg.strLatentCnt))
    ∧ (∀ (s : State) (k : Fin 8) (t : Nat) (d : Dev),
        t = s.dev.nextMultiple (s.dev.gf (Reg.strLeProf k.val) 0 16) (Sparse.find s.dev.str.tested k.val) →
        d = { s.dev.waitLocal t with str := { (s.dev.waitLocal t).str with tested := Sparse.put (s.dev.waitLocal t).str.tested k.val t } } →
        exec (.latentTest k) s = .next { s with dev := ((s.dev.waitLocal t).latentIds k.val).foldl Dev.latentVisit d })
    ∧ (∀ (s : State) (k : Fin 8) (t : Nat) (d : Dev), s.dev.gf (Reg.strLeProf k.val) 16 16 ≠ 0 →
        t = s.dev.nextMultiple (s.dev.gf (Reg.strLeProf k.val) 16 16) (Sparse.find s.dev.str.cleared k.val) →
        (t % (s.dev.gf (Reg.strLeProf k.val) 0 16 * msU) ≠ 0 ∨ Sparse.find s.dev.str.tested k.val = some t) →
        d = { s.dev.waitLocal t with str := { (s.dev.waitLocal t).str with cleared := Sparse.put (s.dev.waitLocal t).str.cleared k.val t } } →
        exec (.latentProfileReset k) s
          = .next { s with dev := (d.latentIds k.val).foldl (fun x i => (x.latentClear i).inc Reg.strLeResetCnt) d })
    ∧ (∀ (s : State) (r : Req) (st : BitVec 18), s.takes r Reg.strCmd →
        (∀ d, d = s.dev.wrReg Reg.strCmd (strCmdWord 1 st.toNat) → d.recOk st.toNat = true → d.strFenced st.toNat = false →
          exec (.resetRcv r st) s = .next { s with dev := d.recoveryReset st.toNat })
        ∧ (∀ d, d = s.dev.wrReg Reg.strCmd (strCmdWord 2 st.toNat) → d.recOk st.toNat = true → d.strFenced st.toNat = false →
          exec (.clearLatent r st) s = .next { s with dev := d.latentClear st.toNat })
        ∧ (∀ d, d = s.dev.wrReg Reg.strCmd (strCmdWord 1 st.toNat) → (d.recOk st.toNat = false ∨ d.strFenced st.toNat = true) →
          exec (.resetRcv r st) s = .next { s with dev := d.sb Reg.strStat 3 true })))

/-- R147: what the vector algorithm does with a numbered frame: its distance `dd` from RCV_SEQ decides whether it passes, is rogue, a duplicate or out
of order, and the history moves by it. R148, R149: the match algorithm, a tagless frame, and what a frame that passes or is a duplicate counts. -/
def Obligations.RecoveryOfReceivedFrames : Prop :=
  (∀ (d : Dev) (s q : Nat) (dd : Int), d.sg s 0 7 1 = 0 → dd = toSigned 16 (q + 65536 - d.sg s 3 16 16) →
      (d.sg s 3 32 1 = 1 →
        d.recover s (some q) = (true, (((d.ss s 3 16 16 q).ss s 3 32 1 0).setHist s (2 ^ d.sHistLen s - 1)).rcvPass s))
      ∧ (d.sg s 3 32 1 ≠ 1 → ((d.sHistLen s : Int) ≤ dd ∨ dd ≤ -(d.sHistLen s : Int)) → d.recover s (some q) = (false, d.strCount s 3 1))
      ∧ (d.sg s 3 32 1 ≠ 1 → -(d.sHistLen s : Int) < dd → dd < (d.sHistLen s : Int) → dd ≤ 0 →
          ((d.hist s).testBit dd.natAbs = true → d.recover s (some q) = (false, d.rcvDup s))
          ∧ ((d.hist s).testBit dd.natAbs = false →
              d.recover s (some q) = (true, ((d.setHist s (d.hist s ||| 2 ^ dd.natAbs)).strCount s 2 1).rcvPass s)))
      ∧ (d.sg s 3 32 1 ≠ 1 → 0 < dd → dd < (d.sHistLen s : Int) →
          ∃ h lost : Nat, (∀ i, h.testBit i = (decide (i = 0) || decide (dd.natAbs ≤ i ∧ i < d.sHistLen s) && (d.hist s).testBit (i - dd.natAbs)))
            ∧ lost = ((List.range (d.sHistLen s)).filter (fun i => decide (d.sHistLen s - dd.natAbs ≤ i) && !(d.hist s).testBit i)).length
            ∧ d.recover s (some q)
                = (true, (((((if dd ≠ 1 then d.strCount s 2 1 else d).strCount s 4 lost).setHist s h).ss s 3 16 16 q).rcvPass s))))
  ∧ ((∀ (d : Dev) (s q : Nat), d.sg s 0 7 1 ≠ 0 →
        ((d.recover s (some q)).1 = true ↔ d.sg s 3 32 1 = 1 ∨ q ≠ d.sg s 3 16 16)
        ∧ (d.sg s 3 32 1 = 1 → (d.recover s (some q)).2 = ((d.ss s 3 16 16 q).ss s 3 32 1 0).rcvPass s)
        ∧ (d.sg s 3 32 1 ≠ 1 → q = d.sg s 3 16 16 → (d.recover s (some q)).2 = d.rcvDup s)
        ∧ (d.sg s 3 32 1 ≠ 1 → q ≠ d.sg s 3 16 16 →
            (d.recover s (some q)).2
              = ((if (q + 65536 - d.sg s 3 16 16) % 65536 ≠ 1 then d.strCount s 2 1 else d).ss s 3 16 16 q).rcvPass s))
    ∧ (∀ (d : Dev) (s : Nat),
        (d.sg s 0 8 1 = 1 → d.recover s none = (true, (d.strCount s 5 1).rcvPass s))
        ∧ (d.sg s 0 8 1 ≠ 1 → d.recover s none = (false, d.strCount s 5 1)))
    ∧ (∀ (d : Dev) (s : Nat),
        d.rcvPass s = ((d.strCount s 0 1).ss s 4 0 16 (min 65535 (d.sg s 4 0 16 + 1))).ss s 3 34 11 (d.sg s 0 53 11)
        ∧ d.rcvDup s = (d.strCount s 1 1).ss s 4 16 16 (min 65535 (d.sg s 4 16 16 + 1))))

/-- From R167, R190, R191, R200: the next ring boundary. The cycle's index is passed, the segment lists and the sent marks of the last cycle are
forgotten, and the boundary's steps follow in order. From R178: the oldest control frame to be forwarded on a port joins the port's control frames
at its send instant, with what its residence needs. From R182, R187, R189, R195: the end of a control segment of an attachment that is off or halted
leaves its MEMBERS empty (R188); of a live one it leaves the segment lists empty; a cold start that was aborted returns to LISTEN after its wait; a
collection window that closed on no frame adopts nothing. -/
def Obligations.RingCycle : Prop :=
  ((∀ (s : State) (a0 : Att) (a k : Nat) (d e : Dev), a = s.dev.memOf a0.val → s.dev.ringC a ≠ 0 →
        k = nextIdx (s.dev.ratt a).cycle s.dev.now (s.dev.ringC a) →
        e = (s.dev.waitLocal (k * s.dev.ringC a)).modAtt a (fun r => { r with cycle := k, seg := [], rej := [], sent := false, barSent := false }) →
        d = { e with rng := { e.rng with beOld := Sparse.del e.rng.beOld a } } →
        exec (.ringCycleBoundary a0) s = .next { s with dev :=
          (((((d.msBoundary a (k % 2 ^ 48)).wakeSwitch).barBoundary a).listenBoundary a k).sendBoundary a (k % 2 ^ 48)) })
    ∧ (∀ done now cyc : Nat, 0 < cyc → done * cyc ≤ now →
        done < nextIdx done now cyc ∧ now < (nextIdx done now cyc + 1) * cyc ∧ (nextIdx done now cyc - 1) * cyc ≤ now)
    ∧ (∀ (d : Dev) (a c : Nat), (d.memSt a = 3 ∨ d.memSt a = 4) → d.sendBoundary a c = d.ringSend a 2 c)
    ∧ (∀ (d : Dev) (a c : Nat), (d.memSt a = 0 ∨ d.memSt a = 1 ∨ d.memSt a = 5 ∨ d.memSt a = 6) →
        d.sendBoundary a c = d.modAtt a (fun r => { r with ann := none })))
  ∧ (∀ (s : State) (p : Port) (f : RFwd) (d : Dev), s.dev.rng.fwds.find? (fun g => g.port == p.val) = some f → d = s.dev.waitLocal f.due →
      exec (.controlFrameForward p) s
        = .next { s with dev := ((({ d with rng := { d.rng with fwds := d.rng.fwds.erase f } } : Dev).modPort p.val (fun y => { y with
            ctl := y.ctl ++ [{ octets := f.octets, own := false, fwd := some (f.stamp, s.dev.ldlyU f.from_ / 2 ^ 40)
                               bcast := (f.octets.getD 14 0).toNat % 16 == 4 }] })).choose p.val) })
  ∧ ((∀ (s : State) (a0 : Att) (a k done : Nat) (d : Dev), a = s.dev.memOf a0.val → s.dev.ringC a ≠ 0 →
        done = (s.dev.now + s.dev.ringC a - s.dev.ringSeg a) / s.dev.ringC a → k = (if (s.dev.ratt a).segDone < done then done - 1 else done) →
        d = (s.dev.waitLocal (k * s.dev.ringC a + s.dev.ringSeg a)).modAtt a (fun r => { r with segDone := k + 1 }) →
        ((d.memSt a = 0 ∨ d.memSt a = 6) → exec (.controlSegmentEnd a0) s
          = .next { s with dev := ((d.segPorts a).modAtt a (fun r => { r with seg := [], rej := [] })).setMembers a 0 })
        ∧ (d.memSt a ≠ 0 → d.memSt a ≠ 6 → ∃ e : Dev, exec (.controlSegmentEnd a0) s = .next { s with dev := e }
            ∧ (e.ratt a).seg = [] ∧ (e.ratt a).rej = [] ∧ ∃ f : Dev, e = f.modAtt a (fun r => { r with seg := [], rej := [] })))
    ∧ (∀ (s : State) (a0 : Att) (a t : Nat), a = s.dev.memOf a0.val → (s.dev.ratt a).abortAt = some t → s.dev.memSt a = 2 →
        exec (.coldstartAbortWait a0) s = .next { s with dev := (s.dev.waitUp t).rngTo a 1 })
    ∧ (∀ (s : State) (a0 : Att) (a t : Nat), a = s.dev.memOf a0.val → (s.dev.ratt a).winEnd = some t → s.dev.memSt a = 1 →
        ((s.dev.waitUp t).ratt a).win = [] →
        exec (.collectionWindowEnd a0) s
          = .next { s with dev := (s.dev.waitUp t).modAtt a (fun r => { r with winEnd := none, win := [] }) })
    ∧ (∀ (s : State) (a0 : Att) (a t : Nat) (f : RSync) (d : Dev), a = s.dev.memOf a0.val → (s.dev.ratt a).winEnd = some t → s.dev.memSt a = 1 →
        ((s.dev.waitUp t).ratt a).win = [f] → f.cold = true →
        d = ((s.dev.waitUp t).modAtt a (fun r => { r with winEnd := none, win := [] })).sf (Reg.rngStat a) 24 6 f.src → d.stepsPermitted = true →
        exec (.collectionWindowEnd a0) s
          = .next { s with dev := (d.stepBy (-f.theta)).modAtt a (fun r => { r with adopted := true, valid := some (f.cyc, true) }) }))

/-- From R165, R166: the bypass pin of an attachment of a node that is not joined rises once R165 permits it, and the ring state is evaluated. From
R189, R192, R208: HALT takes an attachment of a single node out of every state to HALTED; RESTART takes a halted one to OFF. -/
def Obligations.RingPinsHaltAndRestart : Prop :=
  ((∀ (s : State) (a : Att), s.dev.inserted a.val = false → s.dev.pinWant a.val = true → s.dev.sameRing = false →
        exec (.bypassInsert a) s = .next { s with dev :=
          ((({ s.dev with rng := { s.dev.rng with pinAt := Sparse.put s.dev.rng.pinAt a.val s.dev.tim.up } } : Dev).sb (Reg.rngStat a.val) 4
            true).ringEval) })
    ∧ (∀ (s : State) (a : Att), (s.dev.inserted a.val = true ∨ s.dev.pinWant a.val = false) → exec (.bypassInsert a) s = .next s))
  ∧ (∀ (s : State) (r : Req) (a : Att) (v : Word) (d : Dev), s.takes r (Reg.rngCtl a.val) →
      (getF v 3 1, getF v 4 6, getF v 12 4)
        = (getF (s.dev.rd (Reg.rngCtl a.val)) 3 1, getF (s.dev.rd (Reg.rngCtl a.val)) 4 6, getF (s.dev.rd (Reg.rngCtl a.val)) 12 4) →
      (∀ w, w = setB v 62 true → d = (((s.dev.wrReg (Reg.rngCtl a.val) w).rebase s.dev.joined s.dev.holder).sb (Reg.rngStat 0) 3
              ((s.dev.wrReg (Reg.rngCtl a.val) w).rebase s.dev.joined s.dev.holder).sameRing).sb (Reg.rngStat 1) 3
              ((s.dev.wrReg (Reg.rngCtl a.val) w).rebase s.dev.joined s.dev.holder).sameRing →
        d.sameRing = false → d.gf (Reg.rngStat (d.memOf a.val)) 0 3 ≠ 6 →
        exec (.ringHalt r a v) s = .next { s with dev := (d.rngTo (d.memOf a.val) 6).ringSync })
      ∧ (∀ w, w = setB v 63 true → getB v 62 = false →
        d = (((s.dev.wrReg (Reg.rngCtl a.val) w).rebase s.dev.joined s.dev.holder).sb (Reg.rngStat 0) 3
              ((s.dev.wrReg (Reg.rngCtl a.val) w).rebase s.dev.joined s.dev.holder).sameRing).sb (Reg.rngStat 1) 3
              ((s.dev.wrReg (Reg.rngCtl a.val) w).rebase s.dev.joined s.dev.holder).sameRing →
        d.sameRing = false → d.gf (Reg.rngStat (d.memOf a.val)) 0 3 = 6 →
        exec (.ringRestart r a v) s = .next { s with dev := (d.rngTo (d.memOf a.val) 0).ringSync }))

/-- From R197, R200: a mode switch is proposed for the next cycle by an ACTIVE member whose calendar accepts it, and refused otherwise; a barrier
arrival is marked on an ACTIVE member. From R201, R206: a broadcast asked for waits for its window; it, or a relayed one, is sent in it on the
inserted ports; POP removes the head of the receive queue. -/
def Obligations.RingAgreement : Prop :=
  ((∀ (s : State) (r : Req) (v : Word) (d e : Dev) (k : Nat), s.takes r Reg.rngMsCtl → d = s.dev.wrReg Reg.rngMsCtl (setB v 63 true) →
        d.gf (Reg.rngStat d.mainAtt) 0 3 = 4 → (d.ratt d.mainAtt).sw = none → k = d.cycIdx d.mainAtt d.now + 1 →
        (d.offer (getF v 0 2) ((k + 3) * d.ringC d.mainAtt) ((k + 3) % 2 ^ 48) = (true, e) →
          ∀ w : Switch, w = { p := k % 2 ^ 48, id := (d.ratt d.mainAtt).msNext, src := d.nodeId d.mainAtt, bank := getF v 0 2
                              cyc := (k + 3) % 2 ^ 48, own := true, offer := true, ack := true } →
          exec (.msPropose r v) s = .next { s with dev :=
            ((e.modAtt d.mainAtt (fun x => { x with sw := some w, msNext := ((d.ratt d.mainAtt).msNext + 1) % 256 })).msStat 1 0 w 0) })
        ∧ (d.offer (getF v 0 2) ((k + 3) * d.ringC d.mainAtt) ((k + 3) % 2 ^ 48) = (false, e) →
          exec (.msPropose r v) s = .next { s with dev := e.sf Reg.rngMsStat 4 4 4 }))
    ∧ (∀ (s : State) (r : Req) (v : Word) (d : Dev), s.takes r Reg.rngMsCtl → d = s.dev.wrReg Reg.rngMsCtl (setB v 63 true) →
        d.gf (Reg.rngStat d.mainAtt) 0 3 ≠ 4 → exec (.msPropose r v) s = .next { s with dev := d.sf Reg.rngMsStat 4 4 5 })
    ∧ (∀ (s : State) (r : Req) (v : Word) (d : Dev), s.takes r Reg.rngBarCtl → d = s.dev.wrReg Reg.rngBarCtl (setB v 63 true) →
        s.dev.gf (Reg.rngStat s.dev.mainAtt) 0 3 = 4 → (s.dev.ratt s.dev.mainAtt).barAt = none →
        exec (.barrierArrive r v) s = .next { s with dev :=
          (((d.modAtt s.dev.mainAtt (fun x => { x with barAt := some (s.dev.tim.up + usU), barDue := false, barSent := false })).sf
            Reg.rngBarStat 0 16 (getF v 0 16)).sb Reg.rngBarStat 16 true) }))
  ∧ ((∀ (s : State) (r : Req) (v : Word) (d : Dev), s.takes r Reg.rngBcCtl → inRangeAt Reg.rngBcCtl (setB v 63 true) = true →
        s.dev.gb Reg.rngBcStat 5 = false → d = s.dev.wrReg Reg.rngBcCtl (setB v 63 true) →
        exec (.bcastGo r v) s = .next { s with dev := (({ d with rng := { d.rng with
            bcNum := (s.dev.rng.bcNum + 1) % 65536
            bcs := d.rng.bcs ++ [⟨getF v 8 1, (s.dev.rng.bcNum + 1) % 65536, getF v 0 7, none,
              ((List.range 8).flatMap (fun k => leBytes 8 (s.dev.rd (Reg.rngBcTx k)).toNat)).take (getF v 0 7)⟩] } } : Dev).sb Reg.rngBcStat 5
                true) })
    ∧ (∀ (s : State) (relay : Bool) (b : RBc) (a t : Nat) (d e : Dev), s.dev.rng.bcs.find? (fun x => x.fed.isSome == relay && s.dev.bcMay x.att) = some b →
        a = s.dev.memOf b.att → s.dev.bcStart b.att 512 s.dev.now = some t →
        d = s.dev.waitLocal t →
        e = (s.dev.bcPorts b.att).foldl (fun (x : Dev) p => (x.modPort p (fun y => { y with
              ctl := y.ctl ++ [{ octets := d.bcOctets a p b.seq b.len b.fed.isSome (b.fed.getD (s.dev.gf (Reg.rngCtl a) 12 4))
                                   (d.ringNum a d.now) b.data
                                 own := false, bcast := true }] })).choose p) ({ d with rng := { d.rng with bcs := d.rng.bcs.erase b } } : Dev) →
        exec (if relay then .bcastRelay else .bcastTransmit) s
          = .next { s with dev := if relay then e else (e.sb Reg.rngBcStat 5 false).wakeBcast })
    ∧ (∀ (s : State) (r : Req) (v : Word), s.takes r Reg.rngBcStat →
        exec (.bcastPop r v) s = .next { s with dev :=
          ({ s.dev with rng := { s.dev.rng with bcRx := s.dev.rng.bcRx.drop 1 } } : Dev).syncBc }))

/-- From R210, R212, R213, R227, R229, R230, R231, R233: the commands of the solver's registers: SUBMIT queues a request, or is refused where 16 wait;
ABORT marks the job; ACTIVATE of a head bank that is not STAGED ends with result 6; POP takes the oldest result; EN = 1 starts the head at the
active bank; EN = 0 gives group 0 back and aborts every waiting request; SOLVER_READY takes group 0. -/
def Obligations.SolverRegisterCommands : Prop :=
  ∀ (s : State) (r : Req) (v : Word),
    (s.takes r Reg.solCmd → getB v 0 = false → getB v 1 = false → getB v 2 = false →
      (s.dev.sol.queue.length < 16 →
        exec (.solSubmit r v) s = .next { s with dev := ({ s.dev with sol := { s.dev.sol with queue := s.dev.sol.queue ++
          [{ words := (List.range 8).map (fun k => s.dev.rd (Reg.solReq k)), fileAddr := s.dev.gf Reg.solFileAddr 0 35
             fileLen := s.dev.gf Reg.solFileLen 0 32 }] } } : Dev).solSync })
      ∧ (16 ≤ s.dev.sol.queue.length →
        exec (.solSubmit r v) s = .next { s with dev := (s.dev.inc Reg.solRefuseCnt).sb Reg.solStat 15 true })
      ∧ (∀ j, s.dev.sol.job = some j → j.phase = 0 →
        exec (.solAbort r v) s = .next { s with dev := { s.dev with sol := { s.dev.sol with job := some { j with abort := true } } } })
      ∧ (s.dev.bankSt s.dev.solHead ≠ 3 →
        exec (.solActivate r v) s
          = .next { s with dev := s.dev.wr Reg.solActStat (BitVec.ofNat 64 (fld 0 3 6 + fld 3 2 s.dev.solHead)) })
      ∧ (∀ e : Dev, s.dev.bankSt s.dev.solHead = 3 → s.dev.calRing = false →
        e = ((s.dev.sf Reg.calAct 0 2 s.dev.solHead).sf Reg.calAct 8 48 0).calActivate s.dev.solHead 0 → e.bankSt s.dev.solHead = 4 →
        exec (.solActivate r v) s
          = .next { s with dev := e.wr Reg.solActStat (BitVec.ofNat 64 (fld 0 3 1 + fld 3 2 s.dev.solHead)) }))
    ∧ (s.takes r Reg.solResStat → exec (.solResultPop r v) s
          = .next { s with dev := ({ s.dev with sol := { s.dev.sol with results := s.dev.sol.results.drop 1 } } : Dev).solTidy })
    ∧ (∀ d : Dev, s.takes r Reg.solCtl → inRangeAt Reg.solCtl (setB v 0 true) = true → s.dev.gb Reg.solCtl 0 = false →
        d = s.dev.wrReg Reg.solCtl (setB v 0 true) →
        exec (.solverEnable r v) s = .next { s with dev := (d.sf Reg.solStat 7 2 (d.activeBank.getD (d.gf Reg.calCtl 2 2))).solSync })
    ∧ (∀ d : Dev, s.takes r Reg.solCtl → inRangeAt Reg.solCtl (setB v 0 false) = true → s.dev.gb Reg.solCtl 0 = true →
        d = s.dev.wrReg Reg.solCtl (setB v 0 false) → d.gf (Reg.benGrpStat 0) 0 3 = 3 → d.sol.job = none →
        exec (.solverDisable r v) s = .next { s with dev := (let e := d.sf (Reg.benGrpStat 0) 0 3 1
          ({ e with sol := { e.sol with taken := false, queue := e.sol.queue.map (fun q => { q with aborted := true }) } } : Dev).solTidy) })
    ∧ (s.dev.gb Reg.solCtl 0 = true → s.dev.sol.taken = false →
        (s.dev.gf (Reg.benGrpStat 0) 0 3 = 1 ∨ s.dev.gf (Reg.benGrpStat 0) 0 3 = 2) →
        exec .solverReady s = .next { s with dev :=
          ((({ s.dev with sol := { s.dev.sol with taken := true } } : Dev).sf (Reg.benGrpStat 0) 0 3 3).solSync) })

/-- From R212, R214, R215, R220, R221, R224, R225, R226, R227, R229: a job. It takes the oldest request when the solver is READY and there is room for
its result; an incremental one that passes its checks copies the head bank into its target; the plan is written and committed when the copy is
complete, unless ABORT was written; once the bank is STAGED the result is posted with code 0 and the head moves to it; a refused job posts its own
code; and a stream removed by a result in force is ended. -/
def Obligations.SolverJobRuns : Prop :=
  (∀ (s : State) (q : SolReq) (t : List SolReq) (d : Dev) (tgt head : Nat), s.dev.sol.queue = q :: t → s.dev.gf Reg.solStat 0 2 = 1 → s.dev.sol.job = none →
      q.aborted = false → s.dev.sol.results.length < 16 → q.op = 2 → tgt = s.dev.solTarget q → head = s.dev.solHead →
      d = (({ s.dev with sol := { s.dev.sol with queue := t } } : Dev).sf Reg.solStat 9 2 tgt).sb Reg.solStat 11 true →
      s.dev.incCode q (s.dev.bank head).par (s.dev.bankEnts head (s.dev.bank head).par) = 0 → s.dev.bankBar q tgt = false →
      exec .solverJobStart s = .next { s with dev := ((d.calCopy tgt head).setJob
        { req := q, target := tgt, base := head, index := q.index, wrote := [], touched := true, ends := [q.stream] }).solSync })
  ∧ (∀ (s : State) (q : SolReq) (t : List SolReq) (d : Dev) (tgt head c : Nat), s.dev.sol.queue = q :: t → s.dev.gf Reg.solStat 0 2 = 1 → s.dev.sol.job = none →
      q.aborted = false → s.dev.sol.results.length < 16 → (q.op ≠ 3 ∨ q.formatOk = false) → tgt = s.dev.solTarget q → head = s.dev.solHead →
      d = (({ s.dev with sol := { s.dev.sol with queue := t } } : Dev).sf Reg.solStat 9 2 tgt).sb Reg.solStat 11 true →
      c = s.dev.incCode q (s.dev.bank head).par (s.dev.bankEnts head (s.dev.bank head).par) → c ≠ 0 →
      exec .solverJobStart s = .next { s with dev := (d.setJob
        { req := q, target := tgt, base := if q.op = 3 then tgt else head, index := q.index, phase := 2, code := c }).solSync })
  ∧ (∀ (s : State) (j : SolJob) (p : SolPlan), s.dev.sol.job = some j → j.phase = 0 → s.dev.bankSt j.target ≠ 1 →
      (j.abort = true → exec .solverPlacement s
        = .next { s with dev := s.dev.setJob { j with phase := 2, code := 13, index := j.req.index } })
      ∧ (j.abort = false → j.req.op ≠ 3 →
        s.dev.incPlan j.req (s.dev.shadowPar j.target) (s.dev.bankEnts j.target (s.dev.shadowPar j.target)) = (0, some p) →
        exec .solverPlacement s
          = .next { s with dev := (((s.dev.writePlan j.target p).calCommit j.target).setJob { j with phase := 1, psel := p.psel, ofs := p.ofs }) }))
  ∧ (∀ (s : State) (j : SolJob) (n gen : Nat) (d e : Dev), s.dev.sol.job = some j → j.phase = 1 → 3 ≤ s.dev.bankSt j.target → j.req.act = false →
      n = s.dev.sol.jobs + 1 → gen = s.dev.gf (Reg.calGen j.target) 0 16 → d = (s.dev.sf Reg.solStat 7 2 j.target).inc Reg.solJobOkCnt →
      e = ({ d with sol := { d.sol with jobs := n, owns := Sparse.put d.sol.owns j.target (n, gen)
                                        ends := d.sol.ends ++ j.ends.map (fun x => (x, n)) } } : Dev).solPost
            j.req 0 0 (some j.target) (some j.base) j.moved (some gen) j.index j.psel j.ofs →
      exec .solverResultPost s
        = .next { s with dev := (({ e with sol := { e.sol with job := none } } : Dev).sb Reg.solStat 11 false).solTidy })
  ∧ (∀ (s : State) (j : SolJob) (e : Dev), s.dev.sol.job = some j → j.phase = 2 → j.code ≠ 0 → j.code ≠ 12 → j.code ≠ 13 → j.touched = false →
      j.wrote = [] → s.dev.bankSt j.target ≠ 1 → s.dev.bankSt j.target ≠ 2 → (s.dev.bankSt j.target ≠ 3 ∨ j.target = s.dev.solHead) →
      e = (s.dev.inc Reg.solRefuseCnt).solPost j.req j.code 0 (some j.target) (some j.base) j.moved
            (some (s.dev.gf (Reg.calGen j.target) 0 16)) j.index j.psel j.ofs →
      exec .solverResultPost s
        = .next { s with dev := (({ e with sol := { e.sol with job := none } } : Dev).sb Reg.solStat 11 false).solTidy })
  ∧ (∀ (s : State) (b n g : Nat), s.dev.activeBank = some b → Sparse.find s.dev.sol.owns b = some (n, g) →
      (s.dev.gf Reg.solStat 0 2 = 1 ∨ s.dev.gf Reg.solStat 0 2 = 2) →
      exec .pendingEndWrite s = .next { s with dev := ((s.dev.sol.ends.filter (fun e => decide (e.2 ≤ n))).foldl (fun (x : Dev) e => x.endRec e.1)
        { s.dev with sol := { s.dev.sol with ends := s.dev.sol.ends.filter (fun e => !(decide (e.2 ≤ n))) } }) })

/-- From R235, R240: an accepted mode write of a port whose MAC is off reinitialises the lanes, sets the mode, the lowest FEC code it permits, and
clears EEE's EN and TW_NS, with the fuse values of the new mode loaded (R49); without the MAC off it is refused with REF. From R236, R243, R245:
RETRAIN takes the link down until it comes up again; a link whose conditions have held for LINK_UP_MS comes up at the rate of its mode and starts
its receive adaptation; a link whose condition fails goes down once it has failed for LINK_DN_US, and its status bits show what failed. -/
def Obligations.PortModesAndLinks : Prop :=
  (∀ (s : State) (r : Req) (p : Port) (v : Word), s.takes r (Reg.sdsMode p.val) → p.val < 32 → s.dev.mergedAway p.val = false →
      getB v 63 = false → getF v 0 3 ≠ 7 → (getF v 0 3 = 6 → p.val % 4 = 0) →
      (∀ d : Dev, getF v 0 3 ≠ 6 → s.dev.laneMode p.val ≠ 6 → s.dev.gf (Reg.macCfg p.val) 0 2 = 0 →
          d = (((((s.dev.laneInit p.val).sf (Reg.sdsMode p.val) 0 3 (getF v 0 3)).sf (Reg.pcsCfg p.val) 0 2 (lowFec (getF v 0 3))).sb
                (Reg.macEeeCfg p.val) 0 false).sf (Reg.macEeeCfg p.val) 16 16 0) →
          exec (.portModeWrite r p v) s = .next { s with dev := (((d.loadEqFuse p.val).loadTsFuse p.val).preEval p.val).syncSat p.val })
      ∧ (getF v 0 3 ≠ 6 → s.dev.gf (Reg.macCfg p.val) 0 2 ≠ 0 →
          exec (.portModeWrite r p v) s = .next { s with dev := s.dev.sb (Reg.pcsStat p.val) 14 true }))
  ∧ ((∀ (s : State) (r : Req) (p : Port) (v : Word), s.takes r (Reg.sdsMode p.val) → s.dev.mergedAway p.val = false →
        (32 ≤ p.val ∨ getF v 0 3 = s.dev.laneMode p.val) → exec (.retrain r p v) s = .next { s with dev := s.dev.retrain p.val })
    ∧ (∀ (d : Dev) (p : Nat), d.laneMode p ≠ 6 →
        (∀ e : Dev, e = (((d.forceDown p).linkRestart p).takeShims p).syncSat p → d.retrain p = e.sb (Reg.sdsLaneStat p) 2 false))
    ∧ (∀ (s : State) (p : Port) (c : Fin 8) (a : Nat) (d e : Dev), s.dev.linkAllowed p.val = true → s.dev.linkUp p.val = false →
        s.dev.gb (Reg.pcsCfg p.val) 2 = false → a = Reg.pcsStat p.val →
        d = (s.dev.waitUp ((s.dev.port p.val).goodSince + s.dev.gf (Reg.pcsCfg p.val) 16 16 * msU)).modPort p.val
              (fun y => { y with lastRate := some (s.dev.portRate p.val), failSince := none }) →
        e = (((((((d.sf a 4 3 (speedCode (d.portRate p.val))).sb a 0 true).sb a 1 true).sb a 11 true).sb a 2 (d.laneMode p.val == 6)).sb a 3
                (d.gb (Reg.pcsCfg p.val) 2 && decide (1 ≤ d.laneMode p.val ∧ d.laneMode p.val ≤ 3))).sb a 8 false).sb a 10 false →
        exec (.linkUp p c) s = .next { s with dev :=
          (if 32 ≤ p.val then (((e.adapt p.val).syncSat p.val).preEval p.val).ringEval
           else ((e.adapt p.val).syncSat p.val).preEval p.val) })
    ∧ (∀ (s : State) (p : Port) (st : LineState) (a : Nat) (d : Dev), s.dev.mergedAway p.val = false → a = Reg.pcsStat p.val →
        d = (s.dev.lanes p.val).foldl (fun (x : Dev) l => (x.sb (Reg.sdsLaneStat p.val) (4 * l) (st.sig.getLsbD l)).sb
              (Reg.sdsLaneStat p.val) (4 * l + 1) (st.cdr.getLsbD l)) ((s.dev.sf a 1 3 st.pcs.toNat).sf a 7 4 (st.pcs.toNat / 64)) →
        exec (.linkDown p st) s
          = .next { s with dev := s.dev.linkJudge (if d.gb a 7 = true ∧ s.dev.gb a 7 = false then d.inc (Reg.pcsHiberCnt p.val) else d) p.val })
    ∧ (∀ (d0 d : Dev) (p dn : Nat), d.linkUp p = true → d.linkBad p = true → dn = d.gf (Reg.pcsCfg p) 32 16 → d0.remoteFault p = false →
        (∀ e, (d.port p).failSince = none → dn = 0 → e = (d.linkRestart p).linkLost p → e.remoteFault p = false → d0.linkJudge d p = e)
        ∧ (∀ e, (d.port p).failSince = none → dn ≠ 0 → e = d.modPort p (fun y => { y with failSince := some d.tim.up }) →
            e.remoteFault p = false → d0.linkJudge d p = e)
        ∧ (∀ t e, (d.port p).failSince = some t → e = ((d.waitUp (t + dn * usU)).linkRestart p).linkLost p → e.remoteFault p = false →
            d0.linkJudge d p = e)))

/-- From R265, R266, Table MAC-8: a GO of an MDIO bus drives its frame, the frame's fields in their order, and sets BUSY; one written while BUSY = 1 is
ignored and sets OVR; the frame ends after its fixed length, and a read that no PHY answers sets NOACK with 0xFFFF. From R267: a GO of an SMBus
controller drives the octets of its command, with the Packet Error Code after a write where PEC = 1 and, after a timeout, behind 9 clocks; one with
LEN 0 or above 32 is ignored and sets CFG_ERR; one written while BUSY = 1 is ignored and sets OVR; at the end of a write or probe the status shows
how it ended and COUNT the octets transferred. -/
def Obligations.ManagementBuses : Prop :=
  ((∀ (s : State) (r : Req) (b : Fin 4) (v w : Word) (c : Instr) (c45 : Bool) (op : Nat), s.takes r (Reg.macMdioCmd b.val) →
        (c45, op, c) ∈ [(false, 1, Instr.mdioC22Write r b v), (false, 2, .mdioC22Read r b v), (true, 0, .mdioC45Address r b v)
          , (true, 1, .mdioC45Write r b v), (true, 2, .mdioC45ReadInc r b v), (true, 3, .mdioC45Read r b v)] → w = mdioCmd c45 op v →
        (s.dev.gb (Reg.macMdioStat b.val) 16 = false →
          exec c s = .next { s with dev := (let d := (s.dev.wrReg (Reg.macMdioCmd b.val) w).sb (Reg.macMdioStat b.val) 16 true
            ({ d with mgmt := { d.mgmt with mdio := Sparse.put d.mgmt.mdio b.val ⟨s.dev.tim.up, w, s.dev.rd (Reg.macMdioCfg b.val)⟩ } } : Dev).emit
              (.mdio b.val (!(s.dev.gb (Reg.macMdioCfg b.val) 8)) (mdioFrame w))) })
        ∧ (s.dev.gb (Reg.macMdioStat b.val) 16 = true → exec c s = .next { s with dev := s.dev.sb (Reg.macMdioStat b.val) 19 true }))
    ∧ (∀ (v : Word) (ph : Nat), ph = getF v 21 5 * 2 ^ 23 + getF v 16 5 * 2 ^ 18 →
        mdioFrame (mdioCmd false 1 v) = 2 ^ 30 + 2 ^ 28 + ph + 2 ^ 17 + getF v 0 16
        ∧ mdioFrame (mdioCmd false 2 v) = 2 ^ 30 + 2 ^ 29 + ph
        ∧ mdioFrame (mdioCmd true 0 v) = ph + 2 ^ 17 + getF v 0 16
        ∧ mdioFrame (mdioCmd true 1 v) = 2 ^ 28 + ph + 2 ^ 17 + getF v 0 16
        ∧ mdioFrame (mdioCmd true 2 v) = 2 ^ 29 + ph
        ∧ mdioFrame (mdioCmd true 3 v) = 2 ^ 29 + 2 ^ 28 + ph)
    ∧ (∀ (s : State) (b : Fin 4) (ack : Bool) (data : BitVec 16) (a : Nat) (m : MdioRun) (d e : Dev), a = Reg.macMdioStat b.val →
        Sparse.find s.dev.mgmt.mdio b.val = some m →
        d = s.dev.waitUp (m.at_ + (if getB m.cfg 8 then 32 else 64) * 4 * (getF m.cfg 0 8 + 1) * nsU) →
        e = (({ d with mgmt := { d.mgmt with mdio := Sparse.del d.mgmt.mdio b.val } } : Dev).sb a 16 false).sb a 17 true →
        (mdioRead m.cmd = false → exec (.mdioFrameDone b ack data) s = .next { s with dev := e.wakeMdio b.val })
        ∧ (mdioRead m.cmd = true → exec (.mdioFrameDone b ack data) s
            = .next { s with dev := (if ack then e.sf a 0 16 data.toNat else (e.sf a 0 16 0xFFFF).sb a 18 true).wakeMdio b.val })))
  ∧ ((∀ (s : State) (r : Req) (c : Fin 2) (v w : Word) (i : Instr) (op : Nat), s.takes r (Reg.macSmbCmd c.val) →
        (op, i) ∈ [(0, Instr.smbWrite r c v), (1, .smbWriteRead r c v), (2, .smbProbe r c v)] → w = smbCmd op v →
        (∀ d : Dev, 0 < getF w 16 6 → getF w 16 6 ≤ 32 → s.dev.gb (Reg.macSmbStat c.val) 0 = false →
          d = ((if c.val ∈ s.dev.mgmt.smbClear then { (s.dev.emit (.smbClocks c.val)) with
                  mgmt := { s.dev.mgmt with smbClear := s.dev.mgmt.smbClear.erase c.val } }
                else s.dev).wrReg (Reg.macSmbCmd c.val) w).sb (Reg.macSmbStat c.val) 0 true →
          exec i s = .next { s with dev := (({ d with mgmt := { d.mgmt with
            smb := Sparse.put d.mgmt.smb c.val (w, s.dev.rd (Reg.macSmbCfg c.val)) } } : Dev).emit (.smb c.val
            (if s.dev.gb (Reg.macSmbCfg c.val) 1 = true ∧ op = 0
             then s.dev.smbOctets c.val w ++ [BitVec.ofNat 8 (pec (s.dev.smbOctets c.val w))] else s.dev.smbOctets c.val w))) })
        ∧ (0 < getF w 16 6 → getF w 16 6 ≤ 32 → s.dev.gb (Reg.macSmbStat c.val) 0 = true →
          exec i s = .next { s with dev := s.dev.sb (Reg.macSmbStat c.val) 6 true })
        ∧ ((getF w 16 6 = 0 ∨ 32 < getF w 16 6) → exec i s = .next { s with dev := s.dev.outOfRange (Reg.macSmbCmd c.val) }))
    ∧ (∀ (s : State) (c : Fin 2) (how : Fin 4) (n : BitVec 6) (l : List Byte) (a len op : Nat) (v cfg : Word) (b d : Dev),
        a = Reg.macSmbStat c.val → Sparse.find s.dev.mgmt.smb c.val = some (v, cfg) → len = getF v 16 6 → op = getF v 22 2 → (op = 0 ∨ op = 2) →
        b = { s.dev with mgmt := { s.dev.mgmt with
                smb := Sparse.del s.dev.mgmt.smb c.val
                smbClear := if how = 2 then c.val :: s.dev.mgmt.smbClear.erase c.val else s.dev.mgmt.smbClear } } →
        d = ((b.sb a 0 false).sb a 1 true).sf a 8 6 (if op = 2 then 0 else if how = 0 then len else min n.toNat len) →
        exec (.smbTransactionEnd c how n l) s = .next { s with dev :=
          (if how = 1 then d.sb a 2 true else if how = 2 then d.sb a 3 true else if how = 3 then d.sb a 4 true else d).wakeSmb c.val }))

/-- From R272, R297, R299, R300, Table FWD-1: a frame's pass. The oldest frame of a slice that needs no further lookup passes the steps: a reserved-
group frame goes to HOST_QP only; one the VLAN check refuses is counted and discarded; a frame of no stream takes the destination its entry names,
less the ports that pruning removes, a Pdelay message of an edge port going to none that recognises it (R46); a lookup issued reads the main table;
a main-table read that returns is kept with its frame. -/
def Obligations.ForwardingPass : Prop :=
  (∀ (s : State) (sl : Slice) (id : Nat) (t : List Nat) (f : Frame) (d : Dev), s.dev.islandOk (fwdIsland sl.val) = true →
      s.dev.fwd.wait = id :: t → s.dev.frame id = some f → f.bank = sl.val → d = s.dev.setFrame id { f with dests := [inPipeline] } →
      (f.hostOnly = true → s.dev.fwd.lookups.any (fun m => m.frame == id && m.res.isNone) = false → f.ready = true →
        exec (.forwardFrame sl) s = .next { s with dev := ((d.fwdTake id).toHost sl.val id f.rx).fwdEnd id [] 0 })
      ∧ (f.hostOnly = false → f.loc = false → s.dev.vlanOk f = false →
        s.dev.fwd.lookups.any (fun m => m.frame == id && m.res.isNone) = false → f.ready = true →
        exec (.forwardFrame sl) s
          = .next { s with dev := ((d.fwdTake id).inc (Reg.fwdVlanDropCnt sl.val)).fwdDiscard id })
      ∧ (f.hostOnly = false → f.headKnown = true → s.dev.vlanOk f = true → (s.dev.readWays sl.val f).readsNeeded sl.val id f ≠ [] →
        (s.dev.readWays sl.val f).readsOut sl.val + ((s.dev.readWays sl.val f).readsNeeded sl.val id f).length ≤ 256 →
        exec (.forwardFrame sl) s = .next { s with dev := (let e := s.dev.readWays sl.val f
          { e with fwd := { e.fwd with lookups := e.fwd.lookups ++ (e.readsNeeded sl.val id f).map (fun k => ⟨id, sl.val, k.1, k.2, none⟩) } }) }))
  ∧ (∀ (s : State) (sl : Slice) (m : MainRead) (res : Option (Word × Bool)) (e : Dev),
      s.dev.fwd.lookups.find? (fun x => x.slice == sl.val && x.res.isNone) = some m → s.dev.mainReturn sl.val m.key m.src = (res, e) →
      exec (.mainTableLookupReturn sl) s = .next { s with dev := { e with fwd := { e.fwd with
        lookups := e.fwd.lookups.map (fun x => if x = m then { x with res := some res } else x) } } })
  ∧ (∀ (d d1 : Dev) (sl key : Nat) (src : Bool) (w : Word), d.mainRead sl key = (some (w, true), d1) → d1.cacheEntry sl key = none →
      d.mainReturn sl key src = (some (w, true), (d1.cacheInstall sl key w true src).2))
  ∧ (∀ (d : Dev) (s id : Nat) (f : Frame) (w : Word), eDkind w = 0 → d.frame id = some f → f.dove = none →
      (d.prune f (2 ^ eDest w) false = [] → d.destSet s id f (some w) = (d.inc (Reg.fwdNoDestCnt s)).fwdDiscard id)
      ∧ (d.prune f (2 ^ eDest w) false ≠ [] → d.destSet s id f (some w) = d.fwdEnd id (d.prune f (2 ^ eDest w) false) 0))
  ∧ (∀ (d : Dev) (f : Frame) (set q : Nat) (flood : Bool), q ∈ d.prune f set flood ↔
      q < 36 ∧ set.testBit q = true ∧ (d.gf (Reg.fwdVlan f.vid) 0 36).testBit q = true ∧ f.rx ≠ some q ∧ d.gb (Reg.macCfg q) 0 = true
        ∧ d.linkUp q = true ∧ (q < 32 ∨ d.ringMay f.rx flood q = true) ∧ (f.edge = none ∨ d.isPdelay q f.octets = false))

/-- From R278, R284, R285, R287: the oldest queued key is committed to its slice's cache; the Joiner reconciles the oldest report; the sweeper visits
the next dynamic entry in index order and clears HIT, sets SEEN or issues a compare-and-remove, which removes the entry only if nothing touched it;
the main-table scan visits its next entry, or ends its pass; its compare-and-remove checks TS again. -/
def Obligations.LearningAndAging : Prop :=
  (∀ (s : State) (sl : Slice) (key port i : Nat) (d : Dev), s.dev.fwd.learn.find? (fun e => e.1 == sl.val) = some (sl.val, key, port) →
      s.dev.islandOk (fwdIsland sl.val) = true →
      d = (let e := s.dev.waitUp (match Sparse.find s.dev.fwd.learnAt sl.val with | some t => t + 125 * 2 ^ 45 | none => 0)
        { e with fwd := { e.fwd with learn := e.fwd.learn.erase (sl.val, key, port), learnAt := Sparse.put e.fwd.learnAt sl.val e.tim.up } }) →
      ∀ (d1 e : Dev) (o : Option (Word × Bool)), d.cacheSearch sl.val key = (none, d1) → d1.mainRead sl.val key = (o, e) →
      (∀ w, o ≠ some (w, true)) → e.installWay sl.val key = some i → eValid (e.cw sl.val i 0) = false →
      exec (.learnCommit sl) s = .next { s with dev := (((e.sweepRoll sl.val).setCache sl.val i (BitVec.ofNat 64 (key + fld 60 1 1 + fld 61 1 1
        + fld 63 1 0)) (BitVec.ofNat 64 (getF (BitVec.ofNat 64 (fld 2 16 port)) 0 38))).inc (Reg.fwdLearnCnt sl.val)).mainLearn sl.val key port true })
  ∧ (∀ (s : State) (r : XsRep) (t : List XsRep) (d : Dev), s.dev.fwd.reports = r :: t →
      d = { s.dev with fwd := { s.dev.fwd with reports := t } } →
      (s.dev.gf Reg.fwdCfg 2 2 = 0 → exec .xsReconcile s = .next s)
      ∧ (s.dev.gf Reg.fwdCfg 2 2 = 2 → exec .xsReconcile s = .next { s with dev := d.cacheEvict (fwdKey r.mac r.vid) [r.slice] }))
  ∧ (∀ (s : State) (sl : Slice) (j gap due : Nat) (d e : Dev), s.dev.islandOk (fwdIsland sl.val) = true →
      nextFrom (s.dev.cacheDyn sl.val) (Sparse.getD s.dev.fwd.sweep sl.val 0) 131072 = some (j, gap) →
      due = Sparse.getD s.dev.fwd.sweepAt sl.val 0 + gap * s.dev.sweepStep → d = s.dev.waitUp due →
      e = (({ d with fwd := { d.fwd with
        sweep := Sparse.put d.fwd.sweep sl.val ((j + 1) % 131072)
        sweepAt := Sparse.put d.fwd.sweepAt sl.val (due + s.dev.sweepStep) } } : Dev).cacheWayRead sl.val j).cacheTouch sl.val j →
      (eValid (e.cw sl.val j 0) = false → exec (.cacheSweepVisit sl) s = .next { s with dev := e })
      ∧ (eValid (e.cw sl.val j 0) = true → getB (e.cw sl.val j 0) 61 = true → exec (.cacheSweepVisit sl) s = .next { s with dev :=
        ((e.setCache sl.val j (setB (setB (e.cw sl.val j 0) 61 false) 62 false) (e.cw sl.val j 1)).mainRefresh sl.val (eKey (e.cw sl.val j 0))
          (eDest (e.cw sl.val j 1))) })
      ∧ (eValid (e.cw sl.val j 0) = true → getB (e.cw sl.val j 0) 61 = false → getB (e.cw sl.val j 0) 62 = false →
        exec (.cacheSweepVisit sl) s = .next { s with dev := e.setCache sl.val j (setB (e.cw sl.val j 0) 62 true) (e.cw sl.val j 1) })
      ∧ (eValid (e.cw sl.val j 0) = true → getB (e.cw sl.val j 0) 61 = false → getB (e.cw sl.val j 0) 62 = true →
        exec (.cacheSweepVisit sl) s = .next { s with dev :=
          { e with fwd := { e.fwd with cacheRem := e.fwd.cacheRem ++ [(sl.val, j, eKey (e.cw sl.val j 0))] } } }))
  ∧ (∀ (s : State) (sl : Slice) (i key : Nat) (d : Dev), s.dev.fwd.cacheRem.find? (fun e => e.1 == sl.val) = some (sl.val, i, key) →
      d = ({ s.dev with fwd := { s.dev.fwd with cacheRem := s.dev.fwd.cacheRem.erase (sl.val, i, key) } } : Dev).cacheWayRead sl.val i →
      exec (.cacheCompareRemove sl) s = .next { s with dev :=
        (if eValid (d.cw sl.val i 0) = true ∧ eKey (d.cw sl.val i 0) = key ∧ getB (d.cw sl.val i 0) 61 = false
            ∧ getB (d.cw sl.val i 0) 62 = true
         then (d.cacheInvalid sl.val i).inc (Reg.fwdCacheAgeCnt sl.val) else d) })
  ∧ (∀ (s : State) (j : Nat), s.dev.mainOut = false → j = s.dev.scanNext →
      (j < 16777216 → ∃ d e : Dev, exec .mainScanVisit s = .next { s with dev := d } ∧ d = e.scanVisit j ∧ e.fwd.scan = j + 1
          ∧ e.mem = s.dev.mem)
      ∧ (16777216 ≤ j → ∃ d : Dev, exec .mainScanVisit s = .next { s with dev := d } ∧ d.fwd.scan = 0 ∧ d.fwd.passes = s.dev.fwd.passes + 1))
  ∧ (∀ (s : State) (i key ts : Nat) (t : List (Nat × Nat × Nat)) (d e : Dev) (o : Option Nat), s.dev.fwd.mainRem = (i, key, ts) :: t →
      s.dev.mainOut = false → d = { s.dev with fwd := { s.dev.fwd with mainRem := t } } → d.mainFind 0 key = (o, e) →
      exec .mainCompareRemove s = .next { s with dev :=
        (if o = some i ∧ getB (e.mw i 0) 61 = false ∧ getF (e.mw i 1) 38 16 = ts
         then (e.mainInvalid i).inc (Reg.fwdMainAgeCnt 0) else e) })

/-- From R289, R290, R291, R292, R298, R307: generation bumps, the table commands and the direct writes of the tables. A command that begins acts on the
tables and sets DONE with its RESULT 0.5 to 20 µs later; one begun while another is in progress is ignored and sets OVR. From R302, R303, R304: the
Try-square. It pauses while a supply warning is in force, keeping a shadow that returns meanwhile; where EN and a region are set and no pass runs, a
pass begins with the registers' configuration; a word that equals its shadow leaves the device as it is; one that differs is counted and latched
with the word's offset, and with REPAIR = 1 a trie word that still holds what was compared takes the shadow. -/
def Obligations.TablesAndTrySquare : Prop :=
  ((∀ (s : State) (r : Req) (v : Word) (d : Dev), s.takes r Reg.fwdClr → getB v 1 = false →
        (readyAt s.dev.fwd.passes s.dev.fwd.dynAt = false → exec (.dgenBump r v) s = .next { s with dev := s.dev.sb (Reg.fwdStat 0) 3 true })
        ∧ (readyAt s.dev.fwd.passes s.dev.fwd.dynAt = true → d = (s.dev.scanRoll.sf Reg.fwdClr 8 4 (s.dev.gf Reg.fwdClr 8 4 + 1)).flashClear false →
          exec (.dgenBump r v) s = .next { s with dev :=
            ({ d with fwd := { d.fwd with dynAt := some d.bumpDue } } : Dev).syncReady }))
    ∧ (∀ (s : State) (r : Req) (v : Word) (d : Dev), s.takes r Reg.fwdClr → getB v 0 = false →
        (readyAt s.dev.fwd.passes s.dev.fwd.statAt = false → exec (.sgenBump r v) s = .next { s with dev := s.dev.sb (Reg.fwdStat 0) 3 true })
        ∧ (readyAt s.dev.fwd.passes s.dev.fwd.statAt = true → d = (s.dev.scanRoll.sf Reg.fwdClr 12 4 (s.dev.gf Reg.fwdClr 12 4 + 1)).flashClear true →
          exec (.sgenBump r v) s = .next { s with dev :=
            ({ d with fwd := { d.fwd with statAt := some d.bumpDue } } : Dev).syncReady }))
    ∧ (∀ (s : State) (r : Req) (op : Nat) (c : Instr) (d : Dev), s.takes r Reg.fwdTblCmd →
        (op, c) ∈ [(1, Instr.tblInsert r), (2, .tblDelete r), (3, .tblLookup r), (4, .tblEvict r)] →
        d = s.dev.tblSync.wrReg Reg.fwdTblCmd (tblCmdWord op) →
        (s.dev.tblSync.fwd.tbl ≠ none → exec c s = .next { s with dev := d.sb Reg.fwdTblStat 2 true })
        ∧ (∀ x e, s.dev.tblSync.fwd.tbl = none → d.useFree.tblRun op false = (x, e) → ∃ due : Nat,
            d.tim.up + usU / 2 ≤ due ∧ due ≤ d.tim.up + 20 * usU
            ∧ exec c s = .next { s with dev := { (e.sb Reg.fwdTblStat 0 true) with fwd := { e.fwd with tbl := some ⟨due, x.1, x.2⟩ } } }))
    ∧ (∀ (d e : Dev) (key i : Nat), d.mainOut = false → key = d.gf Reg.fwdTblKey 0 60 → d.mainFind 0 key = (some i, e) →
        (eDest (d.rd Reg.fwdTblData) ≤ destMax (eDkind (d.rd Reg.fwdTblData)) → d.tblRun 1 false = ((0, none),
            (e.scanRoll.useFree.setMain i (BitVec.ofNat 64 (key + fld 60 1 1 + fld 61 1 1))
              (BitVec.ofNat 64 (getF (d.rd Reg.fwdTblData) 0 38 + fld 38 16 (getF (Config.freeWord d.free) 38 16)
                + fld 54 4 (d.gf Reg.fwdClr 12 4)))).cacheEvict key [0, 1, 2, 3]))
        ∧ d.tblRun 2 false = ((0, none), (e.mainInvalid i).cacheEvict key [0, 1, 2, 3])
        ∧ d.tblRun 3 false = ((0, some (e.mw i 1, getF (e.mw i 0) 62 2, getB (e.mw i 0) 61)), e))
    ∧ (∀ (d e : Dev) (key : Nat), d.mainOut = false → key = d.gf Reg.fwdTblKey 0 60 → d.mainFind 0 key = (none, e) →
        d.tblRun 2 false = ((1, none), e.cacheEvict key [0, 1, 2, 3]) ∧ d.tblRun 3 false = ((1, none), e))
    ∧ (∀ (d : Dev), d.tblRun 4 false = ((0, none), d.cacheEvict (d.gf Reg.fwdTblKey 0 60) [0, 1, 2, 3])
        ∧ (d.mainOut = true → d.tblRun 1 false = ((3, none), d) ∧ d.tblRun 2 false = ((3, none), d) ∧ d.tblRun 3 false = ((3, none), d)))
    ∧ (∀ (d e : Dev) (x : TblRun), d.fwd.tbl = some x → x.due ≤ d.tim.up →
        e = { (((d.sb Reg.fwdTblStat 1 true).sf Reg.fwdTblStat 4 3 x.result).sb Reg.fwdTblStat 0 false) with fwd := { d.fwd with tbl := none } } →
        (x.look = none → d.tblSync = e)
        ∧ (∀ w own st, x.look = some (w, own, st) →
            d.tblSync = (((e.sf Reg.fwdTblStat 8 2 own).sb Reg.fwdTblStat 10 st).wr Reg.fwdTblData w)))
    ∧ (∀ (s : State) (r : Req) (w : FwdWord) (v : Word), s.takes4 r (s.dev.fwdWordIsl w) 10 →
        (∃ t : Fwd, exec (.fwdTableDirectWrite r w v) s
          = .next { s with dev := ({ s.dev with fwd := t } : Dev).stW (bar4Addr (fwdOff w)) v })
        ∧ s.dev.sameMemBut (s.dev.stW (bar4Addr (fwdOff w)) v) (bar4Addr (fwdOff w)) 8)
    ∧ (∀ (s : State) (r : Req) (w : TrieWord) (v : Word), s.takes4 r 2 10 →
        exec (.trieWrite r w v) s = .next { s with dev := s.dev.stW (bar4Addr (trieOff w)) v }
        ∧ s.dev.sameMemBut (s.dev.stW (bar4Addr (trieOff w)) v) (bar4Addr (trieOff w)) 8))
  ∧ ((∀ s : State, s.dev.islandOk 2 = true → s.dev.gb Reg.smonStat 0 = true →
        exec .tsqWordVisit s = .next { s with dev := s.dev.sb Reg.fwdTsqStat 1 true })
    ∧ (∀ (s : State) (d : Dev), s.dev.islandOk 2 = true → s.dev.gb Reg.smonStat 0 = false → d = s.dev.sb Reg.fwdTsqStat 1 false →
        d.fwd.tsqReads = [] → d.fwd.tsqCfg = [] → d.gb Reg.fwdTsqCtl 0 = true → d.gf Reg.fwdTsqCtl 16 8 ≠ 0 →
        exec .tsqWordVisit s = .next { s with dev := (({ d with fwd := { d.fwd with tsqCfg := d.tsqRegs, tsqRegion := 0, tsqIdx := 0 } } : Dev).sb
          Reg.fwdTsqStat 0 true).tsqVisit })
    ∧ (∀ (s : State) (ws : Vector Word 4) (r : TsqRead) (t : List TsqRead) (d : Dev) (ofs : Nat) (m x : Word), s.dev.fwd.tsqReads = r :: t → r.sent = true →
        (s.dev.gb Reg.smonStat 0 = true → r.got = none → exec (.tsqCompare ws) s
          = .next { s with dev := { s.dev with fwd := { s.dev.fwd with tsqReads := { r with got := some ws.toList } :: t } } })
        ∧ (s.dev.gb Reg.smonStat 0 = false → r.got = none →
        d = { s.dev with fwd := { s.dev.fwd with tsqReads := t } } → d.tsqList r.region = false → x = ws.toList.getD 0 0 →
        ofs = d.tsqOfs r.region r.idx → m = d.tsqC r.region 2 →
        (r.bad = false → r.word &&& m = x &&& m → exec (.tsqCompare ws) s = .next { s with dev := d.tsqEndCheck })
        ∧ ((r.bad = true ∨ r.word &&& m ≠ x &&& m) → getB (d.fwd.tsqCfg.getD 0 0) 1 = false →
          exec (.tsqCompare ws) s = .next { s with dev := (d.tsqMiss r.region ofs false).tsqEndCheck })
        ∧ ((r.bad = true ∨ r.word &&& m ≠ x &&& m) → getB (d.fwd.tsqCfg.getD 0 0) 1 = true → 0x4000000 ≤ ofs →
          d.ldW (bar4Addr ofs) = r.word →
          exec (.tsqCompare ws) s = .next { s with dev := ((d.stW (bar4Addr ofs) x).tsqMiss r.region ofs true).tsqEndCheck })))
    ∧ (∀ (d : Dev) (k ofs : Nat) (rep : Bool), k < 8 → ofs < 2 ^ 30 → ∃ e : Dev, d.tsqMiss k ofs rep = e.raise 10 0 0x12 ofs
        ∧ e.rd (Reg.fwdTsqMismCnt 0) = BitVec.ofNat 64 ((d.rd (Reg.fwdTsqMismCnt 0)).toNat + 1)
        ∧ (d.gb Reg.fwdTsqMiss 63 = true → e.rd Reg.fwdTsqMiss = d.rd Reg.fwdTsqMiss)
        ∧ (d.gb Reg.fwdTsqMiss 63 = false → e.rd Reg.fwdTsqMiss = BitVec.ofNat 64 (ofs + k * 2 ^ 30 + bit rep * 2 ^ 33 + 2 ^ 63))))

/-- From R314, R315, R319, R327, Tables HQS-4, HQS-6: a tail doorbell offers the entries up to the new tail; a head doorbell releases completions; one
whose value is out of range is ignored and counted; an entry read joins those in flight, and ends with PHASE or FORMAT where its phase or fields are
wrong. -/
def Obligations.DoorbellsAndEntriesRead : Prop :=
  (∀ (s : State) (f : Nat) (slot : BitVec 16) (v : BitVec 32) (q : Nat) (x : Sq), s.dev.islandOk 33 = true → s.dev.fnStopped f = false →
      s.dev.globalOf f slot.toNat = some q → s.dev.sq q = some x →
      (∀ h, h = (if x.kind = 2 then x.claimed else x.fetched) → v.toNat < x.size → exec (.sqTailDoorbell f slot v) s
          = .next { s with dev := ((s.dev.modSq q (fun y => { y with tail := h + (v.toNat + x.size - h % x.size) % x.size })).pumpSq q) })
      ∧ (x.size ≤ v.toNat → exec (.sqTailDoorbell f slot v) s = .next { s with dev := s.dev.doorbellBad f slot.toNat }))
  ∧ (∀ (s : State) (f : Nat) (slot : BitVec 16) (v : BitVec 32) (q rel : Nat) (x : Cq), s.dev.islandOk 33 = true → s.dev.fnStopped f = false →
      s.dev.globalOf f slot.toNat = some q → s.dev.cq q = some x → rel = (v.toNat + x.size - x.head % x.size) % x.size →
      (v.toNat < x.size → rel ≤ x.tail - x.head → exec (.cqHeadDoorbell f slot v) s = .next { s with dev :=
        (((s.dev.modCq q (fun y => { y with head := y.head + rel })).drainCq q).pumpTrackers) })
      ∧ ((x.size ≤ v.toNat ∨ x.tail - x.head < rel) → exec (.cqHeadDoorbell f slot v) s = .next { s with dev := s.dev.doorbellBad f slot.toNat }))
  ∧ (∀ (d : Dev) (f slot : Nat), ∃ e : Dev, d.doorbellBad f slot = e.inc Reg.hqDbErrCnt ∧ ((f < 4 ∨ f = benchFn) → slot ∈ e.hq.dbErr))
  ∧ (∀ (s : State) (q : BitVec 16) (ws : Vector Word 8) (x : Sq) (e : Sqe) (d : Dev), s.dev.sq q.toNat = some x → x.rd = 2 → x.fn ≠ benchFn →
      x.kind ≠ 2 → e = { n := x.fetched, words := ws.toList } →
      d = s.dev.modSq q.toNat (fun y => { y with flight := y.flight ++ [e], fetched := x.fetched + 1, rd := 0 }) →
      (getB (ws.toList.getD 0 0) 8 ≠ (phaseOf x.fetched x.log == 1) → exec (.sqEntryFetched q ws) s
        = .next { s with dev := (((d.inc Reg.hqPhaseErrCnt).endSqe q.toNat x.fetched 5 0 0).pumpSq q.toNat) })
      ∧ (getB (ws.toList.getD 0 0) 8 = (phaseOf x.fetched x.log == 1) → s.dev.formatBad x.kind e = true → exec (.sqEntryFetched q ws) s
        = .next { s with dev := ((d.endSqe q.toNat x.fetched 4 0 0).pumpSq q.toNat) })
      ∧ (getB (ws.toList.getD 0 0) 8 = (phaseOf x.fetched x.log == 1) → s.dev.formatBad x.kind e = false → exec (.sqEntryFetched q ws) s
        = .next { s with dev := d.pumpSq q.toNat }))

/-- From R316–R323, R336, R337: the entries' commands. NOP ends with OK; RX_BUF offers its buffer; SEND, SEND_FWD and SEND_SCHED read their frame (an
entry that names a stream without a valid record ends with DISCARD); a frame read whole is placed; a read error ends its entry with DATA_ERR; a
finished oldest entry retires. -/
def Obligations.EntryCommandsRun : Prop :=
  (∀ (s : State) (q : BitVec 16) (e : Sqe), s.dev.nextEntry q.toNat 0 = some e →
      exec (.nop q) s = .next { s with dev := s.dev.endSqe q.toNat e.n 0 0 0 })
  ∧ (∀ (s : State) (q : BitVec 16) (e : Sqe), s.dev.nextEntry q.toNat 0x10 = some e →
      exec (.rxBuf q) s = .next { s with dev := s.dev.modSqe q.toNat e.n (fun x => { x with run := true }) })
  ∧ (∀ (s : State) (q : BitVec 16) (head : List Byte) (opc : Nat) (c : Instr) (e : Sqe) (d d1 : Dev) (x : Sq) (e1 : Sqe),
      (opc, c) ∈ [(1, Instr.send q head), (2, .sendFwd q head)] → s.dev.nextEntry q.toNat opc = some e →
      d = s.dev.modSqe q.toNat e.n (fun y => { y with run := true }) →
      (e.strV = true → d.sType e.stream ≠ 1 → d.strBar e.stream none ≠ .none →
        exec c s = .next { s with dev := ((d.countBar (d.strBar e.stream none)).endSqe q.toNat e.n 8 0 0) })
      ∧ (e.strV = false → d.sq q.toNat = some x → d.sqe q.toNat e.n = some e1 → e1.status = none → e1.reading = false → d.reach x.fn = true →
        x.fn ≠ benchFn → d.cutsThrough e1 = false → d.xlate x.fn (.frame q.toNat e.n) x.pasid e1.addr e1.len false = (true, d1) →
        exec c s = .next { s with dev := ((d1.hostReads x.fn x.pasid e1.addr e1.len).modSqe q.toNat e.n
          (fun y => { y with reading := true, cut := false })) }))
  ∧ (∀ (s : State) (q : BitVec 16) (e : Sqe) (d d1 : Dev) (x : Sq) (e1 : Sqe), s.dev.nextEntry q.toNat 3 = some e →
      d = s.dev.modSqe q.toNat e.n (fun y => { y with run := true }) → d.sq q.toNat = some x → d.sqe q.toNat e.n = some e1 →
      e1.status = none → e1.reading = false → d.reach x.fn = true → x.fn ≠ benchFn → d.cutsThrough e1 = false →
      d.xlate x.fn (.frame q.toNat e.n) x.pasid e1.addr e1.len false = (true, d1) →
      exec (.sendSched q) s = .next { s with dev := ((d1.hostReads x.fn x.pasid e1.addr e1.len).modSqe q.toNat e.n
        (fun y => { y with reading := true, cut := false })) })
  ∧ (∀ (s : State) (q : BitVec 16) (n : Nat) (l : List Byte) (x : Sq) (e : Sqe), s.dev.sq q.toNat = some x → s.dev.sqe q.toNat n = some e →
      e.reading = true → e.status = none → e.cut = false → e.opc ≠ 3 → x.fn ≠ benchFn →
      exec (.hostFrameFetched q n l) s = .next { s with dev := ((s.dev.modSqe q.toNat n (fun y => { y with reading := false })).placeFrame
        q.toNat e (e.toFrame q.toNat (l.take e.len ++ List.replicate (e.len - l.length) 0) true)) })
  ∧ (∀ (s : State) (q : BitVec 16) (n : Nat) (x : Sq) (e e1 : Sqe) (why : HostErr) (d : Dev), s.dev.sq q.toNat = some x → s.dev.sqe q.toNat n = some e →
      e.reading = true → d = s.dev.logErr x.fn why → d.sqe q.toNat n = some e1 → e1.status = none → e1.cut = false →
      exec (.hostReadError (.queue q) ⟨some n, why⟩) s = .next { s with dev := d.endSqe q.toNat n 7 0 0 })
  ∧ (∀ (d : Dev) (f : Nat), f ≠ benchFn → ((d.logErr f .ur).fn f).masterAbort = true ∧ ((d.logErr f .ca).fn f).targetAbort = true
      ∧ getB ((d.logErr f .poison).fn f).aer 12 = true ∧ getB ((d.logErr f .timeout).fn f).aer 14 = true)
  ∧ (∀ (s : State) (q : BitVec 16) (x : Sq) (e : Sqe) (t : List Sqe) (c : Cq), s.dev.sq q.toNat = some x → x.flight = e :: t →
      e.status = some 0 → s.dev.reach x.fn = true → s.dev.cq x.cq = some c → (s.dev.fn x.fn).d3 = false → c.held = false →
      (e.posts x = false → exec (.entryRetire q) s
        = .next { s with dev := ((((((s.dev.modSq q.toNat (fun y => { y with flight := y.flight.drop 1, done := e.n + 1, wbOwed := y.wb != 0 })).inc
            Reg.hqEntryCnt).qCount q.toNat 0 1).pumpSq q.toNat).pumpTrackers)) })
      ∧ (e.posts x = true → c.full = true → exec (.entryRetire q) s
        = .next { s with dev := (((((s.dev.overflow x.cq).waitCq x.cq q.toNat).pumpSq q.toNat).pumpTrackers)) }))

/-- From R316, R317, R329, R330, R331, R333, R334, R335, R338: the writeback word, the moderation timer, MSI-X, L1, D3hot, the loss of the data link and
FLR. From R2, R310: a PF and its virtual functions: their Device IDs, class code and routing IDs, as the SR-IOV capability places them. -/
def Obligations.InterruptsAndFunctionStates : Prop :=
  ((∀ (s : State) (q : BitVec 16) (x : Sq) (d d1 : Dev), s.dev.sq q.toNat = some x → x.wb ≠ 0 → x.wbOwed = true → s.dev.reach x.fn = true →
        (s.dev.fn x.fn).d3 = false → x.fn ≠ benchFn → x.msi = [] →
        d = (match x.wbAt with | some t => s.dev.waitUp (t + usU) | none => s.dev) →
        d.xlate x.fn (.wback q.toNat) x.pasid x.wb 8 true = (true, d1) →
        exec (.writebackUpdate q) s = .next { s with dev := ((d1.hostWrite x.fn x.pasid x.wb (leBytes 8 (x.done % x.size))).modSq
          q.toNat (fun y => { y with wbOwed := false, wbAt := some d1.tim.up, msi := [] })) })
    ∧ (∀ (d : Dev) (f : Nat) (pasid : Option Nat) (a len : Nat), ((d.fn f).ats = false → d.hostRead f pasid a len
          = d.emit (.hostRead (ridOf f) pasid (.untranslated a) len))
        ∧ (∀ e, (d.fn f).ats = true → d.xlt.atc.find? (fun e => e.grants (ridOf f) pasid a false) = some e → d.hostRead f pasid a len
          = d.emit (.hostRead (ridOf f) pasid (.translated (e.phys + (a - e.base))) len)))
    ∧ (∀ (s : State) (q : BitVec 16) (c : Cq) (t : Nat) (d : Dev), s.dev.cq q.toNat = some c → c.timerAt = some t → c.ien = true → 0 < c.unrep →
        d = ((s.dev.waitUp t).modCq q.toNat (fun x => { x with timerAt := none })).modCq q.toNat (fun x => { x with unrep := 0 }) →
        exec (.cqTimerExpiry q) s = .next { s with dev := d.fireCq q.toNat none }
        ∧ (∀ c1, d.cq q.toNat = some c1 → d.owing q.toNat = [] → d.fireCq q.toNat none = d.fire c1.fn c1.vec)
        ∧ (∀ c1, d.cq q.toNat = some c1 → d.owing q.toNat ≠ [] → d.fireCq q.toNat none = d.fireAfter q.toNat (d.owing q.toNat)))
    ∧ (∀ (d : Dev) (f v : Nat), f ≠ benchFn → ((d.fn f).open_ v = true → d.fire f v = d.emit (.msix f v))
        ∧ ((d.fn f).open_ v = false → v ∈ ((d.fire f v).fn f).pba))
    ∧ (∀ (s : State) (f : Nat) (v : BitVec 11), (s.dev.fn f).pba = [v.toNat] → (s.dev.fn f).msixEn = true → (s.dev.fn f).fnMask = false →
        (s.dev.fn f).d3 = false → ∃ d : Dev, exec (.msixUnmask f (some v)) s = .next { s with dev := d } ∧ (d.fn f).pba = []
          ∧ d.out = .msix f v.toNat :: s.dev.out ∧ getB ((d.fn f).vector v.toNat).2 32 = false)
    ∧ (∀ (s : State) (d e : Dev), s.dev.linkL0 = true → d = s.dev.fireAll.flushMsi → e = d.ptmStop →
        ((∀ x ∈ d.hq.sqs, x.2.fn = benchFn ∨ x.2.msi = []) →
          exec (.l1Request false) s = .next { s with dev := { e with hq := { e.hq with link := if e.hq.l12En then .l1sub else .l1 } } })
        ∧ ((∃ x ∈ d.hq.sqs, x.2.fn ≠ benchFn ∧ x.2.msi ≠ []) → exec (.l1Request false) s = .next { s with dev := d }))
    ∧ (∀ (s : State) (f : Nat) (d : Dev), f < 1024 → d = (s.dev.modFn f (fun x => { x with d3 := true })).syncFn f →
        exec (.d3hotEntry f) s = .next { s with dev := if f = 0 then (d.pmeCheck f).ptmStop else d.pmeCheck f })
    ∧ (∀ (s : State) (f : Nat) (d : Dev), (s.dev.fn f).d3 = true → d = ((s.dev.modFn f (fun x => { x with d3 := false })).syncFn f).sendPba f →
        d.hq.cqs.filter (fun e => e.2.fn == f) = [] → d.hq.sqs.filter (fun e => e.2.fn == f) = [] →
        exec (.d3hotExit f) s = .next { s with dev := d })
    ∧ (∀ (s : State) (d : Dev), s.dev.hq.link ≠ .down → s.dev.islandOk 33 = true → s.dev.pwrState ≠ 2 → d = s.dev.ptmStop.resetGlb.resetHost →
        d.hq = {} ∧ d.dma = {} ∧ d.xlt = {} ∧ ∃ (e : Dev) (t : Nat), e = d.relockIf (fun h => decide (h < 4))
          ∧ e.tim.up + msU ≤ t ∧ t ≤ e.tim.up + 10 * msU
          ∧ exec .dataLinkDown s = .next { s with dev := { e.useFree with pwr := { e.pwr with resetUntil := t, resetAll := false } } })
    ∧ (∀ (s : State) (f : Nat) (d : Dev), 4 ≤ f → f < 1024 → d = (((s.dev.beginFlr [f]).destroyQueues f).forgetRid (ridOf f)).aqStop f →
        exec (.flr f) s = .next { s with dev := ((((((d.aqWr f 2 0x442).aqWr f 0 0).aqWr f 1 0).aqWr f 3 0).modFn f
          (fun x => { first := x.first, quota := x.quota, resetEnd := x.resetEnd, aer := x.aer })).pumpTrackers) })
    ∧ (∀ (d : Dev) (fs : List Nat) (f : Nat), f ∈ fs → d.tim.up ≤ ((d.beginFlr fs).fn f).resetEnd
        ∧ ((d.beginFlr fs).fn f).resetEnd ≤ d.tim.up + 10 * msU))
  ∧ (∀ (d : Dev) (f n : Nat), f < 4 → 0 < n → n ≤ (sriovCap f).1 →
      (sriovCap f).1 = 255 ∧ ridOf (f + 4 * n) = ridOf f + (sriovCap f).2.1 + (n - 1) * (sriovCap f).2.2
        ∧ (d.pcieId f).device = 0x7240 ∧ (d.pcieId (f + 4 * n)).device = 0x7241
        ∧ (∀ g ∈ [f, f + 4 * n], (d.pcieId g).vendor = 0x1F6E ∧ (d.pcieId g).cls = 0x028000
            ∧ (d.pcieId g).subVendor = (d.pcieId 0).subVendor ∧ (d.pcieId g).sub = (d.pcieId 0).sub))

/-- From R314, R339, R341, R342, R403, R404: the registers of the admin queues: doorbells, EN = 1, EN = 0, the Bench's queue pairs and admin queue, and
the queue counter capture. -/
def Obligations.AdminQueueRegisters : Prop :=
  (∀ (s : State) (n : Fin 4) (v : Word), s.takes (.pf n) (Reg.hqAqDb n.val) → (s.dev.aq n.val).ready = true →
      getF v 0 32 < 2 ^ s.dev.aqSqLog n.val →
      exec (.adminDoorbell (.pf n) n.val true false v) s = .next { s with dev := s.dev.modAq n.val (fun y => { y with
        tail := (s.dev.aq n.val).head + (getF v 0 32 + 2 ^ s.dev.aqSqLog n.val - (s.dev.aq n.val).head % 2 ^ s.dev.aqSqLog n.val)
          % 2 ^ s.dev.aqSqLog n.val }) })
  ∧ (∀ (s : State) (r : Req) (f : Nat) (v w : Word) (c : Instr) (d : Dev),
      ((∃ n : Fin 4, r = .pf n ∧ f = n.val ∧ s.takes r (Reg.hqAqCfg n.val) ∧ c = .adminQueueEnable r f v)
        ∨ (f = benchFn ∧ s.takes r Reg.benAqCfg ∧ (c = .benchAdminEnable r v ∨ c = .adminQueueEnable r benchFn v))) →
      w = setB v 0 true → s.dev.aqCfgOk f w = true → getB (s.dev.aqRd f 2) 0 = false → d = s.dev.aqWr f 2 (aqCfgMask f w) →
      exec c s = .next { s with dev := ((d.modAq f (fun x =>
        { x with ready := true, stopping := false, tail := 0, head := 0, cqTail := 0, cqHead := 0, drain := none, busy := false })).aqSync f) })
  ∧ (∀ (s : State) (n : Fin 4) (v w old : Word) (d : Dev), s.takes (.pf n) (Reg.hqAqCfg n.val) → w = setB v 0 false → old = s.dev.aqRd n.val 2 →
      getB old 0 = true → d = (if aqSettings n.val old w then s.dev.aqFlag n.val 1 true else s.dev).aqWr n.val 2
        (setF (setF (setB (aqCfgMask n.val w) 0 false) 4 9 (getF old 4 9)) 32 20 (getF old 32 20)) →
      ((d.aq n.val).drain = none → (d.aq n.val).busy = false → exec (.adminQueueDisable (.pf n) n.val v) s = .next { s with dev := d.aqStop n.val })
      ∧ ((d.aq n.val).drain ≠ none ∨ (d.aq n.val).busy = true → exec (.adminQueueDisable (.pf n) n.val v) s
        = .next { s with dev := d.modAq n.val (fun x => { x with stopping := true }) }))
  ∧ (∀ (s : State) (r : Req) (v : Word), s.takes r Reg.benQpCfg → s.dev.gb Reg.benAqCfg 0 = false →
      (getF v 0 16 + getF v 16 13 ≤ 16384 → getF v 16 13 ≤ 4096 → getF v 0 16 ≤ 16383 → s.dev.hq.sqs = [] → s.dev.hq.cqs = [] → s.dev.hq.fns = [] →
        exec (.benchQpConfig r v) s = .next { s with dev := s.dev.wr Reg.benQpCfg (BitVec.ofNat 64 (fld 0 16 (getF v 0 16)
          + fld 16 13 (getF v 16 13))) })
      ∧ (16384 < getF v 0 16 + getF v 16 13 → exec (.benchQpConfig r v) s = .next { s with dev := s.dev.sb Reg.benStat 0 true }))
  ∧ (∀ (s : State) (r : Req) (v w : Word) (d : Dev), s.takes r Reg.hqQcntSel → s.dev.gb Reg.hqQcntStat 0 = false → s.dev.hbmOk = true →
      w = setB v 63 true → d = s.dev.wrReg Reg.hqQcntSel w → getB v 32 = false →
      exec (.queueCounterCapture r v) s = .next { s with dev := (((({ d with hq := { d.hq with
        capture := some (getF w 0 16, d.ldWs (qcntAddr (getF w 0 16) 0) 7) } } : Dev).sb Reg.hqQcntStat 0 true).sb Reg.hqQcntStat 1 false).sb
          Reg.hqQcntStat 2 false) })
  ∧ (∀ (s : State) (q : Nat) (vals : List Word), s.dev.hq.capture = some (q, vals) →
      exec .queueCaptureDone s = .next { s with dev := ((({ (s.dev.wrs (Reg.hqQcntData 0) vals) with
        hq := { s.dev.hq with capture := none } } : Dev).sb Reg.hqQcntStat 0 false).sb Reg.hqQcntStat 1 true) })

/-- From R340, Tables HQS-10, HQS-11: an admin command that the queue can take, its memory reached and its entry of the right phase, runs and is
completed; what each does on good arguments, and the status of the first bad one. -/
def Obligations.AdminCommandsRun : Prop :=
  (∀ (s : State) (f opc st res : Nat) (ws : Vector Word 8) (w0 : Word) (c : Instr) (g : List Word → Dev → AdminRes) (d d1 d2 : Dev),
      s.dev.aqMay f = true → f ≠ benchFn → w0 = ws.toList.getD 0 0 → s.dev.aqReach f = (true, d1) → getF w0 9 23 = 0 →
      getB w0 8 = (phaseOf (s.dev.aq f).head (s.dev.aqSqLog f) == 1) → getF w0 0 8 = opc →
      ((opc, c, g) ∈ [(1, Instr.createCq f ws, Machine.createCq f), (2, .createSq f ws, Machine.createSq f), (4, .destroyCq f ws, Machine.destroyCq f)
          , (5, .modifyCq f ws, Machine.modifyCq f), (7, .setVfQuota f ws, Machine.setVfQuota f)] →
        g ws.toList d1 = (st, res, d2) → exec c s = .next { s with dev := ((d2.modAq f (fun x => { x with busy := false })).aqComplete f (s.dev.aq f).head opc (getF w0 32 32) st res).aqHalt f })
      ∧ (opc = 6 → Machine.queryQp f ws.toList d1 = (some (st, res, d2), d) → exec (.queryQp f ws) s
          = .next { s with dev := ((d2.modAq f (fun x => { x with busy := false })).aqComplete f (s.dev.aq f).head opc (getF w0 32 32) st res).aqHalt f })
      ∧ (opc = 8 → Machine.adminGetInfo f ws.toList d1 = (some (st, res, d2), d) → exec (.adminGetInfo f ws) s
          = .next { s with dev := ((d2.modAq f (fun x => { x with busy := false })).aqComplete f (s.dev.aq f).head opc (getF w0 32 32) st res).aqHalt f })
      ∧ (opc = 3 → Machine.destroySq f ws.toList d1 = (none, d2) → exec (.destroySq f ws) s = .next { s with dev := d2 }))
  ∧ (∀ (s : State) (f q tag n : Nat) (x : Sq) (d1 d2 d3 : Dev), (s.dev.aq f).drain = some (q, tag, n) → s.dev.sq q = some x →
      x.flight = [] → s.dev.reach f = true → s.dev.xlate f (.aqCq f) (s.dev.aqPasid f) (s.dev.aqCqSlot f) 32 true = (true, d1) →
      d1.wbackReady q x = (true, d2) → d2.sq q = some x →
      d3 = (((d2.lastWback q).removeSq q).drainCq x.cq).modAq f (fun y => { y with drain := none }) →
      exec (.destroySqDone f) s = .next { s with dev := ((d3.aqComplete f n 3 tag 0 0).aqHalt f).pumpTrackers })
  ∧ (∀ (d : Dev) (f q : Nat) (ws : List Word) (w2 : Word), w2 = ws.getD 2 0 → d.globalOf f (getF w2 0 16) = some q →
      (∀ base log, base = (ws.getD 1 0).toNat → log = getF w2 16 5 → base % 4096 = 0 → 4 ≤ log → log ≤ 16 → cqFieldsOk f w2 = true →
          getF (ws.getD 3 0) 20 44 = 0 → restZero ws [1, 2, 3] = true → areaOk f base (32 * 2 ^ log) = true → getF w2 21 11 < vectorsOf f →
          (d.cq q = none → ∃ e : Dev, createCq f ws d = (0, 0, e) ∧ e.cq q = some
              { fn := f, base := base, log := log, vec := getF w2 21 11, ien := getB w2 32, timer := getF w2 33 10,
                count := getF w2 43 9, pasid := if getB w2 52 then some (getF (ws.getD 3 0) 0 20) else none, pasidNum := getF (ws.getD 3 0) 0 20 } ∧ e.hq.sqs = d.hq.sqs)
          ∧ (d.cq q ≠ none → createCq f ws d = (0x23, 0, d)))
      ∧ (getF w2 16 48 = 0 → restZero ws [2] = true →
          (d.cq q = none → destroyCq f ws d = (0x24, 0, d))
          ∧ (d.cq q ≠ none → d.feeders q ≠ [] → destroyCq f ws d = (0x25, 0, d))
          ∧ (d.cq q ≠ none → d.feeders q = [] → destroyCq f ws d = (0, 0, d.removeCq q))
          ∧ (∀ x, d.sq q = some x → x.drain = false → ∃ e : Dev, destroySq f ws d = (none, e)
              ∧ (e.aq f).drain = some (q, getF (ws.getD 0 0) 32 32, (e.aq f).head)))
      ∧ (cqFieldsOk f w2 = true → restZero ws [2] = true → getF w2 21 11 < vectorsOf f → d.cq q ≠ none →
          modifyCq f ws d = (0, 0, d.modCq q (fun x =>
            { x with
            vec := getF w2 21 11, ien := getB w2 32, timer := getF w2 33 10, count := getF w2 43 9,
            pasid := if getB w2 52 then some x.pasidNum else none, unrep := 0, timerAt := none }))))
  ∧ (∀ (d : Dev) (f : Nat) (ws : List Word), 4 ≤ f → setVfQuota f ws d = (0x27, 0, d))

/-- From R355–R359, Table DMA-6: the commands of a channel. COMMIT with a target that exists makes the shadow set the committed copy and counts the
generation; HANDOVER of an idle channel takes it, of a running one waits for the boundary; CONT, SKIP and ABORT act in their states alone and are
refused in the others; CLEAR_HO_PEND clears the request. From R347, R348, R349, R352, R353, R355, R359, R371: a descriptor read that arrives, or
fails; a beat answered with its data, or with an error; a device ring enabled, and its head moved. From R349: the requests a run of octets is cut
into follow one another, carry all of it and nothing else, and none is longer than the limit or crosses a 4 KiB boundary. -/
def Obligations.DmaChannelsAndBeats : Prop :=
  (∀ (s : State) (r : Req) (c : Fin 64) (v : Word) (op : Nat) (d : Dev), s.takes r (Reg.dmaChCmd c.val) → op < 7 →
      d = s.dev.sf (Reg.dmaChCmd c.val) 0 3 op →
      (op = 1 → (∀ t q, t = getF (d.rd (Reg.dmaShCfg c.val)) 16 16 → getB (d.rd (Reg.dmaShCfg c.val)) 4 = false → d.cq t = some q →
          q.fn = getF (d.rd (Reg.dmaShCfg c.val)) 0 2 →
          exec (.dmaCommit r c v) s = .next { s with dev := ((d.modChan c.val (fun x =>
            { x with comChain := d.rd (Reg.dmaShChain c.val), comCfg := d.rd (Reg.dmaShCfg c.val) })).sf (Reg.dmaGen c.val) 0 16
              (d.gf (Reg.dmaGen c.val) 0 16 + 1)) }))
      ∧ (op = 2 → d.chSt c.val = 0 → d.gb (Reg.dmaGen c.val) 32 = true → d.genDue c.val = true →
          exec (.dmaHandover r c v) s = .next { s with dev := (d.dmaHandover c.val).dmaRun c.val })
      ∧ (op = 2 → d.chSt c.val = 1 → d.gb (Reg.dmaGen c.val) 32 = true → d.genDue c.val = true →
          exec (.dmaHandover r c v) s = .next { s with dev := d.sb (Reg.dmaChStat c.val) 3 true })
      ∧ (∀ d1, op = 3 → d.chSt c.val = 4 → d1 = (d.setCh c.val 1).modChan c.val Chan.rewound →
          ((d1.chan c.val).ws = [] ∨ (d1.chan c.val).formatBad = false → exec (.dmaCont r c v) s = .next { s with dev := d1.dmaRun c.val })
          ∧ ((d1.chan c.val).ws ≠ [] → (d1.chan c.val).formatBad = true → exec (.dmaCont r c v) s
            = .next { s with dev := (d1.dmaFail c.val 3 0 ((d1.chan c.val).desc.toNat / 64 * 64) 4).dmaRun c.val }))
      ∧ (op = 3 → d.chSt c.val ≠ 4 → exec (.dmaCont r c v) s = .next { s with dev := d.dmaRef c.val 1 })
      ∧ (op = 4 → d.chSt c.val = 4 → exec (.dmaSkip r c v) s = .next { s with dev := (d.dmaBoundary c.val).dmaRun c.val })
      ∧ (op = 4 → d.chSt c.val ≠ 4 → exec (.dmaSkip r c v) s = .next { s with dev := d.dmaRef c.val 1 })
      ∧ (∀ d1, op = 5 → d.chSt c.val ≠ 0 → d.chSt c.val ≠ 5 →
          d1 = (if (d.chan c.val).held = none then d else (d.dmaUnwait c.val).inc (Reg.dmaRecDropCnt c.val)) →
          exec (.dmaAbort r c v) s = .next { s with dev := (((((d1.dmaDropWaits c.val true).modChan c.val (fun y =>
            { y with held := none, xw := [], err := none, rd := 0, lost := false
                     abortRec := decide (d.chSt c.val = 1 ∨ d.chSt c.val = 2) && !(d.chan c.val).ws.isEmpty })).sb
              (Reg.dmaChStat c.val) 3 false).setCh c.val 5).dmaRun c.val).atsGo })
      ∧ (op = 5 → (d.chSt c.val = 0 ∨ d.chSt c.val = 5) → exec (.dmaAbort r c v) s = .next { s with dev := d.dmaRef c.val 1 })
      ∧ (op = 6 → exec (.dmaClearHoPend r c v) s = .next { s with dev := d.sb (Reg.dmaChStat c.val) 3 false }))
  ∧ ((∀ (s : State) (c : Fin 64) (bad : Bool) (ws : Vector Word 8) (x : Chan), x = s.dev.chan c.val → x.rd = 2 → s.dev.islandOk 45 = true →
        getB x.rdAt 0 = false →
        exec (.dmaDescriptorRead c bad ws) s = .next { s with dev := (s.dev.modChan c.val (fun y =>
          if bad = false then { y with rd := 3, rdWs := ws.toList } else { y with rd := 4, rdErr := 1 })).dmaRun c.val })
    ∧ (∀ (s : State) (c : Fin 64) (k : Fin 3) (l : List Byte) (x : Chan) (w : Nat), s.dev.islandOk 45 = true → x = s.dev.chan c.val → w = x.width k.val →
        x.sp k.val = false → (x.side k.val).ack < (x.side k.val).iss → (x.side k.val).ack ≤ (x.side k.val).done →
        (l.length = w → 0 < w → k ≠ 0 → exec (.dmaBeatComplete c k false l) s
          = .next { s with dev := ((s.dev.modChan c.val (fun y => y.take k.val l)).dmaRun c.val) })
        ∧ exec (.dmaBeatComplete c k true l) s
          = .next { s with dev := (((s.dev.beatAck c.val k.val w).dmaFail c.val k.val (x.side k.val).ack (x.addrAt k.val (x.side k.val).ack) 1).dmaRun
              c.val) })
    ∧ (∀ (s : State) (r : Req) (k : Fin 16) (v w : Word), s.takes r (Reg.dmaCrCfg k.val) → w = setB v 20 true → inRangeAt (Reg.dmaCrCfg k.val) w = true →
        s.dev.gb (Reg.dmaCrCfg k.val) 20 = false →
        exec (.dmaRingEnable r k v) s = .next { s with dev := ((((s.dev.wrReg (Reg.dmaCrCfg k.val) w).modRing k.val (fun _ => {})).wr
          (Reg.dmaCrHead k.val) 0).sb (Reg.dmaCrStat k.val) 18 false) })
    ∧ (∀ (s : State) (r : Req) (k : Fin 16) (v : Word) (n rel : Nat), s.takes r (Reg.dmaCrHead k.val) → n = 2 ^ s.dev.gf (Reg.dmaCrCfg k.val) 0 5 →
        s.dev.gb (Reg.dmaCrCfg k.val) 20 = true → getF v 0 16 < n → rel = (getF v 0 16 + n - (s.dev.dring k.val).head % n) % n →
        rel ≤ (s.dev.dring k.val).tail - (s.dev.dring k.val).head →
        exec (.dmaRingHeadWrite r k v) s = .next { s with dev := (Dev.drainRing 65 ((s.dev.sf (Reg.dmaCrHead k.val) 0 16 (getF v 0 16)).modRing k.val
          (fun z => { z with head := z.head + rel })) k.val) }))
  ∧ (∀ (max a len : Nat), 128 ≤ max → ∃ l, l = requests max (len / 128 + len / 4096 + 2) a len ∧ (l.map (fun e => e.2)).sum = len
      ∧ (∀ e ∈ l, 0 < e.2 ∧ e.2 ≤ max ∧ e.1 % 4096 + e.2 ≤ 4096)
      ∧ (∀ i e, l[i]? = some e → e.1 = a + ((l.take i).map (fun x => x.2)).sum)
      ∧ (∀ i e f, l[i]? = some e → l[i + 1]? = some f → e.2 = max ∨ f.1 % 4096 = 0))

/-- From R362–R369, R371: translation. A completion answers the accesses that wait for it: one it grants fills the ATC and goes on; one it does not
grant asks for the page once; an untranslatable access fails, is counted and latched; a page response of Success has the translation asked for again
with one request for all that wait, of Invalid Request fails the page's accesses, of Response Failure stops the requests of the PF; a page request
times out; invalidations remove what they name, and complete once the accesses under way have ended. -/
def Obligations.TranslationUnit : Prop :=
  (∀ (s : State) (rid : BitVec 16) (pasid : Option (BitVec 20)) (page : BitVec 52) (size : AtsRange) (r w : Bool) (x : XWait) (d : Dev),
      s.dev.islandOk 45 = true → s.dev.waitsFor rid.toNat (pasid.map (fun y => y.toNat)) page.toNat = [x] → (r || w) = true →
      d = (s.dev.dropWait x).fillAtc rid.toNat (pasid.map (fun y => y.toNat)) (page.toNat * 4096) size.log.val size.page.toNat r w →
      exec (.translationCompletion rid pasid page true size r w) s = .next { s with dev := (d.answerWait x true r w).atsGo }
      ∧ exec (.translationCompletion rid pasid page false size r w) s = .next { s with dev := ((s.dev.dropWait x).failAccess x 1).atsGo })
  ∧ (∀ (d : Dev) (x : XWait) (r w : Bool),
      ((if x.write then w else r) = true → d.answerWait x true r w = d.resumeWant x.want)
      ∧ ((if x.write then w else r) = false → x.again = true → d.answerWait x true r w = d.failAccess x 6)
      ∧ ((if x.write then w else r) = false → x.again = false → d.gb Reg.xltStat (pfOf (fnOfRid x.rid)) = true →
        d.answerWait x true r w = d.failAccess x 4)
      ∧ ((if x.write then w else r) = false → x.again = false → d.gb Reg.xltStat (pfOf (fnOfRid x.rid)) = false →
        (d.fn (pfOf (fnOfRid x.rid))).pri = false → d.answerWait x true r w = d.failAccess x 2)
      ∧ (∀ y, (if x.write then w else r) = false → x.again = false → d.gb Reg.xltStat (pfOf (fnOfRid x.rid)) = false →
        (d.fn (pfOf (fnOfRid x.rid))).pri = true → y = { x with prg := true, sent := false } →
        d.answerWait x true r w = ((({ d with xlt := { d.xlt with waits := d.xlt.waits ++ [y] } } : Dev).pageRequest y).faultWant x.want)))
  ∧ (∀ (s : State) (rid : BitVec 16) (pasid : Option (BitVec 20)) (page : BitVec 52) (isP : Prg → Bool) (d : Dev),
      s.dev.islandOk 45 = true →
      isP = (fun p => p.sent && p.rid == rid.toNat && p.pasid == pasid.map (fun y => y.toNat) && p.page == page.toNat) →
      s.dev.xlt.prgs.any isP = true → d = s.dev.inc Reg.xltPrgCnt →
      exec (.pageResponse rid pasid page 0) s = .next { s with dev := (d.askAgain rid.toNat (pasid.map (fun y => y.toNat)) page.toNat).dropPrg isP }
      ∧ exec (.pageResponse rid pasid page 1) s = .next { s with
          dev := (d.dropPrg isP).failWaits (fun w => w.on rid.toNat (pasid.map (fun y => y.toNat)) page.toNat) 3 }
      ∧ (∀ same, same = (fun r => pfOf (fnOfRid r) == pfOf (fnOfRid rid.toNat)) → exec (.pageResponse rid pasid page 2) s = .next { s with
          dev := ((d.sb Reg.xltStat (pfOf (fnOfRid rid.toNat)) true).dropPrg (fun p => same p.rid)).failWaits (fun w => same w.rid) 4 }))
  ∧ (∀ (d : Dev) (rid page : Nat) (pasid : Option Nat) (x : XWait) (l : List XWait), d.xlt.waits = x :: l →
      (∀ w ∈ d.xlt.waits, w.prg = true ∧ w.on rid pasid page = true) → d.askAgain rid pasid page = ({ d with xlt := { d.xlt with
        waits := d.xlt.waits.map (fun w => { w with prg := false, again := true, sent := false, via := (some w != some x) }) } } : Dev).atsGo)
  ∧ (∀ (s : State) (p : Prg), s.dev.xlt.prgs.find? (fun q => q.sent) = some p → s.dev.islandOk 45 = true →
      exec .prgTimeout s = .next { s with dev := ((((s.dev.waitUp (p.at_ + s.dev.gf Reg.xltCfg 0 16 * msU)).inc Reg.xltPrgToCnt).dropPrg
        (fun q => q == p)).failWaits (fun w => w.on p.rid p.pasid p.page) 5) })
  ∧ (∀ (d : Dev) (k : Nat), 256 ≤ (d.xlt.waits.filter (fun x => x.sent)).length → Dev.atsPump k d = d)
  ∧ (∀ (s : State) (itag : BitVec 5) (rid : BitVec 16) (pasid : Option (BitVec 20)) (page : BitVec 52) (size : Fin 64) (n a : Nat),
      s.dev.islandOk 45 = true → (s.dev.xlt.invs.filter (fun i => i.tag.isSome)).length < 32 → n = 2 ^ max 12 size.val →
      a = page.toNat * 4096 / n * n →
      ∃ (d : Dev) (hit : Nat → Option Nat → Nat → Nat → Bool), exec (.invalidateRequest itag rid pasid page size) s = .next { s with dev := d }
        ∧ (∀ e, e ∈ d.xlt.atc ↔ e ∈ s.dev.xlt.atc ∧ ¬ (e.rid = rid.toNat ∧ e.pasid = pasid.map (fun y => y.toNat) ∧ e.base < a + n ∧ a < e.base + e.size))
        ∧ (∀ r p b k, hit r p b k = true ↔ (s.dev.fn (fnOfRid r)).ats = true ∧ ∃ e ∈ s.dev.xlt.atc, e ∉ d.xlt.atc ∧ e.rid = r ∧ e.pasid = p
          ∧ e.base < b + k ∧ b < e.base + e.size)
        ∧ d.xlt.invs = s.dev.xlt.invs ++ [{ tag := some (itag.toNat, rid.toNat), busy := s.dev.busyReads hit }])
  ∧ (∀ (s : State) (i : Inval) (t : List Inval) (g r : Nat), s.dev.xlt.invs = i :: t → s.dev.islandOk 45 = true → i.tag = some (g, r) →
      (i.busy.any s.dev.stillReads = false → exec .invalidateComplete s = .next { s with dev :=
        ((({ s.dev with xlt := { s.dev.xlt with invs := t } } : Dev).inc Reg.xltInvCnt).emit (.pcie 5 [r, g])) })
      ∧ (i.busy.any s.dev.stillReads = true → exec .invalidateComplete s = .next s))
  ∧ (∀ (s : State) (r : Req) (v w : Word) (d : Dev), s.takes r Reg.xltCfg → w = setB v 63 true → inRangeAt Reg.xltCfg w = true →
      d = s.dev.wrReg Reg.xltCfg w → ∃ l, exec (.atcFlush r v) s = .next { s with dev := (({ d with xlt := { d.xlt with atc := [], invs := d.xlt.invs
        ++ [{ tag := none, busy := l }] } } : Dev).sb Reg.xltStat 5 true) })

/-- From R378, R379, R381, R387, R388, R468, Table MBX-6: who runs, the checks in their order, and how a command ends. -/
def Obligations.MailboxRequestIsJudged : Prop :=
  (∀ (s : State) (r : Req) (m : Fin 16) (v : Word), s.dev.unreachable (Reg.mbxDb m.val) = false → s.dev.mbxOwns r m.val = true →
      (s.dev.mbxBusy m.val = true → exec (.mailboxGo r m v) s = .next { s with dev := s.dev.sb (Reg.mbxStat m.val) 2 true })
      ∧ (s.dev.mbxBusy m.val = false → exec (.mailboxGo r m v) s
          = .next { s with dev := ({ s.dev with mbx := { s.dev.mbx with go := goPut s.dev.mbx.go m.val s.dev.tim.up } } : Dev).mbxTake }))
  ∧ (∀ (l k : List (Nat × Nat)) (m t : Nat), (∀ e ∈ l, t ≠ e.2 ∨ e.1 ≤ m) → (∀ e ∈ k.head?, t = e.2 ∧ m < e.1) → goPut (l ++ k) m t = l ++ (m, t) :: k)
  ∧ (∀ (s : State) (r : Req) (m : Fin 16) (w : BitVec 8) (v : Word),
      s.dev.unreachable (0x4000000 + m.val * 0x1000 + 8 * w.toNat) = false →
      (s.dev.mbxOwns r m.val = true →
        (s.dev.mbxBusy m.val = true → exec (.mailboxRequestWrite r m w v) s = .next { s with dev := s.dev.sb (Reg.mbxStat m.val) 3 true })
        ∧ (s.dev.mbxBusy m.val = false → exec (.mailboxRequestWrite r m w v) s
            = .next { s with dev := s.dev.stW (mbxBuf m.val + 8 * w.toNat) v }))
      ∧ (s.dev.mbxOwns r m.val = false →
          exec (.mailboxRequestWrite r m w v) s = .next { s with dev := s.dev.inc Reg.mbxOwnErrCnt }))
  ∧ (∀ (s : State) (m : Fin 16) (w : MbxWait), s.dev.mbx.waits.find? (fun x => x.m == m.val) = some w → s.dev.tim.up ≤ w.due →
      ∃ d : Dev, exec (.mailboxCommandTimeout m) s = .next { s with dev := d.mbxRespond w.m w.opc w.seq { status := 8 } }
        ∧ d.mbx.waits = s.dev.mbx.waits.erase w ∧ d.mbx.go = s.dev.mbx.go ∧ w.due ≤ d.tim.up)
  ∧ (∀ (d : Dev) (opc m : Nat) (c : Nat → MbxCmd), d.mbxFront opc = some m →
      (d.mbxLenOk m (c m).len = false → d.mbxRun opc c = d.mbxDone m { status := 2 })
      ∧ (d.mbxLenOk m (c m).len = true → (c m).may = false → d.mbxRun opc c = d.mbxDone m { status := 4 })
      ∧ (d.mbxLenOk m (c m).len = true → (c m).may = true → d.fwState = 1 → (m ≠ 0 ∨ (c m).hold = false) →
          d.mbxRun opc c = d.mbxDone m { status := 0x11 })
      ∧ (d.mbxLenOk m (c m).len = true → (c m).may = true → d.fwState ≠ 1 → (∃ k ∈ (c m).blks, d.mbxHeld m k = true) →
          d.mbxRun opc c = d.mbxDone m { status := 5 })
      ∧ (d.mbxLenOk m (c m).len = true → (c m).may = true → d.fwState ≠ 1 → (∀ k ∈ (c m).blks, d.mbxHeld m k = false) →
          (∀ n, (c m).bad = some n → d.mbxRun opc c = d.mbxDone m { status := 3, errWord := n })
          ∧ ((c m).bad = none → d.mbxRun opc c = (c m).run)))
  ∧ (∀ (d : Dev) (m opc seq : Nat) (r : Resp), m < 16 → d.gb (Reg.mbxCfg m) 0 = false → d.gf Reg.mbxCmdCnt 0 32 < 2 ^ 32 - 1 →
      (d.mbxRespond m opc seq r).gb (Reg.mbxStat m) 0 = false ∧ (d.mbxRespond m opc seq r).gb (Reg.mbxStat m) 1 = true
      ∧ (d.mbxRespond m opc seq r).gf (Reg.mbxStat m) 16 16 = seq % 2 ^ 16)
  ∧ (∀ (d : Dev) (n a : Nat) (v : Word) (t : List (Nat × Nat × Word)),
      (d.unreachable a = true → d.mbxPut ((n, a, v) :: t) = (some n, d.accFail .joiner false true a 2 (d.islandOf a)))
      ∧ (d.unreachable a = false → d.mbxPut ((n, a, v) :: t) = (d.wrAny a v).mbxPut t))

/-- From R380, R389, Table MBX-8: a basic command that passes its checks writes the register images it carries, in the order the table gives, and
answers OK; with an argument word out of range it answers BAD_FIELD and writes nothing. -/
def Obligations.MailboxImagesAreWritten : Prop :=
  ∀ (s : State) (m opc len blk p i : Nat) (c : Instr) (ok : Bool) (w : List (Nat × Nat × Word)) (A : Nat → Word) (img : Nat → Nat → Bool),
    A = s.dev.mbxArg m → p = getF (A 0) 0 6 → i = getF (A 0) 0 12 → img = (fun n a => imgOk a 0 (A n)) →
    (opc, len, blk, c, ok, w) ∈
      [ (0x0301, 24, 1, Instr.timeSource, img 0 Reg.timCtl && img 1 Reg.timServoCfg && img 2 Reg.timHoldCfg,
          [(0, Reg.timCtl, A 0), (1, Reg.timServoCfg, A 1), (2, Reg.timHoldCfg, A 2)])
      , (0x0305, 24, 1, .timePins, img 0 Reg.timPpsinCfg && img 1 Reg.timPpsoutCfg && img 2 Reg.timClk10Cfg,
          [(0, Reg.timPpsinCfg, A 0), (1, Reg.timPpsoutCfg, A 1), (2, Reg.timClk10Cfg, A 2)])
      , (0x0403, 16, 2, .calPort, portArg (A 0) && img 1 (Reg.calPortCfg p), [(1, Reg.calPortCfg p, A 1)])
      , (0x0501, 24, 3, .prePort, portArg (A 0) && imgOk (Reg.prePortCfg p) goBit (A 1) && (img 2 (Reg.preClassMap p) && classMapOk p (A 2)),
          [(1, Reg.prePortCfg p, A 1), (2, Reg.preClassMap p, A 2)])
      , (0x0605, 16, 4, .streamPort, portArg (A 0) && img 1 (Reg.strPortCfg p), [(1, Reg.strPortCfg p, A 1)])
      , (0x0902, 32, 9, .portMac, portArg (A 0) && imgOk (Reg.macCfg p) 0 (if p < 32 then A 1 else setF (A 1) 16 14 1522) && img 2 (Reg.macVlanCfg p)
            && (img 3 (Reg.macRxBuf p) && decide (getF (A 3) 32 16 < getF (A 3) 16 16 ∧ getF (A 3) 16 16 ≤ getF (A 3) 0 16)),
          [(1, Reg.macCfg p, A 1), (2, Reg.macVlanCfg p, A 2), (3, Reg.macRxBuf p, A 3)])
      , (0x0903, 16, 9, .portFilter, (onlyBits [(0, 6), (8, 1), (9, 3)] (A 0) && decide (p < 36))
            && img 1 (if getB (A 0) 8 then Reg.macMcAddr p (getF (A 0) 9 3) else Reg.macUcAddr p (getF (A 0) 9 3)),
          [(1, if getB (A 0) 8 then Reg.macMcAddr p (getF (A 0) 9 3) else Reg.macUcAddr p (getF (A 0) 9 3), A 1)])
      , (0x0904, 16, 9, .portPause, portArg (A 0) && imgOk (Reg.macPauseCfg p) 0 (setB (A 1) 2 false), [(1, Reg.macPauseCfg p, setB (A 1) 2 false)])
      , (0x0A08, 16, 10, .vlanSet, (onlyBits [(0, 12)] (A 0) && decide (1 ≤ i ∧ i ≤ 4094)) && img 1 (Reg.fwdVlan i), [(1, Reg.fwdVlan i, A 1)])
      , (0x0A09, 16, 10, .mcgSet, (onlyBits [(0, 12)] (A 0) && decide (0 ≤ i ∧ i ≤ 4095)) && img 1 (Reg.fwdMcg i), [(1, Reg.fwdMcg i, A 1)])
      , (0x0A0A, 16, 10, .fwdPort, (onlyBits [(0, 6)] (A 0) && decide (0 ≤ p ∧ p ≤ 35))
            && (img 1 (Reg.fwdPortCfg p) && decide (p < 32 ∨ (1 ≤ getF (A 1) 19 12 ∧ getF (A 1) 19 12 ≤ 4094))), [(1, Reg.fwdPortCfg p, A 1)])
      , (0x0A0B, 32, 10, .fwdSet, img 0 Reg.fwdCfg && img 1 Reg.fwdAgeCfg && img 2 Reg.fwdMoveCfg && img 3 Reg.fwdRmac,
          [(0, Reg.fwdCfg, A 0), (1, Reg.fwdAgeCfg, A 1), (2, Reg.fwdMoveCfg, A 2), (3, Reg.fwdRmac, A 3)]) ] →
    s.asks opc m len false [blk] →
    (ok = true → exec c s = .next { s with dev := s.dev.mbxSet m w (fun x => x.mbxOk m []) })
    ∧ (ok = false → ∃ n, exec c s = .next { s with dev := s.dev.mbxDone m { status := 3, errWord := n } })

/-- From R244, R262, R377, R389, Tables MBX-5, MBX-8: the further commands that set registers, tables or the firmware's own state, and what they answer. -/
def Obligations.MailboxCommandsSet : Prop :=
  (∀ (s : State) (m p : Nat) (A : Nat → Word), A = s.dev.mbxArg m → p = getF (A 0) 0 6 →
    (s.asks 0x0905 m 16 false [9] → portArg (A 0) = true → imgOk (Reg.macEeeCfg p) 0 (A 1) = true →
      exec .portEee s = .next { s with dev := s.dev.mbxSetShow m [(1, Reg.macEeeCfg p, A 1)] [Reg.macEeeCfg p] })
    ∧ (s.asks 0x0906 m 16 false [7] → onlyBits [(0, 6), (8, 2)] (A 0) = true → p < 36 → imgOk (Reg.sdsEqShim p (getF (A 0) 8 2)) 0 (A 1) = true →
      exec .portShim s = .next { s with dev := s.dev.mbxSetShow m [(1, Reg.sdsEqShim p (getF (A 0) 8 2), A 1)] [Reg.sdsEqShim p (getF (A 0) 8 2)] })
    ∧ (s.asks 0x0901 m 24 false [7, 8] → portArg (A 0) = true → 32 ≤ p → imgOk (Reg.sdsMode p) goBit (setF (A 1) 0 3 6) = true →
      imgOk (Reg.pcsCfg p) 0 (A 2) = true → s.dev.unreachable (Reg.sdsMode p) = false → fecOk 6 3 = true →
      exec .portMode s = .next { s with dev := s.dev.mbxSet m [(1, Reg.sdsMode p, A 1), (2, Reg.pcsCfg p, A 2)] (fun y => y.mbxOk m []) })
    ∧ (s.asks 0x0901 m 24 false [7, 8] → portArg (A 0) = true → p < 32 → getF (A 1) 0 3 < 6 → imgOk (Reg.sdsMode p) goBit (setF (A 1) 0 3 (getF (A 1) 0 3)) = true →
      imgOk (Reg.pcsCfg p) 0 (A 2) = true → fecOk (getF (A 1) 0 3) (getF (A 2) 0 2) = true → s.dev.unreachable (Reg.sdsMode p) = false →
      s.dev.mergedAway p = false → getB (A 1) 63 = false →
      (s.dev.macOff p = true → exec .portMode s
        = .next { s with dev := s.dev.mbxSet m [(1, Reg.sdsMode p, A 1), (2, Reg.pcsCfg p, A 2)] (fun y => y.mbxOk m []) })
      ∧ (s.dev.macOff p = false → exec .portMode s = .next { s with dev := (s.dev.sb (Reg.pcsStat p) 14 true).mbxRefused m 1 }))
    ∧ (s.asks 0x0303 m 24 false [1] → onlyBits [(0, 6), (8, 2), (10, 1)] (A 0) = true → p < 32 → imgOk (Reg.timPortCfg p) 0 (A 1) = true →
      imgOk (Reg.timTsShim p) 0 (A 2) = true →
      exec .ptpPort s = .next { s with dev := (s.dev.mbxSet m [(1, Reg.timPortCfg p, A 1), (2, Reg.timTsShim p, A 2)]
        (fun x => ({ x with mbx := { x.mbx with ptpPort := Sparse.put x.mbx.ptpPort p (A 0) } } : Dev).mbxOk m [])) })
    ∧ (s.asks 0x0302 m 8 false [] → onlyBits [(0, 2), (2, 1), (3, 1), (4, 2), (8, 8), (16, 8), (24, 8)] (A 0) = true → getF (A 0) 4 2 ≤ 2 →
      getF (A 0) 8 8 ≤ 127 →
      exec .ptpInstance s = .next { s with dev := ({ s.dev with mbx := { s.dev.mbx with
        ptpInst := Sparse.put s.dev.mbx.ptpInst (getF (A 0) 0 2) (A 0) } } : Dev).mbxOk m [] })
    ∧ (s.asks 0x0A0C m 264 false [10] → ((List.range 33).map (fun n => (n, imgOk (tsqReg n) 0 (if n = 0 then setB (A 0) 1 false else A n)
        && tsqArgOk n (if n = 0 then setB (A 0) 1 false else A n)))).all (fun e => e.2) = true →
      exec .tsqSet s = .next { s with dev := (s.dev.mbxSet m ((List.range 33).map (fun n => (n, tsqReg n, if n = 0 then setB (A 0) 1 false else A n)))
        (fun x => x.mbxOk m [])) })
    ∧ (s.asks 0x0A06 m 24 false [10] → onlyBits [(0, 15)] (A 0) = true → onlyBits [(0, 2), (2, 6), (8, 12), (32, 16)] (A 1) = true →
      getF (A 1) 2 6 ≤ 35 → onlyBits [(0, 48)] (A 2) = true → s.dev.islandOk 2 = true →
      exec .nexthopSet s = .next { s with dev := (s.dev.stWs (bar4Addr (0x4100000 + getF (A 0) 0 15 * 0x10)) [A 1, A 2]).mbxOk m [] })
    ∧ (s.asks 0x0003 m 8 false [] → s.dev.mbxOwner m = 0 → onlyBits [(0, 4), (4, 3)] (A 0) = true → getF (A 0) 4 3 ≤ 4 →
      (s.dev.mbxBusy (getF (A 0) 0 4) = false →
        exec .mbxAssign s = .next { s with dev := (s.dev.sf (Reg.mbxStat (getF (A 0) 0 4)) 4 3 (getF (A 0) 4 3)).mbxOk m [] })
      ∧ (s.dev.mbxBusy (getF (A 0) 0 4) = true → exec .mbxAssign s = .next { s with dev := s.dev.mbxDone m { status := 6 } })))

/-- From R389, Table MBX-8: the commands that only read answer the registers the table names, or what the firmware counts. -/
def Obligations.MailboxStatusCommands : Prop :=
  (∀ (s : State) (m opc len p : Nat) (hold ok : Bool) (c : Instr) (l : List Nat) (A : Nat → Word), A = s.dev.mbxArg m → p = getF (A 0) 0 6 →
      (opc, len, hold, ok, c, l) ∈
        [ (0x0002, 0, true, true, Instr.getStatus, [Reg.mbxFwStat, Reg.mbxUnlock])
        , (0x0404, 0, false, true, .calStatus, Reg.calStat :: (List.range 4).map Reg.calBankStat ++ (List.range 4).map Reg.calGen)
        , (0x0702, 8, false, onlyBits [(0, 1)] (A 0), .ringStatus,
            [Reg.rngStat (getF (A 0) 0 1), Reg.rngMembers (getF (A 0) 0 1), Reg.rngCorr (getF (A 0) 0 1), Reg.rngMsStat])
        , (0x0806, 0, false, true, .solveStatus, [Reg.solStat, Reg.solResStat])
        , (0x0907, 8, false, portArg (A 0), .portStatus, [Reg.pcsStat p, Reg.macStat p, Reg.sdsLaneStat p, Reg.prePortStat p])
        , (0x0A0D, 0, false, true, .tsqStatus, [Reg.fwdTsqStat, Reg.fwdTsqMiss])
        , (0x0D04, 8, false, s.dev.mbxOwner m == 0 && onlyBits [(0, 3)] (A 0), .benchStatus, [Reg.benGrpStat (getF (A 0) 0 3)]) ] →
      s.asks opc m len hold [] → ok = true → l.find? s.dev.unreachable = none →
      exec c s = .next { s with dev := s.dev.mbxDone m { words := l.map (s.dev.wordAt .joiner) } })
  ∧ (∀ (s : State) (m : Nat),
      (s.asks 0x0001 m 0 true [] → s.dev.fwState ≠ 1 → exec .getInfo s = .next { s with dev := s.dev.mbxDone m { words :=
          [BitVec.ofNat 64 (fld 0 32 (s.dev.gf Reg.mbxFwStat 32 32) + fld 32 7 (s.dev.imgSvn (s.dev.gf Reg.mbxFwStat 2 1))
          + fld 40 1 (s.dev.gf Reg.mbxFwStat 2 1)), s.dev.rd Reg.glbId] } })
      ∧ (s.asks 0x0A07 m 0 false [] → exec .routeCount s = .next { s with dev := s.dev.mbxDone m { words :=
        [BitVec.ofNat 64 (fld 0 21 (s.dev.mbx.prefixes false) + fld 32 19 (s.dev.mbx.prefixes true)),
         BitVec.ofNat 64 (fld 0 14 s.dev.mbx.nodes.length + fld 16 13 s.dev.mbx.tails.length)] } })
      ∧ (s.asks 0x0F02 m 0 false [] → s.dev.unreachable Reg.smonStat = false → exec .pwrStatus s = .next { s with dev := s.dev.mbxDone m { words :=
        [BitVec.ofNat 64 (fld 0 2 (s.dev.gf Reg.pwrStat 0 2) + fld 16 16 (s.dev.gf Reg.smonStat 16 16)
          + fld 32 16 (s.dev.gf Reg.smonStat 32 16))] } })
      ∧ (s.asks 0x0304 m 8 false [] → onlyBits [(0, 2)] (s.dev.mbxArg m 0) = true → ∃ a b c e : Word, getF a 4 28 = 0 ∧ getF e 16 48 = 0
          ∧ exec .ptpStatus s = .next { s with dev := ({ s.dev with free := s.dev.free + 4 } : Dev).mbxDone m { words := [a, b, c, e] } })
      ∧ (s.asks 0x0B01 m 0 false [] → s.dev.mbxOwner m < 4 → ∃ w : Word, 1 ≤ getF w 0 4 ∧ getF w 0 4 ≤ 6
          ∧ getF w 16 2 = (if (s.dev.fn (s.dev.mbxOwner m)).d3 then 3 else 0) ∧ getF w 10 6 = 0 ∧ getF w 18 46 = 0
          ∧ exec .hostLink s = .next { s with dev := s.dev.useFree.mbxDone m { words := [w] } }))

/-- From R39, R59, R81, R82, R197, R200, R201, R208, R265, R267, R379, R388: the mailbox commands that act on the time base, the calendar, the ring and
the management buses, and those that wait. -/
def Obligations.MailboxTimeRingAndBuses : Prop :=
  ∀ (s : State) (m : Nat) (A : Nat → Word) (d : Dev), A = s.dev.mbxArg m → d = s.dev →
    (s.asks 0x0306 m 8 false [1] → imgOk Reg.timAdj goBit (A 0) = true → d.unreachable Reg.timAdj = false →
      (getB (A 0) 63 = true → getB (A 0) 48 = false → d.stepsPermitted = false →
        exec .timeAdjust s = .next { s with dev := d.stepRefused.mbxRefused m 1 })
      ∧ ((getB (A 0) 63 = false ∨ getB (A 0) 48 = true ∨ d.stepsPermitted = true) →
        exec .timeAdjust s = .next { s with dev := (d.wrTimAdj (A 0)).mbxOk m [] }))
    ∧ (s.asks 0x0307 m 16 false [1] → imgOk Reg.timSetSec 0 (A 0) = true → imgOk Reg.timSetNs goBit (A 1) = true →
      d.unreachable Reg.timSetSec = false →
      (getB (A 1) 63 = true → d.stepsPermitted = false → exec .timeSet s = .next { s with dev := d.stepRefused.mbxRefused m 1 })
      ∧ ((getB (A 1) 63 = false ∨ d.stepsPermitted = true) → exec .timeSet s
          = .next { s with dev := d.mbxSet m [(0, Reg.timSetSec, A 0), (1, Reg.timSetNs, A 1)] (fun y => y.mbxOk m []) }))
    ∧ (∀ x : Dev, s.asks 0x0308 m 24 false [1] → imgOk Reg.timSnaptSec 0 (A 0) = true → imgOk Reg.timSnaptNs 0 (A 1) = true →
      imgOk Reg.timSnaptCtl 3 (A 2) = true → (getB (A 2) 0 = false ∨ getB (A 2) 1 = false) →
      d.mbxPut [(0, Reg.timSnaptSec, A 0), (1, Reg.timSnaptNs, A 1), (2, Reg.timSnaptCtl, A 2)] = (none, x) →
      (getB (A 2) 0 = true → x.gf Reg.timSnaptStat 16 4 ≠ 0 → exec .snapshotArm s = .next { s with dev := ((d.sf Reg.timSnaptStat 16 4 (x.gf Reg.timSnaptStat 16 4)).mbxRefused m (x.gf Reg.timSnaptStat 16 4)) })
      ∧ ((getB (A 2) 0 = false ∨ x.gf Reg.timSnaptStat 16 4 = 0) →
        exec .snapshotArm s = .next { s with dev := x.mbxOk m [x.rd Reg.timSnaptStat] }))
    ∧ (∀ (x : Dev) (ctl : Nat), s.asks 0x0401 m 24 false [2] → onlyBits [(0, 2), (2, 1)] (A 0) = true → imgOk Reg.calStartSec 0 (A 1) = true →
      imgOk Reg.calStartNs 0 (A 2) = true → ctl = 1 + 2 * getF (A 0) 2 1 + 4 * getF (A 0) 0 2 →
      d.mbxPut [(1, Reg.calStartSec, A 1), (2, Reg.calStartNs, A 2), (0, Reg.calCtl, BitVec.ofNat 64 ctl)] = (none, x) →
      (x.gf Reg.calCtl 0 4 = ctl → exec .calStart s = .next { s with dev := x.mbxOk m [] })
      ∧ (x.gf Reg.calCtl 0 4 ≠ ctl →
        exec .calStart s = .next { s with dev := (d.calRef (x.gf Reg.calStat 4 4)).mbxRefused m (x.gf Reg.calStat 4 4) }))
    ∧ (s.asks 0x0402 m 0 false [2] → d.unreachable Reg.calCtl = false →
      (d.gb Reg.calCtl 0 = false → exec .calStop s = .next { s with dev := d.mbxRefused m 4 })
      ∧ (d.gb Reg.calCtl 0 = true → ∃ w : Word, exec .calStop s
          = .next { s with dev := (d.wrCalCtl (setB (d.rd Reg.calCtl) 0 false)).mbxOk m [w] }))
    ∧ (∀ a : Nat, s.asks 0x0701 m 48 false [5] → a = getF (A 0) 0 1 → onlyBits [(0, 1)] (A 0) = true → imgOk (Reg.rngCtl a) 0 (ringCtlForced (A 1)) = true →
      imgOk (Reg.rngCycCfg a) 0 (A 2) = true → imgOk (Reg.rngBeCfg a) 0 (A 3) = true → imgOk (Reg.rngTiming a) 0 (A 4) = true →
      getF (A 4) 16 16 ≤ getF (A 4) 0 16 → imgOk (Reg.rngFedCfg a) 0 (A 5) = true → d.unreachable (Reg.rngCtl a) = false →
      (d.attachBad a (ringCtlForced (A 1)) (A 2) (A 3) (A 5) = true →
        exec .ringAttach s = .next { s with dev := (d.cfgErr (Reg.rngCtl a)).mbxRefused m 1 })
      ∧ (d.attachBad a (ringCtlForced (A 1)) (A 2) (A 3) (A 5) = false →
        exec .ringAttach s = .next { s with dev := (d.mbxSet m [(2, Reg.rngCycCfg a, A 2), (3, Reg.rngBeCfg a, A 3), (4, Reg.rngTiming a, A 4),
          (5, Reg.rngFedCfg a, A 5), (1, Reg.rngCtl a, ringCtlForced (A 1))] (fun y => y.mbxOk m [])) }))
    ∧ (∀ x : Dev, s.asks 0x0703 m 8 false [5] → onlyBits [(0, 2)] (A 0) = true → d.mbxPut [(0, Reg.rngMsCtl, setB (A 0) 63 true)] = (none, x) →
      (x.gf Reg.rngMsStat 4 4 ≠ 0 → exec .ringSwitch s = .next { s with dev := x.mbxRefused m (x.gf Reg.rngMsStat 4 4) })
      ∧ (x.gf Reg.rngMsStat 4 4 = 0 →
        exec .ringSwitch s = .next { s with dev := x.mbxWait m (x.tim.up + 5 * x.ringC x.mainAtt + msU) }))
    ∧ (∀ x : Dev, s.asks 0x0704 m 8 false [5] → onlyBits [(0, 16), (32, 16)] (A 0) = true → 1 ≤ getF (A 0) 32 16 →
      d.mbxPut [(0, Reg.rngBarCtl, BitVec.ofNat 64 (fld 0 16 (getF (A 0) 0 16) + goBit))] = (none, x) →
      exec .ringBarrier s = .next { s with dev := x.mbxWait m (x.tim.up + getF (A 0) 32 16 * msU) })
    ∧ (∀ x : Dev, s.asks 0x0705 m 72 false [5] → onlyBits [(0, 1), (8, 7)] (A 0) = true → 1 ≤ getF (A 0) 8 7 → getF (A 0) 8 7 ≤ 64 →
      (d.gb Reg.rngBcStat 5 = true → exec .ringBcast s = .next { s with dev := d.mbxDone m { status := 6 } })
      ∧ (d.gb Reg.rngBcStat 5 = false → d.mbxPut ((List.range 8).map (fun k => (k + 1, Reg.rngBcTx k, A (k + 1)))
          ++ [(0, Reg.rngBcCtl, BitVec.ofNat 64 (fld 0 7 (getF (A 0) 8 7) + fld 8 1 (getF (A 0) 0 1) + goBit))]) = (none, x) →
        exec .ringBcast s = .next { s with dev := x.mbxWait m (x.tim.up + 3 * x.ringC (getF (A 0) 0 1)) }))
    ∧ (∀ (b : Nat) (x : Dev), s.asks 0x0908 m 16 false [9] → b = getF (A 0) 0 2 → onlyBits [(0, 2)] (A 0) = true →
      imgOk (Reg.macMdioCmd b) 0 (A 1) = true → (getB (A 1) 28 = true ∨ getF (A 1) 26 2 = 1 ∨ getF (A 1) 26 2 = 2) →
      (d.gb (Reg.macMdioStat b) 16 = true → exec .mdioXfer s = .next { s with dev := d.mbxDone m { status := 6 } })
      ∧ (d.gb (Reg.macMdioStat b) 16 = false → d.mbxPut [(1, Reg.macMdioCmd b, setB (A 1) 63 true)] = (none, x) →
        exec .mdioXfer s = .next { s with dev := x.mbxWait m (x.tim.up + msU) }))
    ∧ (∀ (c : Nat) (x : Dev), s.asks 0x0909 m 48 false [9] → c = getF (A 0) 0 1 → onlyBits [(0, 1), (8, 1), (9, 1)] (A 0) = true →
      imgOk (Reg.macSmbCmd c) 0 (A 1) = true → getF (A 1) 22 2 ≠ 3 →
      (d.gb (Reg.macSmbStat c) 0 = true → exec .smbXfer s = .next { s with dev := d.mbxDone m { status := 6 } })
      ∧ (d.gb (Reg.macSmbStat c) 0 = false →
        d.mbxPut ((0, Reg.macSmbCfg c, BitVec.ofNat 64 (fld 0 1 (getF (A 0) 8 1) + fld 1 1 (getF (A 0) 9 1)))
          :: (List.range 4).map (fun k => (k + 2, Reg.macSmbData c k, A (k + 2))) ++ [(1, Reg.macSmbCmd c, setB (A 1) 63 true)]) = (none, x) →
        exec .smbXfer s = .next { s with dev := x.mbxWait m (x.tim.up + 100 * msU) }))

/-- From R135, R158, R161, R218, R227, R229, R231, R284, R290, R291, R294–R298, R353, R371, R387: the mailbox commands that act on streams, the solver,
the forwarding tables, the routes and the DMA channels. -/
def Obligations.MailboxTablesSolverAndDma : Prop :=
  ∀ (s : State) (m : Nat) (A : Nat → Word) (d : Dev), A = s.dev.mbxArg m → d = s.dev →
    (∀ t : Nat, s.asks 0x0601 m 32 false [4] → onlyBits [(0, 18)] (A 0) = true →
      (∀ k < 3, recArgOk (A 1) k (A (k + 1)) = true) → t = getF (A 0) 0 18 → d.islandOk (halfIsland (halfOf t)) = true →
      (d.recLocked t 1 = true → exec .streamWrite s = .next { s with dev := d.strWrRef.mbxRefused m 1 })
      ∧ (∀ x y z : Dev, x = d.writeRec t 1 (A 2) → y = x.writeRec t 2 (A 3) → z = y.writeRec t 0 (A 1) → d.recLocked t 1 = false →
        x.islandOk (halfIsland (halfOf t)) = true → x.recLocked t 2 = false → y.islandOk (halfIsland (halfOf t)) = true → y.recLocked t 0 = false →
        exec .streamWrite s = .next { s with dev := z.mbxOk m [] }))
    ∧ (∀ t : Nat, s.asks 0x0602 m 8 false [] → onlyBits [(0, 18)] (A 0) = true → t = getF (A 0) 0 18 → d.islandOk (halfIsland (halfOf t)) = true →
      exec .streamRead s = .next { s with dev := (d.recWordsShown t [0, 1, 2, 3, 4, 5, 6, 7]).2.mbxOk m (d.recWordsShown t [0, 1, 2, 3, 4, 5, 6, 7]).1 })
    ∧ (s.asks 0x0603 m 8 false [4] → imgOk Reg.strCmd 0 (A 0) = true → d.unreachable Reg.strCmd = false →
      (d.recOk (getF (A 0) 0 18) = true → d.strFenced (getF (A 0) 0 18) = false → exec .streamCmd s = .next { s with dev := (d.wrStrCmd (setB (A 0) 63 true)).mbxOk m [] })
      ∧ (d.recOk (getF (A 0) 0 18) = false ∨ d.strFenced (getF (A 0) 0 18) = true → exec .streamCmd s = .next { s with dev := (d.sb Reg.strStat 3 true).mbxRefused m 1 }))
    ∧ (∀ t : Nat, s.asks 0x0604 m 8 false [] → onlyBits [(0, 18), (32, 1)] (A 0) = true → t = getF (A 0) 0 18 → d.gb Reg.strStat (halfOf t) = false →
      d.gb Reg.strStat 4 = false → d.hbmOk = true → exec .streamCounters s = .next { s with dev := ((if getB (A 0) 32 then d.stWs (cntAddr t 0) (List.replicate 8 0) else d).mbxOk m (d.ldWs (cntAddr t 0) 8)) })
    ∧ (s.asks 0x0801 m 64 false [6] →
        exec .solveSubmit s = .next { s with dev := d.mbxSolve m (d.gf Reg.solFileAddr 0 35) (d.gf Reg.solFileLen 0 32) (fun _ => true) })
    ∧ (s.asks 0x0802 m 80 false [6] → imgOk Reg.solFileAddr 0 (A 8) = true → getF (A 8) 0 35 % 64 = 0 → 0x40000000 ≤ getF (A 8) 0 35 →
      getF (A 8) 0 35 < 0x80000000 → imgOk Reg.solFileLen 0 (A 9) = true → exec .solveFull s = .next { s with dev :=
        (((d.wr Reg.solFileAddr (A 8)).wr Reg.solFileLen (A 9)).mbxSolve m (getF (A 8) 0 35) (getF (A 9) 0 32) (fun q => q.op == 3)) })
    ∧ (16 ≤ d.sol.queue.length → ∀ x : Dev, x = ((List.range 8).map A).zipIdx.foldl (fun (y : Dev) e => y.wr (Reg.solReq e.2) e.1) d →
        x.sol.queue = d.sol.queue ∧ d.mbxSolve m 0 0 (fun _ => true) = (x.inc Reg.solRefuseCnt).mbxOk m [1])
    ∧ (s.asks 0x0803 m 0 false [6] → (d.sol.results = [] → exec .solveResult s = .next { s with dev := d.mbxDone m { status := 9 } })
      ∧ (∀ x y t, d.sol.results = (x, y) :: t → exec .solveResult s = .next { s with dev := d.solPop.mbxOk m [x, y] }))
    ∧ (s.asks 0x0804 m 0 false [6] → exec .solveActivate s = .next { s with dev := d.solActivate.mbxOk m [d.solActivate.rd Reg.solActStat] })
    ∧ (s.asks 0x0805 m 0 false [6] → exec .solveAbort s = .next { s with dev := d.solAbort.mbxOk m [] })
    ∧ (∀ e y : Dev, s.asks 0x0A01 m 24 false [10] → onlyBits [(0, 3)] (A 0) = true → 1 ≤ getF (A 0) 0 3 → getF (A 0) 0 3 ≤ 4 →
      imgOk Reg.fwdTblKey 0 (A 1) = true → e = d.tblSync → e.unreachable Reg.fwdTblKey = false →
      (e.wrAny Reg.fwdTblKey (A 1)).unreachable Reg.fwdTblData = false →
      y = ((e.wrAny Reg.fwdTblKey (A 1)).wrAny Reg.fwdTblData (A 2)).tblMbx (getF (A 0) 0 3) →
      (e.fwd.tbl ≠ none → exec .fdbCmd s = .next { s with dev := d.mbxDone m { status := 6 } })
      ∧ (e.fwd.tbl = none → y.gf Reg.fwdTblStat 4 3 = 0 → exec .fdbCmd s = .next { s with dev := y.mbxOk m [y.rd Reg.fwdTblStat, y.rd Reg.fwdTblData] })
      ∧ (e.fwd.tbl = none → y.gf Reg.fwdTblStat 4 3 ≠ 0 → exec .fdbCmd s = .next { s with dev := d.mbxRefused m (y.gf Reg.fwdTblStat 4 3) }))
    ∧ (s.asks 0x0A02 m 8 false [10] → onlyBits [(0, 1), (1, 1)] (A 0) = true → d.unreachable Reg.fwdClr = false →
      ((getB (A 0) 0 = true ∧ readyAt d.fwd.passes d.fwd.dynAt = false) ∨ (getB (A 0) 1 = true ∧ readyAt d.fwd.passes d.fwd.statAt = false) →
        exec .fdbClear s = .next { s with dev := (d.sb (Reg.fwdStat 0) 3 true).mbxRefused m 1 })
      ∧ ((getB (A 0) 0 = true → readyAt d.fwd.passes d.fwd.dynAt = true) → (getB (A 0) 1 = true → readyAt d.fwd.passes d.fwd.statAt = true) →
        exec .fdbClear s = .next { s with dev := (d.wrFwdClr (A 0)).mbxOk m [] }))
    ∧ (∀ n : Nat, s.asks 0x0A03 m 8 false [] → onlyBits [(0, 7)] (A 0) = true → n = getF (A 0) 0 7 → 1 ≤ n → n ≤ 120 →
      exec .xsReports s = .next { s with dev := (({ d with fwd := { d.fwd with reports := d.fwd.reports.drop n } } : Dev).mbxOk m
        (BitVec.ofNat 64 (d.fwd.reports.take n).length :: (d.fwd.reports.take n).flatMap XsRep.words)) })
    ∧ (∀ n : Nat, n = getF (A 0) 0 7 → onlyBits [(0, 7)] (A 0) = true → 1 ≤ n → n ≤ 82 →
      (s.asks 0x0A04 m (8 + 24 * n) false [10] → (∀ i < n, ∀ e ∈ d.itemChecks m false i, e.2 = true) →
        exec .routeAdd s = .next { s with dev := Dev.routeBatch Dev.routeAdd m n 0 d })
      ∧ (s.asks 0x0A05 m (8 + 24 * n) false [10] → (∀ i < n, ∀ e ∈ d.itemChecks m true i, e.2 = true) →
        exec .routeDel s = .next { s with dev := Dev.routeBatch Dev.routeDel m n 0 d }))
    ∧ (∀ (f : Dev → Route → Nat × Dev) (n i c : Nat) (x : Dev), d.islandOk 2 = true → f d (d.routeItem m i) = (c, x) →
      (c = 0 → Dev.routeBatch f m (n + 1) i d = Dev.routeBatch f m n (i + 1) x)
      ∧ (c ≠ 0 → Dev.routeBatch f m (n + 1) i d = d.mbxDone m { status := 0x12, done := i }))
    ∧ (∀ r : Route, d.mbx.routes.any r.same = false → d.routeDel r = (9, d))
    ∧ (∀ r : Route, d.mbx.routes.any r.same = false → r.v6 = false → 1048576 ≤ d.mbx.prefixes false → d.routeAdd r = (0x0A, d))
    ∧ (∀ (c p : Nat) (x y : Dev), s.asks 0x0C01 m 24 false [12] → d.mbxOwner m = p → p < 4 → c = getF (A 0) 0 6 →
      onlyBits [(0, 6), (8, 2)] (A 0) = true → getF (A 0) 8 2 = 1 → imgOk (Reg.dmaShChain c) 0 (A 1) = true →
      imgOk (Reg.dmaShCfg c) 0 (setF (A 2) 0 2 p) = true → d.mbxPut [(1, Reg.dmaShChain c, A 1), (2, Reg.dmaShCfg c, setF (A 2) 0 2 p)] = (none, x) →
      (x.dmaTry c (fun y => y.wrDmaCmd c (BitVec.ofNat 64 (1 + goBit))) = (0, y) →
        exec .dmaChannel s = .next { s with dev := y.mbxOk m [y.rd (Reg.dmaGen c)] })
      ∧ (∀ k : Nat, k ≠ 0 → x.dmaTry c (fun y => y.wrDmaCmd c (BitVec.ofNat 64 (1 + goBit))) = (k, y) →
        exec .dmaChannel s = .next { s with dev := (d.dmaRef c k).mbxRefused m k }))
    ∧ (∀ r : Nat, s.asks 0x0C02 m 24 false [12] → d.mbxOwner m < 4 → r = getF (A 0) 0 4 → onlyBits [(0, 4)] (A 0) = true →
      imgOk (Reg.dmaCrBase r) 0 (A 1) = true → imgOk (Reg.dmaCrCfg r) 0 (A 2) = true →
      (d.gb (Reg.dmaCrCfg r) 20 = false → exec .dmaRing s
        = .next { s with dev := d.mbxSet m [(1, Reg.dmaCrBase r, A 1), (2, Reg.dmaCrCfg r, A 2)] (fun x => x.mbxOk m []) })
      ∧ (d.gb (Reg.dmaCrCfg r) 20 = true → A 1 ≠ d.rd (Reg.dmaCrBase r) → exec .dmaRing s = .next { s with dev := d.mbxDone m { status := 6 } }))
    ∧ (∀ (c op k : Nat) (x : Dev), s.asks 0x0C03 m 8 false [12] → d.mbxOwner m < 4 → c = getF (A 0) 0 6 → op = getF (A 0) 8 3 → d.chPf c = d.mbxOwner m →
      onlyBits [(0, 6), (8, 3)] (A 0) = true → 3 ≤ op → op ≤ 6 → d.unreachable (Reg.dmaChCmd c) = false →
      d.dmaTry c (fun y => y.wrDmaCmd c (BitVec.ofNat 64 (op + goBit))) = (k, x) →
      (k = 0 → exec .dmaControl s = .next { s with dev := x.mbxOk m [x.rd (Reg.dmaChStat c)] })
      ∧ (k ≠ 0 → exec .dmaControl s = .next { s with dev := (d.dmaRef c k).mbxRefused m k }))
    ∧ (∀ r : Nat, s.asks 0x0C04 m 8 false [12] → d.mbxOwner m < 4 → r = getF (A 0) 0 4 → d.gf (Reg.dmaCrCfg r) 5 2 = d.mbxOwner m →
      onlyBits [(0, 4), (16, 16)] (A 0) = true →
      exec .dmaRingHead s = .next { s with dev := d.mbxSetShow m [(0, Reg.dmaCrHead r, BitVec.ofNat 64 (getF (A 0) 16 16))] [Reg.dmaCrStat r] })

/-- From R375, R376, R382–R386, R441: firmware update, device reset, expert unlock with its tokens and leases, and test mode. -/
def Obligations.FirmwareAndExpertCommands : Prop :=
  ∀ (s : State) (m : Nat) (A : Nat → Word) (d : Dev), A = s.dev.mbxArg m → d = s.dev →
    (s.asks 0x0004 m 8 false [] → d.mbxOwner m = 0 → A 0 = 0x7240 →
      exec .deviceReset s = .next { s with dev := ({ d with mbx := { d.mbx with resetAt := some (d.tim.up + msU) } } : Dev).mbxOk m [] })
    ∧ (∀ (o n : Nat) (x : Dev), o = getF (A 0) 0 23 → n = getF (A 0) 32 11 → s.asks 0x0101 m (8 + n) true [] → d.mbxOwner m = 0 →
      onlyBits [(0, 23), (32, 11)] (A 0) = true → o % 256 = 0 → n % 256 = 0 → 256 ≤ n → n ≤ 1024 → o + n ≤ 0x700000 →
      x = d.flashPut (slotBase d.otherSlot + o) (d.ldN (mbxBuf m + 0x48) n) →
      (d.frozen = true → exec .fwWrite s = .next { s with dev := d.mbxDone m { status := 0x0C } })
      ∧ (d.frozen = false → exec .fwWrite s = .next { s with dev := (({ x with mbx := { x.mbx with
          verified := if x.mbx.verified = some d.otherSlot then none else x.mbx.verified } } : Dev).mbxOk m []) }))
    ∧ (s.asks 0x0102 m 0 true [] → d.mbxOwner m = 0 →
      (d.slotCause d.otherSlot = 0 → exec .fwVerify s = .next { s with dev := (({ d with mbx := { d.mbx with verified := some d.otherSlot } } : Dev).mbxOk m
        [BitVec.ofNat 64 (d.imgVersion d.otherSlot + fld 32 7 (d.imgSvn d.otherSlot))]) })
      ∧ (d.slotCause d.otherSlot ≠ 0 → exec .fwVerify s
          = .next { s with dev := ({ d with mbx := { d.mbx with verified := none } } : Dev).mbxDone m { status := 0x0D } }))
    ∧ (s.asks 0x0103 m 0 true [] → d.mbxOwner m = 0 →
      (d.frozen = true → exec .fwActivate s = .next { s with dev := d.mbxDone m { status := 0x0C } })
      ∧ (d.frozen = false → d.mbx.verified ≠ some d.otherSlot → exec .fwActivate s = .next { s with dev := d.mbxDone m { status := 0x0D } })
      ∧ (∀ b : Nat, d.frozen = false → d.mbx.verified = some d.otherSlot → d.bootCopy = some b →
        exec .fwActivate s = .next { s with dev := (d.flashPut d.oldCopy (descOctets d.otherSlot (d.flashLe (b + 4) 4 + 1))).mbxOk m [] }))
    ∧ (∀ x y : Nat, d.bootSeq 0 = some x → d.bootSeq 0x1000 = some y →
      (x < y → d.oldCopy = 0 ∧ d.bootCopy = some 0x1000) ∧ (y < x → d.oldCopy = 0x1000 ∧ d.bootCopy = some 0))
    ∧ (s.asks 0x0104 m 0 true [] → d.mbxOwner m = 0 → exec .fwRestart s = .next { s with dev :=
        ((({ d with mbx := { d.mbx with restartAt := some (d.tim.up + msU) } } : Dev).sf Reg.mbxFwStat 0 2 3).mbxOk m []) })
    ∧ (∀ n : Nat, s.asks 0x0105 m 8 false [] → d.mbxOwner m = 0 → onlyBits [(0, 7)] (A 0) = true → n = getF (A 0) 0 7 → n ≤ 64 → d.mbx.svn ≤ n →
      n ≤ d.imgSvn (d.gf Reg.mbxFwStat 2 1) →
      (d.frozen = true → exec .fwCommitSvn s = .next { s with dev := d.mbxDone m { status := 0x0C } })
      ∧ (d.frozen = false → exec .fwCommitSvn s = .next { s with dev :=
          ((({ d with mbx := { d.mbx with svn := n } } : Dev).sf Reg.mbxFwStat 3 7 n).mbxOk m []) }))
    ∧ (∀ (k t : Nat) (x : Dev), s.asks 0x0201 m 16 false [] → onlyBits [(0, 5), (16, 16)] (A 0) = true → onlyBits [(0, 32)] (A 1) = true →
      k = getF (A 0) 0 5 → t = getF (A 0) 16 16 → k ≤ 22 → 1 ≤ t → t ≤ 3600 →
      (d.lockedOut k = true → exec .expertUnlock s = .next { s with dev := d.mbxDone m { status := 0x0F } })
      ∧ (d.lockedOut k = false → d.mbxHeld m k = true → exec .expertUnlock s = .next { s with dev := d.mbxDone m { status := 5 } })
      ∧ (d.lockedOut k = false → d.mbxHeld m k = false → (d.token k = 0 ∨ d.token k ≠ (A 1).toNat) →
        exec .expertUnlock s = .next { s with dev := d.wrongToken m k })
      ∧ (d.lockedOut k = false → d.mbxHeld m k = false → d.token k ≠ 0 → d.token k = (A 1).toNat →
        x = (((d.sf (Reg.mbxLease k) 0 3 (d.mbxOwner m)).sf (Reg.mbxLease k) 16 12 t).sf (Reg.mbxLease k) 28 2 0).sb Reg.mbxUnlock k true →
        exec .expertUnlock s = .next { s with dev :=
          (({ x with mbx := { x.mbx with leaseEnd := Sparse.put x.mbx.leaseEnd k (x.tim.up + t * secU) } } : Dev).mbxOk m [A 0]) }))
    ∧ (∀ k, s.asks 0x0202 m 8 false [] → onlyBits [(0, 23)] (A 0) = true → A 0 ≠ 0 → (List.range 23).filter (fun k => getB (A 0) k) = [k] →
      (d.mbxHolds m k = true → exec .expertLock s = .next { s with dev := (d.relock k).mbxOk m [] })
      ∧ (d.mbxHolds m k = false → exec .expertLock s = .next { s with dev := d.mbxDone m { status := 4 } }))
    ∧ (∀ (k old new : Nat) (x : Dev), s.asks 0x0203 m 16 false [] → d.mbxOwner m = 0 → onlyBits [(0, 5)] (A 0) = true → k = getF (A 0) 0 5 → k ≤ 22 →
      old = getF (A 1) 0 32 → new = getF (A 1) 32 32 → d.frozen = false → d.lockedOut k = false →
      (old ≠ d.token k → exec .tokenSet s = .next { s with dev := d.wrongToken m k })
      ∧ (old = d.token k → x = ({ d with mbx := { d.mbx with tokens := Sparse.setD d.mbx.tokens k 0 new } } : Dev).sf (Reg.mbxLease k) 28 2 0 →
        exec .tokenSet s = .next { s with dev := (if new = 0 then x.relock k else x).mbxOk m [] }))
    ∧ (s.asks 0x0204 m 8 false [] → onlyBits [(0, 1)] (A 0) = true →
      (d.mbxHolds m 17 = true → exec .testMode s = .next { s with dev := (d.sb Reg.mbxUnlock 32 (getB (A 0) 0)).jigSync.mbxOk m [] })
      ∧ (d.mbxHolds m 17 = false → exec .testMode s = .next { s with dev := d.mbxDone m { status := 4 } }))
    ∧ (∀ (k n : Nat) (x : Dev), k ≤ 22 → n = d.gf (Reg.mbxLease k) 28 2 → x = ((d.waitUp (d.goTime + 100 * msU)).inc Reg.mbxUnlockFailCnt) →
      (n < 2 → d.wrongToken m k = (x.sf (Reg.mbxLease k) 28 2 (n + 1)).mbxDone m { status := 0x0E })
      ∧ (n = 2 → ∃ y : Dev, d.wrongToken m k = (y.sb (Reg.mbxLease k) 30 true).mbxDone m { status := 0x0E }
          ∧ Sparse.find y.mbx.lockEnd k = some (x.tim.up + 60 * secU)))

/-- From R211, R394, R406, R412, R421, R431, Tables BEN-6, MBX-8: the Bench groups and their timer, severities, the fault queue read by mailbox, and the
power state asked for by mailbox. -/
def Obligations.BenchFaultAndPowerCommands : Prop :=
  (∀ (s : State) (m : Nat) (A : Nat → Word) (d : Dev), A = s.dev.mbxArg m → d = s.dev →
    (∀ (g n a : Nat) (l : List Byte) (x : Dev), s.asks 0x0D01 m 32 false [15] → d.mbxOwner m = 0 → onlyBits [(0, 3)] (A 0) = true → g = getF (A 0) 0 3 →
      getF (A 1) 0 3 = 0 → n = (A 2).toNat → n % 8 = 0 → 8 ≤ n → n ≤ 268435456 → a = (A 3).toNat → 0x80000000 ≤ a → a + n ≤ 0x600000000 →
      (exec (.benchLoad none) s = .next { s with dev := d.mbxDone m { status := 0x0B } })
      ∧ (l.length = n → ¬ (g = 0 ∧ d.gb Reg.solCtl 0 = true) →
        ((d.grp g ≠ 1 ∨ d.hbmOk = false) → exec (.benchLoad (some l)) s = .next { s with dev := d.mbxDone m { status := 6 } })
        ∧ (d.grp g = 1 → d.hbmOk = true → x = d.stN a l → exec (.benchLoad (some l)) s = .next { s with dev := ((({ x with bad := x.bad.filter (fun b => decide (b + 8 ≤ a ∨ a + n ≤ b)) } : Dev).wr (Reg.benEntry g)
              (BitVec.ofNat 64 (a / 4 * 4))).mbxOk m []) })))
    ∧ (∀ (g opc to_ : Nat) (c : Instr) (from_ : List Nat), s.asks opc m 8 false [15] → d.mbxOwner m = 0 → onlyBits [(0, 3)] (A 0) = true → g = getF (A 0) 0 3 →
      ((opc, c, from_, to_) = (0x0D02, .benchStart, [1], 2) ∨ (opc, c, from_, to_) = (0x0D03, .benchStop, [2, 4], 1)) →
      (g = 0 ∧ d.gb Reg.solCtl 0 = true → ∃ k, exec c s = .next { s with dev := d.useFree.mbxDone m { status := 7, errCode := k } })
      ∧ (¬ (g = 0 ∧ d.gb Reg.solCtl 0 = true) → d.grp g ∈ from_ → exec c s = .next { s with dev := (d.setGrp g to_).mbxOk m [] })
      ∧ (¬ (g = 0 ∧ d.gb Reg.solCtl 0 = true) → d.grp g ∉ from_ → exec c s = .next { s with dev := d.mbxDone m { status := 6 } }))
    ∧ (∀ (b : Nat × Nat) (k a : Nat), s.asks 0x0E01 m 8 false [16] → onlyBits [(0, 12), (12, 8), (20, 4)] (A 0) = true → getF (A 0) 20 4 ≤ 3 →
      b = srcBlock (getF (A 0) 0 12) → k = getF (A 0) 12 8 → a = Reg.fltSev b.1 (k / 16) →
      (∀ c, fixedClass b.1 b.2 k = some c → c = getF (A 0) 20 4 → exec .fltSeverity s = .next { s with dev := d.mbxOk m [] })
      ∧ (∀ c, fixedClass b.1 b.2 k = some c → c ≠ getF (A 0) 20 4 → exec .fltSeverity s = .next { s with dev := d.mbxRefused m 1 })
      ∧ (fixedClass b.1 b.2 k = none → d.unreachable a = false →
        exec .fltSeverity s = .next { s with dev := (d.wrAny a (setF (d.rd a) (4 * (k % 16)) 4 (getF (A 0) 20 4))).mbxOk m [] }))
    ∧ (∀ n : Nat, s.asks 0x0E02 m 8 false [] → onlyBits [(0, 8)] (A 0) = true → 1 ≤ getF (A 0) 0 8 → getF (A 0) 0 8 ≤ 240 → n = min (getF (A 0) 0 8) s.fq.length →
      exec .fltRead s = .next { s.fqTake n with dev := (s.fqTake n).dev.mbxOk m (BitVec.ofNat 64 n :: (s.fq.take n).map (fun e => e.1)) }
      ∧ (s.fqTake n).fq = s.fq.drop n)
    ∧ (s.asks 0x0F01 m 8 false [18] → d.mbxOwner m = 0 → onlyBits [(0, 2)] (A 0) = true → getF (A 0) 0 2 ≤ 2 →
      (d.pwrRefuse (getF (A 0) 0 2) = 0 → exec .pwrState s = .next { s with dev := (d.wrPwrCtl (setB (A 0) 63 true)).mbxOk m [] })
      ∧ (∀ c, c ≠ 0 → d.pwrRefuse (getF (A 0) 0 2) = c → exec .pwrState s = .next { s with dev := (d.pwrRef c).mbxRefused m c })))
  ∧ (∀ (s : State) (h : Fin 32), (s.dev.mtip h.val = true → exec (.benchTimerInterrupt h) s = .next s)
      ∧ (s.dev.mtip h.val = false → exec (.benchTimerInterrupt h) s = .next { s with dev :=
          (s.dev.waitLocal ((s.dev.now / nsU + ((s.dev.rd (Reg.benTimecmp h.val)).toNat - s.dev.now / nsU % 2 ^ 64)) * nsU)) }))

/-- R422: a message that finds the queue full: what is displaced or dropped, what is counted and shown, and the overflow message. -/
def Obligations.FaultQueueOverflow : Prop :=
  (∀ (s : State) (w : Word), (s.fq.length < 1024 → (s.enqueue w).fq = s.fq ++ [(w, compact s.dev.now)])
      ∧ (s.fq.length = 1024 → (msgClass w = 0 ∨ ∀ e ∈ s.fq, msgClass e.1 ≠ 0) → s.enqueue w = { s with dev := s.dev.fltLost })
      ∧ (∀ e t l, s.fq = l ++ e :: t → s.fq.length = 1024 → (∀ x ∈ l, msgClass x.1 ≠ 0) → msgClass e.1 = 0 → msgClass w ≠ 0 →
          s.enqueue w = ({ s with fq := l ++ t ++ [(w, compact s.dev.now)], dev := s.dev.fltLost } : State).fqSync))
  ∧ (∀ d : Dev, (d.gb Reg.fltStat 5 = false → d.fltLost.flt.owed = true ∧ (d.flt.owed = false → d.fltLost.flt.lost = 1))
      ∧ (d.gb Reg.fltStat 5 = true → d.fltLost.flt.owed = d.flt.owed ∧ d.fltLost.flt.lost = d.flt.lost + 1)
      ∧ d.fltLost.gb Reg.fltStat 5 = true ∧ d.fltLost.rd Reg.fltLostCnt = BitVec.ofNat 64 ((d.rd Reg.fltLostCnt).toNat + 1)
      ∧ (∀ a, a ≠ Reg.fltStat → a ≠ Reg.fltLostCnt → d.fltLost.rd a = d.rd a) ∧ d.sameMem d.fltLost)
  ∧ (∀ (s : State), s.dev.flt.owed = true → s.fq.length < 1024 → s.dev.collectorUp = true →
      exec .overflowMessage s = .next (({ s with dev := { s.dev with flt := { s.dev.flt with owed := false } } } : State).collect
        ⟨s.dev.tim.up, srcCode 16 0, 0x10, s.dev.flt.lost % 2 ^ 40, false⟩))
  ∧ (∀ (s : State) (m : WireMsg) (c : Nat) (d0 d : Dev), c = s.dev.classOf m → c ≠ 3 → s.fq.length < 1024 →
      d0 = { s.dev with flt := { s.dev.flt with classAt := Sparse.put s.dev.flt.classAt c s.dev.tim.up } } →
      d = (((d0.inc Reg.fltMsgCnt).inc (Reg.fltClassCnt c)).sb Reg.fltStat c true).pinSync →
      (s.collect m).fq = s.fq ++ [(faultWord m.src m.kind c m.addr, compact d.now)])

/-- From R411, R412, R413, R421, R423, R426: a message is classed, counted, shown and queued; POP; injection. -/
def Obligations.FaultMessagesAreCollected : Prop :=
  (∀ (s : State) (src : BitVec 12) (kind : BitVec 8) (addr : BitVec 40) (m : WireMsg), s.dev.collectorUp = true → s.dev.flt.wire = [] →
      m = ⟨s.dev.tim.up, src.toNat, kind.toNat, addr.toNat, false⟩ →
      (faultListed src.toNat kind.toNat = true → exec (.faultMessage (some (src, kind, addr))) s = .next (s.collect m))
      ∧ (faultListed src.toNat kind.toNat = false → exec (.faultMessage (some (src, kind, addr))) s = .next s))
  ∧ (∀ (s : State) (m : WireMsg), s.dev.collectorUp = true → s.dev.flt.wire = [m] → m.at_ ≤ s.dev.tim.up →
      exec (.faultMessage none) s = .next (({ s with dev := { s.dev with flt := { s.dev.flt with wire := [] } } } : State).collect m))
  ∧ (∀ (s : State) (m : WireMsg) (c : Nat) (d0 d : Dev) (s1 : State), c = s.dev.classOf m → c ≠ 3 →
      d0 = { s.dev with flt := { s.dev.flt with classAt := Sparse.put s.dev.flt.classAt c s.dev.tim.up } } →
      d = (((d0.inc Reg.fltMsgCnt).inc (Reg.fltClassCnt c)).sb Reg.fltStat c true).pinSync →
      s1 = ({ s with dev := d } : State).enqueue (faultWord m.src m.kind c m.addr) →
      s.collect m = { s1 with dev := (s1.dev.react m c (faultWord m.src m.kind c m.addr)).faultIrq c })
  ∧ (∀ (d : Dev) (w : WireMsg), (∀ u, srcBlock w.src = (0, u) → w.kind < 0x10 → schedIsland u = true → w.inj = false → d.classOf w = 2)
      ∧ (∀ u, srcBlock w.src = (0, u) → w.kind < 0x10 → schedIsland u = false → neverFenced u = true → w.inj = false → d.classOf w = 1)
      ∧ (∀ k u, srcBlock w.src = (k, u) → fixedClass k u w.kind = none → w.inj = false → d.flt.sevAt ≠ d.tim.up →
          d.classOf w = d.gf (Reg.fltSev k (w.kind / 16)) (4 * (w.kind % 16)) 4)
      ∧ (∀ k u x, srcBlock w.src = (k, u) → fixedClass k u w.kind = none → w.inj = false → d.flt.sevAt = d.tim.up →
          Sparse.find d.flt.sevWas (Reg.fltSev k (w.kind / 16)) = some x → d.classOf w = getF x (4 * (w.kind % 16)) 4)
      ∧ (w.inj = true → d.gb Reg.jigCtl 1 = false → d.classOf w ≠ 3))
  ∧ (∀ (d : Dev) (v : Word) (c : Nat), c < 4 → Sparse.find d.flt.classAt c = some d.tim.up → (d.wrFltStat v).gb Reg.fltStat c = true)
  ∧ (∀ (s : State) (r : Req) (v : Word), s.takes r Reg.fltQStat →
      exec (.faultPop r v) s = .next (({ s with fq := s.fq.drop 1 } : State).fqSync))
  ∧ (∀ (s : State) (r : Req) (v : Word) (m : WireMsg), s.takes r Reg.jigInj → s.dev.collectorUp = true → s.dev.flt.wire = [] →
      m = ⟨s.dev.tim.up, getF v 52 12, getF v 44 8, getF v 0 40, true⟩ →
      (s.dev.jigActive = false → exec (.jigInject r v) s = .next { s with dev := s.dev.sb Reg.jigStat 1 true })
      ∧ (s.dev.jigActive = true → faultListed (getF v 52 12) (getF v 44 8) = true → (srcBlock (getF v 52 12)).1 ≠ 4 →
          (s.dev.inc Reg.jigInjCnt).collectorUp = true →
          exec (.jigInject r v) s = .next (({ s with dev := s.dev.inc Reg.jigInjCnt } : State).collect m)))

/-- From R413, R414, R415, R417, R427: fences, their escalation, manual and automatic release, the island's reset, and the Halt command. -/
def Obligations.FencesReleasesAndHalt : Prop :=
  (∀ (d : Dev) (i kind : Nat) (msg : Word),
      (neverFenced i = true → d.fence i kind msg = d)
      ∧ (neverFenced i = false → d.fenced i = true → Sparse.find d.flt.resetting i = none →
          d.fence i kind msg = { d with flt := { d.flt with struckAt := Sparse.put d.flt.struckAt i d.tim.up } })
      ∧ (neverFenced i = false → d.fenced i = false → i < 48 → ∃ e : Dev, d.fence i kind msg = ((e.fenceEffect i).islandSync d.joined d.holder).pinSync
          ∧ e.gb Reg.glbIslandFenced i = true ∧ e.gb (Reg.fltIslStat i) 0 = true ∧ e.gf (Reg.fltIslStat i) 8 8 = kind % 256
          ∧ Sparse.find e.flt.fencedAt i = some d.tim.up ∧ Sparse.find e.flt.fencedBy i = some msg
          ∧ (d.gf Reg.fltFenceCfg 0 16 = 0 → e.flt.autoAt = d.flt.autoAt)))
  ∧ (∀ (s : State) (i : Fin 48) (t : Nat), Sparse.find s.dev.flt.fencedAt i.val = some t → s.dev.fenced i.val = true → s.dev.collectorUp = true →
      exec (.fenceEscalation i) s = .next { s with dev := (((s.dev.waitUp (t + 10 * usU)).inc Reg.fltEscCnt).halt
        (Sparse.getD s.dev.flt.fencedBy i.val 0)) })
  ∧ (∀ (s : State) (r : Req) (v : Word) (i : Nat), s.takes r Reg.fltFenceRel → i = getF v 0 6 →
      (neverFenced i = true ∨ 48 ≤ i ∨ s.dev.fenced i = false →
        exec (.fenceRelease r v) s = .next { s with dev := s.dev.sb Reg.fltStat 6 true })
      ∧ (neverFenced i = false → i < 48 → s.dev.fenced i = true → exec (.fenceRelease r v) s
          = .next { s with dev := ((s.dev.wrReg Reg.fltFenceRel (setB v 63 true)).sf (Reg.fltIslStat i) 2 4 0).release i }))
  ∧ (∀ (s : State) (i : Fin 48) (t : Nat) (d : Dev), Sparse.find s.dev.flt.autoAt i.val = some t → s.dev.fenced i.val = true → s.dev.collectorUp = true →
      d = s.dev.waitUp t → exec (.autoRelease i) s
        = .next { s with dev := (d.sf (Reg.fltIslStat i.val) 2 4 (d.gf (Reg.fltIslStat i.val) 2 4 + 1)).release i.val })
  ∧ (∀ (d : Dev) (i : Nat), Sparse.find d.flt.struckAt i ≠ some d.tim.up → Sparse.find d.flt.resetting i = none →
      Sparse.find (d.release i).flt.resetting i = some d.tim.up ∧ Sparse.find (d.release i).flt.autoAt i = none
        ∧ (d.release i).gb (Reg.fltIslStat i) 1 = false)
  ∧ (∀ (d : Dev) (i : Nat), Sparse.find d.flt.struckAt i = some d.tim.up → (d.release i).flt.resetting = d.flt.resetting
      ∧ (d.release i).fenced i = d.fenced i)
  ∧ (∀ (s : State) (i : Fin 48) (t : Nat) (d : Dev), Sparse.find s.dev.flt.resetting i.val = some t → s.dev.collectorUp = true →
      d = s.dev.waitUp (t + 20 * usU) → ∃ e : Dev,
      exec (.islandResetDone i) s = .next { s with dev := ((e.backEffect i.val).islandSync d.joined d.holder).pinSync }
        ∧ e.gb Reg.glbIslandFenced i.val = false ∧ e.gb (Reg.fltIslStat i.val) 0 = false ∧ Sparse.find e.flt.resetting i.val = none
        ∧ Sparse.find e.flt.freeSince i.val = some d.tim.up)
  ∧ (∀ (s : State) (i : Fin 48) (t : Nat), Sparse.find s.dev.flt.freeSince i.val = some t → s.dev.collectorUp = true →
      exec (.attemptsClear i) s = .next { s with dev := (s.dev.waitUp (t + 3600 * secU)).sf (Reg.fltIslStat i.val) 2 4 0 })
  ∧ (∀ (s : State) (r : Req) (v : Word) (d : Dev), s.takes r Reg.fltHaltCmd → d = s.dev.wrReg Reg.fltHaltCmd (setB v 63 true) →
      (getF v 0 32 = 0x7240 → exec (.haltCommand r v) s = .next { s with dev := d.halt (faultWord (srcCode 16 0) 0 3 0) })
      ∧ (getF v 0 32 ≠ 0x7240 → exec (.haltCommand r v) s = .next { s with dev := d }))
  ∧ (∀ (d : Dev) (msg : Word), (d.halted = true → d.halt msg = d)
      ∧ (d.halted = false → (d.halt msg).pwr.goal = none ∧ (d.halt msg).tim.ppsOut = false ∧ (d.halt msg).tim.clk10 = false
          ∧ (d.halt msg).cal = {} ∧ (d.halt msg).sol = {} ∧ (d.halt msg).frames = []))

/-- From R373, R375, R384, R385, R391, R424, R425, R441: the boot of the Joiner, its resets, the ends of leases and lockouts, and the frames the Jig
holds. -/
def Obligations.BootJoinerAndJig : Prop :=
  (∀ (s : State) (found : Bool) (p : Nat), s.dev.fwState = 0 → s.dev.islandOk 44 = true → s.dev.pwr.resetAll = false → p = s.dev.prefSlot →
      (s.dev.mbx.bootOther = false →
        (exec (.firmwareBoot false) s = .next { s with dev := s.dev.bootHold 4 })
        ∧ (s.dev.slotCause p = 0 → exec (.firmwareBoot true) s = .next { s with dev := s.dev.runSlot p })
        ∧ (s.dev.slotCause p ≠ 0 → s.dev.slotCause (1 - p) = 0 → exec (.firmwareBoot true) s = .next { s with dev := s.dev.runSlot (1 - p) })
        ∧ (s.dev.slotCause p ≠ 0 → s.dev.slotCause (1 - p) = s.dev.slotCause p →
            exec (.firmwareBoot true) s = .next { s with dev := s.dev.bootHold (s.dev.slotCause p) }))
      ∧ (∀ q : Nat, s.dev.mbx.bootOther = true → q = 1 - s.dev.gf Reg.mbxFwStat 2 1 →
          (s.dev.slotCause q = 0 → exec (.firmwareBoot true) s = .next { s with dev := s.dev.runSlot q })
          ∧ (s.dev.slotCause q ≠ 0 → exec (.firmwareBoot found) s = .next { s with dev := s.dev.bootHold 5 })))
  ∧ (∀ (s : State) (found : Bool), s.dev.pwr.resetAll = true →
      exec (.firmwareBoot found) s = .next { s with dev := (s.dev.waitUp s.dev.pwr.resetUntil).bootNow found })
  ∧ (∀ (s : State) (x : Dev), 2 ≤ s.dev.fwState → s.dev.islandOk 44 = true → exec .joinerWatchdogReset s = .next { s with dev := x } →
      x.mbx.bootOther = decide (2 ≤ (s.dev.mbx.wdogAt.filter (fun t => decide (s.dev.tim.up < t + 60 * secU))).length)
      ∧ x.gf Reg.mbxFwStat 16 8 = min 255 (s.dev.gf Reg.mbxFwStat 16 8 + 1) ∧ x.mbx.go = [] ∧ x.mbx.waits = [] ∧ x.sol.queue = [])
  ∧ (∀ (s : State), 2 ≤ s.dev.fwState → s.dev.islandOk 44 = true →
      exec .joinerWatchdogReset s = .next { s with dev := s.dev.watchdogReset })
  ∧ (∀ (s : State) (t : Nat), s.dev.mbx.restartAt = some t → s.dev.islandOk 44 = true →
      exec .joinerRestart s = .next { s with dev := (s.dev.waitUp t).joinerReset })
  ∧ (∀ (s : State) (t : Nat), s.dev.mbx.resetAt = some t → s.dev.islandOk 44 = true → s.dev.islandOk 46 = true →
      ∃ (x : State) (u : Nat), x = ({ s with dev := s.dev.waitUp t } : State).coreReset false false false 4
        ∧ x.dev.tim.up + 25 * msU ≤ u ∧ u ≤ x.dev.tim.up + 45 * msU
        ∧ exec .deviceResetStart s = .next { x with dev := { x.dev.useFree with pwr := { x.dev.pwr with resetUntil := u, resetAll := true } } })
  ∧ (∀ (s : State) (k : Fin 23) (t : Nat) (x : Dev), x = s.dev.waitUp t →
      (Sparse.find s.dev.mbx.leaseEnd k.val = some t → exec (.leaseExpiry k) s = .next { s with dev := x.relock k.val })
      ∧ (Sparse.find s.dev.mbx.lockEnd k.val = some t → ∃ y : Dev, exec (.lockoutEnd k) s = .next { s with dev := y }
          ∧ y.gb (Reg.mbxLease k.val) 30 = false ∧ y.gf (Reg.mbxLease k.val) 28 2 = 0 ∧ Sparse.find y.mbx.lockEnd k.val = none))
  ∧ (∀ (d : Dev) (k : Nat), k < 23 → k ≠ 17 → (d.relock k).gb Reg.mbxUnlock k = false ∧ Sparse.find (d.relock k).mbx.leaseEnd k = none
      ∧ ∀ j, j ≠ k → (d.relock k).gb Reg.mbxUnlock j = d.gb Reg.mbxUnlock j)
  ∧ (∀ (d : Dev), d.gb Reg.jigCtl 0 = false ∨ d.gb Reg.mbxUnlock 17 = false ∨ d.gb Reg.mbxUnlock 32 = false →
      (d.jigActive = true → d.jigSync = (d.sb Reg.jigStat 0 false).jigReleaseAll) ∧ (d.jigActive = false → d.jigSync = d.sb Reg.jigStat 0 false))
  ∧ (∀ (s : State) (n : Fin 16) (h : JigHeld),
      (s.dev.flt.held.find? (fun x => x.rule == n.val && x.reorder) = some h →
        exec (.jigReorderRelease n) s = .next { s with dev := (s.dev.waitUp h.due).jigLet h })
      ∧ (s.dev.flt.held.find? (fun x => x.rule == n.val && !x.reorder) = some h → ∀ d : Dev, d = s.dev.waitUp h.due →
        exec (.jigDelayRelease n) s = .next { s with dev := ((d.flt.held.filter
          (fun g => !g.reorder && g.rule == n.val && decide (g.due ≤ h.due))).foldl Dev.jigLet d) }))

/-- From R430–R433, R441, R442, R455: power requests, their refusals, the transitions, PERST# and hot reset. -/
def Obligations.PowerStatesAndHostResets : Prop :=
  (∀ (s : State) (r : Req) (v : Word) (t : Nat) (c : Instr) (d : Dev), s.takes r Reg.pwrCtl →
      (t, c) ∈ [(0, Instr.powerRequestFull r v), (1, .powerRequestQuiet r v), (2, .powerRequestStandby r v)] → d = s.dev.sf Reg.pwrCtl 0 2 t →
      (∀ k, k ≠ 0 → d.pwrRefuse t = k → exec c s = .next { s with dev := d.pwrRef k })
      ∧ (d.pwrRefuse t = 0 → t = 2 → exec c s = .next { s with dev := d.sb Reg.pwrStat 3 true })
      ∧ (d.pwrRefuse t = 0 → t ≠ 2 → d.pwrState = t → exec c s = .next { s with dev := d.sb Reg.pwrStat 3 false })
      ∧ (d.pwrRefuse t = 0 → t ≠ 2 → d.pwrState ≠ t → exec c s = .next { s with dev := d.towards t }))
  ∧ (∀ (d : Dev), d.pwrRefuse 3 = 5
      ∧ (d.gf Reg.solStat 0 2 = 2 → d.pwrRefuse 1 = 1)
      ∧ (∀ t, t < 3 → (t ≠ 1 ∨ d.gf Reg.solStat 0 2 ≠ 2) → d.gb Reg.pwrStat 2 = true → d.pwrRefuse t = 2)
      ∧ (d.gb Reg.pwrStat 2 = false → d.gb Reg.smonStat 0 = true → d.pwrRefuse 2 = 3)
      ∧ (d.gb Reg.pwrStat 2 = false → d.gb Reg.smonStat 0 = false → d.hq.l12En = false → d.pwrRefuse 2 = 4)
      ∧ (d.gb Reg.pwrStat 2 = false → d.pwrRefuse 0 = 0))
  ∧ (∀ (s : State), s.dev.gb Reg.pwrStat 3 = true → s.dev.standbyReady = true → s.dev.gb Reg.pwrStat 2 = false →
      exec .standbyEntry s = .next { s with dev := (s.dev.wrCalCtl (setB (s.dev.rd Reg.calCtl) 0 false)).towards 2 })
  ∧ (∀ (s : State), s.dev.gb Reg.pwrStat 3 = false ∨ s.dev.standbyReady = false → exec .standbyEntry s = .next s)
  ∧ (∀ (s : State), (s.dev.pwr.goal = some 1 → exec .powerTransitionDone s = .next { s with dev := s.dev.toQuiet })
      ∧ (s.dev.pwr.goal = some 0 → s.dev.fwState ≠ 0 → exec .powerTransitionDone s = .next { s with dev := s.dev.toFull })
      ∧ (s.dev.pwr.goal = some 2 → s.dev.running = false → (s.toStandby 1).dev.pwr.leave = false → exec .powerTransitionDone s = .next (s.toStandby 1))
      ∧ (s.dev.pwr.goal = some 2 → s.dev.running = false → (s.toStandby 1).dev.pwr.leave = true →
          exec .powerTransitionDone s = .next (s.toStandby 1).fromStandby)
      ∧ (s.dev.pwr.goal = some 2 → s.dev.running = true → exec .powerTransitionDone s = .next s)
      ∧ (s.toStandby 1).dev.pwr.leave = s.dev.pwr.leave
      ∧ (s.dev.pwr.goal = none → exec .powerTransitionDone s = .next s))
  ∧ (∀ (s : State), (s.toStandby 1).fq = [] ∧ (s.toStandby 1).dev.hq.link = s.dev.hq.link ∧ (s.toStandby 2).dev.hq.link = .down)
  ∧ (∀ (s : State), s.dev.pwrState = 2 → s.dev.pwr.keep = false → s.dev.gb Reg.pwrStat 2 = false →
      (s.dev.gf Reg.pwrStat 8 2 = 1 → exec (.standbyExit 0) s = .next s.fromStandby)
      ∧ (s.dev.gf Reg.pwrStat 8 2 = 2 → s.dev.gb Reg.smonStat 0 = false →
          exec (.standbyExit 2) s = .next ({ s with dev := s.dev.waitUp (s.dev.pwr.okSince + 10 * msU) } : State).fromStandby)
      ∧ (s.dev.gf Reg.pwrStat 8 2 = 2 → exec (.standbyExit 0) s = .next s))
  ∧ (∀ (s : State) (h : State), h = { s with dev := { s.dev with pwr := { s.dev.pwr with perst := true } } } → s.dev.pwr.perst = false →
      s.dev.pwr.keep = false → s.dev.pwrState ≠ 2 → s.dev.halted = false →
      (s.dev.gb Reg.rstCfg 0 = true → s.dev.pwr.goal ≠ some 2 → exec .perstAssert s = .next (({ h with dev := h.dev.ptmStop } : State).coreReset false false true 3))
      ∧ (∀ d : Dev, s.dev.gb Reg.rstCfg 0 = false ∨ s.dev.pwr.goal = some 2 →
          d = ((h.dev.ptmStop.resetGlb.resetHost).relockIf (fun x => decide (x < 4))).sb Reg.pwrStat 3 false →
          exec .perstAssert s = .next { h with dev := { d with pwr := { d.pwr with leave := decide (s.dev.pwr.goal = some 2) } } }))
  ∧ (∀ (s : State), exec .perstDeassert s = .next { s with dev := { s.dev with pwr := { s.dev.pwr with perst := false } } })
  ∧ (∀ (s : State), s.dev.islandOk 33 = true → s.dev.pwrState ≠ 2 →
      ∃ (e : Dev) (t : Nat), e = (s.dev.ptmStop.resetGlb.resetHost).relockIf (fun h => decide (h < 4))
        ∧ e.tim.up + msU ≤ t ∧ t ≤ e.tim.up + 10 * msU
        ∧ exec .hotReset s = .next { s with dev := { e.useFree with pwr := { e.pwr with resetUntil := t, resetAll := false } } })
  ∧ (∀ (s : State) (d : Dev), d = s.dev.waitUp s.dev.pwr.resetUntil →
      (d.islandOk 32 = true → d.islandOk 33 = true → d.gb Reg.clkStat 0 = true → d.pwrState ≠ 2 →
        exec .pcieLinkL0Entry s = .next { s with dev := d.linkEnter })
      ∧ (d.islandOk 32 = false ∨ d.islandOk 33 = false ∨ d.gb Reg.clkStat 0 = false ∨ d.pwrState = 2 → exec .pcieLinkL0Entry s = .next s))
  ∧ (∀ (s : State) (f : Nat) (ptm pri ats pme l12 msix : Bool) (rest : CfgRest) (d : Dev), f < 1024 → s.dev.islandOk 33 = true →
      d = ((s.dev.modFn f (fun x => x.configured pri ats pme msix rest)).sendPba f) →
      (0 < f → (4 ≤ f ∨ pri = true) → exec (.pcieConfigWrite f ptm pri ats pme l12 msix rest) s = .next { s with dev := (d.pmeCheck f).prgGo })
      ∧ (0 < f → f < 4 → pri = false →
          exec (.pcieConfigWrite f ptm pri ats pme l12 msix rest) s = .next { s with dev := ((d.sb Reg.xltStat f false).pmeCheck f).prgGo })
      ∧ (∀ x : Dev, f = 0 → x = ((if pri then d else d.sb Reg.xltStat 0 false).pmeCheck 0).prgGo →
          ∀ y : Dev, y = { x with hq := { x.hq with ptmEn := ptm, l12En := l12 } } →
          exec (.pcieConfigWrite f ptm pri ats pme l12 msix rest) s = .next { s with dev := (if ptm then y else y.ptmStop) }))
  ∧ (∀ (x : Fn) (pri ats pme msix : Bool) (rest : CfgRest), (x.configured pri ats pme msix rest).pri = pri
      ∧ (x.configured pri ats pme msix rest).ats = ats ∧ (x.configured pri ats pme msix rest).pmeEn = pme
      ∧ (x.configured pri ats pme msix rest).msixEn = msix ∧ (x.configured pri ats pme msix rest).fnMask = rest.mask
      ∧ (x.configured pri ats pme msix rest).pmeStatus = (x.pmeStatus && !rest.pmeClear)
      ∧ (x.configured pri ats pme msix rest).d3 = x.d3)

/-- From R434–R438, R440, R447, R454: the supply monitor, Keep, the references, and the power-on reset. From R419, R420, R452: the pins: HALT_N, the
bypass outputs, FAULT_N and the time outputs. -/
def Obligations.SupplyClocksAndPowerOn : Prop :=
  ((∀ (s : State) (r : Fin 9) (mv : BitVec 16) (x : Dev), mv.toNat < s.dev.gf (Reg.smonRail r.val) 16 16 → x = s.dev.sb (Reg.smonRail r.val) 48 true →
        (s.dev.gb Reg.smonStat 0 = false → s.dev.islandOk 44 = false → ∃ e : Dev, exec (.supplyWarning r mv) s = .next { s with dev := e }
          ∧ e.gb Reg.smonStat 0 = true ∧ e.gf Reg.smonStat 2 4 = r.val ∧ e.gf Reg.smonStat 32 16 = mv.toNat
          ∧ e.gf Reg.smonStat 16 16 = min 65535 (s.dev.gf Reg.smonStat 16 16 + 1) ∧ e.pwr.dipAt = some s.dev.tim.up)
        ∧ (∀ y : Dev, s.dev.gb Reg.smonStat 0 = false → s.dev.islandOk 44 = true →
            y = (((x.sb Reg.smonStat 0 true).sf Reg.smonStat 16 16 (min 65535 (s.dev.gf Reg.smonStat 16 16 + 1))).sf Reg.smonStat 2 4 r.val).sf
              Reg.smonStat 32 16 mv.toNat →
            exec (.supplyWarning r mv) s = .next { s with dev :=
              (({ y with pwr := { y.pwr with dipAt := some y.tim.up } } : Dev).raise 22 0 0x10 r.val).sb Reg.fwdTsqStat 1 true })
        ∧ (s.dev.gb Reg.smonStat 0 = true → s.dev.pwr.dipAt = some s.dev.tim.up → r.val < s.dev.gf Reg.smonStat 2 4 →
            exec (.supplyWarning r mv) s = .next { s with dev := x.dipRail r.val mv.toNat })
        ∧ (s.dev.gb Reg.smonStat 0 = true → s.dev.pwr.dipAt ≠ some s.dev.tim.up ∨ s.dev.gf Reg.smonStat 2 4 ≤ r.val →
            exec (.supplyWarning r mv) s = .next { s with dev :=
              (if s.dev.gf Reg.smonStat 2 4 = r.val ∧ mv.toNat < s.dev.gf Reg.smonStat 32 16 then x.sf Reg.smonStat 32 16 mv.toNat else x) }))
    ∧ (∀ (s : State) (r : Fin 9) (mv : BitVec 16), s.dev.gf (Reg.smonRail r.val) 16 16 ≤ mv.toNat → exec (.supplyWarning r mv) s = .next s)
    ∧ (∀ (d : Dev) (r mv : Nat), r < 16 → mv < 65536 → (d.dipRail r mv).gf Reg.smonStat 2 4 = r ∧ (d.dipRail r mv).gf Reg.smonStat 32 16 = mv
        ∧ (d.dipRail r mv).gf Reg.smonStat 16 16 = d.gf Reg.smonStat 16 16)
    ∧ (∀ (s : State) (r : Fin 9) (x : Dev), s.dev.gb (Reg.smonRail r.val) 48 = true →
        x = (s.dev.sb (Reg.smonRail r.val) 48 false).sb (Reg.smonRail r.val) 49 false →
        (x.lowRails ≠ [] → exec (.supplyRecover r) s = .next { s with dev := x })
        ∧ (x.lowRails = [] → ∃ e : Dev, exec (.supplyRecover r) s = .next { s with dev := e } ∧ e.gb Reg.smonStat 0 = false
            ∧ e.gb Reg.fwdTsqStat 1 = false ∧ e.pwr.dipAt = none ∧ e.pwr.okSince = s.dev.tim.up))
    ∧ (∀ (s : State) (t : Nat) (x : Dev), s.dev.pwr.dipAt = some t → s.dev.tim.up ≤ t + 50 * usU →
        x = { s.dev.waitUp (t + 50 * usU) with pwr := { (s.dev.waitUp (t + 50 * usU)).pwr with dipAt := none } } →
        (x.pwrState ≠ 2 → x.pwr.keep = false → x.halted = false →
          exec .dipTimerExpiry s = .next (({ s with dev := x.stopAll.inc Reg.smonLongCnt } : State).toStandby 2))
        ∧ (x.halted = true ∨ x.pwr.keep = true ∨ (x.pwrState = 2 ∧ x.gb Reg.pwrStat 2 = false) → exec .dipTimerExpiry s = .next { s with dev := x }))
    ∧ (∀ (s : State) (r : Fin 9) (e : Dev), exec (.keepEntry r) s = .next { s with dev := e } →
        e.pwr.crossed = true ∧ (s.dev.pwr.keep = false → e.pwr.keep = true ∧ e.hq.link = .down ∧ e.tim.ppsOut = false ∧ e.tim.clk10 = false
          ∧ (∀ t, s.dev.tim.keepTime = some t → e.tim.keepTime = some t) ∧ e.tim.keepTime.isSome = true))
    ∧ (∀ (s : State) (r : Fin 9), ∃ e : Dev, exec (.keepEntry r) s = .next { s with dev := { e with pwr := { e.pwr with crossed := true } } })
    ∧ (∀ (s : State), exec (.keepSupplyWarning true) s = .next { s with dev := (s.dev.sb Reg.smonStat 1 true).sb (Reg.smonRail 9) 48 true }
        ∧ exec (.keepSupplyWarning false) s = .next { s with dev := ((s.dev.sb Reg.smonStat 1 false).sb (Reg.smonRail 9) 48 false).sb (Reg.smonRail 9) 49 false })
    ∧ (∀ (s : State), ∃ e : Dev, exec .keepSupplyReset s = .next { s with dev := e } ∧ e.pwr.keepLost = true ∧ e.pwr.keep = true
        ∧ e.tim.keepTime = none ∧ e.hq.link = .down)
    ∧ (∀ (s : State) (r : Req) (v : Word), s.takes r Reg.smonClr →
        (s.dev.pwr.dipAt ≠ some s.dev.tim.up → exec (.smonClear r v) s = .next { s with dev := (s.dev.sf Reg.smonStat 16 16 0).sf Reg.smonStat 32 16 0 })
        ∧ (s.dev.pwr.dipAt = some s.dev.tim.up → exec (.smonClear r v) s = .next { s with dev := s.dev.sf Reg.smonStat 16 16 1 }))
    ∧ (∀ (s : State) (bad : BitVec 7) (x : Dev), s.dev.awaitsPower = true → s.dev.lowRails = [] → s.dev.gb (Reg.smonRail 9) 49 = false →
        exec (.powerOnReset bad) s = .next { s with dev := x, fq := [] } → x.pwr.keep = false ∧ x.gf Reg.calbStat 1 7 = bad.toNat
          ∧ x.gb Reg.calbStat 0 = true)
    ∧ (∀ (s : State) (bad : BitVec 7), s.dev.awaitsPower = true → s.dev.lowRails = [] → s.dev.gb (Reg.smonRail 9) 49 = false →
        ∃ x : Dev, exec (.powerOnReset bad) s = .next { s with dev := x, fq := [] })
    ∧ (∀ (s : State) (bad : BitVec 7), s.dev.awaitsPower = false → exec (.powerOnReset bad) s = .next s)
    ∧ (∀ (s : State) (k : Fin 4) (x : Dev), s.dev.islandOk 44 = true → s.dev.gb Reg.clkStat k.val = true →
        x = (s.dev.sb Reg.clkStat k.val false).inc (Reg.clkLossCnt k.val) →
        (k = 0 → exec (.referenceLoss k) s = .next { s with dev := (x.raise 19 0 0x10 0).hotReset.sb Reg.clkStat 4 true })
        ∧ (k = 1 → exec (.referenceLoss k) s = .next { s with dev := ((List.range 36).foldl (fun (x : Dev) p => x.forceDown p)
            ((x.raise 19 0 0x10 1).clockLost 1 0)) })
        ∧ (k = 2 → exec (.referenceLoss k) s = .next { s with dev := ((x.raise 19 0 0x10 2).clockLost 2 (10 * usU)).sb Reg.clkStat 5 true })
        ∧ (k = 3 → exec (.referenceLoss k) s = .next { s with dev := x.sb Reg.clkStat 6 true }))
    ∧ (∀ (s : State) (k : Fin 4) (x : Dev), s.dev.islandOk 44 = true → s.dev.gb Reg.clkStat k.val = false → x = s.dev.sb Reg.clkStat k.val true →
        exec (.referenceReturn k) s = .next { s with dev := (if k = 0 then x.sb Reg.clkStat 4 false else if k = 1 then x
          else if k = 2 then x.sb Reg.clkStat 5 false else x.sb Reg.clkStat 6 false) }))
  ∧ ((∀ (d : Dev) (msg : Word), (d.halt msg).pwr.keepLost = false → (d.halt msg).haltPin = .low)
    ∧ (∀ (s : State) (r : Fin 9) (e : Dev), exec (.keepEntry r) s = .next { s with dev := e } →
        e.faultPin = .z ∧ (∀ a, e.bypassPin a = .low ∨ e.bypassPin a = .z) ∧ ∀ b, e.timePin b = .low)
    ∧ (∀ (s : State) (e : Dev), exec .keepSupplyReset s = .next { s with dev := e } → e.haltPin = .z ∧ (∀ a, e.bypassPin a = .z) ∧ e.faultPin = .z)
    ∧ (∀ (d : Dev) (i : Nat), i < 48 → d.gb Reg.glbIslandFenced i = true → d.gb Reg.pwrDomStat 62 = true → d.pwr.keep = false → d.pinSync.faultPin = .low)
    ∧ (∀ (d : Dev), d.gb Reg.fltStat 4 = false → d.faultPin = .z))
end

