-- ==== Sys2Proof/Laws/Bits.lean ====
section
/-! SUPPORT. Bit fields: what a word reads after a field or a bit of it was replaced. -/

namespace Sys2Proof.Machine

theorem setF_num (X lo w v : Nat) :
    X - ((X >>> lo) % 2 ^ w) * 2 ^ lo + (v % 2 ^ w) * 2 ^ lo
      = 2 ^ lo * (2 ^ w * (X >>> lo / 2 ^ w) + v % 2 ^ w) + X % 2 ^ lo := by
  have h1 : 2 ^ lo * (X >>> lo) + X % 2 ^ lo = X := by rw [Nat.shiftRight_eq_div_pow]; exact Nat.div_add_mod _ _
  have h2 : 2 ^ w * (X >>> lo / 2 ^ w) + (X >>> lo) % 2 ^ w = X >>> lo := Nat.div_add_mod _ _
  generalize X >>> lo = y at *
  have h3 : 2 ^ lo * (2 ^ w * (y / 2 ^ w)) + 2 ^ lo * (y % 2 ^ w) = 2 ^ lo * y := by rw [← Nat.mul_add, h2]
  rw [Nat.mul_add, Nat.mul_comm (y % 2 ^ w), Nat.mul_comm (v % 2 ^ w)]
  omega

theorem setF_testBit (X lo w v i : Nat) :
    (X - ((X >>> lo) % 2 ^ w) * 2 ^ lo + (v % 2 ^ w) * 2 ^ lo).testBit i
      = if lo ≤ i ∧ i < lo + w then v.testBit (i - lo) else X.testBit i := by
  rw [setF_num, Nat.testBit_two_pow_mul_add _ (Nat.mod_lt _ (Nat.two_pow_pos lo)),
    Nat.testBit_two_pow_mul_add _ (Nat.mod_lt _ (Nat.two_pow_pos w))]
  by_cases h1 : i < lo
  · simp [h1, Nat.testBit_mod_two_pow, show ¬ (lo ≤ i) by omega]
  · by_cases h2 : i - lo < w
    · simp [h1, h2, Nat.testBit_mod_two_pow, show lo ≤ i by omega, show i < lo + w by omega]
    · have e : lo + (i - lo - w + w) = i := by omega
      simp [h1, h2, show ¬ (i < lo + w) by omega, Nat.testBit_div_two_pow, Nat.testBit_shiftRight, e]

theorem setF_lt (X lo w v : Nat) (hx : X < 2 ^ 64) (h : lo + w ≤ 64) :
    X - ((X >>> lo) % 2 ^ w) * 2 ^ lo + (v % 2 ^ w) * 2 ^ lo < 2 ^ 64 := by
  refine Nat.lt_pow_two_of_testBit _ fun i hi => ?_
  rw [setF_testBit, if_neg (by omega)]
  exact Nat.testBit_lt_two_pow (Nat.lt_of_lt_of_le hx (Nat.pow_le_pow_right (by decide) hi))

theorem toNat_setF (x : Word) {lo w : Nat} (v : Nat) (h : lo + w ≤ 64) :
    (setF x lo w v).toNat = x.toNat - ((x.toNat >>> lo) % 2 ^ w) * 2 ^ lo + (v % 2 ^ w) * 2 ^ lo := by
  unfold setF
  rw [BitVec.toNat_ofNat, Nat.mod_eq_of_lt (setF_lt _ _ _ _ x.isLt h)]

/-- A bit of a word whose field was replaced. -/
theorem getB_setF (x : Word) {lo w : Nat} (v i : Nat) (h : lo + w ≤ 64) :
    getB (setF x lo w v) i = if lo ≤ i ∧ i < lo + w then v.testBit (i - lo) else getB x i := by
  unfold getB; rw [toNat_setF x v h, setF_testBit]

/-- A bit that was set or cleared reads so; every other bit is as before. -/
theorem getB_setB (x : Word) {i : Nat} (b : Bool) (j : Nat) (h : i < 64) : getB (setB x i b) j = if j = i then b else getB x j := by
  unfold setB; rw [getB_setF _ _ _ (by omega)]
  by_cases hj : j = i
  · subst hj; cases b <;> simp
  · rw [if_neg (by omega), if_neg hj]

/-- A field that was written reads the low bits of what was written. -/
theorem getF_setF_self (x : Word) {lo w : Nat} (v : Nat) (h : lo + w ≤ 64) : getF (setF x lo w v) lo w = v % 2 ^ w := by
  unfold getF
  apply Nat.eq_of_testBit_eq
  intro i
  rw [Nat.testBit_mod_two_pow, Nat.testBit_shiftRight, Nat.testBit_mod_two_pow]
  have := getB_setF x v (lo + i) h
  unfold getB at this
  rw [this]
  by_cases hi : i < w
  · simp [hi]
  · simp [hi]

/-- A field of a word is as before where another field, disjoint from it, was written. -/
theorem getF_setF_ne (x : Word) {lo w lo' w' : Nat} (v : Nat) (h : lo + w ≤ 64) (hd : lo' + w' ≤ lo ∨ lo + w ≤ lo') :
    getF (setF x lo w v) lo' w' = getF x lo' w' := by
  unfold getF
  apply Nat.eq_of_testBit_eq
  intro i
  rw [Nat.testBit_mod_two_pow, Nat.testBit_shiftRight, Nat.testBit_mod_two_pow, Nat.testBit_shiftRight]
  by_cases hi : i < w'
  · have := getB_setF x v (lo' + i) h
    unfold getB at this
    rw [this, if_neg (by omega)]
  · simp [hi]

theorem getF_one (x : Word) (i : Nat) : getF x i 1 = bit (getB x i) := by
  unfold getF getB bit
  have h : (x.toNat >>> i).testBit 0 = x.toNat.testBit i := by simp [Nat.testBit_shiftRight]
  rw [← h, Nat.testBit_zero]
  rcases Nat.mod_two_eq_zero_or_one (x.toNat >>> i) with e | e <;> simp [e]

end Sys2Proof.Machine
end

