-- ==== Sys2Proof/Laws/Sparse.lean ====
section
/-! SUPPORT. Sparse maps: what a lookup gives after a key is written, replaced or removed, and that every operation keeps the canonical
form. -/

namespace Sys2Proof.Machine

theorem find_put_self {α : Type} (m : Sparse α) (k : Nat) (v : α) : Sparse.find (Sparse.put m k v) k = some v := by
  induction m with
  | nil => simp [Sparse.put, Sparse.find]
  | cons e t ih =>
    obtain ⟨k', v'⟩ := e
    simp only [Sparse.put]
    split
    · simp [Sparse.find]
    · split
      · simp [Sparse.find]
      · rename_i h2; simp [Sparse.find, h2, ih]

theorem find_put_ne {α : Type} (m : Sparse α) {k j : Nat} (v : α) (h : j ≠ k) : Sparse.find (Sparse.put m k v) j = Sparse.find m j := by
  induction m with
  | nil => simp [Sparse.put, Sparse.find, Ne.symm h]
  | cons e t ih =>
    obtain ⟨k', v'⟩ := e
    simp only [Sparse.put]
    split
    · simp [Sparse.find, Ne.symm h]
    · split
      · rename_i h2; subst h2; simp [Sparse.find, Ne.symm h]
      · simp only [Sparse.find, ih]

theorem find_filter_of_keep {α : Type} (m : Sparse α) (p : Nat → Bool) {j : Nat} (h : p j = true) :
    Sparse.find (m.filter (fun e => p e.1)) j = Sparse.find m j := by
  induction m with
  | nil => rfl
  | cons e t ih =>
    obtain ⟨k', v'⟩ := e
    by_cases hk : p k' = true
    · simp only [List.filter, hk, Sparse.find, ih]
    · have hj : k' ≠ j := fun hh => hk (hh ▸ h)
      simp only [List.filter, hk, Sparse.find, ih, hj, if_false]

theorem find_filter_of_drop {α : Type} (m : Sparse α) (p : Nat → Bool) {j : Nat} (h : p j = false) :
    Sparse.find (m.filter (fun e => p e.1)) j = none := by
  induction m with
  | nil => rfl
  | cons e t ih =>
    obtain ⟨k', v'⟩ := e
    by_cases hk : p k' = true
    · have hj : k' ≠ j := fun hh => by rw [hh, h] at hk; cases hk
      simp only [List.filter, hk, Sparse.find, ih, hj, if_false]
    · simp only [List.filter, hk, ih]

theorem find_del_self {α : Type} (m : Sparse α) (k : Nat) : Sparse.find (Sparse.del m k) k = none :=
  find_filter_of_drop m (fun j => j != k) (by simp)

theorem find_del_ne {α : Type} (m : Sparse α) {k j : Nat} (h : j ≠ k) : Sparse.find (Sparse.del m k) j = Sparse.find m j :=
  find_filter_of_keep m (fun i => i != k) (by simp [h])

/-- A key reads what was written to it. -/
@[simp] theorem getD_setD_self {α : Type} [DecidableEq α] (m : Sparse α) (k : Nat) (d v : α) :
    Sparse.getD (Sparse.setD m k d v) k d = v := by
  unfold Sparse.getD Sparse.setD
  split
  · rename_i h; simp [find_del_self, h]
  · simp [find_put_self]

/-- A write leaves every other key alone. -/
theorem getD_setD_ne {α : Type} [DecidableEq α] (m : Sparse α) {k j : Nat} (d v e : α) (h : j ≠ k) :
    Sparse.getD (Sparse.setD m k d v) j e = Sparse.getD m j e := by
  unfold Sparse.getD Sparse.setD
  split
  · rw [find_del_ne m h]
  · rw [find_put_ne m v h]

/-- A key reads what was put under it. -/
@[simp] theorem getD_put_self {α : Type} (m : Sparse α) (k : Nat) (v e : α) : Sparse.getD (Sparse.put m k v) k e = v := by
  simp [Sparse.getD, find_put_self]

/-- A put leaves every other key alone. -/
theorem getD_put_ne {α : Type} (m : Sparse α) {k j : Nat} (v e : α) (h : j ≠ k) :
    Sparse.getD (Sparse.put m k v) j e = Sparse.getD m j e := by
  simp [Sparse.getD, find_put_ne m v h]

/-! ### The canonical form -/

theorem sorted_tail {α : Type} {e : Nat × α} {t : Sparse α} (h : Sparse.sorted (e :: t) = true) : Sparse.sorted t = true := by
  cases t with
  | nil => rfl
  | cons f u => simp [Sparse.sorted] at h; exact h.2

theorem sorted_cons_iff {α : Type} (e : Nat × α) (t : Sparse α) :
    Sparse.sorted (e :: t) = true ↔ (∀ f ∈ t, e.1 < f.1) ∧ Sparse.sorted t = true := by
  induction t generalizing e with
  | nil => simp [Sparse.sorted]
  | cons f u ih =>
    constructor
    · intro h
      simp only [Sparse.sorted, Bool.and_eq_true, decide_eq_true_eq] at h
      refine ⟨?_, h.2⟩
      intro g hg
      rcases List.mem_cons.mp hg with rfl | hg
      · exact h.1
      · exact Nat.lt_trans h.1 (((ih f).mp h.2).1 g hg)
    · rintro ⟨h1, h2⟩
      simp only [Sparse.sorted, Bool.and_eq_true, decide_eq_true_eq]
      exact ⟨h1 f (List.mem_cons_self ..), h2⟩

theorem sorted_filter {α : Type} (m : Sparse α) (p : Nat × α → Bool) (h : Sparse.sorted m = true) :
    Sparse.sorted (m.filter p) = true := by
  induction m with
  | nil => rfl
  | cons e t ih =>
    have ⟨h1, h2⟩ := (sorted_cons_iff e t).mp h
    by_cases hp : p e = true
    · simp only [List.filter, hp]
      exact (sorted_cons_iff _ _).mpr ⟨fun f hf => h1 f (List.mem_filter.mp hf).1, ih h2⟩
    · simp only [List.filter, hp]; exact ih h2

theorem mem_put {α : Type} {m : Sparse α} {k : Nat} {v : α} {f : Nat × α} (h : f ∈ Sparse.put m k v) : f = (k, v) ∨ f ∈ m := by
  induction m with
  | nil => simpa [Sparse.put] using h
  | cons e t ih =>
    obtain ⟨k', v'⟩ := e
    simp only [Sparse.put] at h
    split at h
    · rcases List.mem_cons.mp h with h | h
      · exact .inl h
      · exact .inr h
    · split at h
      · rcases List.mem_cons.mp h with h | h
        · exact .inl h
        · exact .inr (List.mem_cons_of_mem _ h)
      · rcases List.mem_cons.mp h with h | h
        · exact .inr (h ▸ List.mem_cons_self ..)
        · rcases ih h with h | h
          · exact .inl h
          · exact .inr (List.mem_cons_of_mem _ h)

theorem sorted_put {α : Type} (m : Sparse α) (k : Nat) (v : α) (h : Sparse.sorted m = true) : Sparse.sorted (Sparse.put m k v) = true := by
  induction m with
  | nil => rfl
  | cons e t ih =>
    obtain ⟨k', v'⟩ := e
    have ⟨h1, h2⟩ := (sorted_cons_iff _ t).mp h
    simp only [Sparse.put]
    split
    · rename_i hlt
      exact (sorted_cons_iff _ _).mpr ⟨fun f hf => by
        rcases List.mem_cons.mp hf with rfl | hf
        · exact hlt
        · exact Nat.lt_trans hlt (h1 f hf), h⟩
    · rename_i hnlt
      split
      · rename_i heq; subst heq
        exact (sorted_cons_iff _ _).mpr ⟨h1, h2⟩
      · rename_i hne
        exact (sorted_cons_iff _ _).mpr ⟨fun f hf => by
          rcases mem_put hf with rfl | hf
          · simp at hne ⊢; omega
          · exact h1 f hf, ih h2⟩

theorem sorted_setD {α : Type} [DecidableEq α] (m : Sparse α) (k : Nat) (d v : α) (h : Sparse.sorted m = true) :
    Sparse.sorted (Sparse.setD m k d v) = true := by
  unfold Sparse.setD
  split
  · exact sorted_filter m _ h
  · exact sorted_put m k v h

theorem all_setD {α : Type} [DecidableEq α] (m : Sparse α) (k : Nat) (d : Nat → α) (v : α) (h : ∀ e ∈ m, e.2 ≠ d e.1) :
    ∀ e ∈ Sparse.setD m k (d k) v, e.2 ≠ d e.1 := by
  intro e he
  unfold Sparse.setD at he
  split at he
  · exact h e (List.mem_filter.mp he).1
  · rename_i hv
    rcases mem_put he with rfl | he
    · exact hv
    · exact h e he

end Sys2Proof.Machine
end

