-- ==== Sys2Proof/Laws/State.lean ====
section
/-! SUPPORT. One lemma per field and update of the device: which field an update leaves as it was, and what the changed one holds. -/

namespace Sys2Proof.Machine

variable (d : Dev)

/-! ### `Dev.wr` -/

@[simp] theorem wr_hold (a : Nat) (v : Word) : (d.wr a v).hold = d.hold := (rfl)
@[simp] theorem wr_mem (a : Nat) (v : Word) : (d.wr a v).mem = d.mem := (rfl)
@[simp] theorem wr_bad (a : Nat) (v : Word) : (d.wr a v).bad = d.bad := (rfl)
@[simp] theorem wr_soft (a : Nat) (v : Word) : (d.wr a v).soft = d.soft := (rfl)
@[simp] theorem wr_rdata (a : Nat) (v : Word) : (d.wr a v).rdata = d.rdata := (rfl)
@[simp] theorem wr_out (a : Nat) (v : Word) : (d.wr a v).out = d.out := (rfl)
@[simp] theorem wr_free (a : Nat) (v : Word) : (d.wr a v).free = d.free := (rfl)
@[simp] theorem wr_snap (a : Nat) (v : Word) : (d.wr a v).snap = d.snap := (rfl)
@[simp] theorem wr_tim (a : Nat) (v : Word) : (d.wr a v).tim = d.tim := (rfl)
@[simp] theorem wr_flt (a : Nat) (v : Word) : (d.wr a v).flt = d.flt := (rfl)
@[simp] theorem wr_hq (a : Nat) (v : Word) : (d.wr a v).hq = d.hq := (rfl)
@[simp] theorem wr_xlt (a : Nat) (v : Word) : (d.wr a v).xlt = d.xlt := (rfl)
@[simp] theorem wr_cal (a : Nat) (v : Word) : (d.wr a v).cal = d.cal := (rfl)
@[simp] theorem wr_rng (a : Nat) (v : Word) : (d.wr a v).rng = d.rng := (rfl)
@[simp] theorem wr_str (a : Nat) (v : Word) : (d.wr a v).str = d.str := (rfl)
@[simp] theorem wr_mgmt (a : Nat) (v : Word) : (d.wr a v).mgmt = d.mgmt := (rfl)
@[simp] theorem wr_fwd (a : Nat) (v : Word) : (d.wr a v).fwd = d.fwd := (rfl)
@[simp] theorem wr_dma (a : Nat) (v : Word) : (d.wr a v).dma = d.dma := (rfl)
@[simp] theorem wr_sol (a : Nat) (v : Word) : (d.wr a v).sol = d.sol := (rfl)
@[simp] theorem wr_mbx (a : Nat) (v : Word) : (d.wr a v).mbx = d.mbx := (rfl)
@[simp] theorem wr_pwr (a : Nat) (v : Word) : (d.wr a v).pwr = d.pwr := (rfl)
@[simp] theorem wr_ports (a : Nat) (v : Word) : (d.wr a v).ports = d.ports := (rfl)
@[simp] theorem wr_frames (a : Nat) (v : Word) : (d.wr a v).frames = d.frames := (rfl)
@[simp] theorem wr_nextFrame (a : Nat) (v : Word) : (d.wr a v).nextFrame = d.nextFrame := (rfl)

/-! ### `Dev.sf` -/

@[simp] theorem sf_hold (a lo w v : Nat) : (d.sf a lo w v).hold = d.hold := (rfl)
@[simp] theorem sf_mem (a lo w v : Nat) : (d.sf a lo w v).mem = d.mem := (rfl)
@[simp] theorem sf_bad (a lo w v : Nat) : (d.sf a lo w v).bad = d.bad := (rfl)
@[simp] theorem sf_soft (a lo w v : Nat) : (d.sf a lo w v).soft = d.soft := (rfl)
@[simp] theorem sf_rdata (a lo w v : Nat) : (d.sf a lo w v).rdata = d.rdata := (rfl)
@[simp] theorem sf_out (a lo w v : Nat) : (d.sf a lo w v).out = d.out := (rfl)
@[simp] theorem sf_free (a lo w v : Nat) : (d.sf a lo w v).free = d.free := (rfl)
@[simp] theorem sf_snap (a lo w v : Nat) : (d.sf a lo w v).snap = d.snap := (rfl)
@[simp] theorem sf_tim (a lo w v : Nat) : (d.sf a lo w v).tim = d.tim := (rfl)
@[simp] theorem sf_flt (a lo w v : Nat) : (d.sf a lo w v).flt = d.flt := (rfl)
@[simp] theorem sf_hq (a lo w v : Nat) : (d.sf a lo w v).hq = d.hq := (rfl)
@[simp] theorem sf_xlt (a lo w v : Nat) : (d.sf a lo w v).xlt = d.xlt := (rfl)
@[simp] theorem sf_cal (a lo w v : Nat) : (d.sf a lo w v).cal = d.cal := (rfl)
@[simp] theorem sf_rng (a lo w v : Nat) : (d.sf a lo w v).rng = d.rng := (rfl)
@[simp] theorem sf_str (a lo w v : Nat) : (d.sf a lo w v).str = d.str := (rfl)
@[simp] theorem sf_mgmt (a lo w v : Nat) : (d.sf a lo w v).mgmt = d.mgmt := (rfl)
@[simp] theorem sf_fwd (a lo w v : Nat) : (d.sf a lo w v).fwd = d.fwd := (rfl)
@[simp] theorem sf_dma (a lo w v : Nat) : (d.sf a lo w v).dma = d.dma := (rfl)
@[simp] theorem sf_sol (a lo w v : Nat) : (d.sf a lo w v).sol = d.sol := (rfl)
@[simp] theorem sf_mbx (a lo w v : Nat) : (d.sf a lo w v).mbx = d.mbx := (rfl)
@[simp] theorem sf_pwr (a lo w v : Nat) : (d.sf a lo w v).pwr = d.pwr := (rfl)
@[simp] theorem sf_ports (a lo w v : Nat) : (d.sf a lo w v).ports = d.ports := (rfl)
@[simp] theorem sf_frames (a lo w v : Nat) : (d.sf a lo w v).frames = d.frames := (rfl)
@[simp] theorem sf_nextFrame (a lo w v : Nat) : (d.sf a lo w v).nextFrame = d.nextFrame := (rfl)

/-! ### `Dev.sb` -/

@[simp] theorem sb_hold (a i : Nat) (b : Bool) : (d.sb a i b).hold = d.hold := (rfl)
@[simp] theorem sb_mem (a i : Nat) (b : Bool) : (d.sb a i b).mem = d.mem := (rfl)
@[simp] theorem sb_bad (a i : Nat) (b : Bool) : (d.sb a i b).bad = d.bad := (rfl)
@[simp] theorem sb_soft (a i : Nat) (b : Bool) : (d.sb a i b).soft = d.soft := (rfl)
@[simp] theorem sb_rdata (a i : Nat) (b : Bool) : (d.sb a i b).rdata = d.rdata := (rfl)
@[simp] theorem sb_out (a i : Nat) (b : Bool) : (d.sb a i b).out = d.out := (rfl)
@[simp] theorem sb_free (a i : Nat) (b : Bool) : (d.sb a i b).free = d.free := (rfl)
@[simp] theorem sb_snap (a i : Nat) (b : Bool) : (d.sb a i b).snap = d.snap := (rfl)
@[simp] theorem sb_tim (a i : Nat) (b : Bool) : (d.sb a i b).tim = d.tim := (rfl)
@[simp] theorem sb_flt (a i : Nat) (b : Bool) : (d.sb a i b).flt = d.flt := (rfl)
@[simp] theorem sb_hq (a i : Nat) (b : Bool) : (d.sb a i b).hq = d.hq := (rfl)
@[simp] theorem sb_xlt (a i : Nat) (b : Bool) : (d.sb a i b).xlt = d.xlt := (rfl)
@[simp] theorem sb_cal (a i : Nat) (b : Bool) : (d.sb a i b).cal = d.cal := (rfl)
@[simp] theorem sb_rng (a i : Nat) (b : Bool) : (d.sb a i b).rng = d.rng := (rfl)
@[simp] theorem sb_str (a i : Nat) (b : Bool) : (d.sb a i b).str = d.str := (rfl)
@[simp] theorem sb_mgmt (a i : Nat) (b : Bool) : (d.sb a i b).mgmt = d.mgmt := (rfl)
@[simp] theorem sb_fwd (a i : Nat) (b : Bool) : (d.sb a i b).fwd = d.fwd := (rfl)
@[simp] theorem sb_dma (a i : Nat) (b : Bool) : (d.sb a i b).dma = d.dma := (rfl)
@[simp] theorem sb_sol (a i : Nat) (b : Bool) : (d.sb a i b).sol = d.sol := (rfl)
@[simp] theorem sb_mbx (a i : Nat) (b : Bool) : (d.sb a i b).mbx = d.mbx := (rfl)
@[simp] theorem sb_pwr (a i : Nat) (b : Bool) : (d.sb a i b).pwr = d.pwr := (rfl)
@[simp] theorem sb_ports (a i : Nat) (b : Bool) : (d.sb a i b).ports = d.ports := (rfl)
@[simp] theorem sb_frames (a i : Nat) (b : Bool) : (d.sb a i b).frames = d.frames := (rfl)
@[simp] theorem sb_nextFrame (a i : Nat) (b : Bool) : (d.sb a i b).nextFrame = d.nextFrame := (rfl)

/-! ### `Dev.addCnt` -/

@[simp] theorem addCnt_hold (a n : Nat) : (d.addCnt a n).hold = d.hold := (rfl)
@[simp] theorem addCnt_mem (a n : Nat) : (d.addCnt a n).mem = d.mem := (rfl)
@[simp] theorem addCnt_bad (a n : Nat) : (d.addCnt a n).bad = d.bad := (rfl)
@[simp] theorem addCnt_soft (a n : Nat) : (d.addCnt a n).soft = d.soft := (rfl)
@[simp] theorem addCnt_rdata (a n : Nat) : (d.addCnt a n).rdata = d.rdata := (rfl)
@[simp] theorem addCnt_out (a n : Nat) : (d.addCnt a n).out = d.out := (rfl)
@[simp] theorem addCnt_free (a n : Nat) : (d.addCnt a n).free = d.free := (rfl)
@[simp] theorem addCnt_snap (a n : Nat) : (d.addCnt a n).snap = d.snap := (rfl)
@[simp] theorem addCnt_tim (a n : Nat) : (d.addCnt a n).tim = d.tim := (rfl)
@[simp] theorem addCnt_flt (a n : Nat) : (d.addCnt a n).flt = d.flt := (rfl)
@[simp] theorem addCnt_hq (a n : Nat) : (d.addCnt a n).hq = d.hq := (rfl)
@[simp] theorem addCnt_xlt (a n : Nat) : (d.addCnt a n).xlt = d.xlt := (rfl)
@[simp] theorem addCnt_cal (a n : Nat) : (d.addCnt a n).cal = d.cal := (rfl)
@[simp] theorem addCnt_rng (a n : Nat) : (d.addCnt a n).rng = d.rng := (rfl)
@[simp] theorem addCnt_str (a n : Nat) : (d.addCnt a n).str = d.str := (rfl)
@[simp] theorem addCnt_mgmt (a n : Nat) : (d.addCnt a n).mgmt = d.mgmt := (rfl)
@[simp] theorem addCnt_fwd (a n : Nat) : (d.addCnt a n).fwd = d.fwd := (rfl)
@[simp] theorem addCnt_dma (a n : Nat) : (d.addCnt a n).dma = d.dma := (rfl)
@[simp] theorem addCnt_sol (a n : Nat) : (d.addCnt a n).sol = d.sol := (rfl)
@[simp] theorem addCnt_mbx (a n : Nat) : (d.addCnt a n).mbx = d.mbx := (rfl)
@[simp] theorem addCnt_pwr (a n : Nat) : (d.addCnt a n).pwr = d.pwr := (rfl)
@[simp] theorem addCnt_ports (a n : Nat) : (d.addCnt a n).ports = d.ports := (rfl)
@[simp] theorem addCnt_frames (a n : Nat) : (d.addCnt a n).frames = d.frames := (rfl)
@[simp] theorem addCnt_nextFrame (a n : Nat) : (d.addCnt a n).nextFrame = d.nextFrame := (rfl)

/-! ### `Dev.inc` -/

@[simp] theorem inc_hold (a : Nat) : (d.inc a).hold = d.hold := (rfl)
@[simp] theorem inc_mem (a : Nat) : (d.inc a).mem = d.mem := (rfl)
@[simp] theorem inc_bad (a : Nat) : (d.inc a).bad = d.bad := (rfl)
@[simp] theorem inc_soft (a : Nat) : (d.inc a).soft = d.soft := (rfl)
@[simp] theorem inc_rdata (a : Nat) : (d.inc a).rdata = d.rdata := (rfl)
@[simp] theorem inc_out (a : Nat) : (d.inc a).out = d.out := (rfl)
@[simp] theorem inc_free (a : Nat) : (d.inc a).free = d.free := (rfl)
@[simp] theorem inc_snap (a : Nat) : (d.inc a).snap = d.snap := (rfl)
@[simp] theorem inc_tim (a : Nat) : (d.inc a).tim = d.tim := (rfl)
@[simp] theorem inc_flt (a : Nat) : (d.inc a).flt = d.flt := (rfl)
@[simp] theorem inc_hq (a : Nat) : (d.inc a).hq = d.hq := (rfl)
@[simp] theorem inc_xlt (a : Nat) : (d.inc a).xlt = d.xlt := (rfl)
@[simp] theorem inc_cal (a : Nat) : (d.inc a).cal = d.cal := (rfl)
@[simp] theorem inc_rng (a : Nat) : (d.inc a).rng = d.rng := (rfl)
@[simp] theorem inc_str (a : Nat) : (d.inc a).str = d.str := (rfl)
@[simp] theorem inc_mgmt (a : Nat) : (d.inc a).mgmt = d.mgmt := (rfl)
@[simp] theorem inc_fwd (a : Nat) : (d.inc a).fwd = d.fwd := (rfl)
@[simp] theorem inc_dma (a : Nat) : (d.inc a).dma = d.dma := (rfl)
@[simp] theorem inc_sol (a : Nat) : (d.inc a).sol = d.sol := (rfl)
@[simp] theorem inc_mbx (a : Nat) : (d.inc a).mbx = d.mbx := (rfl)
@[simp] theorem inc_pwr (a : Nat) : (d.inc a).pwr = d.pwr := (rfl)
@[simp] theorem inc_ports (a : Nat) : (d.inc a).ports = d.ports := (rfl)
@[simp] theorem inc_frames (a : Nat) : (d.inc a).frames = d.frames := (rfl)
@[simp] theorem inc_nextFrame (a : Nat) : (d.inc a).nextFrame = d.nextFrame := (rfl)

/-! ### `Dev.stB` -/

@[simp] theorem stB_regs (a : Nat) (b : Byte) : (d.stB a b).regs = d.regs := (rfl)
@[simp] theorem stB_hold (a : Nat) (b : Byte) : (d.stB a b).hold = d.hold := (rfl)
@[simp] theorem stB_bad (a : Nat) (b : Byte) : (d.stB a b).bad = d.bad := (rfl)
@[simp] theorem stB_soft (a : Nat) (b : Byte) : (d.stB a b).soft = d.soft := (rfl)
@[simp] theorem stB_rdata (a : Nat) (b : Byte) : (d.stB a b).rdata = d.rdata := (rfl)
@[simp] theorem stB_out (a : Nat) (b : Byte) : (d.stB a b).out = d.out := (rfl)
@[simp] theorem stB_free (a : Nat) (b : Byte) : (d.stB a b).free = d.free := (rfl)
@[simp] theorem stB_snap (a : Nat) (b : Byte) : (d.stB a b).snap = d.snap := (rfl)
@[simp] theorem stB_tim (a : Nat) (b : Byte) : (d.stB a b).tim = d.tim := (rfl)
@[simp] theorem stB_flt (a : Nat) (b : Byte) : (d.stB a b).flt = d.flt := (rfl)
@[simp] theorem stB_hq (a : Nat) (b : Byte) : (d.stB a b).hq = d.hq := (rfl)
@[simp] theorem stB_xlt (a : Nat) (b : Byte) : (d.stB a b).xlt = d.xlt := (rfl)
@[simp] theorem stB_cal (a : Nat) (b : Byte) : (d.stB a b).cal = d.cal := (rfl)
@[simp] theorem stB_rng (a : Nat) (b : Byte) : (d.stB a b).rng = d.rng := (rfl)
@[simp] theorem stB_str (a : Nat) (b : Byte) : (d.stB a b).str = d.str := (rfl)
@[simp] theorem stB_mgmt (a : Nat) (b : Byte) : (d.stB a b).mgmt = d.mgmt := (rfl)
@[simp] theorem stB_fwd (a : Nat) (b : Byte) : (d.stB a b).fwd = d.fwd := (rfl)
@[simp] theorem stB_dma (a : Nat) (b : Byte) : (d.stB a b).dma = d.dma := (rfl)
@[simp] theorem stB_sol (a : Nat) (b : Byte) : (d.stB a b).sol = d.sol := (rfl)
@[simp] theorem stB_mbx (a : Nat) (b : Byte) : (d.stB a b).mbx = d.mbx := (rfl)
@[simp] theorem stB_pwr (a : Nat) (b : Byte) : (d.stB a b).pwr = d.pwr := (rfl)
@[simp] theorem stB_ports (a : Nat) (b : Byte) : (d.stB a b).ports = d.ports := (rfl)
@[simp] theorem stB_frames (a : Nat) (b : Byte) : (d.stB a b).frames = d.frames := (rfl)
@[simp] theorem stB_nextFrame (a : Nat) (b : Byte) : (d.stB a b).nextFrame = d.nextFrame := (rfl)

/-! ### `Dev.stN` -/

@[simp] theorem stN_regs (a : Nat) (l : List Byte) : (d.stN a l).regs = d.regs := (rfl)
@[simp] theorem stN_hold (a : Nat) (l : List Byte) : (d.stN a l).hold = d.hold := (rfl)
@[simp] theorem stN_bad (a : Nat) (l : List Byte) : (d.stN a l).bad = d.bad := (rfl)
@[simp] theorem stN_soft (a : Nat) (l : List Byte) : (d.stN a l).soft = d.soft := (rfl)
@[simp] theorem stN_rdata (a : Nat) (l : List Byte) : (d.stN a l).rdata = d.rdata := (rfl)
@[simp] theorem stN_out (a : Nat) (l : List Byte) : (d.stN a l).out = d.out := (rfl)
@[simp] theorem stN_free (a : Nat) (l : List Byte) : (d.stN a l).free = d.free := (rfl)
@[simp] theorem stN_snap (a : Nat) (l : List Byte) : (d.stN a l).snap = d.snap := (rfl)
@[simp] theorem stN_tim (a : Nat) (l : List Byte) : (d.stN a l).tim = d.tim := (rfl)
@[simp] theorem stN_flt (a : Nat) (l : List Byte) : (d.stN a l).flt = d.flt := (rfl)
@[simp] theorem stN_hq (a : Nat) (l : List Byte) : (d.stN a l).hq = d.hq := (rfl)
@[simp] theorem stN_xlt (a : Nat) (l : List Byte) : (d.stN a l).xlt = d.xlt := (rfl)
@[simp] theorem stN_cal (a : Nat) (l : List Byte) : (d.stN a l).cal = d.cal := (rfl)
@[simp] theorem stN_rng (a : Nat) (l : List Byte) : (d.stN a l).rng = d.rng := (rfl)
@[simp] theorem stN_str (a : Nat) (l : List Byte) : (d.stN a l).str = d.str := (rfl)
@[simp] theorem stN_mgmt (a : Nat) (l : List Byte) : (d.stN a l).mgmt = d.mgmt := (rfl)
@[simp] theorem stN_fwd (a : Nat) (l : List Byte) : (d.stN a l).fwd = d.fwd := (rfl)
@[simp] theorem stN_dma (a : Nat) (l : List Byte) : (d.stN a l).dma = d.dma := (rfl)
@[simp] theorem stN_sol (a : Nat) (l : List Byte) : (d.stN a l).sol = d.sol := (rfl)
@[simp] theorem stN_mbx (a : Nat) (l : List Byte) : (d.stN a l).mbx = d.mbx := (rfl)
@[simp] theorem stN_pwr (a : Nat) (l : List Byte) : (d.stN a l).pwr = d.pwr := (rfl)
@[simp] theorem stN_ports (a : Nat) (l : List Byte) : (d.stN a l).ports = d.ports := (rfl)
@[simp] theorem stN_frames (a : Nat) (l : List Byte) : (d.stN a l).frames = d.frames := (rfl)
@[simp] theorem stN_nextFrame (a : Nat) (l : List Byte) : (d.stN a l).nextFrame = d.nextFrame := (rfl)

/-! ### `Dev.stW` -/

@[simp] theorem stW_regs (a : Nat) (v : Word) : (d.stW a v).regs = d.regs := (rfl)
@[simp] theorem stW_hold (a : Nat) (v : Word) : (d.stW a v).hold = d.hold := (rfl)
@[simp] theorem stW_soft (a : Nat) (v : Word) : (d.stW a v).soft = d.soft.filter (· != a) := (rfl)
@[simp] theorem stW_rdata (a : Nat) (v : Word) : (d.stW a v).rdata = d.rdata := (rfl)
@[simp] theorem stW_out (a : Nat) (v : Word) : (d.stW a v).out = d.out := (rfl)
@[simp] theorem stW_free (a : Nat) (v : Word) : (d.stW a v).free = d.free := (rfl)
@[simp] theorem stW_snap (a : Nat) (v : Word) : (d.stW a v).snap = d.snap := (rfl)
@[simp] theorem stW_tim (a : Nat) (v : Word) : (d.stW a v).tim = d.tim := (rfl)
@[simp] theorem stW_flt (a : Nat) (v : Word) : (d.stW a v).flt = d.flt := (rfl)
@[simp] theorem stW_hq (a : Nat) (v : Word) : (d.stW a v).hq = d.hq := (rfl)
@[simp] theorem stW_xlt (a : Nat) (v : Word) : (d.stW a v).xlt = d.xlt := (rfl)
@[simp] theorem stW_cal (a : Nat) (v : Word) : (d.stW a v).cal = d.cal := (rfl)
@[simp] theorem stW_rng (a : Nat) (v : Word) : (d.stW a v).rng = d.rng := (rfl)
@[simp] theorem stW_str (a : Nat) (v : Word) : (d.stW a v).str = d.str := (rfl)
@[simp] theorem stW_mgmt (a : Nat) (v : Word) : (d.stW a v).mgmt = d.mgmt := (rfl)
@[simp] theorem stW_fwd (a : Nat) (v : Word) : (d.stW a v).fwd = d.fwd := (rfl)
@[simp] theorem stW_dma (a : Nat) (v : Word) : (d.stW a v).dma = d.dma := (rfl)
@[simp] theorem stW_sol (a : Nat) (v : Word) : (d.stW a v).sol = d.sol := (rfl)
@[simp] theorem stW_mbx (a : Nat) (v : Word) : (d.stW a v).mbx = d.mbx := (rfl)
@[simp] theorem stW_pwr (a : Nat) (v : Word) : (d.stW a v).pwr = d.pwr := (rfl)
@[simp] theorem stW_ports (a : Nat) (v : Word) : (d.stW a v).ports = d.ports := (rfl)
@[simp] theorem stW_frames (a : Nat) (v : Word) : (d.stW a v).frames = d.frames := (rfl)
@[simp] theorem stW_nextFrame (a : Nat) (v : Word) : (d.stW a v).nextFrame = d.nextFrame := (rfl)

/-! ### `Dev.emit` -/

@[simp] theorem emit_regs (o : Out) : (d.emit o).regs = d.regs := (rfl)
@[simp] theorem emit_hold (o : Out) : (d.emit o).hold = d.hold := (rfl)
@[simp] theorem emit_mem (o : Out) : (d.emit o).mem = d.mem := (rfl)
@[simp] theorem emit_bad (o : Out) : (d.emit o).bad = d.bad := (rfl)
@[simp] theorem emit_soft (o : Out) : (d.emit o).soft = d.soft := (rfl)
@[simp] theorem emit_rdata (o : Out) : (d.emit o).rdata = d.rdata := (rfl)
@[simp] theorem emit_free (o : Out) : (d.emit o).free = d.free := (rfl)
@[simp] theorem emit_snap (o : Out) : (d.emit o).snap = d.snap := (rfl)
@[simp] theorem emit_tim (o : Out) : (d.emit o).tim = d.tim := (rfl)
@[simp] theorem emit_flt (o : Out) : (d.emit o).flt = d.flt := (rfl)
@[simp] theorem emit_hq (o : Out) : (d.emit o).hq = d.hq := (rfl)
@[simp] theorem emit_xlt (o : Out) : (d.emit o).xlt = d.xlt := (rfl)
@[simp] theorem emit_cal (o : Out) : (d.emit o).cal = d.cal := (rfl)
@[simp] theorem emit_rng (o : Out) : (d.emit o).rng = d.rng := (rfl)
@[simp] theorem emit_str (o : Out) : (d.emit o).str = d.str := (rfl)
@[simp] theorem emit_mgmt (o : Out) : (d.emit o).mgmt = d.mgmt := (rfl)
@[simp] theorem emit_fwd (o : Out) : (d.emit o).fwd = d.fwd := (rfl)
@[simp] theorem emit_dma (o : Out) : (d.emit o).dma = d.dma := (rfl)
@[simp] theorem emit_sol (o : Out) : (d.emit o).sol = d.sol := (rfl)
@[simp] theorem emit_mbx (o : Out) : (d.emit o).mbx = d.mbx := (rfl)
@[simp] theorem emit_pwr (o : Out) : (d.emit o).pwr = d.pwr := (rfl)
@[simp] theorem emit_ports (o : Out) : (d.emit o).ports = d.ports := (rfl)
@[simp] theorem emit_frames (o : Out) : (d.emit o).frames = d.frames := (rfl)
@[simp] theorem emit_nextFrame (o : Out) : (d.emit o).nextFrame = d.nextFrame := (rfl)

/-! ### `Dev.useFree` -/

@[simp] theorem useFree_regs : (d.useFree).regs = d.regs := (rfl)
@[simp] theorem useFree_hold : (d.useFree).hold = d.hold := (rfl)
@[simp] theorem useFree_mem : (d.useFree).mem = d.mem := (rfl)
@[simp] theorem useFree_bad : (d.useFree).bad = d.bad := (rfl)
@[simp] theorem useFree_soft : (d.useFree).soft = d.soft := (rfl)
@[simp] theorem useFree_rdata : (d.useFree).rdata = d.rdata := (rfl)
@[simp] theorem useFree_out : (d.useFree).out = d.out := (rfl)
@[simp] theorem useFree_snap : (d.useFree).snap = d.snap := (rfl)
@[simp] theorem useFree_tim : (d.useFree).tim = d.tim := (rfl)
@[simp] theorem useFree_flt : (d.useFree).flt = d.flt := (rfl)
@[simp] theorem useFree_hq : (d.useFree).hq = d.hq := (rfl)
@[simp] theorem useFree_xlt : (d.useFree).xlt = d.xlt := (rfl)
@[simp] theorem useFree_cal : (d.useFree).cal = d.cal := (rfl)
@[simp] theorem useFree_rng : (d.useFree).rng = d.rng := (rfl)
@[simp] theorem useFree_str : (d.useFree).str = d.str := (rfl)
@[simp] theorem useFree_mgmt : (d.useFree).mgmt = d.mgmt := (rfl)
@[simp] theorem useFree_fwd : (d.useFree).fwd = d.fwd := (rfl)
@[simp] theorem useFree_dma : (d.useFree).dma = d.dma := (rfl)
@[simp] theorem useFree_sol : (d.useFree).sol = d.sol := (rfl)
@[simp] theorem useFree_mbx : (d.useFree).mbx = d.mbx := (rfl)
@[simp] theorem useFree_pwr : (d.useFree).pwr = d.pwr := (rfl)
@[simp] theorem useFree_ports : (d.useFree).ports = d.ports := (rfl)
@[simp] theorem useFree_frames : (d.useFree).frames = d.frames := (rfl)
@[simp] theorem useFree_nextFrame : (d.useFree).nextFrame = d.nextFrame := (rfl)

/-! ### `Dev.raise` -/

@[simp] theorem raise_regs (k u kind addr : Nat) : (d.raise k u kind addr).regs = d.regs := (rfl)
@[simp] theorem raise_hold (k u kind addr : Nat) : (d.raise k u kind addr).hold = d.hold := (rfl)
@[simp] theorem raise_mem (k u kind addr : Nat) : (d.raise k u kind addr).mem = d.mem := (rfl)
@[simp] theorem raise_bad (k u kind addr : Nat) : (d.raise k u kind addr).bad = d.bad := (rfl)
@[simp] theorem raise_soft (k u kind addr : Nat) : (d.raise k u kind addr).soft = d.soft := (rfl)
@[simp] theorem raise_rdata (k u kind addr : Nat) : (d.raise k u kind addr).rdata = d.rdata := (rfl)
@[simp] theorem raise_out (k u kind addr : Nat) : (d.raise k u kind addr).out = d.out := (rfl)
@[simp] theorem raise_free (k u kind addr : Nat) : (d.raise k u kind addr).free = d.free := (rfl)
@[simp] theorem raise_snap (k u kind addr : Nat) : (d.raise k u kind addr).snap = d.snap := (rfl)
@[simp] theorem raise_tim (k u kind addr : Nat) : (d.raise k u kind addr).tim = d.tim := (rfl)
@[simp] theorem raise_hq (k u kind addr : Nat) : (d.raise k u kind addr).hq = d.hq := (rfl)
@[simp] theorem raise_xlt (k u kind addr : Nat) : (d.raise k u kind addr).xlt = d.xlt := (rfl)
@[simp] theorem raise_cal (k u kind addr : Nat) : (d.raise k u kind addr).cal = d.cal := (rfl)
@[simp] theorem raise_rng (k u kind addr : Nat) : (d.raise k u kind addr).rng = d.rng := (rfl)
@[simp] theorem raise_str (k u kind addr : Nat) : (d.raise k u kind addr).str = d.str := (rfl)
@[simp] theorem raise_mgmt (k u kind addr : Nat) : (d.raise k u kind addr).mgmt = d.mgmt := (rfl)
@[simp] theorem raise_fwd (k u kind addr : Nat) : (d.raise k u kind addr).fwd = d.fwd := (rfl)
@[simp] theorem raise_dma (k u kind addr : Nat) : (d.raise k u kind addr).dma = d.dma := (rfl)
@[simp] theorem raise_sol (k u kind addr : Nat) : (d.raise k u kind addr).sol = d.sol := (rfl)
@[simp] theorem raise_mbx (k u kind addr : Nat) : (d.raise k u kind addr).mbx = d.mbx := (rfl)
@[simp] theorem raise_pwr (k u kind addr : Nat) : (d.raise k u kind addr).pwr = d.pwr := (rfl)
@[simp] theorem raise_ports (k u kind addr : Nat) : (d.raise k u kind addr).ports = d.ports := (rfl)
@[simp] theorem raise_frames (k u kind addr : Nat) : (d.raise k u kind addr).frames = d.frames := (rfl)
@[simp] theorem raise_nextFrame (k u kind addr : Nat) : (d.raise k u kind addr).nextFrame = d.nextFrame := (rfl)

/-! ### `Dev.calRef` -/

@[simp] theorem calRef_hold (code : Nat) : (d.calRef code).hold = d.hold := (rfl)
@[simp] theorem calRef_mem (code : Nat) : (d.calRef code).mem = d.mem := (rfl)
@[simp] theorem calRef_bad (code : Nat) : (d.calRef code).bad = d.bad := (rfl)
@[simp] theorem calRef_soft (code : Nat) : (d.calRef code).soft = d.soft := (rfl)
@[simp] theorem calRef_rdata (code : Nat) : (d.calRef code).rdata = d.rdata := (rfl)
@[simp] theorem calRef_out (code : Nat) : (d.calRef code).out = d.out := (rfl)
@[simp] theorem calRef_free (code : Nat) : (d.calRef code).free = d.free := (rfl)
@[simp] theorem calRef_snap (code : Nat) : (d.calRef code).snap = d.snap := (rfl)
@[simp] theorem calRef_tim (code : Nat) : (d.calRef code).tim = d.tim := (rfl)
@[simp] theorem calRef_flt (code : Nat) : (d.calRef code).flt = d.flt := (rfl)
@[simp] theorem calRef_hq (code : Nat) : (d.calRef code).hq = d.hq := (rfl)
@[simp] theorem calRef_xlt (code : Nat) : (d.calRef code).xlt = d.xlt := (rfl)
@[simp] theorem calRef_cal (code : Nat) : (d.calRef code).cal = d.cal := (rfl)
@[simp] theorem calRef_rng (code : Nat) : (d.calRef code).rng = d.rng := (rfl)
@[simp] theorem calRef_str (code : Nat) : (d.calRef code).str = d.str := (rfl)
@[simp] theorem calRef_mgmt (code : Nat) : (d.calRef code).mgmt = d.mgmt := (rfl)
@[simp] theorem calRef_fwd (code : Nat) : (d.calRef code).fwd = d.fwd := (rfl)
@[simp] theorem calRef_dma (code : Nat) : (d.calRef code).dma = d.dma := (rfl)
@[simp] theorem calRef_sol (code : Nat) : (d.calRef code).sol = d.sol := (rfl)
@[simp] theorem calRef_mbx (code : Nat) : (d.calRef code).mbx = d.mbx := (rfl)
@[simp] theorem calRef_pwr (code : Nat) : (d.calRef code).pwr = d.pwr := (rfl)
@[simp] theorem calRef_ports (code : Nat) : (d.calRef code).ports = d.ports := (rfl)
@[simp] theorem calRef_frames (code : Nat) : (d.calRef code).frames = d.frames := (rfl)
@[simp] theorem calRef_nextFrame (code : Nat) : (d.calRef code).nextFrame = d.nextFrame := (rfl)

/-! ### `Dev.dmaRef` -/

@[simp] theorem dmaRef_hold (c code : Nat) : (d.dmaRef c code).hold = d.hold := (rfl)
@[simp] theorem dmaRef_mem (c code : Nat) : (d.dmaRef c code).mem = d.mem := (rfl)
@[simp] theorem dmaRef_bad (c code : Nat) : (d.dmaRef c code).bad = d.bad := (rfl)
@[simp] theorem dmaRef_soft (c code : Nat) : (d.dmaRef c code).soft = d.soft := (rfl)
@[simp] theorem dmaRef_rdata (c code : Nat) : (d.dmaRef c code).rdata = d.rdata := (rfl)
@[simp] theorem dmaRef_out (c code : Nat) : (d.dmaRef c code).out = d.out := (rfl)
@[simp] theorem dmaRef_free (c code : Nat) : (d.dmaRef c code).free = d.free := (rfl)
@[simp] theorem dmaRef_snap (c code : Nat) : (d.dmaRef c code).snap = d.snap := (rfl)
@[simp] theorem dmaRef_tim (c code : Nat) : (d.dmaRef c code).tim = d.tim := (rfl)
@[simp] theorem dmaRef_flt (c code : Nat) : (d.dmaRef c code).flt = d.flt := (rfl)
@[simp] theorem dmaRef_hq (c code : Nat) : (d.dmaRef c code).hq = d.hq := (rfl)
@[simp] theorem dmaRef_xlt (c code : Nat) : (d.dmaRef c code).xlt = d.xlt := (rfl)
@[simp] theorem dmaRef_cal (c code : Nat) : (d.dmaRef c code).cal = d.cal := (rfl)
@[simp] theorem dmaRef_rng (c code : Nat) : (d.dmaRef c code).rng = d.rng := (rfl)
@[simp] theorem dmaRef_str (c code : Nat) : (d.dmaRef c code).str = d.str := (rfl)
@[simp] theorem dmaRef_mgmt (c code : Nat) : (d.dmaRef c code).mgmt = d.mgmt := (rfl)
@[simp] theorem dmaRef_fwd (c code : Nat) : (d.dmaRef c code).fwd = d.fwd := (rfl)
@[simp] theorem dmaRef_dma (c code : Nat) : (d.dmaRef c code).dma = d.dma := (rfl)
@[simp] theorem dmaRef_sol (c code : Nat) : (d.dmaRef c code).sol = d.sol := (rfl)
@[simp] theorem dmaRef_mbx (c code : Nat) : (d.dmaRef c code).mbx = d.mbx := (rfl)
@[simp] theorem dmaRef_pwr (c code : Nat) : (d.dmaRef c code).pwr = d.pwr := (rfl)
@[simp] theorem dmaRef_ports (c code : Nat) : (d.dmaRef c code).ports = d.ports := (rfl)
@[simp] theorem dmaRef_frames (c code : Nat) : (d.dmaRef c code).frames = d.frames := (rfl)
@[simp] theorem dmaRef_nextFrame (c code : Nat) : (d.dmaRef c code).nextFrame = d.nextFrame := (rfl)

/-! ### `Dev.pwrRef` -/

@[simp] theorem pwrRef_hold (code : Nat) : (d.pwrRef code).hold = d.hold := (rfl)
@[simp] theorem pwrRef_mem (code : Nat) : (d.pwrRef code).mem = d.mem := (rfl)
@[simp] theorem pwrRef_bad (code : Nat) : (d.pwrRef code).bad = d.bad := (rfl)
@[simp] theorem pwrRef_soft (code : Nat) : (d.pwrRef code).soft = d.soft := (rfl)
@[simp] theorem pwrRef_rdata (code : Nat) : (d.pwrRef code).rdata = d.rdata := (rfl)
@[simp] theorem pwrRef_out (code : Nat) : (d.pwrRef code).out = d.out := (rfl)
@[simp] theorem pwrRef_free (code : Nat) : (d.pwrRef code).free = d.free := (rfl)
@[simp] theorem pwrRef_snap (code : Nat) : (d.pwrRef code).snap = d.snap := (rfl)
@[simp] theorem pwrRef_tim (code : Nat) : (d.pwrRef code).tim = d.tim := (rfl)
@[simp] theorem pwrRef_flt (code : Nat) : (d.pwrRef code).flt = d.flt := (rfl)
@[simp] theorem pwrRef_hq (code : Nat) : (d.pwrRef code).hq = d.hq := (rfl)
@[simp] theorem pwrRef_xlt (code : Nat) : (d.pwrRef code).xlt = d.xlt := (rfl)
@[simp] theorem pwrRef_cal (code : Nat) : (d.pwrRef code).cal = d.cal := (rfl)
@[simp] theorem pwrRef_rng (code : Nat) : (d.pwrRef code).rng = d.rng := (rfl)
@[simp] theorem pwrRef_str (code : Nat) : (d.pwrRef code).str = d.str := (rfl)
@[simp] theorem pwrRef_mgmt (code : Nat) : (d.pwrRef code).mgmt = d.mgmt := (rfl)
@[simp] theorem pwrRef_fwd (code : Nat) : (d.pwrRef code).fwd = d.fwd := (rfl)
@[simp] theorem pwrRef_dma (code : Nat) : (d.pwrRef code).dma = d.dma := (rfl)
@[simp] theorem pwrRef_sol (code : Nat) : (d.pwrRef code).sol = d.sol := (rfl)
@[simp] theorem pwrRef_mbx (code : Nat) : (d.pwrRef code).mbx = d.mbx := (rfl)
@[simp] theorem pwrRef_pwr (code : Nat) : (d.pwrRef code).pwr = d.pwr := (rfl)
@[simp] theorem pwrRef_ports (code : Nat) : (d.pwrRef code).ports = d.ports := (rfl)
@[simp] theorem pwrRef_frames (code : Nat) : (d.pwrRef code).frames = d.frames := (rfl)
@[simp] theorem pwrRef_nextFrame (code : Nat) : (d.pwrRef code).nextFrame = d.nextFrame := (rfl)


/-! ### Registers: a read after a write -/

/-- A register reads what was written to it. -/
@[simp] theorem rd_wr_self (a : Nat) (v : Word) : (d.wr a v).rd a = v := by simp [Dev.rd, Dev.wr]

/-- A write leaves every other register alone. -/
theorem rd_wr_ne {a b : Nat} (v : Word) (h : b ≠ a) : (d.wr a v).rd b = d.rd b := by
  simp [Dev.rd, Dev.wr, getD_setD_ne d.regs _ v _ h]

@[simp] theorem rd_sf_self (a lo w v : Nat) : (d.sf a lo w v).rd a = setF (d.rd a) lo w v := rd_wr_self d a _

theorem rd_sf_ne {a b : Nat} (lo w v : Nat) (h : b ≠ a) : (d.sf a lo w v).rd b = d.rd b := rd_wr_ne d _ h

@[simp] theorem rd_sb_self (a i : Nat) (b : Bool) : (d.sb a i b).rd a = setB (d.rd a) i b := rd_wr_self d a _

theorem rd_sb_ne {a c : Nat} (i : Nat) (b : Bool) (h : c ≠ a) : (d.sb a i b).rd c = d.rd c := rd_wr_ne d _ h

@[simp] theorem rd_inc_self (a : Nat) : (d.inc a).rd a = BitVec.ofNat 64 ((d.rd a).toNat + 1) := rd_wr_self d a _

theorem rd_inc_ne {a b : Nat} (h : b ≠ a) : (d.inc a).rd b = d.rd b := rd_wr_ne d _ h

@[simp] theorem raise_wire (k u kind addr : Nat) :
    (d.raise k u kind addr).flt.wire = d.flt.wire ++ [⟨d.tim.up, srcCode k u, kind, addr % 2 ^ 40, false⟩] := (rfl)

@[simp] theorem rd_raise (k u kind addr b : Nat) : (d.raise k u kind addr).rd b = d.rd b := (rfl)

@[simp] theorem rd_emit (o : Out) (b : Nat) : (d.emit o).rd b = d.rd b := (rfl)

@[simp] theorem rd_useFree (b : Nat) : d.useFree.rd b = d.rd b := (rfl)

@[simp] theorem rd_stB (a : Nat) (x : Byte) (b : Nat) : (d.stB a x).rd b = d.rd b := (rfl)

@[simp] theorem rd_stN (a : Nat) (l : List Byte) (b : Nat) : (d.stN a l).rd b = d.rd b := (rfl)

@[simp] theorem rd_stW (a : Nat) (v : Word) (b : Nat) : (d.stW a v).rd b = d.rd b := (rfl)

/-! ### Fields and bits of a register after a write -/

theorem gf_sf_self (a v : Nat) {lo w : Nat} (h : lo + w ≤ 64) : (d.sf a lo w v).gf a lo w = v % 2 ^ w := by
  simp [Dev.gf, getF_setF_self _ _ h]

theorem gf_sf_field (a v : Nat) {lo w lo' w' : Nat} (h : lo + w ≤ 64) (hd : lo' + w' ≤ lo ∨ lo + w ≤ lo') :
    (d.sf a lo w v).gf a lo' w' = d.gf a lo' w' := by
  simp [Dev.gf, getF_setF_ne _ _ h hd]

theorem gf_sf_ne {a b : Nat} (lo w v lo' w' : Nat) (h : b ≠ a) : (d.sf a lo w v).gf b lo' w' = d.gf b lo' w' := by
  simp [Dev.gf, rd_sf_ne d _ _ _ h]

theorem gb_sb_self (a : Nat) {i : Nat} (b : Bool) (h : i < 64) : (d.sb a i b).gb a i = b := by
  simp [Dev.gb, getB_setB _ _ _ h]

theorem gb_sb_bit (a : Nat) {i j : Nat} (b : Bool) (h : i < 64) (hj : j ≠ i) : (d.sb a i b).gb a j = d.gb a j := by
  simp [Dev.gb, getB_setB _ _ _ h, hj]

theorem gb_sb_ne {a c : Nat} (i : Nat) (b : Bool) (j : Nat) (h : c ≠ a) : (d.sb a i b).gb c j = d.gb c j := by
  simp [Dev.gb, rd_sb_ne d _ _ h]

theorem gb_sf_ne {a c : Nat} (lo w v j : Nat) (h : c ≠ a) : (d.sf a lo w v).gb c j = d.gb c j := by
  simp [Dev.gb, rd_sf_ne d _ _ _ h]

theorem gf_sb_ne {a c : Nat} (i : Nat) (b : Bool) (lo w : Nat) (h : c ≠ a) : (d.sb a i b).gf c lo w = d.gf c lo w := by
  simp [Dev.gf, rd_sb_ne d _ _ h]

/-! ### Islands in service: a register that does not tell of islands may be written -/

theorem islandOk_wr {a : Nat} (v : Word) (i : Nat) (hu : Reg.glbIslandUp ≠ a) (hf : Reg.glbIslandFenced ≠ a) (hh : Reg.rstHaltStat ≠ a) :
    (d.wr a v).islandOk i = d.islandOk i := by
  have e : (d.wr a v).inReset i = d.inReset i := rfl
  have p : (d.wr a v).pwr = d.pwr := rfl
  simp only [Dev.islandOk, rd_wr_ne d v hu, rd_wr_ne d v hf, rd_wr_ne d v hh, e, p]

theorem islandOk_sf {a : Nat} (lo w v i : Nat) (hu : Reg.glbIslandUp ≠ a) (hf : Reg.glbIslandFenced ≠ a) (hh : Reg.rstHaltStat ≠ a) :
    (d.sf a lo w v).islandOk i = d.islandOk i := islandOk_wr d _ i hu hf hh

theorem islandOk_sb {a : Nat} (k : Nat) (b : Bool) (i : Nat) (hu : Reg.glbIslandUp ≠ a) (hf : Reg.glbIslandFenced ≠ a) (hh : Reg.rstHaltStat ≠ a) :
    (d.sb a k b).islandOk i = d.islandOk i := islandOk_wr d _ i hu hf hh

end Sys2Proof.Machine
end

