-- ==== Sys2Proof/Laws/Memory.lean ====
section
/-! SUPPORT. Memory: a read after a write, and every memory operation keeps the canonical form. -/

namespace Sys2Proof.Machine

/-- An octet reads what was written to it. -/
@[simp] theorem ldB_stB_self (d : Dev) (a : Nat) (b : Byte) : (d.stB a b).ldB a = b := by simp [Dev.ldB, Dev.stB]

/-- A write leaves every other octet alone. -/
theorem ldB_stB_ne (d : Dev) {a c : Nat} (b : Byte) (h : c ≠ a) : (d.stB a b).ldB c = d.ldB c := by
  simp [Dev.ldB, Dev.stB, getD_setD_ne d.mem _ b _ h]

theorem memory_wf_iff (m : List Host.Cell) : Memory.wf m = true ↔ Sparse.sorted m = true ∧ ∀ c ∈ m, c.2 ≠ 0 := by
  simp [Memory.wf, List.all_eq_true]

/-- Writing one octet keeps the canonical form. -/
theorem stB_wf (d : Dev) (a : Nat) (b : Byte) (h : Memory.wf d.mem = true) : Memory.wf (d.stB a b).mem = true := by
  rw [memory_wf_iff] at *
  exact ⟨sorted_setD d.mem a 0 b h.1, all_setD d.mem a (fun _ => 0) b h.2⟩

theorem putOctets_wf (l : List Byte) (m : List Host.Cell) (a : Nat) (h : Memory.wf m = true) : Memory.wf (putOctets m a l) = true := by
  induction l generalizing m a with
  | nil => exact h
  | cons b t ih =>
    rw [memory_wf_iff] at h
    rw [putOctets]
    exact ih _ _ ((memory_wf_iff _).mpr ⟨sorted_setD m a 0 b h.1, all_setD m a (fun _ => 0) b h.2⟩)

/-- Writing octets keeps the canonical form. -/
theorem stN_wf (l : List Byte) (d : Dev) (a : Nat) (h : Memory.wf d.mem = true) : Memory.wf (d.stN a l).mem = true := putOctets_wf l _ a h

/-- Writing a word keeps the canonical form. -/
theorem stW_wf (d : Dev) (a : Nat) (v : Word) (h : Memory.wf d.mem = true) : Memory.wf (d.stW a v).mem = true := putOctets_wf _ _ a h

/-- Writing words keeps the canonical form. -/
theorem stWs_wf (l : List Word) (d : Dev) (a : Nat) (h : Memory.wf d.mem = true) : Memory.wf (d.stWs a l).mem = true := by
  induction l generalizing d a with
  | nil => exact h
  | cons v t ih => rw [Dev.stWs]; exact ih (d.stW a v) (a + 8) (stW_wf d a v h)

/-- Forgetting part of memory keeps the canonical form. -/
theorem filter_wf (m : List Host.Cell) (p : Host.Cell → Bool) (h : Memory.wf m = true) : Memory.wf (m.filter p) = true := by
  rw [memory_wf_iff] at *
  exact ⟨sorted_filter m p h.1, fun c hc => h.2 c (List.mem_filter.mp hc).1⟩

theorem clearMem_wf (d : Dev) (lo hi : Nat) (h : Memory.wf d.mem = true) : Memory.wf (d.clearMem lo hi).mem = true := filter_wf _ _ h

/-- Memory after reset is in canonical form. -/
theorem reset_mem_wf : Memory.wf State.reset.dev.mem = true := rfl

/-- The register file after reset is in canonical form. -/
theorem reset_regs_wf : Regs.wf State.reset.dev.regs = true := rfl

/-- Writing a register keeps the canonical form of the register file. -/
theorem wr_wf (d : Dev) (a : Nat) (v : Word) (h : Regs.wf d.regs = true) : Regs.wf (d.wr a v).regs = true := by
  simp only [Regs.wf, Bool.and_eq_true, List.all_eq_true, bne_iff_ne] at *
  exact ⟨sorted_setD d.regs a _ v h.1, all_setD d.regs a resetOf v h.2⟩

theorem getD_putOctets_outside (l : List Byte) (m : List Host.Cell) (a c : Nat) (h : c < a ∨ a + l.length ≤ c) :
    Sparse.getD (putOctets m a l) c 0 = Sparse.getD m c 0 := by
  induction l generalizing m a with
  | nil => rfl
  | cons b t ih =>
    rw [List.length_cons] at h
    rw [putOctets, ih _ (a + 1) (by omega), getD_setD_ne m _ b _ (show c ≠ a by omega)]

/-- Octets written from `a` upward leave every octet below `a` and from `a + length` on alone. -/
theorem ldB_stN_outside (l : List Byte) (d : Dev) (a c : Nat) (h : c < a ∨ a + l.length ≤ c) : (d.stN a l).ldB c = d.ldB c :=
  getD_putOctets_outside l d.mem a c h

theorem leBytes_length (n v : Nat) : (leBytes n v).length = n := by
  induction n generalizing v with
  | zero => rfl
  | succ n ih => simp [leBytes, ih]

/-- A word written changes its eight octets alone. -/
theorem stW_frame (d : Dev) (a : Nat) (v : Word) : Dev.sameMemBut d (d.stW a v) a 8 := by
  intro c h
  exact getD_putOctets_outside _ d.mem a c (by rw [leBytes_length]; exact h)

theorem sameMem_refl (d : Dev) : d.sameMem d := fun _ => rfl

theorem sameMem_of_eq {d e : Dev} (h : e.mem = d.mem) : d.sameMem e := fun a => by simp [Dev.ldB, h]

end Sys2Proof.Machine
end

