-- ==== Sys2Proof/Laws/Ops.lean ====
section
/-! SUPPORT. The shared operations: what a gated register write, a failed access, a refused write and a step can do. -/

namespace Sys2Proof.Machine

/-- A command that changes the device alone always goes on, and changes neither the fault queue nor the queue of commands. -/
theorem onDev_next (f : Dev → Dev) (s : State) : onDev f s = .next { s with dev := f s.dev } := rfl

/-- A gated register write that may take effect takes it (R17, R27). -/
theorem gate_open {d : Dev} {r : Req} {a : Nat} (f : Dev → Dev) (hu : d.unreachable a = false) (hw : d.mayWrite r a = true) :
    d.gate r a f = f d := by simp [Dev.gate, hu, hw]

/-- A gated register write without the unlock is refused (R27). -/
theorem gate_locked {d : Dev} {r : Req} {a : Nat} (f : Dev → Dev) (hu : d.unreachable a = false) (hw : d.mayWrite r a = false) :
    d.gate r a f = d.lockRefuse a (d.islandOf a) := by simp [Dev.gate, hu, hw]

/-- A gated register write to an island that is down or fenced fails (R17). -/
theorem gate_down {d : Dev} {r : Req} {a : Nat} (f : Dev → Dev) (hu : d.unreachable a = true) :
    d.gate r a f = d.accFail r false true a 2 (d.islandOf a) := by simp [Dev.gate, hu]

/-- Everything a gated register write can do. -/
theorem gate_cases (d : Dev) (r : Req) (a : Nat) (f : Dev → Dev) :
    (d.unreachable a = true ∧ d.gate r a f = d.accFail r false true a 2 (d.islandOf a))
    ∨ (d.unreachable a = false ∧ d.mayWrite r a = false ∧ d.gate r a f = d.lockRefuse a (d.islandOf a))
    ∨ (d.unreachable a = false ∧ d.mayWrite r a = true ∧ d.gate r a f = f d) := by
  cases hu : d.unreachable a
  · cases hw : d.mayWrite r a
    · exact .inr (.inl ⟨rfl, rfl, gate_locked f hu hw⟩)
    · exact .inr (.inr ⟨rfl, rfl, gate_open f hu hw⟩)
  · exact .inl ⟨rfl, gate_down f hu⟩

/-- A step on an empty queue. -/
theorem step_idle {s : State} (h : s.pending = []) : step s = .next { s with dev := s.dev.clocks 1 } := by simp [step, h]

theorem rd_tim (d : Dev) (t : Tim) (a : Nat) : ({ d with tim := t } : Dev).rd a = d.rd a := (rfl)

/-- Clocks move time, and may clear the bit that shows a slew; nothing else. -/
theorem clocks_cases (d : Dev) (n : Nat) :
    ∃ t : Tim, d.clocks n = { d with tim := t } ∨ d.clocks n = ({ d with tim := t } : Dev).sb Reg.timStat 6 false := by
  by_cases h : d.tim.slew ≠ 0 ∧ d.tim.slew - d.slewMove n = 0
  · exact ⟨_, .inr (if_pos h)⟩
  · exact ⟨_, .inl (if_neg h)⟩

theorem clocks_mem (d : Dev) (n : Nat) : (d.clocks n).mem = d.mem := by
  obtain ⟨t, h | h⟩ := clocks_cases d n <;> rw [h]
  rw [sb_mem]

theorem waitUp_mem (d : Dev) (t : Nat) : (d.waitUp t).mem = d.mem := by
  unfold Dev.waitUp; split <;> simp [clocks_mem]

theorem waitLocal_mem (d : Dev) (t : Nat) : (d.waitLocal t).mem = d.mem := by
  unfold Dev.waitLocal; split <;> simp [clocks_mem]

theorem rd_clocks {d : Dev} {a : Nat} (n : Nat) (h : a ≠ Reg.timStat) : (d.clocks n).rd a = d.rd a := by
  obtain ⟨t, e | e⟩ := clocks_cases d n <;> rw [e]
  · rw [rd_tim]
  · rw [rd_sb_ne _ _ _ h, rd_tim]

theorem rd_waitUp {d : Dev} {a : Nat} (t : Nat) (h : a ≠ Reg.timStat) : (d.waitUp t).rd a = d.rd a := by
  unfold Dev.waitUp; split <;> simp [rd_clocks _ h]

theorem rd_waitLocal {d : Dev} {a : Nat} (t : Nat) (h : a ≠ Reg.timStat) : (d.waitLocal t).rd a = d.rd a := by
  unfold Dev.waitLocal; split <;> simp [rd_clocks _ h]

end Sys2Proof.Machine
end

