-- ==== Sys2Proof/Laws/Regs.lean ====
section
/-! SUPPORT. The block map: between which addresses a block lies. -/

namespace Sys2Proof.Machine

/-- The `CLK_`, `RST_` and `CALB_` blocks lie in one range of addresses. -/
theorem blockOf_plain {a k : Nat} (h : blockOf a = some k) (h1 : 19 ≤ k) (h2 : k ≤ 21) : 0x7100000 ≤ a ∧ a < 0x7400000 := by
  have H : ∀ (c : Prop) [Decidable c] (x y : Option Nat), (if c then x else y) = some k → (c ∧ x = some k) ∨ (¬ c ∧ y = some k) := by
    intro c _ x y h; split at h
    · exact .inl ⟨‹_›, h⟩
    · exact .inr ⟨‹_›, h⟩
  unfold blockOf at h
  repeat
    rcases H _ _ _ h with ⟨hc, e⟩ | ⟨hc, h'⟩
    · first | (cases e; done) | (injection e with e; omega)
    clear h; rename' h' => h
  cases h

end Sys2Proof.Machine
end

