-- ==== Sys2Proof/Tests/Slice0.lean ====
section
/-! SUPPORT. For each statement of Sys2Proof.Certificates.Slice0.Obligations, concrete states and operands that meet the hypotheses of each clause; an
ill-formed command for each check of Sys2Proof.WellFormed; and worked examples of the spec. -/

open Sys2Proof Sys2Proof.Machine
namespace Sys2Proof.Tests

set_option Elab.async false

/-- The device after reset with every block unlocked and the leases held by PF0 (R27). -/
def uDev : Dev := State.reset.dev.wr Reg.mbxUnlock 0x7fffff

/-- A state right after reset but for its device. -/
def at_ (d : Dev) : State := { State.reset with dev := d }

/-- A device whose calendar runs bank 0 from its cycle 0. -/
def runDev : Dev :=
  { (uDev.sb Reg.calStat 0 true).sb Reg.calCtl 0 true with cal := { cur := some { bank := 0, par := {}, beg := 0, num := 0, from_ := 0 } } }

/-- Stream 7: a valid record with host source queue 9, or a fabric source, for port 0 and frames of up to 200 octets. -/
def strDev (d : Dev) (fabric : Nat) : Dev :=
  ((d.setSw 7 0 (BitVec.ofNat 64 (1 + fabric * 2 ^ 4 + 200 * 2 ^ 10))).setSw 7 1 9).setSw 7 2 1

/-- Port 0 has one launch entry, of stream 7 at 0.5 ms of cycle 0, and link at 10 Gb/s. -/
def fetchDev (fabric : Nat) : Dev :=
  let d := (((strDev runDev fabric).stW (entryAddr 0 0 0) (BitVec.ofNat 64 (500000 + 7 * 2 ^ 42 + 2 ^ 60))).sb (Reg.calPortCfg 0) 0 true)
  { ((d.sf (Reg.sdsMode 0) 0 3 4).sb (Reg.pcsStat 0) 0 true) with
    cal := { cur := some { bank := 0, par := { dir := [BitVec.ofNat 64 (2 ^ 32)] }, beg := 0, num := 0, from_ := 0 } }
    hq := { sqs := [(9, { fn := 0, base := 0, log := 6, kind := 2, cq := 9, ifMax := 8, pasid := none, wb := 0, tail := 1 })]
            cqs := [(9, { fn := 0, base := 0, log := 6, vec := 0, ien := false, timer := 0, count := 0, pasid := none })] } }

/-- Port 0 with link at 10 Gb/s and something to send. -/
def wireDev (y : PortSt) : Dev := { fetchDev 0 with ports := [(0, y)] }

/-- The Joiner running, with one request at mailbox 0 of PF0: its opcode and argument words. -/
def mbDev (opc : Nat) (args : List Nat) : Dev :=
  let d := ((uDev.sf Reg.mbxFwStat 0 2 2).stW (mbxBuf 0) (BitVec.ofNat 64 (opc + 3 * 2 ^ 16 + 8 * args.length * 2 ^ 32))).stWs (mbxBuf 0 + 64)
    (args.map (BitVec.ofNat 64))
  { d with mbx := { go := [(0, 0)] } }

/-! ### Each statement's hypotheses are met by a concrete state: chapters 0 and 1 -/

theorem witness_reads_through_the_hub :
    (Reg.timHoldCnt % 8 = 0 ∧ Reg.timHoldCnt < 0x8000000 ∧ uDev.unreachable Reg.timHoldCnt = false ∧ isCounter Reg.timHoldCnt = true
      ∧ uDev.goneAt Reg.timHoldCnt = false ∧ Sparse.find uDev.hold Reg.timHoldCnt = none
      ∧ Sparse.find ({ uDev with hold := [(Reg.timHoldCnt, 5)] } : Dev).hold Reg.timHoldCnt = some 5)
    ∧ (uDev.unreachable Reg.timCtl = false ∧ isCounter Reg.timCtl = false)
    ∧ (uDev.unreachable 0x7fffff8 = false ∧ isCounter 0x7fffff8 = false)
    ∧ (uDev.unreachable Reg.fwdTblStat = false ∧ isCounter Reg.fwdTblStat = false) ∧ 7 % 8 ≠ 0 ∧ (2 ≠ 4 ∧ 2 ≠ 8) ∧ 4 % 8 ≠ 0 := by decide +kernel

theorem witness_failed_accesses :
    uDev.gb Reg.glbAccErr 63 = false ∧ (uDev.sb Reg.glbAccErr 63 true).gb Reg.glbAccErr 63 = true
    ∧ uDev.islandOk (uDev.islandOf (Reg.timCtl / 8 * 8)) = true ∧ uDev.halted = false
    ∧ uDev.islandOf Reg.timCtl ≠ 47 ∧ uDev.islandOf (0x7208000 / 8 * 8) = 47 ∧ uDev.islandOk 47 = true := by decide +kernel

theorem witness_register_writes_and_the_unlock :
    (State.reset.dev.unreachable Reg.timCtl = false ∧ mailboxAt Reg.timCtl = none ∧ State.reset.dev.mayWrite (.pf 0) Reg.timCtl = false)
    ∧ (State.reset.dev.bar4At 0x1fffff8 = some (15, 2) ∧ State.reset.dev.islandOk 15 = true ∧ State.reset.dev.halted = false
      ∧ State.reset.dev.unlockedBy 2 (.pf 3) = false)
    ∧ (blockOf Reg.clkStat = some 19 ∧ ((regAt Reg.clkStat).all (fun x => fldsOk x.1.flds 0) = true ∧ (regAt Reg.clkStat).isSome = true) ∧ (at_ uDev).takes (.pf 0) Reg.clkStat)
    ∧ (at_ uDev).takes (.pf 0) Reg.timCtl ∧ adminAt Reg.timCtl = none
    ∧ (uDev.bar4At 0x3000000 = some (2, 10) ∧ uDev.islandOk 2 = true ∧ uDev.unlockedBy 10 (.pf 0) = true)
    ∧ uDev.bar4At 0x4000000 = some (2, 10) := by decide +kernel

theorem witness_snapshot_groups_capture :
    ((at_ uDev).takes (.pf 1) Reg.glbSnapCtl ∧ uDev.gb Reg.glbSnapStat 0 = false
      ∧ snapIsland (getF (setB (0 : Word) 63 true) 0 4) (getF (setB (0 : Word) 63 true) 16 18) = some 46 ∧ uDev.islandOk 46 = true)
    ∧ (uDev.sb Reg.glbSnapStat 0 true).gb Reg.glbSnapStat 0 = true
    ∧ ({ uDev with snap := some (0, 0) } : Dev).snap = some (0, 0) ∧ snapIsland 0 0 = some 46
    ∧ (uDev.sb Reg.glbIslandFenced 46 true).islandOk 46 = false := by decide +kernel

/-! ### Chapter 2 -/

/-- A device whose sample source is `n`. -/
def srcDev (n : Nat) : Dev := uDev.sf Reg.timCtl 0 3 n

/-- The device 1 µs of uptime later, with the last sample accepted at 0. -/
def sampledDev (n up : Nat) : Dev := { srcDev n with tim := { (srcDev n).tim with lastAcc := some 0, up := up } }

theorem witness_servo_sample_acceptance :
    ((at_ (srcDev 1)).takes (.pf 0) Reg.timServoIn ∧ (srcDev 1).gf Reg.timCtl 0 3 = 1 ∧ (srcDev 1).tim.lastAcc = none)
    ∧ ((at_ (sampledDev 1 (10 * usU))).takes (.pf 0) Reg.timServoIn ∧ 10 * usU ≤ (sampledDev 1 (10 * usU)).tim.up - 0)
    ∧ ((at_ (sampledDev 1 (10 * usU - 1))).takes (.pf 0) Reg.timServoIn ∧ (sampledDev 1 (10 * usU - 1)).tim.lastAcc = some 0
        ∧ (sampledDev 1 (10 * usU - 1)).tim.up - 0 < 10 * usU)
    ∧ ((at_ (srcDev 2)).takes (.pf 0) Reg.timServoIn ∧ (srcDev 2).gf Reg.timCtl 0 3 ≠ 1)
    ∧ (sampledDev 3 (10 * usU - 1)).gf Reg.timCtl 0 3 = 3 := by decide +kernel

theorem witness_servo_samples_and_states :
    ({ uDev with tim := { uDev.tim with first := false } } : Dev).tim.first = false
    ∧ (at_ uDev).takes (.pf 0) Reg.timCtl ∧ getF (0 : Word) 0 3 = 0 ∧ getF (4 : Word) 0 3 = 4 ∧ uDev.gf Reg.timCtl 0 3 ≠ 4 ∧ 4 < getF (5 : Word) 0 3
    ∧ (uDev.setTimState 1).timState = 1 ∧ (uDev.setTimState 2).timState = 2 ∧ (uDev.setTimState 3).timState = 3
    ∧ ((uDev.setTimState 3).sf Reg.timHoldCfg 0 32 1).gf Reg.timHoldCfg 0 32 ≠ 0 ∧ (uDev.setTimState 3).gb Reg.timStat 2 = false := by
  decide +kernel

/-- A device whose attachment 0 is ACTIVE, so that no step is permitted (R39). -/
def activeDev : Dev := uDev.sf (Reg.rngStat 0) 0 3 4

theorem witness_steps_not_permitted :
    (at_ activeDev).takes (.pf 0) Reg.timAdj ∧ (activeDev.wrReg Reg.timAdj (setB (setB (7 : Word) 63 true) 48 false)).stepsPermitted = false
    ∧ (at_ activeDev).takes (.pf 0) Reg.timSetNs ∧ inRangeAt Reg.timSetNs (setB (0 : Word) 63 true) = true
    ∧ (activeDev.wrReg Reg.timSetNs (setB (0 : Word) 63 true)).stepsPermitted = false ∧ activeDev.tim.steppedAt ≠ some activeDev.tim.up := by
  decide +kernel

theorem witness_time_base_and_ptm :
    (at_ uDev).takes (.pf 0) Reg.timAdj ∧ (uDev.wrReg Reg.timAdj (setB (setB (7 : Word) 63 true) 48 false)).stepsPermitted = true
    ∧ (at_ uDev).takes (.pf 0) Reg.timSetNs ∧ inRangeAt Reg.timSetNs (setB (0 : Word) 63 true) = true
    ∧ (uDev.wrReg Reg.timSetNs (setB (0 : Word) 63 true)).stepsPermitted = true
    ∧ (let d : Dev := { uDev with tim := { uDev.tim with slew := 2 ^ 60 } }; d.tim.slew ≠ 0 ∧ d.slewClocks.isSome = true)
    ∧ (let d : Dev := { (uDev.sb Reg.timPtmCtl 0 true) with hq := { uDev.hq with link := .l0, ptmEn := true } }; d.ptmReady = true ∧ d.tim.ptmSent = none)
    ∧ uDev.ptmReady = false ∧ (at_ uDev).takes (.pf 0) Reg.timPtmCtl ∧ inRangeAt Reg.timPtmCtl (setB (0x10000 : Word) 2 true) = true
    ∧ getB (0x10000 : Word) 1 = false ∧ (uDev.sb Reg.timPtmCtl 1 true).gb Reg.timPtmCtl 1 = true
    ∧ ({ uDev with tim := { uDev.tim with ptmSent := some 3 } } : Dev).tim.ptmSent = some 3 ∧ uDev.gf Reg.timCtl 0 3 ≠ 4 := by decide +kernel

/-- A device whose PPS input is enabled. -/
def ppsDev : Dev := uDev.sb Reg.timPpsinCfg 0 true

theorem witness_time_pins_and_snapshots :
    (ppsDev.gb Reg.timPpsinCfg 0 = true ∧ true ≠ ppsDev.gb Reg.timPpsinCfg 1 ∧ ppsDev.gf Reg.timPpsinCfg 8 8 ≤ 255 ∧ ppsDev.tim.ppsLast = none
      ∧ ppsDev.timState ≤ 1)
    ∧ (let d : Dev := { ppsDev with tim := { ppsDev.tim with ppsLast := some 0 } }; d.tim.ppsLast = some 0 ∧ (d.tim.up - 0) * 2 < secU)
    ∧ (let d := (((uDev.setTimState 2).sb Reg.timPpsoutCfg 0 true).sb Reg.timClk10Cfg 0 true); d.pinLow Reg.timPpsoutCfg = false ∧ d.pinLow Reg.timClk10Cfg = false)
    ∧ ((at_ uDev).takes (.pf 0) Reg.timSnaptCtl ∧ getB (1 : Word) 1 = false ∧ (uDev.wrReg Reg.timSnaptCtl (setB (1 : Word) 0 true)).gf Reg.timSnaptCtl 2 3 = 0)
    ∧ (let d := uDev.wrReg Reg.timSnaptCtl (setB (0x4 : Word) 0 true)
       d.gf Reg.timSnaptCtl 2 3 ≠ 0 ∧ d.snaptState ≠ 1 ∧ d.snaptState ≠ 2
        ∧ d.gf Reg.timSnaptSec 0 48 * secU + d.gf Reg.timSnaptNs 0 32 * nsU < d.now + 10 * usU)
    ∧ (let d := (uDev.wr Reg.timSnaptNs 10000).wrReg Reg.timSnaptCtl (setB (0x4 : Word) 0 true)
       d.now + 10 * usU ≤ d.gf Reg.timSnaptSec 0 48 * secU + d.gf Reg.timSnaptNs 0 32 * nsU ∧ d.gb Reg.timSnaptCtl 5 = false)
    ∧ (let d := (uDev.wr Reg.timSnaptSec 5).wrReg Reg.timSnaptCtl (setB (0x24 : Word) 0 true)
       d.gf Reg.timSnaptCtl 2 3 ≠ 0 ∧ d.now + 10 * usU ≤ 5 * secU ∧ d.gb Reg.timSnaptCtl 5 = true ∧ d.beforeSecond (5 * secU) = false
        ∧ d.anyActive = false)
    ∧ ((uDev.sf Reg.timSnaptStat 0 2 1).snaptState = 1 ∧ (uDev.sf Reg.timSnaptStat 0 2 2).snaptState = 2 ∧ uDev.tim.snapQuiet = false) := by
  decide +kernel

/-! ### Chapter 3 -/

/-- A start of bank 0 is pending at 1 s, its bank SCHEDULED. -/
def startDev : Dev :=
  { (uDev.setBankSt 0 4).sb Reg.calCtl 0 true with cal := { pend := some { bank := 0, at_ := secU, cyc := 0, start := true, act := false } } }

theorem witness_bank_commands :
    (at_ uDev).takes (.pf 0) Reg.calCmd ∧ uDev.solLocked 3 = false
    ∧ (let d := uDev.wrReg Reg.calCmd (calCmdWord 1 0x330); getF (0x330 : Word) 4 2 = 3 ∧ getF (0x230 : Word) 8 2 = 2 ∧ d.bankSt 3 = 0 ∧ d.bankSt 2 ≠ 1 ∧ d.bankSt 2 ≠ 2
        ∧ 3 ∉ d.copySources)
    ∧ (let d := (uDev.setBankSt 3 3).wrReg Reg.calCmd (calCmdWord 3 0x30); d.bankSt 3 = 3 ∧ 3 ∉ d.copySources)
    ∧ (let d := (uDev.setBankSt 3 2).wrReg Reg.calCmd (calCmdWord 2 0x30); d.bankSt 3 ≠ 0 ∧ d.bankSt 3 ≠ 3)
    ∧ (let d := (({ uDev with cal := { banks := [(1, { src := some 3 })] } } : Dev).setBankSt 1 1).wrReg Reg.calCmd (calCmdWord 3 0x30); 3 ∈ d.copySources) := by
  decide +kernel

theorem witness_entry_write_needs_idle_bank :
    ((at_ uDev).takes4 (.pf 0) (calIsland 3) 2 ∧ uDev.solLocked 3 = false ∧ uDev.bankSt 3 = 0 ∧ 3 ∉ uDev.copySources)
    ∧ ((at_ (uDev.setBankSt 0 5)).takes4 (.pf 0) (calIsland 0) 2 ∧ (uDev.setBankSt 0 5).bankSt 0 ≠ 0)
    ∧ (let d := ({ uDev with cal := { banks := [(1, { src := some 3 })] } } : Dev).setBankSt 1 1
       (at_ d).takes4 (.pf 0) (calIsland 0) 2 ∧ d.bankSt 3 = 0 ∧ 3 ∈ d.copySources) := by decide +kernel

theorem witness_activation_acceptance :
    (at_ uDev).takes (.pf 0) Reg.calAct ∧ (at_ runDev).takes (.pf 0) Reg.calAct ∧ getB (3 : Word) 62 = false ∧ uDev.solLocked 3 = false
    ∧ ((uDev.sb Reg.calCtl 1 true).wrReg Reg.calAct (setB (3 : Word) 63 true)).calRing = true
    ∧ (let d := uDev.wrReg Reg.calAct (setB (3 : Word) 63 true); d.calRing = false ∧ d.running = false)
    ∧ (let d := runDev.wrReg Reg.calAct (setB (3 : Word) 63 true); d.calRing = false ∧ d.running = true ∧ d.bankSt 3 ≠ 3)
    ∧ (let d := (runDev.setBankSt 3 3).wrReg Reg.calAct (setB (3 : Word) 63 true)
       d.running = true ∧ d.bankSt 3 = 3 ∧ d.cal.pend = none ∧ (d.boundaryFrom (d.now + 1000 * nsU)).isSome = true ∧ d.cal.cur.isSome = true)
    ∧ (let d : Dev := { runDev with cal := { cur := some { bank := 0, par := {}, beg := 0, num := 5, from_ := 0 } } }
       getF (0x503 : Word) 8 48 = 5 ∧ getF (0x603 : Word) 8 48 = 6
        ∧ (d.boundaryFrom (d.now + 1000 * nsU)).all (fun x => decide (x.1 ≤ 0 + (6 - 5) * d.cycLen 0)) = true)
    ∧ (let d : Dev := { runDev with cal := { runDev.cal with pend := some ⟨2, secU, 9, false, true⟩ } }
       (at_ d).takes (.pf 0) Reg.calAct ∧ getB (0 : Word) 63 = false ∧ (d.wrReg Reg.calAct (setB (0 : Word) 62 true)).calRing = false ∧ d.bankSt 2 ≠ 5) := by
  decide +kernel

theorem witness_calendar_starts_and_hands_over :
    (at_ uDev).takes (.pf 0) Reg.calCtl ∧ uDev.running = false ∧ getB (uDev.rd Reg.calCtl) 0 = false ∧ uDev.bankSt 0 ≠ 3
    ∧ (let d := uDev.setBankSt 0 3; d.bankSt 0 = 3 ∧ d.cal.stopAt = none ∧ d.calStartAt < d.now + d.leadU + 3000 * nsU)
    ∧ (let d := (uDev.setBankSt 0 3).sf Reg.calStartSec 0 48 1
       d.now + d.leadU + 3000 * nsU ≤ d.calStartAt ∧ (d.wrReg Reg.calCtl (setB (0 : Word) 0 true)).calRing = false
        ∧ (d.wrReg Reg.calCtl (setB (2 : Word) 0 true)).calRing = true)
    ∧ ((at_ startDev).takes (.pf 0) Reg.calCtl ∧ getB (startDev.rd Reg.calCtl) 0 = true
        ∧ getF (setB (0 : Word) 0 false) 1 3 = getF (startDev.rd Reg.calCtl) 1 3 ∧ startDev.running = false
        ∧ startDev.cal.pend = some ⟨0, secU, 0, true, false⟩ ∧ startDev.bankSt 0 = 4)
    ∧ (runDev.running = true ∧ getB (runDev.rd Reg.calCtl) 0 = true ∧ (runDev.boundaryFrom (runDev.now + 1000 * nsU)).isSome = true)
    ∧ (startDev.waitLocal (startDev.handOver secU)).calRing = false
    ∧ (let d := startDev.sb Reg.calCtl 1 true; d.cal.pend = some ⟨0, secU, 0, true, false⟩ ∧ d.bankSt 0 = 4
        ∧ (d.waitLocal (d.handOver secU)).calRing = true ∧ (d.waitLocal (d.handOver secU)).ringStartOk = false) := by decide +kernel

theorem witness_validation_and_cycles :
    (uDev.setBankSt 3 2).bankSt 3 = 2
    ∧ (let d := ({ uDev with cal := { banks := [(1, { src := some 3 })] } } : Dev).setBankSt 1 1; (d.bank 1).src = some 3 ∧ d.bankSt 1 = 1)
    ∧ (runDev.running = true ∧ runDev.cal.cur = some { bank := 0, par := {}, beg := 0, num := 0, from_ := 0 } ∧ runDev.cal.pend = none
        ∧ (((runDev.waitLocal (0 + runDev.cycLen 0)).takeCfg (0 + runDev.cycLen 0)).takeResume (0 + runDev.cycLen 0)).cal.stopAt = none)
    ∧ ((at_ uDev).takes (.pf 0) (Reg.calPortCfg 35) ∧ uDev.running = false ∧ (at_ runDev).takes (.pf 0) (Reg.calPortCfg 35)
        ∧ (runDev.boundaryFrom (runDev.now + 1000 * nsU)).isSome = true)
    ∧ Sparse.find ({ runDev with cal := { runDev.cal with reval := [(3, 0)] } } : Dev).cal.reval 3 = some 0
    ∧ (runDev.validate 0 {} []).1 = 0 ∧ (runDev.validate 0 { cyc := 0 } []).1 = 1 := by decide +kernel

/-- The launch of stream 7, its instance and its frame. -/
def la0 (armed : Bool) : Launch :=
  { port := 0, idx := 0, stream := 7, at_ := 500000 * nsU, hcyc := 0, cyc := 0, key := 500000 * nsU, resLen := 200, cls := 0, armed := armed }
def in0 : Inst := { stream := 7, cyc := 0, key := 500000 * nsU, left := 1, frame := some 1 }
def fr0 : Frame := { octets := List.replicate 60 0, stream := some 7 }
def launchDev (armed : Bool) : Dev :=
  let d := fetchDev 0
  { d with cal := { d.cal with launches := [la0 armed], insts := [in0] }, frames := [(1, fr0)] }

theorem witness_launch_from_fetch_to_wire :
    (∀ fabric ∈ [0, 1], (let s := fetchDev fabric
      let e : Word := BitVec.ofNat 64 (500000 + 7 * 2 ^ 42 + 2 ^ 60)
      (s.launchSrc 0 0 0).map (fun x => x.2) = some (e, 500000 * nsU) ∧ s.now < 500000 * nsU ∧ getB (s.portCfgAt 0 (500000 * nsU)) 0 = true
      ∧ s.sliceOut (sliceOf 0) = false ∧ s.cal.launches = [] ∧ (s.port 0).released = []
      ∧ (let b := (s.waitLocal (500000 * nsU - s.leadU)).scrub (entryAddr 0 0 0) Reg.calEccCnt
         b.isBad (entryAddr 0 0 0) = false ∧ eKind e = 1 ∧ b.sType (eArg e) = 1 ∧ (b.readRec (eArg e)).strBar (eArg e) (some 0) = .none
          ∧ (b.readRec (eArg e)).sReplicated (eArg e) = false ∧ (b.readRec (eArg e)).cal.insts = []
          ∧ (b.readRec (eArg e)).sFabric (eArg e) = (fabric == 1)
          ∧ ((b.readRec (eArg e)).sg (eArg e) 1 0 16 = 9 ∧ (b.readRec (eArg e)).hostSource 9 = 0 ∧ ((b.readRec (eArg e)).sq 9).isSome = true))))
    ∧ (let s := launchDev false
       let d := s.waitLocal (500000 * nsU - 1000 * nsU)
       s.nextLaunch 0 false = some (la0 false) ∧ d.strBar 7 (some 0) = .none ∧ d.instOf (la0 false) = some in0 ∧ in0.none_ = false
        ∧ d.frame 1 = some fr0 ∧ fr0.ready = true ∧ d.launchLink 0 = true ∧ d.overrun (d.judged (la0 false)) fr0 = false ∧ d.pausedAt (d.judged (la0 false)) = false)
    ∧ (let s := launchDev true
       let d := (s.waitLocal (500000 * nsU)).settleWire 0 (s.waitLocal (500000 * nsU)).tim.up
       s.nextLaunch 0 true = some (la0 true) ∧ d.instOf (la0 true) = some in0 ∧ d.frame 1 = some fr0 ∧ d.portOpen 0 = true ∧ (d.port 0).cur = none
        ∧ (d.port 0).gapEnd ≤ d.tim.up ∧ d.waking 0 d.tim.up = false
        ∧ (let y := (launchDev true).modPort 0 (fun z => { z with gapEnd := 2 ^ 80 })
           let e := (y.waitLocal (500000 * nsU)).settleWire 0 (y.waitLocal (500000 * nsU)).tim.up
           e.instOf (la0 true) = some in0 ∧ e.tim.up < (e.port 0).gapEnd))
    ∧ (fetchDev 0).instOf (la0 false) = none := by decide +kernel

theorem witness_wire_starts_and_ends :
    (∀ y ∈ [({ respond := 1 } : PortSt), { nOwed := true }, { annResp := 1 }, { pauseOwed := some 5 }],
      (let d := (((wireDev y).sb (Reg.macPauseCfg 0) 3 true).pauseCheck 0).purge 0; (d.port 0).cur = none ∧ d.canSend 0 d.tim.up = true ∧ d.items 0 ≠ []))
    ∧ (let d := (((wireDev { respond := 1 }).pauseCheck 0).purge 0); d.pickItem 0 d.now (fun i => i == .respond) = some .respond)
    ∧ (let d := ((((wireDev { pauseOwed := some 5 }).sb (Reg.macPauseCfg 0) 3 true).pauseCheck 0).purge 0)
       d.pickItem 0 d.now (fun i => i == .pause) = some .pause ∧ (d.port 0).pauseOwed = some 5)
    ∧ (let d := ((((wireDev {}).sf (Reg.prePortStat 0) 0 3 2).pauseCheck 0).purge 0)
       d.pickItem 0 d.now (fun i => i == .verify) = some .verify)
    ∧ (let d := ((({ (wireDev { queue := [(3, 1)] }) with frames := [(1, fr0)] } : Dev).pauseCheck 0).purge 0)
       d.pickItem 0 d.now (fun _ => true) = some (.new 3 1 1) ∧ d.frame 1 = some fr0
        ∧ (((d.startItem 0 d.tim.up d.now (.new 3 1 1)).port 0).cur).isSome = true)
    ∧ (let d := wireDev { cur := some { kind := .frame 1, cls := 1, octets := List.replicate 60 0, start := 0, local_ := 0 } }
       ∀ t ∈ (d.port 0).cur, d.dataMissing t = false ∧ d.overLimit 0 t = false ∧ t.jig = 0)
    ∧ (let t : Tx := { kind := .control false, cls := 2, octets := List.replicate 60 0, start := 0, local_ := 0, limit := some 0 }
       let d : Dev := { (uDev.sf (Reg.sdsMode 33) 0 3 6) with ports := [(33, { cur := some t })] }
       (d.port 33).cur = some t ∧ d.overLimit 33 t = true) := by decide +kernel

theorem witness_low_power_idle_and_pause :
    (let s := ({ (wireDev {}) with cal := {} } : Dev).sb (Reg.macEeeCfg 0) 0 true
     let s1 := s.wr (Reg.calPortCfg 0) 0
     s1.gb (Reg.macEeeCfg 0) 0 = true ∧ s1.lpiMode 0 = true ∧ s1.linkUp 0 = true ∧ (s1.port 0).cur = none ∧ (s1.port 0).lpiSince = none
      ∧ (s1.port 0).suspP = none ∧ s1.items 0 = [] ∧ s1.schedEn 0 = false)
    ∧ ((wireDev { lpiSince := some 0, respond := 1 }).items 0 ≠ [] ∧ ((wireDev { lpiSince := some 0 }).port 0).lpiSince = some 0)
    ∧ ((wireDev {}).mergedAway 0 = false ∧ (wireDev {}).linkUp 0 = true ∧ (wireDev {}).gb (Reg.macStat 0) 2 = false)
    ∧ ((wireDev { pauseEnd := some 9 }).port 0).pauseEnd = some 9
    ∧ (let s : Dev := { (((wireDev {}).sb (Reg.macPauseCfg 0) 3 true).sb (Reg.macStat 0) 3 true).sf (Reg.macRxBuf 0) 32 16 0 with
          frames := [(1, { fr0 with rx := some 0 })] }
       s.gb (Reg.macPauseCfg 0) 3 = true ∧ s.gb (Reg.macStat 0) 3 = true ∧ s.gf (Reg.macRxBuf 0) 32 16 * 1024 < s.heldFor 0
        ∧ s.portRate 0 ≠ 0) := by decide +kernel

/-! ### Chapter 4 -/

/-- Pre-emption active on port 0 in a calendar with one launch entry. -/
def preDev (y : PortSt) : Dev := (wireDev y).sb (Reg.prePortStat 0) 3 true

/-- A transmission of 300 octets on port 0 of which a cut was asked for at 1 µs. -/
def cutTx : Tx := { kind := .frame 1, cls := 0, octets := List.replicate 300 0, start := 0, local_ := 0, cutAt := some (100 * nsU), cuttable := true }

theorem witness_holds_cuts_and_verification :
    ((preDev {}).preActive 0 = true ∧ (((preDev {}).ss 7 0 2 2 1).nextHold 0).isSome = true ∧ ((preDev {}).ss 7 0 2 2 1).preActive 0 = true)
    ∧ ((preDev { holds := [⟨false, 5, 9⟩] }).port 0).released = []
    ∧ (let d := preDev { cur := some cutTx }
       let kk := max (clampN (d.sentAt 0 cutTx (100 * nsU + 4 * nsU)) (d.sentAt 0 cutTx (100 * nsU + 16 * nsU)) 0) cutTx.fmin
       kk < cutTx.dataLen ∧ 64 + kk ≤ cutTx.left ∧ cutTx.nest = false ∧ cutTx.cutTo = none ∧ cutTx.stompAt = none
        ∧ d.preActive 0 = true ∧ (wireDev { cur := some cutTx }).preActive 0 = false)
    ∧ (let t : Tx := { cutTx with octets := List.replicate 61 0 }
       let d := preDev { cur := some t }
       t.left < 64 + max (clampN (d.sentAt 0 t (100 * nsU + 4 * nsU)) (d.sentAt 0 t (100 * nsU + 16 * nsU)) 0) t.fmin ∧ t.cuttable = true)
    ∧ (let d := (preDev { vSent := some 0, vTry := 2 }).sf (Reg.prePortStat 0) 0 3 3; d.verifySt 0 = 3 ∧ (d.port 0).vSent = some 0 ∧ (d.port 0).vTry < 3)
    ∧ 3 ≤ ((preDev { vSent := some 0, vTry := 3 }).port 0).vTry
    ∧ (let d := (preDev { nSent := some 0, nTry := 3 }).sf (Reg.prePortStat 0) 4 2 1
       d.nestSt 0 = 1 ∧ (d.port 0).nSent = some 0 ∧ d.gb (Reg.prePortStat 0) 15 = false)
    ∧ ((at_ (preDev {})).takes (.pf 0) (Reg.prePortCfg 0) ∧ (preDev {}).mergedAway 0 = false
        ∧ inRangeAt (Reg.prePortCfg 0) ((preDev {}).rd (Reg.prePortCfg 0)) = true ∧ getB ((preDev {}).rd (Reg.prePortCfg 0)) 63 = false)
    ∧ (let d := (preDev {}).sf (Reg.prePortStat 0) 0 3 4
       4 ≤ d.verifySt 0 ∧ inRangeAt (Reg.prePortCfg 0) (setB (d.rd (Reg.prePortCfg 0)) 63 true) = true) := by decide +kernel

/-- Sixty octets with the frame's FCS, and with an mCRC, after a first fragment of `pre`. -/
def part (pre : List Byte) (m : Bool) : List Byte :=
  List.replicate 60 1 ++ (if m then mcrcOf (pre ++ List.replicate 60 1) else fcsOf (pre ++ List.replicate 60 1))

/-- A context of frame count 2 that waits for fragment 0. -/
def ctx2 : Ctx := { fc := 2, next := 0, octets := List.replicate 60 7, mark := {}, since := 0, timeout := 100 }

theorem witness_reception_and_reassembly :
    (((wireDev {}).port 0).ctx false = none ∧ checkOf [] (part [] true) = .m ∧ 64 ≤ (part [] true).length)
    ∧ (((wireDev { ctxP := some ctx2 }).port 0).ctx false = some ctx2 ∧ ((wireDev { ctxP := some ctx2 }).port 0).skipP = false)
    ∧ (checkOf ctx2.octets (part ctx2.octets false) = .f ∧ checkOf ctx2.octets (part ctx2.octets true) = .m ∧ 64 ≤ (part ctx2.octets true).length)
    ∧ checkOf ctx2.octets (List.replicate 64 1) = .bad ∧ ctx2.fc ≠ 3 ∧ some 1 ≠ some ctx2.next
    ∧ (let d := ((wireDev {}).sb (Reg.macCfg 0) 1 true).countLine 0 {}
       ((wireDev {}).sb (Reg.macCfg 0) 1 true).canReceive 0 = true ∧ d.flt.held = [] ∧ d.jigActive = false ∧ (d.jigRule 0 false (part [] false) none true).1 = none
        ∧ (d.jigRule 0 false (part [] false) none true).2.flt.held = [])
    ∧ (idxOf [0xA7, 0x1E, 0x73, 0xF8] 0xE6 = none ∧ idxOf [0x61, 0x52, 0x2A, 0x9E] 0xE6 = none) := by decide +kernel

/-! ### Chapter 5 -/

/-- Stream 7 with recovery: history of 64 sequence numbers, RCV_SEQ `q`, TAKE_ANY `any`, the algorithm `alg` and TAKE_NO_SEQ. -/
def rcvDev (alg any q : Nat) : Dev :=
  ((uDev.setSw 7 0 (BitVec.ofNat 64 (1 + 2 ^ 6 + alg * 2 ^ 7 + 2 ^ 8 + 200 * 2 ^ 10 + 64 * 2 ^ 24))).setSw 7 3 (BitVec.ofNat 64 (q * 2 ^ 16 + any * 2 ^ 32))).setSw 7 5 1

theorem witness_stream_records_and_counters :
    ((at_ uDev).takes4 (.pf 0) (halfIsland (halfOf 262143)) 4 ∧ (at_ (rcvDev 0 0 5)).takes4 (.pf 0) (halfIsland (halfOf 7)) 4
      ∧ (rcvDev 0 0 5).sType 7 = 1 ∧ uDev.recLocked 262143 7 = false ∧ uDev.recLocked 262143 0 = false ∧ uDev.sType 262143 ≠ 1
      ∧ getF (1 : Word) 0 2 = 1)
    ∧ (let d := (rcvDev 0 0 5).setSw 8 0 (BitVec.ofNat 64 (2 + 7 * 4)); d.sType 8 = 2 ∧ d.sType (d.sg 8 0 2 18) = 1)
    ∧ ((at_ uDev).takes (.pf 0) Reg.strCntSel ∧ uDev.gb Reg.strCntStat 0 = false ∧ uDev.gb Reg.strStat (halfOf 262143) = false
        ∧ uDev.gb Reg.strStat 4 = false ∧ uDev.hbmOk = true ∧ getB (0x13ffff : Word) 32 = false ∧ getB (0x100000000 : Word) 32 = true)
    ∧ (rcvDev 0 0 5).recBad 7 = false ∧ ({ rcvDev 0 0 5 with bad := (rcvDev 0 0 5).strRecWords 7 } : Dev).recBad 7 = true
    ∧ ((rcvDev 0 0 5).ss 7 3 34 11 1).sg 7 3 34 11 = 1 ∧ 1 < ((rcvDev 0 0 5).ss 7 3 34 11 2047).sg 7 3 34 11
    ∧ (let d := (rcvDev 0 0 5).ss 7 4 0 16 9
       let d1 := d.ss 7 1 37 2 1
       d1.sg 7 1 42 8 < (((d1.sg 7 4 0 16 * d1.sg 7 1 37 2 : Nat) : Int) - (d1.sg 7 4 16 16 : Int)).natAbs ∧ d1.sg 7 4 0 16 ≠ 65535)
    ∧ (let d := (uDev.sf (Reg.strLeProf 7) 16 16 1).sf (Reg.strLeProf 7) 0 16 1
       d.gf (Reg.strLeProf 7) 16 16 ≠ 0 ∧ Sparse.find ({ d with str := { d.str with tested := [(7, 0)] } } : Dev).str.tested 7 = some (d.nextMultiple 1 none)
        ∧ (d.sf (Reg.strLeProf 7) 0 16 2).nextMultiple 1 (some 0) % ((d.sf (Reg.strLeProf 7) 0 16 2).gf (Reg.strLeProf 7) 0 16 * msU) ≠ 0)
    ∧ ((at_ uDev).takes (.pf 0) Reg.strCmd ∧ ((rcvDev 0 0 5).wrReg Reg.strCmd (strCmdWord 2 7)).recOk 7 = true
        ∧ ((rcvDev 0 0 5).wrReg Reg.strCmd (strCmdWord 2 7)).strFenced 7 = false
        ∧ (((rcvDev 0 0 5).fenceStream 7).wrReg Reg.strCmd (strCmdWord 1 7)).strFenced 7 = true
        ∧ (uDev.wrReg Reg.strCmd (strCmdWord 1 7)).recOk 7 = false) := by decide +kernel

theorem witness_recovery_of_received_frames :
    (rcvDev 0 1 5).sg 7 0 7 1 = 0 ∧ (rcvDev 0 1 5).sg 7 3 32 1 = 1 ∧ (rcvDev 0 0 5).sg 7 3 32 1 ≠ 1 ∧ (rcvDev 0 0 5).sHistLen 7 = 64
    ∧ toSigned 16 (69 + 65536 - (rcvDev 0 0 5).sg 7 3 16 16) = 64 ∧ toSigned 16 (68 + 65536 - (rcvDev 0 0 5).sg 7 3 16 16) = 63
    ∧ toSigned 16 (65477 + 65536 - (rcvDev 0 0 5).sg 7 3 16 16) = -64 ∧ toSigned 16 (5 + 65536 - (rcvDev 0 0 5).sg 7 3 16 16) = 0
    ∧ ((rcvDev 0 0 5).hist 7).testBit 0 = true ∧ ((rcvDev 0 0 5).hist 7).testBit 63 = false
    ∧ (rcvDev 1 0 5).sg 7 0 7 1 ≠ 0 ∧ (rcvDev 1 1 5).sg 7 3 32 1 = 1 ∧ (rcvDev 1 0 5).sg 7 3 16 16 = 5
    ∧ (rcvDev 1 0 5).sg 7 0 8 1 = 1 ∧ uDev.sg 7 0 8 1 ≠ 1 := by decide +kernel

/-! ### Chapter 6 -/

/-- Attachment 0 of a single node in state `st` on a ring of 1 ms cycles. -/
def ringDev (st : Nat) : Dev :=
  (((uDev.sb (Reg.rngCtl 0) 0 true).sf (Reg.rngStat 0) 0 3 st).sf (Reg.rngCycCfg 0) 0 30 1000000).sf (Reg.rngCycCfg 0) 32 30 20000

/-- A cold-start frame of node 5, 40 ns early. -/
def cold5 : RSync :=
  { port := 32, src := 5, hops := 0, cold := true, theta := 40 * 2 ^ 48, cyc := 9, st := 0, ref := false, bank := 0, msId := 0, msOp := 0, msBank := 0, msSrc := 0
    msCyc := 0, barId := 0, barArr := false, snapV := false, snapId := 0, snapClear := false, snapScope := 0, snapT := 0 }

theorem witness_ring_cycle :
    ((ringDev 4).memOf 0 = 0 ∧ (ringDev 4).ringC 0 ≠ 0 ∧ (ringDev 4).memSt 0 = 4 ∧ (ringDev 6).memSt 0 = 6)
    ∧ (let f : RFwd := ⟨35, 34, 0, 1200, []⟩; let d : Dev := { (ringDev 4) with rng := { fwds := [f] } }
       d.rng.fwds.find? (fun g => g.port == 35) = some f)
    ∧ (let d := (ringDev 2).modAtt 0 (fun r => { r with abortAt := some 5 }); d.memOf 0 = 0 ∧ (d.ratt 0).abortAt = some 5 ∧ d.memSt 0 = 2)
    ∧ (let d := (ringDev 1).modAtt 0 (fun r => { r with winEnd := some 5 }); (d.ratt 0).winEnd = some 5 ∧ d.memSt 0 = 1 ∧ ((d.waitUp 5).ratt 0).win = [])
    ∧ (let d := (ringDev 1).modAtt 0 (fun r => { r with winEnd := some 5, win := [cold5] })
       ((d.waitUp 5).ratt 0).win = [cold5] ∧ cold5.cold = true
        ∧ (((d.waitUp 5).modAtt 0 (fun r => { r with winEnd := none, win := [] })).sf (Reg.rngStat 0) 24 6 5).stepsPermitted = true) := by decide +kernel

/-- Attachment 0 enabled with a core that has booted, so that its pin may rise. -/
def pinDev : Dev :=
  let d := ((ringDev 0).sb (Reg.rngCtl 0) 1 true)
  { d with mbx := { d.mbx with coreBoot := false } }

theorem witness_ring_pins_halt_and_restart :
    (pinDev.inserted 0 = false ∧ pinDev.pinWant 0 = true ∧ pinDev.sameRing = false) ∧ (uDev.pinWant 1 = false ∧ (uDev.sb (Reg.rngStat 1) 4 true).inserted 1 = true)
    ∧ (∀ st ∈ [4, 6], (let s := ringDev st
       let v := s.rd (Reg.rngCtl 0)
       let e := (s.wrReg (Reg.rngCtl 0) (setB v 62 true)).rebase s.joined s.holder
       let d := (e.sb (Reg.rngStat 0) 3 e.sameRing).sb (Reg.rngStat 1) 3 e.sameRing
       (at_ s).takes (.pf 0) (Reg.rngCtl 0) ∧ getB v 62 = false ∧ d.sameRing = false ∧ d.gf (Reg.rngStat (d.memOf 0)) 0 3 = st)) := by decide +kernel

/-- An ACTIVE attachment whose calendar runs, bank 2 STAGED, with one broadcast of the node. -/
def agreeDev (bk : Nat) : Dev :=
  let d := (((((ringDev 4).sb Reg.calStat 0 true).setBankSt bk 3).sb (Reg.rngStat 0) 4 true).sf (Reg.rngCycCfg 0) 32 30 20000)
  { d with cal := runDev.cal }

theorem witness_ring_agreement :
    (∀ bk ∈ [2, 3], (let s := agreeDev bk
       let d := s.wrReg Reg.rngMsCtl (setB 2 63 true)
       (at_ s).takes (.pf 0) Reg.rngMsCtl ∧ d.gf (Reg.rngStat d.mainAtt) 0 3 = 4 ∧ (d.ratt d.mainAtt).sw = none
        ∧ (d.offer 2 ((d.cycIdx d.mainAtt d.now + 4) * d.ringC d.mainAtt) ((d.cycIdx d.mainAtt d.now + 4) % 2 ^ 48)).1 = (bk == 2)))
    ∧ (let d := (ringDev 3).wrReg Reg.rngMsCtl (setB 2 63 true); d.gf (Reg.rngStat d.mainAtt) 0 3 ≠ 4)
    ∧ ((at_ (agreeDev 2)).takes (.pf 0) Reg.rngBarCtl ∧ ((agreeDev 2).ratt (agreeDev 2).mainAtt).barAt = none)
    ∧ ((at_ (agreeDev 2)).takes (.pf 0) Reg.rngBcCtl ∧ inRangeAt Reg.rngBcCtl (setB (46 : Word) 63 true) = true ∧ (agreeDev 2).gb Reg.rngBcStat 5 = false)
    ∧ (let b : RBc := ⟨0, 1, 46, none, List.replicate 46 0⟩
       let d : Dev := { agreeDev 2 with rng := { bcs := [b] } }
       d.rng.bcs.find? (fun x => x.fed.isSome == false && d.bcMay x.att) = some b ∧ d.memOf 0 = 0 ∧ (d.bcStart 0 512 d.now).isSome = true)
    ∧ (at_ uDev).takes (.pf 0) Reg.rngBcStat := by decide +kernel

/-! ### Chapter 7 -/

/-- A LEAVE of stream 7 into bank 1. -/
def leave : SolReq := { words := [BitVec.ofNat 64 (2 + 1 * 2 ^ 7 + 7 * 2 ^ 32), 0, 0, 0, 0, 0, 0, 0], fileAddr := 0, fileLen := 0 }

/-- The solver READY on the calendar of `fetchDev`, whose active bank 0 is its head, with one request. -/
def solDev (q : SolReq) : Dev :=
  let d := (((fetchDev 0).setBankSt 0 6).sb Reg.solCtl 0 true).sf Reg.solStat 0 2 1
  { d with cal := { d.cal with banks := [(0, { par := { dir := [BitVec.ofNat 64 (2 ^ 32)] } })] }, sol := { queue := [q], taken := true } }

/-- Its job in phase `ph`. -/
def job (ph code : Nat) (ab : Bool) : SolJob := { req := leave, target := 1, base := 0, phase := ph, code := code, index := some 7, abort := ab }
def jobDev (j : SolJob) : Dev := { solDev leave with sol := { job := some j, taken := true } }

theorem witness_solver_register_commands :
    ((at_ (solDev leave)).takes (.pf 0) Reg.solCmd ∧ getB (0 : Word) 0 = false ∧ (solDev leave).sol.queue.length < 16)
    ∧ (16 ≤ ({ solDev leave with sol := { queue := List.replicate 16 leave } } : Dev).sol.queue.length)
    ∧ (job 0 0 false).phase = 0 ∧ (solDev leave).bankSt (solDev leave).solHead ≠ 3 ∧ (at_ (solDev leave)).takes (.pf 0) Reg.solResStat
    ∧ (let d := (runDev.setBankSt 2 3).sf Reg.solStat 7 2 2
       d.bankSt d.solHead = 3 ∧ d.calRing = false ∧ (((d.sf Reg.calAct 0 2 d.solHead).sf Reg.calAct 8 48 0).calActivate d.solHead 0).bankSt d.solHead = 4)
    ∧ ((at_ uDev).takes (.pf 0) Reg.solCtl ∧ inRangeAt Reg.solCtl (setB (uDev.rd Reg.solCtl) 0 true) = true ∧ uDev.gb Reg.solCtl 0 = false)
    ∧ (let d := (solDev leave).sf (Reg.benGrpStat 0) 0 3 3
       (at_ d).takes (.pf 0) Reg.solCtl ∧ d.gb Reg.solCtl 0 = true ∧ inRangeAt Reg.solCtl (setB (uDev.rd Reg.solCtl) 0 false) = true
        ∧ (d.wrReg Reg.solCtl (setB (uDev.rd Reg.solCtl) 0 false)).gf (Reg.benGrpStat 0) 0 3 = 3 ∧ d.sol.job = none)
    ∧ (let d : Dev := { (solDev leave).sf (Reg.benGrpStat 0) 0 3 1 with sol := {} }
       d.gb Reg.solCtl 0 = true ∧ d.sol.taken = false ∧ d.gf (Reg.benGrpStat 0) 0 3 = 1) := by decide +kernel

theorem witness_solver_job_runs :
    (let s := solDev leave
     let d := (({ s with sol := { s.sol with queue := [] } } : Dev).sf Reg.solStat 9 2 1).sb Reg.solStat 11 true
     s.sol.queue = [leave] ∧ s.gf Reg.solStat 0 2 = 1 ∧ s.sol.job = none ∧ leave.aborted = false ∧ s.sol.results.length < 16 ∧ leave.op = 2 ∧ s.solTarget leave = 1
      ∧ s.solHead = 0 ∧ s.incCode leave (s.bank 0).par (s.bankEnts 0 (s.bank 0).par) = 0 ∧ s.bankBar leave 1 = false ∧ d.gb Reg.solStat 11 = true)
    ∧ (let q : SolReq := { leave with words := [BitVec.ofNat 64 (2 + 2 ^ 7 + 8 * 2 ^ 32)] }
       (solDev q).incCode q ((solDev q).bank 0).par ((solDev q).bankEnts 0 ((solDev q).bank 0).par) ≠ 0 ∧ q.op ≠ 3)
    ∧ ((jobDev (job 0 0 false)).bankSt 1 ≠ 1
        ∧ ((jobDev (job 0 0 false)).incPlan leave ((jobDev (job 0 0 false)).shadowPar 1) ((jobDev (job 0 0 false)).bankEnts 1 ((jobDev (job 0 0 false)).shadowPar 1))).1 = 0
        ∧ ((jobDev (job 0 0 false)).incPlan leave ((jobDev (job 0 0 false)).shadowPar 1) ((jobDev (job 0 0 false)).bankEnts 1 ((jobDev (job 0 0 false)).shadowPar 1))).2.isSome = true)
    ∧ (job 0 0 true).abort = true ∧ (∀ b ∈ [3, 4], 3 ≤ ((jobDev (job 1 0 false)).setBankSt 1 b).bankSt 1) ∧ leave.act = false
    ∧ ((job 2 8 false).code ≠ 12 ∧ (job 2 8 false).touched = false ∧ (job 2 8 false).wrote = [] ∧ (jobDev (job 2 8 false)).bankSt 1 ≠ 1
        ∧ (jobDev (job 2 8 false)).bankSt 1 ≠ 2 ∧ (jobDev (job 2 8 false)).bankSt 1 ≠ 3)
    ∧ (let d : Dev := { solDev leave with sol := { owns := [(0, (1, 0))], ends := [(7, 1)] } }
       d.activeBank = some 0 ∧ Sparse.find d.sol.owns 0 = some (1, 0) ∧ d.gf Reg.solStat 0 2 = 1) := by decide +kernel

/-! ### Chapter 8 -/

theorem witness_port_modes_and_links :
    ((at_ uDev).takes (.pf 0) (Reg.sdsMode 31) ∧ uDev.mergedAway 31 = false ∧ getB (5 : Word) 63 = false ∧ getF (5 : Word) 0 3 = 5
      ∧ uDev.laneMode 31 ≠ 6 ∧ uDev.gf (Reg.macCfg 31) 0 2 = 0 ∧ (uDev.sf (Reg.macCfg 31) 0 2 3).gf (Reg.macCfg 31) 0 2 ≠ 0)
    ∧ ((at_ uDev).takes (.pf 0) (Reg.sdsMode 35) ∧ uDev.mergedAway 35 = false ∧ getF (uDev.rd (Reg.sdsMode 31)) 0 3 = uDev.laneMode 31)
    ∧ (let d := (uDev.sf (Reg.sdsMode 31) 0 3 4).sf (Reg.macCfg 31) 0 2 3; d.linkUp 31 = false ∧ (d.sb (Reg.pcsCfg 31) 2 false).gb (Reg.pcsCfg 31) 2 = false ∧ (d.sb (Reg.pcsCfg 31) 2 false).linkAllowed 31 = true)
    ∧ (∀ dn ∈ [0, 1], (let d := (((uDev.sf (Reg.sdsMode 31) 0 3 4).sf (Reg.macCfg 31) 0 2 3).sb (Reg.pcsStat 31) 0 true).sf (Reg.pcsCfg 31) 32 16 dn
       d.linkUp 31 = true ∧ d.linkBad 31 = true ∧ d.gf (Reg.pcsCfg 31) 32 16 = dn ∧ d.remoteFault 31 = false ∧ (d.port 31).failSince = none
        ∧ ((d.modPort 31 (fun y => { y with failSince := some 0 })).port 31).failSince = some 0
        ∧ (d.modPort 31 (fun y => { y with failSince := some d.tim.up })).remoteFault 31 = false)) := by decide +kernel

/-- An MDIO bus with a command in progress. -/
theorem witness_mdio_run (m : MdioRun) : Sparse.find ({ uDev with mgmt := { mdio := [(3, m)] } } : Dev).mgmt.mdio 3 = some m := rfl

theorem witness_management_buses :
    ((at_ uDev).takes (.pf 0) (Reg.macMdioCmd 3) ∧ uDev.gb (Reg.macMdioStat 3) 16 = false ∧ (uDev.sb (Reg.macMdioStat 3) 16 true).gb (Reg.macMdioStat 3) 16 = true)
    ∧ (mdioRead (mdioCmd false 2 0) = true ∧ mdioRead (mdioCmd true 0 0) = false)
    ∧ ((at_ uDev).takes (.pf 0) (Reg.macSmbCmd 1) ∧ getF (smbCmd 0 0x200000) 16 6 = 32 ∧ getF (smbCmd 0 0x210000) 16 6 = 33 ∧ getF (smbCmd 2 0) 16 6 = 0
        ∧ uDev.gb (Reg.macSmbStat 1) 0 = false ∧ (uDev.sb (Reg.macSmbStat 1) 0 true).gb (Reg.macSmbStat 1) 0 = true)
    ∧ (∀ op ∈ [0, 2], (let d : Dev := { uDev with mgmt := { smb := [(1, (smbCmd op 0x10000, 0))], smbClear := [1] } }
       Sparse.find d.mgmt.smb 1 = some (smbCmd op 0x10000, 0) ∧ getF (smbCmd op 0x10000) 22 2 = op ∧ 1 ∈ d.mgmt.smbClear)) := by decide +kernel

/-! ### Chapter 9 -/

/-- A received frame for `da` from source 0x02_0000_0000_01 on port 1, in the pipeline of slice 0 (port 32: of the ring). -/
def rxFrame (da : Nat) : Frame := { octets := beBytes 6 da ++ beBytes 6 0x020000000001 ++ List.replicate 48 0, rx := some 1 }
def pipeDev (f : Frame) (vlan : Word) : Dev :=
  { uDev.wr (Reg.fwdVlan 1) vlan with frames := [(5, f)], fwd := { wait := [5] } }

/-- The key of address 0x02_0000_0000_09 in VLAN 1; its first way of the main table and of the cache. -/
def key9 : Nat := fwdKey 0x020000000009 1
def way9 : Nat := (mainWays key9).headD 0
def slot9 : Nat := (cacheWays key9).headD 0

theorem witness_forwarding_pass :
    (let f := rxFrame 0x0180C2000000; let d := pipeDev f 0
     d.islandOk (fwdIsland 0) = true ∧ d.frame 5 = some f ∧ f.bank = 0 ∧ f.hostOnly = true ∧ f.ready = true
      ∧ d.fwd.lookups.any (fun m => m.frame == 5 && m.res.isNone) = false)
    ∧ (let f := rxFrame 0x020000000009; let d := pipeDev f 0; f.hostOnly = false ∧ f.loc = false ∧ d.vlanOk f = false)
    ∧ (let f := rxFrame 0x020000000009; let d := pipeDev f (BitVec.ofNat 64 (2 ^ 63 + 2 ^ 36 - 1)); let e := d.readWays 0 f
       f.headKnown = true ∧ d.vlanOk f = true ∧ e.readsNeeded 0 5 f ≠ [] ∧ e.readsOut 0 + (e.readsNeeded 0 5 f).length ≤ 256)
    ∧ (let m : MainRead := ⟨5, 3, key9, false, none⟩; [m].find? (fun x => x.slice == 3 && x.res.isNone) = some m)
    ∧ (let d := uDev.setMain way9 (BitVec.ofNat 64 (key9 + 2 ^ 60 + 2 ^ 61)) 0
       (d.mainRead 0 key9).1 = some (0, true) ∧ (d.mainRead 0 key9).2.cacheEntry 0 key9 = none)
    ∧ (eDkind 0 = 0 ∧ (rxFrame 9).dove = none ∧ uDev.prune (rxFrame 9) (2 ^ eDest 0) false = [])
    ∧ (let d := ((uDev.wr (Reg.fwdVlan 1) 1).sb (Reg.macCfg 0) 0 true).sb (Reg.pcsStat 0) 0 true; d.prune (rxFrame 9) (2 ^ eDest 0) false ≠ []) := by
  decide +kernel

/-- A dynamic cache entry of `key9` in slice 3, its HIT and SEEN. -/
def hitDev (hit seen : Nat) : Dev := uDev.setCache 3 slot9 (BitVec.ofNat 64 (key9 + 2 ^ 60 + hit * 2 ^ 61 + seen * 2 ^ 62)) 0

theorem witness_learning_and_aging :
    (let d : Dev := { uDev with fwd := { learn := [(3, key9, 1)] } }
     d.fwd.learn.find? (fun e => e.1 == 3) = some (3, key9, 1) ∧ d.islandOk (fwdIsland 3) = true ∧ (d.cacheSearch 3 key9).1 = none
      ∧ (let x := (d.cacheSearch 3 key9).2.mainRead 3 key9
         x.1 = none ∧ (x.2.installWay 3 key9).isSome = true ∧ (x.2.installWay 3 key9).all (fun i => eValid (x.2.cw 3 i 0) == false) = true))
    ∧ ((uDev.sf Reg.fwdCfg 2 2 0).gf Reg.fwdCfg 2 2 = 0 ∧ (uDev.sf Reg.fwdCfg 2 2 2).gf Reg.fwdCfg 2 2 = 2)
    ∧ (∀ x ∈ [(1, 0), (0, 0), (0, 1)], (let d := hitDev x.1 x.2
       (nextFrom (d.cacheDyn 3) 0 131072).map (fun e => e.1) = some slot9
        ∧ eValid ((d.cacheWayRead 3 slot9).cw 3 slot9 0) = true ∧ getB (d.cw 3 slot9 0) 61 = (x.1 == 1) ∧ getB (d.cw 3 slot9 0) 62 = (x.2 == 1)))
    ∧ [(3, slot9, key9)].find? (fun e => e.1 == 3) = some (3, slot9, key9)
    ∧ eValid ((({ hitDev 0 0 with bad := [cacheAddr 3 slot9 0] } : Dev).cacheWayRead 3 slot9).cw 3 slot9 0) = false
    ∧ (uDev.mainOut = false ∧ 16777216 ≤ uDev.scanNext)
    ∧ (let d := uDev.setMain way9 (BitVec.ofNat 64 (key9 + 2 ^ 60)) 0
       d.scanNext = way9 ∧ way9 < 16777216 ∧ (d.mainFind 0 key9).1 = some way9) := by decide +kernel

theorem witness_tables_and_try_square :
    ((at_ uDev).takes (.pf 0) Reg.fwdClr ∧ getB (1 : Word) 1 = false ∧ getB (2 : Word) 0 = false ∧ readyAt 3 (some 3) = false ∧ readyAt 4 (some 3) = true)
    ∧ (let d := (uDev.setMain way9 (BitVec.ofNat 64 (key9 + 2 ^ 60 + 2 ^ 61)) 0).sf Reg.fwdTblKey 0 60 key9
       (at_ d).takes (.pf 0) Reg.fwdTblCmd ∧ d.mainOut = false ∧ (d.mainFind 0 (d.gf Reg.fwdTblKey 0 60)).1 = some way9 ∧ (uDev.mainFind 0 key9).1 = none
        ∧ d.tblSync.fwd.tbl = none ∧ (({ d with fwd := { tbl := some ⟨5, 0, none⟩ } } : Dev).tblSync.fwd.tbl ≠ none)
        ∧ (∀ l ∈ [none, some (7, 2, true)], (let y : TblRun := ⟨0, 0, l⟩; y.due ≤ d.tim.up ∧ y.look = l))
        ∧ (uDev.sb Reg.glbIslandFenced 34 true).mainOut = true
        ∧ eDest (d.rd Reg.fwdTblData) ≤ destMax (eDkind (d.rd Reg.fwdTblData)))
    ∧ ((at_ uDev).takes4 (.pf 0) (uDev.fwdWordIsl (.cache 3 131071 1)) 10 ∧ (at_ uDev).takes4 (.pf 0) (uDev.fwdWordIsl (.main 16777215 3)) 10
        ∧ (at_ uDev).takes4 (.pf 0) 2 10)
    ∧ (uDev.islandOk 2 = true ∧ (uDev.sb Reg.smonStat 0 true).gb Reg.smonStat 0 = true ∧ uDev.gb Reg.smonStat 0 = false)
    ∧ (let d := ((uDev.sb Reg.fwdTsqCtl 0 true).sf Reg.fwdTsqCtl 16 8 1).sb Reg.fwdTsqStat 1 false
       d.fwd.tsqReads = [] ∧ d.fwd.tsqCfg = [] ∧ d.gb Reg.fwdTsqCtl 0 = true ∧ d.gf Reg.fwdTsqCtl 16 8 ≠ 0)
    ∧ (let d : Dev := { uDev with fwd := { tsqCfg := [2, 0x4000000, 0, 0xFF, 0] } }
       d.tsqList 0 = false ∧ d.tsqOfs 0 1 = 0x4000008 ∧ d.tsqC 0 2 = 0xFF ∧ (7 &&& d.tsqC 0 2) = (0x107 &&& d.tsqC 0 2)
        ∧ (0 &&& d.tsqC 0 2) ≠ (0x107 &&& d.tsqC 0 2) ∧ getB (d.fwd.tsqCfg.getD 0 0) 1 = true ∧ d.ldW (bar4Addr 0x4000008) = 0
        ∧ (∀ b ∈ [true, false], (let r : TsqRead := { region := 0, idx := 1, word := 7, bad := b }; r.bad = b ∧ r.got = none)))
    ∧ ((uDev.sb Reg.fwdTsqMiss 63 true).gb Reg.fwdTsqMiss 63 = true ∧ uDev.gb Reg.fwdTsqMiss 63 = false) := by decide +kernel

/-! ### Chapter 10 -/

/-- Submission queue 9 of PF0 with entries in flight, its completion queue 9, the link in L0. -/
def sqe (w0 w1 : Nat) (x : Sqe) : Sqe := { x with words := [BitVec.ofNat 64 w0, BitVec.ofNat 64 w1, 0x10000, 0, 0, 0, 0, 0] }
def qDev (s : Sq) (c : Cq) : Dev := { uDev with hq := { link := .l0, sqs := [(9, s)], cqs := [(9, c)] } }
def sq9 : Sq := { fn := 0, base := 0x1000, log := 4, kind := 0, cq := 9, ifMax := 8, pasid := none, wb := 0x5000, tail := 3 }
def cq9 : Cq := { fn := 0, base := 0x2000, log := 4, vec := 2, ien := true, timer := 1, count := 4, pasid := none }

theorem witness_doorbells_and_entries_read :
    (let d := qDev sq9 cq9
     d.islandOk 33 = true ∧ d.fnStopped 0 = false ∧ d.globalOf 0 9 = some 9 ∧ d.sq 9 = some sq9 ∧ d.cq 9 = some cq9 ∧ 15 < sq9.size ∧ sq9.size ≤ 16
      ∧ (0 + cq9.size - cq9.head % cq9.size) % cq9.size ≤ cq9.tail - cq9.head ∧ cq9.tail - cq9.head < (1 + cq9.size - cq9.head % cq9.size) % cq9.size)
    ∧ ({ sq9 with rd := 2 }.rd = 2 ∧ sq9.fn ≠ benchFn ∧ sq9.kind ≠ 2 ∧ phaseOf sq9.fetched sq9.log = 1)
    ∧ (uDev.formatBad 0 { n := 0, words := [0x100, 0, 0, 0, 0, 0, 0, 0] } = false ∧ uDev.formatBad 0 { n := 0, words := [0x1FE, 0, 0, 0, 0, 0, 0, 0] } = true) := by
  decide +kernel

/-- The queue with one entry of opcode `opc` (64 octets at 0x10000) waiting to run, or running. -/
def runQ (opc : Nat) (e : Sqe) : Dev := qDev { sq9 with flight := [sqe (opc + 2 ^ 8 + 2 ^ 9) 64 e], rd := 0 } cq9

theorem witness_entry_commands_run :
    (∀ opc ∈ [0, 0x10, 1, 2, 3], ((runQ opc { n := 0, words := [] }).nextEntry 9 opc).isSome = true)
    ∧ (let e := sqe (1 + 2 ^ 8 + 2 ^ 11) 64 { n := 0, words := [] }; e.strV = true ∧ uDev.sType e.stream ≠ 1 ∧ uDev.strBar e.stream none ≠ .none)
    ∧ (∀ opc ∈ [1, 2, 3], (let e := sqe (opc + 2 ^ 8 + 2 ^ 9) 64 { n := 0, words := [] }
       let d := (runQ opc { n := 0, words := [] }).modSqe 9 0 (fun y => { y with run := true })
       e.strV = false ∧ (d.sqe 9 0).isSome = true ∧ d.reach 0 = true ∧ d.cutsThrough e = false ∧ (d.xlate 0 (.frame 9 0) none e.addr e.len false).1 = true))
    ∧ (let e := sqe (1 + 2 ^ 8) 64 { n := 0, words := [], run := true, reading := true }
       (runQ 1 { n := 0, words := [], run := true, reading := true }).sqe 9 0 = some (sqe (1 + 2 ^ 8 + 2 ^ 9) 64 { n := 0, words := [], run := true, reading := true })
        ∧ e.reading = true ∧ e.status = none ∧ e.cut = false ∧ e.opc ≠ 3
        ∧ (((runQ 1 { n := 0, words := [], run := true, reading := true }).logErr 0 .timeout).sqe 9 0).all (fun y => y.status.isNone && !y.cut) = true
        ∧ (((runQ 1 { n := 0, words := [], run := true, reading := true }).logErr 0 .timeout).sqe 9 0).isSome = true ∧ 0 ≠ benchFn)
    ∧ (let e := sqe (2 ^ 8 + 2 ^ 9) 0 { n := 0, words := [], run := true, status := some 0 }
       (runQ 0 { n := 0, words := [], run := true, status := some 0 }).reach 0 = true ∧ (runQ 0 e).cq 9 = some cq9 ∧ ((runQ 0 e).fn 0).d3 = false
        ∧ cq9.held = false ∧ e.posts sq9 = false)
    ∧ (let e := sqe (2 ^ 8) 0 { n := 0, words := [], run := true, status := some 0 }; e.posts sq9 = true ∧ { cq9 with tail := 15 }.full = true) := by
  decide +kernel

theorem witness_interrupts_and_function_states :
    (let d := qDev { sq9 with wbOwed := true } cq9
     (d.sq 9).isSome = true ∧ sq9.wb ≠ 0 ∧ d.reach 0 = true ∧ (d.fn 0).d3 = false ∧ sq9.msi = [] ∧ sq9.wbAt = none
      ∧ (d.xlate 0 (.wback 9) none sq9.wb 8 true).1 = true)
    ∧ (let d : Dev := { uDev.modFn 0 (fun x => { x with ats := true }) with xlt := { atc := [⟨0, none, 0x5000, 4096, true, false, 0x9000⟩] } }
       (uDev.fn 0).ats = false ∧ (d.fn 0).ats = true ∧ (d.xlt.atc.find? (fun e => e.grants (ridOf 0) none 0x5008 false)).isSome = true)
    ∧ (qDev sq9 cq9).owing 9 = [] ∧ (qDev { sq9 with wbOwed := true } cq9).owing 9 ≠ [] ∧ (qDev sq9 cq9).cq 9 = some cq9
    ∧ (let c := { cq9 with timerAt := some 5, unrep := 1 }; (qDev sq9 c).cq 9 = some c ∧ c.ien = true ∧ 0 < c.unrep)
    ∧ (let d := uDev.modFn 3 (fun x => { x with msixEn := true, pba := [7], table := [(0, (0, 0))] })
       (d.fn 3).open_ 0 = true ∧ (uDev.fn 3).open_ 0 = false ∧ (d.fn 3).pba = [7] ∧ (d.fn 3).fnMask = false ∧ (d.fn 3).d3 = false)
    ∧ ((qDev sq9 cq9).fireAll.flushMsi.hq.sqs.any (fun e => e.2.fn != benchFn && !e.2.msi.isEmpty) = false
        ∧ ((qDev { sq9 with wbOwed := true, msi := [9] } cq9).modFn 0 (fun x => { x with ats := true })).fireAll.flushMsi.hq.sqs.any
            (fun e => e.2.fn != benchFn && !e.2.msi.isEmpty) = true)
    ∧ ((qDev sq9 cq9).linkL0 = true ∧ (uDev.modFn 1023 (fun x => { x with d3 := true })).hq.cqs = [] ∧ (qDev sq9 cq9).hq.link ≠ .down
        ∧ (qDev sq9 cq9).islandOk 33 = true ∧ (qDev sq9 cq9).pwrState ≠ 2) := by decide +kernel

/-- The admin queue of PF1 ready, with one entry offered, its words the test's. -/
def aqDev : Dev := ({ uDev with hq := { link := .l0, aqs := [(1, { ready := true, tail := 1 })] } } : Dev).aqWr 1 2 0x443
def admin (opc : Nat) (w1 w2 : Nat) : Vector Word 8 := #v[BitVec.ofNat 64 (opc + 2 ^ 8 + 5 * 2 ^ 32), BitVec.ofNat 64 w1, BitVec.ofNat 64 w2, 0, 0, 0, 0, 0]

/-- CREATE_CQ of queue 16400 with 2^16 entries, vector 2047. -/
def cqWord : Nat := 16400 + 16 * 2 ^ 16 + 2047 * 2 ^ 21 + 256 * 2 ^ 43

theorem witness_admin_queue_registers :
    ((at_ aqDev).takes (.pf 1) (Reg.hqAqDb 1) ∧ (aqDev.aq 1).ready = true ∧ getF (15 : Word) 0 32 < 2 ^ aqDev.aqSqLog 1)
    ∧ ((at_ uDev).takes (.pf 3) (Reg.hqAqCfg 3) ∧ uDev.aqCfgOk 3 (setB 0x442 0 true) = true ∧ getB (uDev.aqRd 3 2) 0 = false)
    ∧ (let d := (uDev.wr Reg.benAqSqBase 0x80000000).wr Reg.benAqCqBase 0x80010000
       (at_ d).takes .bench Reg.benAqCfg ∧ d.aqCfgOk benchFn (setB 0x442 0 true) = true ∧ getB (d.aqRd benchFn 2) 0 = false)
    ∧ (getB (aqDev.aqRd 1 2) 0 = true ∧ aqSettings 1 (aqDev.aqRd 1 2) (setB 0x442 0 false) = false ∧ aqSettings 1 (aqDev.aqRd 1 2) (setB 0x552 0 false) = true
        ∧ (∀ b ∈ [true, false], (let d := (aqDev.modAq 1 (fun x => { x with busy := b })).aqWr 1 2 0x442; (d.aq 1).drain = none ∧ (d.aq 1).busy = b))
        ∧ (at_ aqDev).takes (.pf 1) (Reg.hqAqCfg 1))
    ∧ ((at_ uDev).takes (.pf 0) Reg.benQpCfg ∧ uDev.gb Reg.benAqCfg 0 = false ∧ getF (BitVec.ofNat 64 (12288 + 4096 * 2 ^ 16) : Word) 0 16 + 4096 ≤ 16384
        ∧ 16384 < getF (BitVec.ofNat 64 (12289 + 4096 * 2 ^ 16) : Word) 0 16 + 4096 ∧ uDev.hq.sqs = [] ∧ uDev.hq.fns = [])
    ∧ ((at_ uDev).takes (.pf 0) Reg.hqQcntSel ∧ uDev.gb Reg.hqQcntStat 0 = false ∧ uDev.hbmOk = true ∧ getB (0 : Word) 32 = false) := by decide +kernel

theorem witness_admin_commands_run :
    (aqDev.aqMay 1 = true ∧ (aqDev.aqReach 1).1 = true ∧ getF ((admin 1 0 0).toList.getD 0 0) 9 23 = 0
      ∧ getB ((admin 1 0 0).toList.getD 0 0) 8 = (phaseOf (aqDev.aq 1).head (aqDev.aqSqLog 1) == 1) ∧ getF ((admin 8 0 0).toList.getD 0 0) 0 8 = 8)
    ∧ ((createCq 1 (admin 1 0x1000 cqWord).toList aqDev).1 = 0)
    ∧ ((queryQp 1 (admin 6 0x1000 16400).toList aqDev).1.isSome = true ∧ (adminGetInfo 1 (admin 8 0 0).toList aqDev).1.isSome = true)
    ∧ (let d : Dev := { aqDev with hq := { aqDev.hq with sqs := [(16400, { fn := 1, base := 0x1000, log := 4, kind := 0, cq := 16400, ifMax := 8, pasid := none, wb := 0 })]
                                                         cqs := [(16400, { fn := 1, base := 0x2000, log := 4, vec := 2, ien := true, timer := 1, count := 4, pasid := none })] } }
       (destroySq 1 (admin 3 0 16400).toList d).1 = none ∧ d.feeders 16400 ≠ [] ∧ (d.cq 16400).isSome = true
        ∧ (let e := d.modAq 1 (fun y => { y with drain := some (16400, 5, 0) })
           (e.aq 1).drain = some (16400, 5, 0) ∧ (e.sq 16400).all (fun x => x.flight == []) = true ∧ e.reach 1 = true
            ∧ (e.xlate 1 (.aqCq 1) (e.aqPasid 1) (e.aqCqSlot 1) 32 true).1 = true
            ∧ (let y := (e.xlate 1 (.aqCq 1) (e.aqPasid 1) (e.aqCqSlot 1) 32 true).2;
                (y.sq 16400).all (fun x => (y.wbackReady 16400 x).1) = true
                  ∧ (y.sq 16400).all (fun x => (y.wbackReady 16400 x).2.sq 16400 == some x) = true ∧ (y.sq 16400).isSome = true)))
    ∧ (aqDev.globalOf 1 16400 = some 16400 ∧ 0x1000 % 4096 = 0 ∧ cqFieldsOk 1 (BitVec.ofNat 64 cqWord) = true ∧ restZero (admin 1 0x1000 cqWord).toList [1, 2, 3] = true
        ∧ areaOk 1 0x1000 (32 * 2 ^ 16) = true ∧ getF (BitVec.ofNat 64 cqWord : Word) 21 11 < vectorsOf 1 ∧ aqDev.cq 16400 = none
        ∧ getF (BitVec.ofNat 64 16400 : Word) 16 48 = 0) := by decide +kernel

/-! ### Chapter 11 -/

/-- Channel 63 in state `st`, its shadow generation 1 due. -/
def chDev (st : Nat) : Dev := ((uDev.setCh 63 st).sb (Reg.dmaGen 63) 32 true).sf (Reg.dmaGen 63) 0 16 1

/-- A wait for the translation of a source read, its request out. -/
def wait0 (write again : Bool) : XWait := { want := .dmaSrc 63, rid := 256, pasid := none, addr := 0x5000, write := write, sent := true, again := again }
def xDev (x : XWait) : Dev := { uDev with hq := { fns := [(0, { pri := true })] }, xlt := { waits := [x], prgs := [⟨256, none, 5, true, 0⟩] } }

theorem witness_dma_channels_and_beats :
    ((at_ (chDev 0)).takes (.pf 0) (Reg.dmaChCmd 63) ∧ (∀ st ∈ [0, 1, 4, 5], (((chDev st).sf (Reg.dmaChCmd 63) 0 3 2).chSt 63 = st
        ∧ ((chDev st).sf (Reg.dmaChCmd 63) 0 3 2).gb (Reg.dmaGen 63) 32 = true ∧ ((chDev st).sf (Reg.dmaChCmd 63) 0 3 2).genDue 63 = true)))
    ∧ (let x := (((chDev 4).setCh 63 1).modChan 63 Chan.rewound).chan 63; x.ws = [])
    ∧ (∀ k ∈ [1, 2 ^ 63], (let d := (chDev 4).modChan 63 (fun x => { x with ws := [BitVec.ofNat 64 k, 64, 0, 0, 0, 0, 0, 0] })
       let x := ((d.setCh 63 1).modChan 63 Chan.rewound).chan 63; x.ws ≠ [] ∧ x.formatBad = (k == 2 ^ 63)))
    ∧ ((chDev 4).chan 63).held = none
    ∧ (let d : Dev := { chDev 0 with hq := { cqs := [(0, { fn := 0, base := 0, log := 6, vec := 0, ien := false, timer := 0, count := 0, pasid := none })] } }
       getB (d.rd (Reg.dmaShCfg 63)) 4 = false ∧ getF (d.rd (Reg.dmaShCfg 63)) 16 16 = 0 ∧ (d.cq 0).all (fun q => q.fn == getF (d.rd (Reg.dmaShCfg 63)) 0 2) = true)
    ∧ (let d := uDev.modChan 63 (fun x => { x with rd := 2 }); (d.chan 63).rd = 2 ∧ d.islandOk 45 = true ∧ getB (d.chan 63).rdAt 0 = false)
    ∧ (let x : Chan := { src := { iss := 1 } }; x.sp 1 = false ∧ 0 < x.width 1 ∧ (x.side 1).ack < (x.side 1).iss ∧ (x.side 1).ack ≤ (x.side 1).done)
    ∧ ((at_ uDev).takes (.pf 0) (Reg.dmaCrCfg 15) ∧ uDev.gb (Reg.dmaCrCfg 15) 20 = false ∧ (at_ uDev).takes (.pf 0) (Reg.dmaCrHead 15)
        ∧ inRangeAt (Reg.dmaCrCfg 15) (setB (uDev.rd (Reg.dmaCrCfg 15)) 20 true) = true)
    ∧ (let d := uDev.sb (Reg.dmaCrCfg 15) 20 true
       d.gb (Reg.dmaCrCfg 15) 20 = true ∧ 0 < 2 ^ d.gf (Reg.dmaCrCfg 15) 0 5 ∧ (0 + 2 ^ d.gf (Reg.dmaCrCfg 15) 0 5 - (d.dring 15).head % 2 ^ d.gf (Reg.dmaCrCfg 15) 0 5) % 2 ^ d.gf (Reg.dmaCrCfg 15) 0 5
        ≤ (d.dring 15).tail - (d.dring 15).head) := by decide +kernel

theorem witness_translation_unit :
    (∀ write ∈ [false, true], ∀ again ∈ [false, true], (let s := xDev (wait0 write again)
       s.islandOk 45 = true ∧ s.waitsFor 256 none 5 = [wait0 write again] ∧ (true || false) = true
        ∧ (let d := (s.dropWait (wait0 write again)).fillAtc 256 none 0x5000 12 7 true false
           (if write then false else true) = !write ∧ d.gb Reg.xltStat (pfOf (fnOfRid 256)) = false ∧ (d.fn (pfOf (fnOfRid 256))).pri = true)))
    ∧ (uDev.fn (pfOf (fnOfRid 256))).pri = false ∧ (uDev.sb Reg.xltStat (pfOf (fnOfRid 256)) true).gb Reg.xltStat (pfOf (fnOfRid 256)) = true
    ∧ (xDev (wait0 true true)).xlt.prgs.any (fun p => p.sent && p.rid == 256 && p.pasid == none && p.page == 5) = true
    ∧ (xDev (wait0 true true)).xlt.prgs.find? (fun q => q.sent) = some ⟨256, none, 5, true, 0⟩
    ∧ (∀ w ∈ [{ wait0 true false with sent := false, prg := true }], w.prg = true ∧ w.on 256 none 5 = true)
    ∧ 256 ≤ (({ uDev with xlt := { waits := List.replicate 256 (wait0 true true) } } : Dev).xlt.waits.filter (fun x => x.sent)).length
    ∧ ((xDev (wait0 true true)).xlt.invs.filter (fun i => i.tag.isSome)).length < 32
    ∧ (let d : Dev := { uDev with xlt := { invs := [{ tag := some (31, 256), busy := [⟨.dmaDesc 63, 0, 0⟩] }] } }
       [(⟨.dmaDesc 63, 0, 0⟩ : Busy)].any d.stillReads = false ∧ [(⟨.dmaDesc 63, 0, 0⟩ : Busy)].any (d.modChan 63 (fun x => { x with rd := 2 })).stillReads = true)
    ∧ ((at_ uDev).takes (.pf 0) Reg.xltCfg ∧ inRangeAt Reg.xltCfg (setB (uDev.rd Reg.xltCfg) 63 true) = true) := by decide +kernel

/-! ### Chapter 12 -/

/-- The request passes its checks up to the arguments. -/
abbrev ok_ (opc n : Nat) (hold : Bool) (blks : List Nat) : Prop := (at_ (mbDev opc (List.replicate n 0))).asks opc 0 (8 * n) hold blks

theorem witness_mailbox_request_is_judged :
    (uDev.unreachable (Reg.mbxDb 15) = false ∧ uDev.mbxOwns (.pf 3) 15 = true ∧ uDev.mbxBusy 15 = false ∧ (uDev.sb (Reg.mbxStat 15) 0 true).mbxBusy 15 = true
      ∧ uDev.mbxOwns (.pf 0) 15 = false
      ∧ (∀ e ∈ [(0, 5)], 5 ≠ e.2 ∨ e.1 ≤ 1) ∧ (∀ e ∈ [(2, 5)].head?, 5 = e.2 ∧ 1 < e.1) ∧ uDev.unreachable (0x4000000 + 15 * 0x1000 + 8 * 255) = false)
    ∧ (let d : Dev := { uDev with mbx := { waits := [⟨15, 0x703, 1, 9⟩] } }
       d.mbx.waits.find? (fun x => x.m == 15) = some ⟨15, 0x703, 1, 9⟩ ∧ d.tim.up ≤ 9)
    ∧ ((mbDev 0x901 [0, 0, 0]).mbxFront 0x901 = some 0 ∧ (mbDev 0x901 [0, 0, 0]).mbxLenOk 0 24 = true ∧ (mbDev 0x901 [0, 0, 0]).mbxLenOk 0 16 = false
        ∧ (mbDev 0x901 [0, 0, 0]).fwState ≠ 1 ∧ ((mbDev 0x901 [0, 0, 0]).sf Reg.mbxFwStat 0 2 1).fwState = 1
        ∧ ((mbDev 0x901 [0, 0, 0]).sf (Reg.mbxLease 7) 0 3 1).mbxHeld 0 7 = true)
    ∧ (uDev.gb (Reg.mbxCfg 15) 0 = false ∧ uDev.gf Reg.mbxCmdCnt 0 32 < 2 ^ 32 - 1)
    ∧ (uDev.unreachable Reg.timCtl = false ∧ (uDev.sb Reg.glbIslandFenced 46 true).unreachable Reg.timCtl = true) := by decide +kernel

theorem witness_mailbox_images_are_written :
    (∀ q ∈ ([(0x0301, 3, false, [1]), (0x0305, 3, false, [1]), (0x0403, 2, false, [2]), (0x0501, 3, false, [3]), (0x0605, 2, false, [4]), (0x0902, 4, false, [9]), (0x0903, 2, false, [9]), (0x0904, 2, false, [9]), (0x0A08, 2, false, [10]), (0x0A09, 2, false, [10]), (0x0A0A, 2, false, [10]), (0x0A0B, 4, false, [10])] : List (Nat × Nat × Bool × List Nat)), ok_ q.1 q.2.1 q.2.2.1 q.2.2.2)
    ∧ (let A := (mbDev 0x0403 [35, 1]).mbxArg 0; portArg (A 0) = true ∧ imgOk (Reg.calPortCfg 35) 0 (A 1) = true)
    ∧ portArg ((mbDev 0x0403 [36, 1]).mbxArg 0 0) = false := by decide +kernel

theorem witness_mailbox_commands_set :
    (∀ q ∈ ([(0x0905, 2, false, [9]), (0x0906, 2, false, [7]), (0x0901, 3, false, [7, 8]), (0x0303, 3, false, [1]), (0x0302, 1, false, []), (0x0A0C, 33, false, [10]), (0x0A06, 3, false, [10]), (0x0003, 1, false, [])] : List (Nat × Nat × Bool × List Nat)), ok_ q.1 q.2.1 q.2.2.1 q.2.2.2)
    ∧ (portArg 31 = true ∧ imgOk (Reg.macEeeCfg 31) 0 (uDev.rd (Reg.macEeeCfg 31)) = true ∧ onlyBits [(0, 6), (8, 2)] 0x323 = true
        ∧ imgOk (Reg.sdsEqShim 35 3) 0 0 = true)
    ∧ (portArg 35 = true ∧ imgOk (Reg.sdsMode 35) goBit (setF 0 0 3 6) = true ∧ imgOk (Reg.pcsCfg 35) 0 3 = true ∧ fecOk 6 3 = true
        ∧ uDev.unreachable (Reg.sdsMode 35) = false)
    ∧ (getF (5 : Word) 0 3 < 6 ∧ imgOk (Reg.sdsMode 31) goBit (setF 5 0 3 5) = true ∧ imgOk (Reg.pcsCfg 31) 0 2 = true ∧ fecOk 5 (getF (2 : Word) 0 2) = true
        ∧ uDev.mergedAway 31 = false ∧ uDev.macOff 31 = true ∧ (uDev.sf (Reg.macCfg 31) 0 2 3).macOff 31 = false)
    ∧ (onlyBits [(0, 6), (8, 2), (10, 1)] 0x71F = true ∧ imgOk (Reg.timPortCfg 31) 0 0 = true ∧ imgOk (Reg.timTsShim 31) 0 0 = true)
    ∧ (onlyBits [(0, 2), (2, 1), (3, 1), (4, 2), (8, 8), (16, 8), (24, 8)] 0xFFFF7F2F = true ∧ getF (0xFFFF7F2F : Word) 4 2 ≤ 2 ∧ getF (0xFFFF7F2F : Word) 8 8 ≤ 127)
    ∧ (let A := (mbDev 0x0A0C ((List.range 33).map (fun n => if n = 0 then 4096 else if n % 4 = 1 then 2 ^ 32 else 0))).mbxArg 0
       ((List.range 33).map (fun n => (n, imgOk (tsqReg n) 0 (if n = 0 then setB (A 0) 1 false else A n)
        && tsqArgOk n (if n = 0 then setB (A 0) 1 false else A n)))).all (fun e => e.2) = true)
    ∧ (onlyBits [(0, 15)] 0x7FFF = true ∧ onlyBits [(0, 2), (2, 6), (8, 12), (32, 16)] 0x8C = true ∧ getF (0x8C : Word) 2 6 ≤ 35)
    ∧ (uDev.mbxOwner 0 = 0 ∧ onlyBits [(0, 4), (4, 3)] 0x4F = true ∧ getF (0x4F : Word) 4 3 ≤ 4 ∧ uDev.mbxBusy 15 = false) := by decide +kernel

theorem witness_mailbox_status_commands :
    (∀ q ∈ ([(0x0002, 0, true, []), (0x0404, 0, false, []), (0x0702, 1, false, []), (0x0806, 0, false, []), (0x0907, 1, false, []), (0x0A0D, 0, false, []), (0x0D04, 1, false, []), (0x0001, 0, true, []), (0x0A07, 0, false, []), (0x0F02, 0, false, []), (0x0304, 1, false, []), (0x0B01, 0, false, [])] : List (Nat × Nat × Bool × List Nat)), ok_ q.1 q.2.1 q.2.2.1 q.2.2.2)
    ∧ [Reg.pcsStat 35, Reg.macStat 35, Reg.sdsLaneStat 35, Reg.prePortStat 35].find? uDev.unreachable = none
    ∧ (uDev.unreachable Reg.smonStat = false ∧ onlyBits [(0, 2)] 3 = true ∧ uDev.mbxOwner 0 < 4) := by decide +kernel

/-- Word `i` of a register's reset value, as an argument. -/
def rv (a : Nat) : Nat := (resetOf a).toNat

/-- The request with these arguments passes its checks up to them. -/
abbrev oka (opc : Nat) (args : List Nat) (hold : Bool) (blks : List Nat) : Prop := (at_ (mbDev opc args)).asks opc 0 (8 * args.length) hold blks

/-- The request of `mbDev` in another device: `f` applied to it. -/
abbrev okd (f : Dev → Dev) (opc : Nat) (args : List Nat) (hold : Bool) (blks : List Nat) : Prop :=
  (at_ (f (mbDev opc args))).asks opc 0 (8 * args.length) hold blks

/-- No step is permitted: the calendar runs with port 0 enabled. -/
def calOn (d : Dev) : Dev := (d.sb Reg.calStat 0 true).sb (Reg.calPortCfg 0) 0 true

theorem witness_mailbox_time_commands :
    (∀ a ∈ [2 ^ 63, 2 ^ 63 + 2 ^ 48, 0], oka 0x0306 [a] false [1] ∧ okd calOn 0x0306 [a] false [1] ∧ imgOk Reg.timAdj goBit (BitVec.ofNat 64 a) = true)
    ∧ (mbDev 0x0306 [0]).unreachable Reg.timAdj = false ∧ (calOn uDev).stepsPermitted = false ∧ uDev.stepsPermitted = true
    ∧ (∀ a ∈ [2 ^ 63, 0], oka 0x0307 [0, a] false [1] ∧ okd calOn 0x0307 [0, a] false [1] ∧ imgOk Reg.timSetNs goBit (BitVec.ofNat 64 a) = true)
    ∧ imgOk Reg.timSetSec 0 0 = true ∧ (mbDev 0x0307 [0, 0]).unreachable Reg.timSetSec = false
    ∧ (∀ q ∈ ([(0, false), (1, true)] : List (Nat × Bool)),
        let d := mbDev 0x0308 [0, 0, q.1 + 4]
        let A := d.mbxArg 0
        oka 0x0308 [0, 0, q.1 + 4] false [1] ∧ imgOk Reg.timSnaptSec 0 (A 0) = true ∧ imgOk Reg.timSnaptNs 0 (A 1) = true
          ∧ imgOk Reg.timSnaptCtl 3 (A 2) = true ∧ getB (A 2) 0 = q.2 ∧ (getB (A 2) 0 = false ∨ getB (A 2) 1 = false)
          ∧ (d.mbxPut [(0, Reg.timSnaptSec, A 0), (1, Reg.timSnaptNs, A 1), (2, Reg.timSnaptCtl, A 2)]).1 = none
          ∧ decide (((d.mbxPut [(0, Reg.timSnaptSec, A 0), (1, Reg.timSnaptNs, A 1), (2, Reg.timSnaptCtl, A 2)]).2).gf Reg.timSnaptStat 16 4 ≠ 0) = q.2) := by
  decide +kernel

theorem witness_mailbox_calendar_commands :
    (∀ q ∈ ([(5 * 10 ^ 9, true), (0, false)] : List (Nat × Bool)),
        let d := (mbDev 0x0401 [0, q.1, 0]).setBankSt 0 3
        let A := d.mbxArg 0
        let x := d.mbxPut [(1, Reg.calStartSec, A 1), (2, Reg.calStartNs, A 2), (0, Reg.calCtl, BitVec.ofNat 64 1)]
        oka 0x0401 [0, q.1, 0] false [2] ∧ onlyBits [(0, 2), (2, 1)] (A 0) = true ∧ imgOk Reg.calStartSec 0 (A 1) = true
          ∧ imgOk Reg.calStartNs 0 (A 2) = true ∧ 1 = 1 + 2 * getF (A 0) 2 1 + 4 * getF (A 0) 0 2 ∧ x.1 = none
          ∧ decide (x.2.gf Reg.calCtl 0 4 = 1) = q.2)
    ∧ (oka 0x0402 [] false [2] ∧ uDev.unreachable Reg.calCtl = false ∧ (mbDev 0x0402 []).gb Reg.calCtl 0 = false
        ∧ okd (fun d => d.sb Reg.calCtl 0 true) 0x0402 [] false [2]) := by decide +kernel

theorem witness_mailbox_ring_commands :
    (∀ q ∈ ([(1, false), (0, true)] : List (Nat × Bool)),
        let args := [1, rv (Reg.rngCtl 1), rv (Reg.rngCycCfg 1), (if q.2 then 0 else 125000) + 1000000 * 2 ^ 32, rv (Reg.rngTiming 1), rv (Reg.rngFedCfg 1)]
        let A := (mbDev 0x0701 args).mbxArg 0
        oka 0x0701 args false [5] ∧ 1 = getF (A 0) 0 1 ∧ onlyBits [(0, 1)] (A 0) = true ∧ imgOk (Reg.rngCtl 1) 0 (ringCtlForced (A 1)) = true
          ∧ imgOk (Reg.rngCycCfg 1) 0 (A 2) = true ∧ imgOk (Reg.rngBeCfg 1) 0 (A 3) = true ∧ imgOk (Reg.rngTiming 1) 0 (A 4) = true
          ∧ getF (A 4) 16 16 ≤ getF (A 4) 0 16 ∧ imgOk (Reg.rngFedCfg 1) 0 (A 5) = true ∧ (mbDev 0x0701 args).unreachable (Reg.rngCtl 1) = false
          ∧ (mbDev 0x0701 args).attachBad 1 (ringCtlForced (A 1)) (A 2) (A 3) (A 5) = q.2)
    ∧ (let d := mbDev 0x0703 [0]
       let x := d.mbxPut [(0, Reg.rngMsCtl, setB (d.mbxArg 0 0) 63 true)]
       oka 0x0703 [0] false [5] ∧ onlyBits [(0, 2)] (d.mbxArg 0 0) = true ∧ x.1 = none ∧ x.2.gf Reg.rngMsStat 4 4 ≠ 0)
    ∧ (let d := { (((mbDev 0x0703 [0]).sf (Reg.rngStat 0) 0 3 4).sb Reg.calStat 0 true).setBankSt 0 3 with cal := runDev.cal }
       let x := d.mbxPut [(0, Reg.rngMsCtl, setB (d.mbxArg 0 0) 63 true)]
       x.1 = none ∧ x.2.gf Reg.rngMsStat 4 4 = 0)
    ∧ (let d := mbDev 0x0704 [65535 + 2 ^ 32]
       oka 0x0704 [65535 + 2 ^ 32] false [5] ∧ onlyBits [(0, 16), (32, 16)] (d.mbxArg 0 0) = true ∧ 1 ≤ getF (d.mbxArg 0 0) 32 16
         ∧ (d.mbxPut [(0, Reg.rngBarCtl, BitVec.ofNat 64 (fld 0 16 (getF (d.mbxArg 0 0) 0 16) + goBit))]).1 = none)
    ∧ (let args := [1 + 64 * 2 ^ 8, 0, 0, 0, 0, 0, 0, 0, 0]
       let d := mbDev 0x0705 args
       let A := d.mbxArg 0
       oka 0x0705 args false [5] ∧ onlyBits [(0, 1), (8, 7)] (A 0) = true ∧ 1 ≤ getF (A 0) 8 7 ∧ getF (A 0) 8 7 ≤ 64 ∧ d.gb Reg.rngBcStat 5 = false
         ∧ (d.sb Reg.rngBcStat 5 true).gb Reg.rngBcStat 5 = true
         ∧ (d.mbxPut ((List.range 8).map (fun k => (k + 1, Reg.rngBcTx k, A (k + 1)))
             ++ [(0, Reg.rngBcCtl, BitVec.ofNat 64 (fld 0 7 (getF (A 0) 8 7) + fld 8 1 (getF (A 0) 0 1) + goBit))])).1 = none) := by decide +kernel

theorem witness_mailbox_bus_commands :
    (let args := [3, 2 ^ 26]
     let d := mbDev 0x0908 args
     let A := d.mbxArg 0
     oka 0x0908 args false [9] ∧ 3 = getF (A 0) 0 2 ∧ onlyBits [(0, 2)] (A 0) = true ∧ imgOk (Reg.macMdioCmd 3) 0 (A 1) = true ∧ getF (A 1) 26 2 = 1
       ∧ d.gb (Reg.macMdioStat 3) 16 = false ∧ (d.mbxPut [(1, Reg.macMdioCmd 3, setB (A 1) 63 true)]).1 = none
       ∧ (d.sb (Reg.macMdioStat 3) 16 true).gb (Reg.macMdioStat 3) 16 = true)
    ∧ (let args := [1 + 2 ^ 8 + 2 ^ 9, rv (Reg.macSmbCmd 1) + 2 ^ 14, 0, 0, 0, 0]
       let d := mbDev 0x0909 args
       let A := d.mbxArg 0
       oka 0x0909 args false [9] ∧ 1 = getF (A 0) 0 1 ∧ onlyBits [(0, 1), (8, 1), (9, 1)] (A 0) = true ∧ imgOk (Reg.macSmbCmd 1) 0 (A 1) = true
         ∧ getF (A 1) 22 2 ≠ 3 ∧ d.gb (Reg.macSmbStat 1) 0 = false ∧ (d.sb (Reg.macSmbStat 1) 0 true).gb (Reg.macSmbStat 1) 0 = true
         ∧ (d.mbxPut ((0, Reg.macSmbCfg 1, BitVec.ofNat 64 (fld 0 1 (getF (A 0) 8 1) + fld 1 1 (getF (A 0) 9 1)))
            :: (List.range 4).map (fun k => (k + 2, Reg.macSmbData 1 k, A (k + 2))) ++ [(1, Reg.macSmbCmd 1, setB (A 1) 63 true)])).1 = none) := by decide +kernel

/-- The request in a device whose stream 7 is a valid record, of which stream 8 is a member. -/
def recLockDev (d : Dev) : Dev := (d.setSw 7 0 (BitVec.ofNat 64 (1 + 200 * 2 ^ 10))).setSw 8 0 (BitVec.ofNat 64 (2 + 7 * 4))

theorem witness_mailbox_stream_commands :
    (∀ t ∈ [8, 262143],
        let d := recLockDev (mbDev 0x0601 [t, 0, 5, 6])
        let A := d.mbxArg 0
        let x := d.writeRec t 1 (A 2)
        let y := x.writeRec t 2 (A 3)
        okd recLockDev 0x0601 [t, 0, 5, 6] false [4] ∧ onlyBits [(0, 18)] (A 0) = true ∧ (∀ k < 3, recArgOk (A 1) k (A (k + 1)) = true) ∧ t = getF (A 0) 0 18
          ∧ d.islandOk (halfIsland (halfOf t)) = true ∧ d.recLocked t 1 = (t == 8) ∧ x.islandOk (halfIsland (halfOf t)) = true
          ∧ y.islandOk (halfIsland (halfOf t)) = true ∧ x.recLocked t 2 = (t == 8) ∧ y.recLocked t 0 = (t == 8)
          ∧ oka 0x0602 [t] false [] ∧ oka 0x0604 [t + 2 ^ 32] false [] ∧ onlyBits [(0, 18), (32, 1)] (BitVec.ofNat 64 (t + 2 ^ 32)) = true
          ∧ d.gb Reg.strStat (halfOf t) = false ∧ d.gb Reg.strStat 4 = false ∧ d.hbmOk = true)
    ∧ (∀ t ∈ [7, 9],
        let d := recLockDev (mbDev 0x0603 [t + 2 ^ 19])
        okd recLockDev 0x0603 [t + 2 ^ 19] false [4] ∧ imgOk Reg.strCmd 0 (d.mbxArg 0 0) = true ∧ d.unreachable Reg.strCmd = false
          ∧ d.recOk (getF (d.mbxArg 0 0) 0 18) = (t == 7) ∧ d.strFenced (getF (d.mbxArg 0 0) 0 18) = false
          ∧ (d.fenceStream 7).strFenced 7 = true) := by decide +kernel

/-- A request in the solver's queue. -/
def solReq0 : SolReq := { words := List.replicate 8 0, fileAddr := 0, fileLen := 0 }

theorem witness_mailbox_solver_commands :
    oka 0x0801 [0, 0, 0, 0, 0, 0, 0, 0] false [6]
    ∧ (let args := [0, 0, 0, 0, 0, 0, 0, 0, 0x7FFFFFC0, 64]
       oka 0x0802 args false [6] ∧ imgOk Reg.solFileAddr 0 (BitVec.ofNat 64 0x7FFFFFC0) = true ∧ getF (0x7FFFFFC0 : Word) 0 35 % 64 = 0
         ∧ 0x40000000 ≤ getF (0x7FFFFFC0 : Word) 0 35 ∧ getF (0x7FFFFFC0 : Word) 0 35 < 0x80000000 ∧ imgOk Reg.solFileLen 0 64 = true)
    ∧ 16 ≤ ({ uDev with sol := { queue := List.replicate 16 solReq0 } } : Dev).sol.queue.length
    ∧ (oka 0x0803 [] false [6] ∧ (mbDev 0x0803 []).sol.results = []
        ∧ okd (fun d => { d with sol := { results := [(1, 2)] } }) 0x0803 [] false [6]) ∧ oka 0x0804 [] false [6] ∧ oka 0x0805 [] false [6] := by
  decide +kernel

/-- A device whose two tables are being cleared. -/
def clearing (d : Dev) : Dev := { d with fwd := { d.fwd with dynAt := some (d.fwd.passes + 1), statAt := some (d.fwd.passes + 1) } }

theorem witness_mailbox_table_commands :
    (∀ q ∈ ([(2, false), (4, true)] : List (Nat × Bool)),
        let args := [q.1, 5, 6]
        let d := mbDev 0x0A01 args
        let A := d.mbxArg 0
        let y := ((d.tblSync.wrAny Reg.fwdTblKey (A 1)).wrAny Reg.fwdTblData (A 2)).tblMbx (getF (A 0) 0 3)
        oka 0x0A01 args false [10] ∧ onlyBits [(0, 3)] (A 0) = true ∧ 1 ≤ getF (A 0) 0 3 ∧ getF (A 0) 0 3 ≤ 4 ∧ imgOk Reg.fwdTblKey 0 (A 1) = true
          ∧ d.tblSync.fwd.tbl = none ∧ (({ d with fwd := { tbl := some ⟨5, 0, none⟩ } } : Dev).tblSync.fwd.tbl ≠ none)
          ∧ d.tblSync.unreachable Reg.fwdTblKey = false ∧ (d.tblSync.wrAny Reg.fwdTblKey (A 1)).unreachable Reg.fwdTblData = false
          ∧ decide (y.gf Reg.fwdTblStat 4 3 = 0) = q.2)
    ∧ (∀ k ∈ [1, 2, 3], oka 0x0A02 [k] false [10] ∧ okd clearing 0x0A02 [k] false [10] ∧ onlyBits [(0, 1), (1, 1)] (BitVec.ofNat 64 k) = true)
    ∧ (mbDev 0x0A02 [1]).unreachable Reg.fwdClr = false
    ∧ (let d := mbDev 0x0A02 [1]; readyAt d.fwd.passes d.fwd.dynAt = true ∧ readyAt d.fwd.passes d.fwd.statAt = true
        ∧ readyAt (clearing d).fwd.passes (clearing d).fwd.dynAt = false ∧ readyAt (clearing d).fwd.passes (clearing d).fwd.statAt = false)
    ∧ (∀ n ∈ [1, 120], oka 0x0A03 [n] false [] ∧ onlyBits [(0, 7)] (BitVec.ofNat 64 n) = true ∧ n = getF (BitVec.ofNat 64 n) 0 7) := by decide +kernel

/-- A batch of `n` IPv4 prefixes of 24 bits. -/
def batchArgs (n : Nat) : List Nat := n :: (List.range n).flatMap (fun i => [0, i * 256, 24 * 2 ^ 8])

theorem witness_mailbox_route_commands :
    (∀ n ∈ [1, 3],
        let d := mbDev 0x0A04 (batchArgs n)
        oka 0x0A04 (batchArgs n) false [10] ∧ 8 * (batchArgs n).length = 8 + 24 * n ∧ oka 0x0A05 (batchArgs n) false [10] ∧ n = getF (d.mbxArg 0 0) 0 7
          ∧ onlyBits [(0, 7)] (d.mbxArg 0 0) = true ∧ (∀ i < n, ∀ e ∈ d.itemChecks 0 false i, e.2 = true) ∧ (∀ i < n, ∀ e ∈ d.itemChecks 0 true i, e.2 = true))
    ∧ (let d := mbDev 0x0A05 (batchArgs 1)
       d.islandOk 2 = true ∧ (d.routeDel (d.routeItem 0 0)).1 ≠ 0 ∧ (d.routeAdd (d.routeItem 0 0)).1 = 0
         ∧ d.mbx.routes.any (d.routeItem 0 0).same = false ∧ (d.routeItem 0 0).v6 = false) := by decide +kernel

/-- A prefix not held, and a device that holds `n` others. -/
def newRoute : Route := { v6 := false, plen := 24, addr := 0, res := 0 }
def fullTable (n : Nat) : Dev := { uDev with mbx := { uDev.mbx with routes := List.replicate n { newRoute with addr := 256 } } }

theorem full_table (n : Nat) :
    (fullTable n).mbx.routes.any newRoute.same = false ∧ newRoute.v6 = false ∧ n ≤ (fullTable n).mbx.prefixes false := by
  have h : newRoute.same { newRoute with addr := 256 } = false := by decide
  refine ⟨?_, rfl, ?_⟩
  · simp [fullTable, List.any_replicate, h]
  · simp [fullTable, Mbx.prefixes, newRoute]

/-- The least count that refuses a further IPv4 prefix. -/
theorem witness_full_route_table : (fullTable 1048576).mbx.routes.any newRoute.same = false ∧ newRoute.v6 = false
    ∧ 1048576 ≤ (fullTable 1048576).mbx.prefixes false := full_table 1048576

/-- Channel 63 of PF0. -/
def dmaDev (d : Dev) : Dev := { d with hq := { cqs := [(0, { fn := 0, base := 0, log := 6, vec := 0, ien := false, timer := 0, count := 0, pasid := none })] } }

theorem witness_mailbox_dma_commands :
    (∀ q ∈ ([(0, true), (2 ^ 4, false)] : List (Nat × Bool)),
        let args := [63 + 2 ^ 8, 0, rv (Reg.dmaShCfg 63) + q.1]
        let d := dmaDev (mbDev 0x0C01 args)
        let A := d.mbxArg 0
        let x := d.mbxPut [(1, Reg.dmaShChain 63, A 1), (2, Reg.dmaShCfg 63, setF (A 2) 0 2 0)]
        okd dmaDev 0x0C01 args false [12] ∧ d.mbxOwner 0 = 0 ∧ 63 = getF (A 0) 0 6 ∧ onlyBits [(0, 6), (8, 2)] (A 0) = true ∧ getF (A 0) 8 2 = 1
          ∧ imgOk (Reg.dmaShChain 63) 0 (A 1) = true ∧ imgOk (Reg.dmaShCfg 63) 0 (setF (A 2) 0 2 0) = true ∧ x.1 = none
          ∧ decide ((x.2.dmaTry 63 (fun y => y.wrDmaCmd 63 (BitVec.ofNat 64 (1 + goBit)))).1 = 0) = q.2)
    ∧ (let args := [15, rv (Reg.dmaCrBase 15), rv (Reg.dmaCrCfg 15)]
       let d := mbDev 0x0C02 args
       let A := d.mbxArg 0
       oka 0x0C02 args false [12] ∧ d.mbxOwner 0 < 4 ∧ 15 = getF (A 0) 0 4 ∧ onlyBits [(0, 4)] (A 0) = true ∧ imgOk (Reg.dmaCrBase 15) 0 (A 1) = true
         ∧ imgOk (Reg.dmaCrCfg 15) 0 (A 2) = true ∧ d.gb (Reg.dmaCrCfg 15) 20 = false ∧ (d.sb (Reg.dmaCrCfg 15) 20 true).gb (Reg.dmaCrCfg 15) 20 = true
         ∧ A 1 ≠ (d.wr (Reg.dmaCrBase 15) 64).rd (Reg.dmaCrBase 15))
    ∧ (∀ q ∈ ([(6, 1), (3, 0)] : List (Nat × Nat)),
        let args := [63 + q.1 * 2 ^ 8]
        let d := (mbDev 0x0C03 args).setCh 63 q.2
        let A := d.mbxArg 0
        okd (fun d => d.setCh 63 q.2) 0x0C03 args false [12] ∧ d.mbxOwner 0 < 4 ∧ 63 = getF (A 0) 0 6 ∧ q.1 = getF (A 0) 8 3 ∧ d.chPf 63 = d.mbxOwner 0
          ∧ onlyBits [(0, 6), (8, 3)] (A 0) = true ∧ d.unreachable (Reg.dmaChCmd 63) = false
          ∧ decide ((d.dmaTry 63 (fun y => y.wrDmaCmd 63 (BitVec.ofNat 64 (q.1 + goBit)))).1 = 0) = decide (q.2 = 1))
    ∧ (let args := [15 + 65535 * 2 ^ 16]
       oka 0x0C04 args false [12] ∧ (mbDev 0x0C04 args).mbxOwner 0 < 4 ∧ 15 = getF ((mbDev 0x0C04 args).mbxArg 0 0) 0 4
         ∧ (mbDev 0x0C04 args).gf (Reg.dmaCrCfg 15) 5 2 = (mbDev 0x0C04 args).mbxOwner 0
         ∧ onlyBits [(0, 4), (16, 16)] ((mbDev 0x0C04 args).mbxArg 0 0) = true) := by decide +kernel

/-- The CRC of `n` further octets of zero, `c` evaluated at each. -/
def crcZero : Nat → Nat → Nat
  | 0, c => c
  | n + 1, c => if c = 0 then crcZero n (crcByte 0 0) else crcZero n (crcByte c 0)

theorem crcZero_eq (n c : Nat) : (List.replicate n (0 : Byte)).foldl crcByte c = crcZero n c := by
  induction n generalizing c with
  | zero => rfl
  | succ n ih =>
    rw [List.replicate_succ, List.foldl_cons, ih, crcZero]
    by_cases h : c = 0
    · rw [if_pos h, h]
    · rw [if_neg h]

theorem find_absent {α : Type} (l : Sparse α) (a : Nat) (h : ∀ e ∈ l, e.1 ≠ a) : Sparse.find l a = none := by
  induction l with
  | nil => rfl
  | cons e t ih => simp only [Sparse.find]; rw [if_neg (h e (by simp)), ih (fun x hx => h x (by simp [hx]))]

theorem flashN_blank (d : Dev) (n : Nat) : ∀ a, (∀ e ∈ d.mbx.flash, e.1 < a ∨ a + n ≤ e.1) → d.flashN a n = List.replicate n 0 := by
  induction n with
  | zero => intro a _; rfl
  | succ n ih =>
    intro a h
    have k : Sparse.find d.mbx.flash a = none := find_absent _ _ (fun e he => by have := h e he; omega)
    rw [Dev.flashN, ih (a + 1) (fun e he => by have := h e he; omega), List.replicate_succ, Sparse.getD, k]; rfl

theorem flashN_add (d : Dev) (m n : Nat) : ∀ a, d.flashN a (m + n) = d.flashN a m ++ d.flashN (a + m) n := by
  induction m with
  | zero => intro a; simp [Dev.flashN]
  | succ m ih => intro a; rw [show m + 1 + n = (m + n) + 1 from by omega, Dev.flashN, ih, Dev.flashN, show a + (m + 1) = a + 1 + m from by omega]; rfl

/-- The flash holds both copies of the boot descriptor, of sequence numbers 6 and 5, and their CRC-32 (Table MBX-1). -/
def bootFlash (d : Dev) : Dev := { d with mbx := { d.mbx with flash :=
  [(0, 1#8), (4, 6#8), (4092, 72#8), (4093, 101#8), (4094, 53#8), (4095, 218#8), (4100, 5#8), (8188, 25#8), (8189, 43#8), (8190, 136#8), (8191, 112#8)] } }

theorem crcZero_copies : crcZero 4084 1931247572 ^^^ 0xFFFFFFFF = 3660932424 ∧ crcZero 4084 2902708388 ^^^ 0xFFFFFFFF = 1887972121 := by decide +kernel

theorem witness_boot_descriptors : (bootFlash uDev).bootSeq 0 = some 6 ∧ (bootFlash uDev).bootSeq 0x1000 = some 5 := by
  have g : ∀ a c r, (∀ e ∈ (bootFlash uDev).mbx.flash, e.1 < a + 8 ∨ a + 8 + 4084 ≤ e.1) → ((bootFlash uDev).flashN a 8).foldl crcByte 0xFFFFFFFF = c →
      crcZero 4084 c ^^^ 0xFFFFFFFF = r → crc32 ((bootFlash uDev).flashN a 4092) = r := by
    intro a c r h1 h2 h3
    rw [show (4092 : Nat) = 8 + 4084 from rfl, flashN_add, flashN_blank _ _ _ h1, crc32, List.foldl_append, h2, crcZero_eq, h3]
  constructor
  · rw [Dev.bootSeq, g 0 _ _ (by decide) (by decide +kernel) crcZero_copies.1]; decide +kernel
  · rw [Dev.bootSeq, g 0x1000 _ _ (by decide) (by decide +kernel) crcZero_copies.2]; decide +kernel

/-- An image at slot A of which only the magic number is written. -/
def imgDev : Dev := uDev.flashPut (slotBase 0) [0x31#8, 0x4A#8, 0x50#8, 0x46#8]

/-- An image that is genuine, under a key that is not revoked, is accepted: what is genuine and which keys are revoked are free values. -/
theorem witness_accepted_slot (h : Config.keyRevoked 0 = false) (g : Config.imageGenuine (imgDev.flashN (slotBase 0) (512 + imgDev.imgLen 0)) = true) :
    imgDev.slotCause 0 = 0 := by
  have k : imgDev.imgKey 0 = 0 := by decide +kernel
  have a : ¬(imgDev.flashLe (slotBase 0) 4 ≠ 0x46504A31 ∨ bodyMax < imgDev.imgLen 0 ∨ imgDev.gb Reg.calbStat 7) := by decide +kernel
  have b : ¬ imgDev.imgSvn 0 < imgDev.mbx.svn := by decide +kernel
  simp only [Dev.slotCause, a, k, h, g, b, if_false, Bool.false_eq_true, reduceCtorEq]

theorem witness_firmware_commands :
    (oka 0x0004 [0x7240] false [] ∧ (mbDev 0x0004 [0x7240]).mbxOwner 0 = 0 ∧ (mbDev 0x0004 [0x7240]).mbxArg 0 0 = 0x7240)
    ∧ (let args := (0x6FFF00 + 256 * 2 ^ 32) :: List.replicate 32 5
       let d := mbDev 0x0101 args
       oka 0x0101 args true [] ∧ onlyBits [(0, 23), (32, 11)] (d.mbxArg 0 0) = true ∧ 0x6FFF00 = getF (d.mbxArg 0 0) 0 23
         ∧ 256 = getF (d.mbxArg 0 0) 32 11 ∧ 8 * args.length = 8 + 256 ∧ d.frozen = false ∧ (d.sb Reg.smonStat 0 true).frozen = true) := by decide +kernel

theorem witness_firmware_slot_commands :
    (oka 0x0102 [] true [] ∧ (mbDev 0x0102 []).slotCause (mbDev 0x0102 []).otherSlot ≠ 0)
    ∧ (let f := fun d : Dev => { d with mbx := { d.mbx with verified := some d.otherSlot } }
       oka 0x0103 [] true [] ∧ okd f 0x0103 [] true [] ∧ (mbDev 0x0103 []).frozen = false ∧ (f (mbDev 0x0103 [])).mbx.verified = some (f (mbDev 0x0103 [])).otherSlot
         ∧ (mbDev 0x0103 []).mbx.verified ≠ some (mbDev 0x0103 []).otherSlot)
    ∧ (oka 0x0104 [] true [] ∧ oka 0x0105 [0] false [] ∧ (mbDev 0x0105 [0]).mbx.svn ≤ 0 ∧ 0 ≤ (mbDev 0x0105 [0]).imgSvn ((mbDev 0x0105 [0]).gf Reg.mbxFwStat 2 1)
        ∧ onlyBits [(0, 7)] (0 : Word) = true) := by decide +kernel

/-- Block `k` has a token, and one lease or none. -/
def tokDev (k lease fails : Nat) (lock : Bool) (d : Dev) : Dev :=
  ((({ d with mbx := { d.mbx with tokens := [(k, 77)] } }).sf (Reg.mbxLease k) 0 3 lease).sf (Reg.mbxLease k) 28 2 fails).sb (Reg.mbxLease k) 30 lock

theorem witness_expert_commands :
    (∀ q ∈ ([(4, 0, false, 77), (4, 0, false, 78), (4, 0, true, 77), (0, 0, false, 77), (1, 0, false, 77)] : List (Nat × Nat × Bool × Nat)),
        let args := [22 + 3600 * 2 ^ 16, q.2.2.2]
        let f := tokDev 22 q.1 q.2.1 q.2.2.1
        let d := f (mbDev 0x0201 args)
        let A := d.mbxArg 0
        okd f 0x0201 args false [] ∧ onlyBits [(0, 5), (16, 16)] (A 0) = true ∧ onlyBits [(0, 32)] (A 1) = true ∧ 22 = getF (A 0) 0 5
          ∧ 3600 = getF (A 0) 16 16 ∧ d.lockedOut 22 = q.2.2.1 ∧ d.mbxHeld 0 22 = (q.1 != 0) ∧ d.token 22 = 77)
    ∧ (∀ l ∈ [0, 4],
        let f := tokDev 22 l 0 false
        let d := f (mbDev 0x0202 [2 ^ 22])
        okd f 0x0202 [2 ^ 22] false [] ∧ onlyBits [(0, 23)] (d.mbxArg 0 0) = true ∧ d.mbxArg 0 0 ≠ 0
          ∧ (List.range 23).filter (fun k => getB (d.mbxArg 0 0) k) = [22])
    ∧ ((tokDev 22 0 0 false (uDev.sb Reg.mbxUnlock 22 true)).mbxHolds 0 22 = true ∧ (tokDev 22 4 0 false uDev).mbxHolds 0 22 = false)
    ∧ (∀ o ∈ [77, 78],
        let args := [22, o + 0 * 2 ^ 32]
        let f := tokDev 22 4 0 false
        let d := f (mbDev 0x0203 args)
        okd f 0x0203 args false [] ∧ d.mbxOwner 0 = 0 ∧ onlyBits [(0, 5)] (d.mbxArg 0 0) = true ∧ 22 = getF (d.mbxArg 0 0) 0 5
          ∧ o = getF (d.mbxArg 0 1) 0 32 ∧ 0 = getF (d.mbxArg 0 1) 32 32 ∧ d.frozen = false ∧ d.lockedOut 22 = false ∧ d.token 22 = 77)
    ∧ (oka 0x0204 [1] false [] ∧ onlyBits [(0, 1)] (1 : Word) = true ∧ (tokDev 17 0 0 false (uDev.sb Reg.mbxUnlock 17 true)).mbxHolds 0 17 = true
        ∧ (tokDev 17 4 0 false uDev).mbxHolds 0 17 = false)
    ∧ (∀ n ∈ [0, 1, 2], (tokDev 22 4 n false uDev).gf (Reg.mbxLease 22) 28 2 = n) := by decide +kernel

theorem witness_bench_commands :
    (∀ q ∈ ([(0, 0), (7, 1), (7, 2)] : List (Nat × Nat)),
        let args := [q.1, 0, 8, 0x5FFFFFFF8]
        let d := (mbDev 0x0D01 args).setGrp q.1 q.2
        let A := d.mbxArg 0
        okd (fun d => d.setGrp q.1 q.2) 0x0D01 args false [15] ∧ d.mbxOwner 0 = 0 ∧ onlyBits [(0, 3)] (A 0) = true ∧ q.1 = getF (A 0) 0 3
          ∧ getF (A 1) 0 3 = 0 ∧ (A 2).toNat = 8 ∧ (A 3).toNat + 8 = 0x600000000 ∧ ¬ (q.1 = 0 ∧ d.gb Reg.solCtl 0 = true) ∧ d.grp q.1 = q.2 ∧ d.hbmOk = true)
    ∧ (∀ q ∈ ([(0x0D02, 1), (0x0D02, 2), (0x0D03, 2), (0x0D03, 4), (0x0D03, 1)] : List (Nat × Nat)),
        let f := fun d : Dev => d.setGrp 7 q.2
        okd f q.1 [7] false [15] ∧ 7 = getF ((f (mbDev q.1 [7])).mbxArg 0 0) 0 3 ∧ (f (mbDev q.1 [7])).grp 7 = q.2)
    ∧ (okd (fun d => d.sb Reg.solCtl 0 true) 0x0D02 [0] false [15] ∧ (uDev.sb Reg.solCtl 0 true).gb Reg.solCtl 0 = true) := by decide +kernel

theorem witness_fault_and_power_commands :
    (∀ q ∈ ([(0x200 + 0x10 * 2 ^ 12 + 2 * 2 ^ 20, some 2), (0x200 + 0x10 * 2 ^ 12, some 2), (0x300 + 0x11 * 2 ^ 12, none)] : List (Nat × Option Nat)),
        let d := mbDev 0x0E01 [q.1]
        let A := d.mbxArg 0
        let b := srcBlock (getF (A 0) 0 12)
        oka 0x0E01 [q.1] false [16] ∧ onlyBits [(0, 12), (12, 8), (20, 4)] (A 0) = true ∧ getF (A 0) 20 4 ≤ 3
          ∧ b.1 ≠ 0 ∧ fixedClass b.1 b.2 (getF (A 0) 12 8) = q.2 ∧ getF (A 0) 20 4 = q.1 / 2 ^ 20 ∧ d.unreachable (Reg.fltSev b.1 (getF (A 0) 12 8 / 16)) = false)
    ∧ (∀ n ∈ [1, 240], oka 0x0E02 [n] false [] ∧ onlyBits [(0, 8)] (BitVec.ofNat 64 n) = true ∧ getF (BitVec.ofNat 64 n) 0 8 = n)
    ∧ (∀ n ∈ [0, 1, 2], oka 0x0F01 [n] false [18] ∧ (mbDev 0x0F01 [n]).mbxOwner 0 = 0 ∧ onlyBits [(0, 2)] (BitVec.ofNat 64 n) = true
        ∧ getF (BitVec.ofNat 64 n) 0 2 = n ∧ (n < 2 → (mbDev 0x0F01 [n]).pwrRefuse n = 0))
    ∧ (uDev.sb Reg.pwrStat 2 true).pwrRefuse 0 ≠ 0
    ∧ ((uDev.wr (Reg.benTimecmp 31) 0).mtip 31 = true ∧ (uDev.wr (Reg.benTimecmp 31) 1000).mtip 31 = false) := by decide +kernel

/-! ### Chapter 14 -/

/-- A Degrade message and a Note. -/
def degrade : Word × Word := (faultWord 0x201 0x11 1 0, 0)
def note : Word × Word := (faultWord 0x201 0x11 0 0, 0)

/-- A full fault queue without a Note, and one whose first Note stands after `n` others. -/
def fullQ : State := { State.reset with fq := List.replicate 1024 degrade }
def noteQ (n : Nat) : State := { State.reset with fq := List.replicate n degrade ++ note :: List.replicate (1023 - n) degrade }

theorem msg_classes : msgClass note.1 = 0 ∧ msgClass degrade.1 ≠ 0 := by decide +kernel

theorem all_degrade (n : Nat) : ∀ e ∈ List.replicate n degrade, msgClass e.1 ≠ 0 := by
  intro e h; rw [(List.mem_replicate.1 h).2]; exact msg_classes.2

theorem noteQ_length (n : Nat) (h : n ≤ 1023) : (noteQ n).fq.length = 1024 := by
  simp only [noteQ, List.length_append, List.length_replicate, List.length_cons]; omega

theorem witness_full_queues :
    (fullQ.fq.length = 1024 ∧ (∀ e ∈ fullQ.fq, msgClass e.1 ≠ 0))
    ∧ (∀ n, n ≤ 1023 → (noteQ n).fq = List.replicate n degrade ++ note :: List.replicate (1023 - n) degrade ∧ (noteQ n).fq.length = 1024
        ∧ (∀ x ∈ List.replicate n degrade, msgClass x.1 ≠ 0)) ∧ msgClass note.1 = 0 ∧ msgClass degrade.1 ≠ 0 :=
  ⟨⟨List.length_replicate, all_degrade 1024⟩, fun n h => ⟨rfl, noteQ_length n h, all_degrade n⟩, msg_classes⟩

theorem witness_fault_queue_overflow :
    State.reset.fq.length < 1024
    ∧ (uDev.gb Reg.fltStat 5 = false ∧ (uDev.sb Reg.fltStat 5 true).gb Reg.fltStat 5 = true)
    ∧ (let d : Dev := { uDev with flt := { owed := true } }; d.flt.owed = true ∧ d.collectorUp = true)
    ∧ (∀ b ∈ [false, true], (let d : Dev := { uDev with flt := { owed := b } }
        d.gb Reg.fltStat 5 = false ∧ d.flt.owed = b ∧ (d.sb Reg.fltStat 5 true).gb Reg.fltStat 5 = true ∧ (d.sb Reg.fltStat 5 true).flt.owed = b))
    ∧ uDev.classOf ⟨0, 0x201, 0x11, 0, false⟩ ≠ 3 := by decide +kernel

theorem witness_fault_messages :
    (uDev.collectorUp = true ∧ uDev.flt.wire = [] ∧ faultListed 0x203 0x12 = true ∧ faultListed 0x204 0x12 = false)
    ∧ (let d : Dev := { uDev with flt := { wire := [⟨0, 0x203, 0x12, 5, false⟩] } }
       d.collectorUp = true ∧ d.flt.wire = [⟨0, 0x203, 0x12, 5, false⟩] ∧ 0 ≤ d.tim.up)
    ∧ (srcBlock 0x02E = (0, 46) ∧ schedIsland 46 = true ∧ srcBlock 0x02F = (0, 47) ∧ schedIsland 47 = false ∧ neverFenced 47 = true
        ∧ srcBlock 0x203 = (2, 3) ∧ fixedClass 2 3 0x11 = none)
    ∧ (let d : Dev := { uDev with flt := { uDev.flt with sevAt := uDev.tim.up + 1 } }
       srcBlock 0x203 = (2, 3) ∧ fixedClass 2 3 0x11 = none ∧ d.flt.sevAt ≠ d.tim.up)
    ∧ (let d : Dev := { uDev with flt := { uDev.flt with sevAt := uDev.tim.up, sevWas := [(Reg.fltSev 2 1, 0x20)] } }
       srcBlock 0x203 = (2, 3) ∧ fixedClass 2 3 0x11 = none ∧ d.flt.sevAt = d.tim.up ∧ Sparse.find d.flt.sevWas (Reg.fltSev 2 1) = some 0x20)
    ∧ (∀ c ∈ [0, 3], (let d : Dev := { uDev with flt := { uDev.flt with classAt := [(c, uDev.tim.up)] } }
        Sparse.find d.flt.classAt c = some d.tim.up))
    ∧ uDev.gb Reg.jigCtl 1 = false
    ∧ (at_ uDev).takes (.pf 0) Reg.fltQStat
    ∧ ((at_ uDev).takes (.pf 0) Reg.jigInj ∧ uDev.jigActive = false ∧ (uDev.sb Reg.jigStat 0 true).jigActive = true
        ∧ (let v := faultWord 0x203 0x11 0 9; faultListed (getF v 52 12) (getF v 44 8) = true ∧ (srcBlock (getF v 52 12)).1 ≠ 4)
        ∧ ((uDev.sb Reg.jigStat 0 true).inc Reg.jigInjCnt).collectorUp = true) := by decide +kernel

/-- Island 3 fenced since power-on, its automatic release due at 5 ms. -/
def fenceDev : Dev :=
  { uDev.sb Reg.glbIslandFenced 3 true with flt := { fencedAt := [(3, 0)], autoAt := [(3, 5 * msU)], fencedBy := [(3, 1)], resetting := [(3, 9)], freeSince := [(3, 7)] } }

theorem witness_fences_and_halt :
    (neverFenced 47 = true ∧ neverFenced 46 = false ∧ uDev.fenced 46 = false ∧ fenceDev.fenced 3 = true ∧ Sparse.find uDev.flt.resetting 3 = none
      ∧ (uDev.sf Reg.fltFenceCfg 0 16 0).gf Reg.fltFenceCfg 0 16 = 0)
    ∧ (Sparse.find fenceDev.flt.fencedAt 3 = some 0 ∧ fenceDev.collectorUp = true ∧ Sparse.find fenceDev.flt.autoAt 3 = some (5 * msU)
        ∧ Sparse.find fenceDev.flt.resetting 3 = some 9 ∧ Sparse.find fenceDev.flt.freeSince 3 = some 7)
    ∧ (let d : Dev := { fenceDev with flt := { fenceDev.flt with resetting := [] } }
       neverFenced 3 = false ∧ d.fenced 3 = true ∧ Sparse.find d.flt.resetting 3 = none ∧ Sparse.find d.flt.struckAt 3 ≠ some d.tim.up)
    ∧ (let d : Dev := { fenceDev with flt := { fenceDev.flt with struckAt := [(3, fenceDev.tim.up)] } }
       Sparse.find d.flt.struckAt 3 = some d.tim.up)
    ∧ (∀ i ∈ [3, 47, 48, 4], (at_ fenceDev).takes (.pf 0) Reg.fltFenceRel ∧ getF (BitVec.ofNat 64 i) 0 6 = i
        ∧ decide (neverFenced i = true ∨ 48 ≤ i ∨ fenceDev.fenced i = false) = (i != 3))
    ∧ ((at_ uDev).takes (.pf 0) Reg.fltHaltCmd ∧ getF (0x7240 : Word) 0 32 = 0x7240 ∧ getF (0x7241 : Word) 0 32 ≠ 0x7240)
    ∧ (uDev.halted = false ∧ (uDev.sb Reg.rstHaltStat 1 true).halted = true) := by decide +kernel

/-- The boot ROM runs: both slots are blank, or the key group of the fuses failed. -/
def romDev : Dev := { uDev.sf Reg.mbxFwStat 0 2 0 with mbx := { uDev.mbx with bootOther := false } }

/-- A frame held by rule 15. -/
def held15 (reorder : Bool) : JigHeld := ⟨15, 0, 1, 5, 0, [1], 0, {}, false, reorder⟩

theorem witness_boot_joiner_and_jig :
    (romDev.fwState = 0 ∧ romDev.islandOk 44 = true ∧ romDev.pwr.resetAll = false ∧ romDev.mbx.bootOther = false ∧ romDev.slotCause romDev.prefSlot ≠ 0
      ∧ romDev.slotCause (1 - romDev.prefSlot) = romDev.slotCause romDev.prefSlot)
    ∧ (let d : Dev := { romDev with pwr := { romDev.pwr with resetAll := true } }; d.pwr.resetAll = true)
    ∧ (let d : Dev := { romDev with mbx := { romDev.mbx with bootOther := true } }
       d.mbx.bootOther = true ∧ d.slotCause (1 - d.gf Reg.mbxFwStat 2 1) ≠ 0)
    ∧ (let d := uDev.sf Reg.mbxFwStat 0 2 2; 2 ≤ d.fwState ∧ d.islandOk 44 = true)
    ∧ (let d : Dev := { uDev with mbx := { uDev.mbx with restartAt := some 5, resetAt := some 6, leaseEnd := [(22, 7)], lockEnd := [(22, 8)] } }
       d.mbx.restartAt = some 5 ∧ d.mbx.resetAt = some 6 ∧ d.islandOk 44 = true ∧ d.islandOk 46 = true
        ∧ Sparse.find d.mbx.leaseEnd 22 = some 7 ∧ Sparse.find d.mbx.lockEnd 22 = some 8)
    ∧ (uDev.gb Reg.jigCtl 0 = false ∧ (uDev.sb Reg.jigStat 0 true).jigActive = true ∧ uDev.jigActive = false)
    ∧ (∀ b ∈ [false, true], (let d : Dev := { uDev with flt := { held := [held15 b] } }
        d.flt.held.find? (fun x => x.rule == 15 && (if b then x.reorder else !x.reorder)) = some (held15 b))) := by decide +kernel

/-! ### Chapters 15 and 16 -/

/-- Every function in D3hot and the link in L1. -/
def sleepDev : Dev :=
  { uDev.sb Reg.pwrStat 3 true with hq := { fns := (List.range 4).map (fun f => (f, ({ d3 := true } : Fn))), link := .l1, l12En := true } }

theorem witness_power_requests :
    (∀ r ∈ [0, 1, 2], (at_ sleepDev).takes (.pf 0) Reg.pwrCtl ∧ (sleepDev.sf Reg.pwrCtl 0 2 r).pwrRefuse r = 0)
    ∧ (sleepDev.sf Reg.pwrCtl 0 2 0).pwrState = 0 ∧ (sleepDev.sf Reg.pwrCtl 0 2 1).pwrState ≠ 1
    ∧ ((uDev.sf Reg.pwrCtl 0 2 2).pwrRefuse 2 = 4 ∧ (uDev.sf Reg.solStat 0 2 2).gf Reg.solStat 0 2 = 2 ∧ (uDev.sb Reg.pwrStat 2 true).gb Reg.pwrStat 2 = true
        ∧ uDev.gf Reg.solStat 0 2 ≠ 2 ∧ uDev.gb Reg.pwrStat 2 = false ∧ (uDev.sb Reg.smonStat 0 true).gb Reg.smonStat 0 = true
        ∧ uDev.gb Reg.smonStat 0 = false ∧ uDev.hq.l12En = false)
    ∧ (sleepDev.gb Reg.pwrStat 3 = true ∧ sleepDev.standbyReady = true ∧ sleepDev.gb Reg.pwrStat 2 = false ∧ uDev.standbyReady = false)
    ∧ (∀ g ∈ [some 0, some 1, some 2, none], (let d : Dev := { uDev.sf Reg.mbxFwStat 0 2 2 with pwr := { uDev.pwr with goal := g } }
       d.pwr.goal = g ∧ d.fwState ≠ 0 ∧ d.running = false ∧ d.pwr.perst = false))
    ∧ (∀ b ∈ [false, true], (let s : State := at_ { uDev.sf Reg.mbxFwStat 0 2 2 with pwr := { uDev.pwr with goal := some 2, leave := b } }
       s.dev.pwr.goal = some 2 ∧ s.dev.running = false ∧ (s.toStandby 1).dev.pwr.leave = b))
    ∧ (let d : Dev := { runDev with pwr := { runDev.pwr with goal := some 2 } }; d.pwr.goal = some 2 ∧ d.running = true) := by decide +kernel

theorem witness_power_states_and_host_resets :
    (∀ e ∈ [1, 2], (let d := (uDev.sf Reg.pwrStat 0 2 2).sf Reg.pwrStat 8 2 e
       d.pwrState = 2 ∧ d.pwr.keep = false ∧ d.gb Reg.pwrStat 2 = false ∧ d.gf Reg.pwrStat 8 2 = e ∧ d.gb Reg.smonStat 0 = false))
    ∧ (uDev.pwr.perst = false ∧ uDev.pwr.keep = false ∧ uDev.pwrState ≠ 2 ∧ uDev.halted = false ∧ uDev.pwr.goal ≠ some 2
        ∧ (∀ b ∈ [false, true], (uDev.sb Reg.rstCfg 0 b).gb Reg.rstCfg 0 = b))
    ∧ (let d : Dev := { uDev with pwr := { uDev.pwr with goal := some 2 } }; d.pwr.perst = false ∧ d.pwr.keep = false ∧ d.pwrState ≠ 2 ∧ d.halted = false
        ∧ d.pwr.goal = some 2)
    ∧ (uDev.islandOk 33 = true ∧ uDev.islandOk 32 = true ∧ (uDev.sb Reg.clkStat 0 true).gb Reg.clkStat 0 = true)
    ∧ (let d := uDev.sb Reg.clkStat 0 true
       let x := d.waitUp d.pwr.resetUntil
       x.islandOk 32 = true ∧ x.islandOk 33 = true ∧ x.gb Reg.clkStat 0 = true ∧ x.pwrState ≠ 2)
    ∧ (let x := (uDev.sb Reg.clkStat 0 false).waitUp (uDev.sb Reg.clkStat 0 false).pwr.resetUntil; x.gb Reg.clkStat 0 = false)
    ∧ (let x := (uDev.sb Reg.glbIslandFenced 32 true).waitUp uDev.pwr.resetUntil; x.islandOk 32 = false)
    ∧ (let x := (uDev.sb Reg.glbIslandFenced 33 true).waitUp uDev.pwr.resetUntil; x.islandOk 33 = false)
    ∧ (let x := (uDev.sf Reg.pwrStat 0 2 2).waitUp uDev.pwr.resetUntil; x.pwrState = 2)
    ∧ (∀ f ∈ [0, 1, 3, 4, 1023], f < 1024 ∧ decide (f = 0 ∨ (0 < f ∧ f < 4) ∨ 4 ≤ f) = true) := by decide +kernel

theorem witness_supply_monitor :
    (0 < uDev.gf (Reg.smonRail 8) 16 16 ∧ (uDev.sb (Reg.smonRail 8) 48 true).gb Reg.smonStat 0 = false
      ∧ (let d := (uDev.sb Reg.glbIslandFenced 44 true); d.gb Reg.smonStat 0 = false ∧ d.islandOk 44 = false ∧ 0 < d.gf (Reg.smonRail 8) 16 16)
      ∧ (uDev.gb Reg.smonStat 0 = false ∧ uDev.islandOk 44 = true)
      ∧ ((uDev.sb Reg.smonStat 0 true).sb (Reg.smonRail 8) 48 true).gb Reg.smonStat 0 = true)
    ∧ (let d : Dev := { (uDev.sb Reg.smonStat 0 true).sf Reg.smonStat 2 4 5 with pwr := { uDev.pwr with dipAt := some uDev.tim.up } }
       d.gb Reg.smonStat 0 = true ∧ d.pwr.dipAt = some d.tim.up ∧ 4 < d.gf Reg.smonStat 2 4 ∧ d.gf Reg.smonStat 2 4 ≤ 5
        ∧ 0 < d.gf (Reg.smonRail 4) 16 16)
    ∧ (let d := uDev.sb Reg.smonStat 0 true; d.gb Reg.smonStat 0 = true ∧ d.pwr.dipAt ≠ some d.tim.up)
    ∧ uDev.gf (Reg.smonRail 8) 16 16 ≤ (65535#16).toNat
    ∧ (∀ b ∈ [false, true], (let d := (uDev.sb (Reg.smonRail 8) 48 true).sb (Reg.smonRail 0) 48 b
       let x := (d.sb (Reg.smonRail 8) 48 false).sb (Reg.smonRail 8) 49 false
       d.gb (Reg.smonRail 8) 48 = true ∧ decide (x.lowRails = []) = !b))
    ∧ (∀ b ∈ [false, true], (let d : Dev := { uDev.sb Reg.rstHaltStat 1 b with pwr := { uDev.pwr with dipAt := some 0 } }
       let x : Dev := { d.waitUp (0 + 50 * usU) with pwr := { (d.waitUp (0 + 50 * usU)).pwr with dipAt := none } }
       d.pwr.dipAt = some 0 ∧ d.tim.up ≤ 0 + 50 * usU ∧ x.pwrState ≠ 2 ∧ x.pwr.keep = false ∧ x.halted = b))
    ∧ (let x : Dev := { uDev with pwr := { uDev.pwr with keep := true } }; x.pwr.keep = true)
    ∧ (let x := uDev.sf Reg.pwrStat 0 2 2; x.pwrState = 2 ∧ x.gb Reg.pwrStat 2 = false)
    ∧ (∀ t ∈ [some 0, some 7], (let d : Dev := { uDev with pwr := { uDev.pwr with dipAt := t }, tim := { uDev.tim with up := 7 } }
        decide (d.pwr.dipAt = some d.tim.up) = (t == some 7)))
    ∧ (let d : Dev := { uDev with tim := { uDev.tim with keepTime := some 3 } }; d.tim.keepTime = some 3 ∧ d.pwr.keep = false)
    ∧ (at_ uDev).takes (.pf 0) Reg.smonClr
    ∧ (let d : Dev := { uDev with pwr := { uDev.pwr with keep := true } }
       d.awaitsPower = true ∧ d.lowRails = [] ∧ d.gb (Reg.smonRail 9) 49 = false ∧ ((uDev.sf Reg.rstCause 0 4 1)).awaitsPower = false)
    ∧ (uDev.islandOk 44 = true ∧ (∀ k ∈ [0, 1, 2, 3], (uDev.sb Reg.clkStat k true).gb Reg.clkStat k = true ∧ (uDev.sb Reg.clkStat k false).gb Reg.clkStat k = false)) := by
  decide +kernel

/-! ### The statements about every command -/

theorem witness_invariants_at_reset :
    State.reset.fq.length ≤ 1024 ∧ Memory.wf State.reset.dev.mem = true ∧ Regs.wf State.reset.dev.regs = true ∧ State.reset.pending = [] := by decide +kernel

/-- A state with the snapshot capture waiting before a boundary. -/
def queued : State := { State.reset with pending := [.snapshotCapture, .xsReconcile] }

theorem witness_front_command : queued.pending = Instr.snapshotCapture :: [.xsReconcile] := rfl

theorem witness_frame_of_reads :
    (∃ t, exec (.rcRead64 (.pf 0) .bar0 ⟨Reg.timHoldCnt, 8⟩) (at_ uDev) = .next t) ∧ (∃ t, exec (.rcReadHigh (.pf 0) .bar0 7) (at_ uDev) = .next t)
    ∧ (∃ t, exec (.smonClear (.pf 0) 0) (at_ uDev) = .next t) ∧ (∃ t, exec (.powerRequestQuiet (.pf 0) 1) (at_ uDev) = .next t)
    ∧ (∃ t, exec (.faultPop (.pf 0) 0) (at_ uDev) = .next t) := ⟨⟨_, rfl⟩, ⟨_, rfl⟩, ⟨_, rfl⟩, ⟨_, rfl⟩, ⟨_, rfl⟩⟩

theorem witness_frame_of_stores :
    (∃ t, exec (.mailboxRequestWrite (.pf 3) 15 255 5) (at_ uDev) = .next t) ∧ (∃ t, exec (.calEntryWrite (.pf 0) 3 3 0x3ffff 5) (at_ uDev) = .next t)
    ∧ (∃ t, exec (.fwdTableDirectWrite (.pf 0) (.main 5 3) 5) (at_ uDev) = .next t) ∧ (∃ t, exec (.trieWrite (.pf 0) (.nextHop 37 1) 5) (at_ uDev) = .next t) :=
  ⟨⟨_, rfl⟩, ⟨_, rfl⟩, ⟨_, rfl⟩, ⟨_, rfl⟩⟩

/-- The registers of table commands, which a read first brings up to date. -/
theorem witness_frame_of_table_reads :
    (∃ t, exec (.rcRead64 (.pf 0) .bar0 ⟨Reg.fwdTblStat, 8⟩) (at_ uDev) = .next t) ∧ (∃ t, exec (.rcReadLow (.pf 0) .bar0 Reg.fwdTblStat) (at_ uDev) = .next t)
    ∧ Reg.fwdTblStat ∈ [Reg.fwdTblStat / 8 * 8] := ⟨⟨_, rfl⟩, ⟨_, rfl⟩, by decide⟩

/-! ### Identity, accesses of the Bench to HBM, and pins -/

theorem witness_identity_of_functions : ∀ f ∈ [0, 3], ∀ n ∈ [1, 255], f < 4 ∧ 0 < n ∧ n ≤ (sriovCap f).1 := by decide

theorem witness_bench_accesses_to_hbm :
    uDev.hbmOk = true
    ∧ (∀ x ∈ [(0x40000000, 8), (0x7ffffff8, 8), (0x80000000, 1), (0x5ffffffff, 1), (0x5fffffff9, 7)], 0 < x.2 ∧ x.2 ≤ 8 ∧ 0x40000000 ≤ x.1
        ∧ x.1 + x.2 ≤ 0x600000000 ∧ (x.1 + x.2 ≤ 0x80000000 ∨ 0x80000000 ≤ x.1))
    ∧ (∀ x ∈ [(0x80000000, 8), (0x80000003, 4), (0x5fffffff8, 8)], 0x80000000 ≤ x.1 ∧ x.1 + x.2 ≤ 0x600000000
        ∧ decide (x.2 = 8 ∧ x.1 % 8 = 0) = !decide (x.2 ≠ 8 ∨ x.1 % 8 ≠ 0))
    ∧ (∀ x ∈ [(0x40000000, 1), (0x7ffffff8, 8)], 0 < x.2 ∧ x.2 ≤ 8 ∧ 0x40000000 ≤ x.1 ∧ x.1 + x.2 ≤ 0x80000000)
    ∧ (∀ a ∈ [0, 0x1fffffff], a < 0x20000000 ∧ (4 ≠ 8)) := by decide +kernel

theorem witness_pins :
    (uDev.halt 0).pwr.keepLost = false
    ∧ (∃ e : Dev, exec (.keepEntry 8) (at_ uDev) = .next { at_ uDev with dev := e }) ∧ (∃ e : Dev, exec .keepSupplyReset (at_ uDev) = .next { at_ uDev with dev := e })
    ∧ (∀ i ∈ [0, 44, 47], (let d := (uDev.sb Reg.glbIslandFenced i true).sb Reg.pwrDomStat 62 true
        i < 48 ∧ d.gb Reg.glbIslandFenced i = true ∧ d.gb Reg.pwrDomStat 62 = true ∧ d.pwr.keep = false))
    ∧ uDev.gb Reg.fltStat 4 = false :=
  ⟨by decide +kernel, ⟨_, rfl⟩, ⟨_, rfl⟩, by decide +kernel, by decide +kernel⟩

/-! ### Ill-formed commands, one for each check of Sys2Proof.WellFormed -/

theorem test_refused_offset : Instr.illFormed (.rcRead64 (.pf 0) .bar0 ⟨0x8000000, 8⟩) = some "offset" ∧ Instr.illFormed (.rcReadLow (.pf 0) .bar4 0x40000000) = some "offset"
    ∧ Instr.illFormed (.registerWrite .bench (.vf 3) 0 8 0) = some "offset" ∧ Instr.illFormed (.bridgeTimeout (.pf 0) (.vf 0) true 0) = some "offset" := by decide

theorem test_refused_half : Instr.illFormed (.rcReadHigh (.pf 0) .bar0 4) = some "half" := by decide

theorem test_refused_width : Instr.illFormed (.registerWrite (.pf 0) .bar0 8 3 0) = some "width"
    ∧ Instr.illFormed (.registerWrite (.pf 0) .bar0 8 4 0x100000000) = some "width" := by decide

theorem test_refused_function : Instr.illFormed (.sqTailDoorbell 1024 0 0) = some "function" ∧ Instr.illFormed (.flr 5000) = some "function" := by decide

theorem test_refused_size : Instr.illFormed (.invalidateRequest 0 0 none 0 11) = some "size" := by decide

theorem test_refused_octets : Instr.illFormed (.smbTransactionEnd 0 0 0 (List.replicate 34 0)) = some "octets" := by decide

theorem test_well_formed : Instr.wf (.registerWrite (.pf 3) (.vf 5) 0x3ff8 8 0xffffffffffffffff) = true ∧ Instr.wf (.sqTailDoorbell 5000 9 1) = true := by decide

/-! ### Worked examples and words of the spec -/

/-- The device of an answer. -/
def out (o : Host.Outcome State Fault Refusal) : Dev := match o with | .next t => t.dev | _ => {}

/-- R12: a counter of 0x0000_0001_0000_0003 read by two 32-bit accesses, two events falling between them. -/
def counted : Dev := uDev.wr Reg.timHoldCnt 0x100000003
def lowRead : Dev := out (exec (.rcReadLow (.pf 0) .bar0 Reg.timHoldCnt) (at_ counted))

theorem test_counter_low_word : lowRead.rdata = 3 ∧ lowRead.rd Reg.timHoldCnt = 0 := by decide +kernel

theorem test_counter_high_word :
    (out (exec (.rcReadHigh (.pf 0) .bar0 Reg.timHoldCnt) (at_ (lowRead.wr Reg.timHoldCnt 2)))).rdata = 1
    ∧ (out (exec (.rcReadLow (.pf 0) .bar0 Reg.timHoldCnt) (at_ (lowRead.wr Reg.timHoldCnt 2)))).rdata = 2 := by decide +kernel

/-- Chapter 2, the ingress stamp on E5: 1,782,324,993 s + 500,000,160.5 ns in compact form. -/
theorem test_compact_stamp : compact (1782324993 * secU + 500000160 * nsU + nsU / 2) = 0x1F011DCD65A08000 := by decide +kernel

/-- Table CAL-10, entry 4,099: where it stands and what it names. -/
theorem test_calendar_entry : entryOffset 0 0 4099 = 0x8018 ∧ getF (0x12710000400493E0 : Word) 0 30 = 300000
    ∧ getF (0x12710000400493E0 : Word) 30 12 = 1 ∧ getF (0x12710000400493E0 : Word) 42 18 = 40000 := by decide +kernel

/-- Chapter 13, stream 131,500: its record and its counters. -/
theorem test_stream_addresses : strWord 131500 0 = 0x1042806B00 ∧ cntAddr 131500 0 = 0x20806B00 ∧ cntAddr 131500 1 = 0x20806B08 := by decide

/-- Table STR-9: the record of stream 131,500, its recovery at `q` with the history `h`. -/
def strDev9 (q h any : Nat) : Dev :=
  ((((uDev.setSw 131500 0 0x0280000008020055).setSw 131500 1 0x0000103000020000).setSw 131500 2 0x100000).ss 131500 3 16 16 q).setHist 131500 h |>.ss 131500 3 32 1 any

theorem test_record_fields : (strDev9 1000 0xFF 1).recValid 131500 20 = true ∧ (strDev9 1000 0xFF 1).sResLen 131500 = 128
    ∧ (strDev9 1000 0xFF 1).sHistLen 131500 = 8 := by decide +kernel

/-- Table STR-10: 1,004 after 1,002; the late 1,003; and 1,030, a rogue, after 1,013. -/
theorem test_recovery_passes_a_gap : ((strDev9 1002 0xFF 0).recover 131500 (some 1004)).1 = true
    ∧ ((strDev9 1002 0xFF 0).recover 131500 (some 1004)).2.hist 131500 = 0xFD := by decide +kernel

theorem test_recovery_fills_the_gap : ((strDev9 1004 0xFD 0).recover 131500 (some 1003)).1 = true
    ∧ ((strDev9 1004 0xFD 0).recover 131500 (some 1003)).2.hist 131500 = 0xFF
    ∧ ((strDev9 1013 0xFF 0).recover 131500 (some 1030)).1 = false := by decide +kernel

/-- Chapter 9, three insertions into the IPv4 trie: the prefixes held, nodes 5 and 6. -/
def trieRoute (addr plen nh str : Nat) : Route :=
  { v6 := false, plen := plen, addr := addr
    res := BitVec.ofNat 64 (fld 15 1 1 + fld 16 8 plen + fld 24 15 nh + fld 39 1 (if str = 0 then 0 else 1) + fld 40 18 str) }
def trieMbx : Mbx :=
  { routes := [trieRoute 0x0A140000 14 37 0, trieRoute 0x0A158000 17 52 0, trieRoute 0x0A15C807 32 52 90210]
    nodes := [(5, pathKey false 16 0x0A15), (6, pathKey false 24 0x0A15C8)] }

theorem test_trie_root : trieMbx.entry false 16 0x0A14 = 0x250E8000 ∧ trieMbx.entry false 16 0x0A15 = 0x250E800B ∧ trieMbx.entry false 16 0x0A18 = 0
    ∧ trieMbx.place false 16 0x0A15 = some (bar4Addr 0x40050A8) := by decide +kernel

theorem test_trie_nodes : trieMbx.entry false 24 0x0A1580 = 0x34118000 ∧ trieMbx.entry false 24 0x0A157F = 0 ∧ trieMbx.entry false 24 0x0A15C8 = 0x3411800D
    ∧ trieMbx.place false 24 0x0A15C8 = some (bar4Addr 0x4202E40) := by decide +kernel

theorem test_trie_leaf : trieMbx.entry false 32 0x0A15C807 = 0x0160628034208000 ∧ trieMbx.place false 32 0x0A15C807 = some (bar4Addr 0x4203038) := by decide +kernel

/-- Table MBX-9: PF1 unlocks block 2 for 600 s through mailbox 4. -/
def mbx9 : Dev :=
  let d := (((uDev.wr Reg.mbxUnlock 0).sf Reg.mbxFwStat 0 2 2).stW (mbxBuf 4) 0x0000001000070201).stWs (mbxBuf 4 + 64) [0x02580002, 0x5C1E90A4]
  { d with mbx := { d.mbx with go := [(4, 0)], tokens := [(2, 0x5C1E90A4)] } }

theorem test_expert_unlock :
    let x := out (exec .expertUnlock (at_ mbx9))
    x.gb Reg.mbxUnlock 2 = true ∧ x.gf (Reg.mbxLease 2) 0 3 = 1 ∧ x.gf (Reg.mbxLease 2) 16 12 = 600 := by decide +kernel

theorem test_expert_unlock_response :
    (out (exec .expertUnlock (at_ mbx9))).ldW (mbxBuf 4 + 0x800) = 0x0000080000070201
    ∧ (out (exec .expertUnlock (at_ mbx9))).ldW (mbxBuf 4 + 0x840) = 0x02580002 := by decide +kernel

/-- Table FLT-8: entry 5,000 of slice 1 reads with an uncorrectable error; SMON_ is source 0xFE0. -/
theorem test_fault_words : faultWord 0x201 0x10 2 0x209C40 = 0x2011020000209C40 ∧ srcCode 22 0 = 0xFE0 := by decide

end Sys2Proof.Tests
end

section
/-! The time base, chapter 2: which samples the servo accepts (R36). -/

namespace Sys2Proof.Machine

/-! ### The 10 µs rule -/

section
variable {d : Dev} (x : Int)

/-- A sample less than 10 µs after the previous accepted one is rejected. -/
theorem sampleIn_of_tooSoon {t : Nat} (hl : d.tim.lastAcc = some t) (ht : d.tim.up - t < 10 * usU) : d.sampleIn x = d.rejectSample := by
  simp only [Dev.sampleIn, hl, if_pos ht]

/-- A sample with no accepted one in the last 10 µs is accepted. -/
theorem sampleIn_of_due (h : ∀ t, d.tim.lastAcc = some t → 10 * usU ≤ d.tim.up - t) : d.sampleIn x = d.acceptSample x := by
  unfold Dev.sampleIn
  split
  case h_1 t hl => exact if_neg (Nat.not_lt.mpr (h t hl))
  case h_2 => rfl

/-! ### The source selected by SRC -/

theorem sourceSample_selected {src : Nat} (h : d.gf Reg.timCtl 0 3 = src) : d.sourceSample src x = d.sampleIn x := if_pos h

theorem sourceSample_unselected {src : Nat} (h : d.gf Reg.timCtl 0 3 ≠ src) : d.sourceSample src x = d := if_neg h

end

section
variable {d : Dev} (v : Word)

theorem wrServoIn_selected (h : d.gf Reg.timCtl 0 3 = 1) : d.wrServoIn v = d.sampleIn (toSigned 48 v.toNat) := if_pos h

theorem wrServoIn_unselected (h : d.gf Reg.timCtl 0 3 ≠ 1) : d.wrServoIn v = d.rejectSample := if_neg h

end

/-! ### The write of `TIM_SERVO_IN` -/

/-- A write of `TIM_SERVO_IN` that its island takes and the unlock permits has its effect on the device alone. -/
theorem exec_servoInWrite_of_takes {s : State} {r : Req} (v : Word) (h : s.takes r Reg.timServoIn) :
    exec (.servoInWrite r v) s = .next { s with dev := s.dev.wrServoIn v } := by
  obtain ⟨hreach, hmay⟩ := h
  calc exec (.servoInWrite r v) s
      = onDev (fun d => d.gate r Reg.timServoIn (fun e => e.wrServoIn v)) s := rfl
    _ = .next { s with dev := s.dev.wrServoIn v } := by rw [onDev_next, gate_open _ hreach hmay]

/-- Settles O13: for a write and for an arrival, by the source selected and then by the 10 µs rule. -/
theorem servoSampleAcceptance : Obligations.ServoSampleAcceptance := by
  refine ⟨?writeAccepted, ?writeRejected, ?unselected, ?tooSoon, ?accepted⟩
  case writeAccepted =>
    intro s r v htakes hsrc hdue
    rw [exec_servoInWrite_of_takes v htakes, wrServoIn_selected v hsrc, sampleIn_of_due _ hdue]
  case writeRejected =>
    intro s r v htakes hwhy
    have hrej : s.dev.wrServoIn v = s.dev.rejectSample := by
      by_cases hsrc : s.dev.gf Reg.timCtl 0 3 = 1
      · obtain ⟨t, hl, ht⟩ := hwhy.resolve_left (not_not_intro hsrc)
        rw [wrServoIn_selected v hsrc, sampleIn_of_tooSoon _ hl ht]
      · exact wrServoIn_unselected v hsrc
    rw [exec_servoInWrite_of_takes v htakes, hrej, Dev.rejectSample]
  case unselected =>
    intro d src x hsrc
    exact sourceSample_unselected x hsrc
  case tooSoon =>
    intro d src t x hsrc hl ht
    rw [sourceSample_selected x hsrc, sampleIn_of_tooSoon x hl ht, Dev.rejectSample]
  case accepted =>
    intro d src x hsrc hdue
    rw [sourceSample_selected x hsrc, sampleIn_of_due x hdue]

end Sys2Proof.Machine
end

section
/-! Calendar entries, chapter 3: which entry writes take effect (R75). -/

namespace Sys2Proof.Machine

/-! ### The table access path -/

/-- A table access that its island takes and the unlock permits has the effect `f` (R17, R28). -/
theorem gate4_open {d : Dev} {r : Req} {off isl k : Nat} (f : Dev → Dev) (hok : d.islandOk isl = true) (hrun : d.halted = false)
    (hun : d.unlockedBy k r = true) : d.gate4 r off isl k f = f d := by
  simp [Dev.gate4, hok, hrun, hun]

/-! ### The two outcomes of an entry write into a bank the solver has not locked -/

section
variable {d : Dev} {b : Nat} (sl i : Nat) (v : Word)

/-- In an IDLE bank that no COPY reads, the entry takes the word. -/
theorem writeEntry_of_idle (hl : d.solLocked b = false) (hidle : d.bankSt b = 0) (hsrc : b ∉ d.copySources) :
    d.writeEntry b sl i v
      = { (d.stW (entryAddr b sl i) v) with soft := d.soft.filter (· != entryAddr b sl i) } := by
  simp [Dev.writeEntry, hl, hidle, hsrc]

/-- In a bank that is not IDLE, or that a COPY reads, the write is dropped, shown and counted. -/
theorem writeEntry_of_busy (hl : d.solLocked b = false) (hbusy : d.bankSt b ≠ 0 ∨ b ∈ d.copySources) :
    d.writeEntry b sl i v = (d.sb Reg.calStat 8 true).inc Reg.calWrRefCnt := by
  have hno : ¬ (d.bankSt b = 0 ∧ d.copySources.contains b = false) := by
    rintro ⟨hidle, hsrc⟩
    rcases hbusy with h | h
    · exact h hidle
    · simp [h] at hsrc
  rw [Dev.writeEntry, if_neg (by simp [hl]), if_neg hno]

end

/-! ### The command -/

/-- An entry write that its island takes and the unlock permits acts on the device alone. -/
theorem exec_calEntryWrite_of_takes4 {s : State} {r : Req} {b : Bank} {sl : Slice} (i : BitVec 18) (v : Word)
    (h : s.takes4 r (calIsland sl.val) 2) :
    exec (.calEntryWrite r b sl i v) s = .next { s with dev := s.dev.writeEntry b.val sl.val i.toNat v } := by
  obtain ⟨hok, hrun, hun⟩ := h
  calc exec (.calEntryWrite r b sl i v) s
      = onDev (fun d => d.gate4 r (entryOffset b.val sl.val i.toNat) (calIsland sl.val) 2
          (fun x => x.writeEntry b.val sl.val i.toNat v)) s := rfl
    _ = .next { s with dev := s.dev.writeEntry b.val sl.val i.toNat v } := by rw [onDev_next, gate4_open _ hok hrun hun]

/-- Settles O20: an IDLE bank that no COPY reads takes the word, and its eight octets alone change; any other drops it. -/
theorem entryWriteNeedsIdleBank : Obligations.EntryWriteNeedsIdleBank := by
  intro s r b sl i v htakes hl
  rw [exec_calEntryWrite_of_takes4 i v htakes]
  refine ⟨fun hidle hsrc => ⟨?written, ?frame⟩, fun hbusy => ?dropped⟩
  case written => rw [writeEntry_of_idle _ _ v hl hidle hsrc]
  case frame => exact stW_frame s.dev _ v
  case dropped => rw [writeEntry_of_busy _ _ v hl hbusy]

end Sys2Proof.Machine
end

section
/-! Recovery of received frames, chapter 5: the vector and the match algorithm, and tagless frames (R147–R149). -/

namespace Sys2Proof.Machine

/-! ### The history's arithmetic -/

/-- The zeros from bit `lo` up to bit `hi − 1` are those of the bits below `hi` that are not below `lo`. -/
theorem zerosIn_eq_filter_range (h : Nat) {lo hi : Nat} (hle : lo ≤ hi) :
    zerosIn h lo hi = ((List.range hi).filter (fun i => decide (lo ≤ i) && !h.testBit i)).length := by
  have hlow : (List.range lo).filter (fun i => decide (lo ≤ i) && !h.testBit i) = [] :=
    List.filter_eq_nil_iff.mpr fun i hi => by simp [Nat.not_le.mpr (List.mem_range.mp hi)]
  have hsplit : List.range hi = List.range lo ++ (List.range (hi - lo)).map (lo + ·) := by
    rw [← List.range_add, Nat.add_sub_cancel' hle]
  rw [hsplit, List.filter_append, hlow, List.nil_append, List.filter_map, List.length_map, zerosIn]
  simp [Function.comp_def]

/-- The history moved up by `n` with bit 0 set: bit 0 is 1, bits 1 to `n − 1` are 0, bit `i` beyond is the old bit `i − n`. -/
theorem testBit_shifted_history (h : Nat) {n w : Nat} (hpos : 0 < n) (hlt : n < w) (i : Nat) :
    ((h * 2 ^ n + 1) % 2 ^ w).testBit i = (decide (i = 0) || decide (n ≤ i ∧ i < w) && h.testBit (i - n)) := by
  have hone : 1 < 2 ^ n := Nat.one_lt_two_pow hpos.ne'
  have hbit : Nat.testBit 1 i = decide (i = 0) := Bool.eq_iff_iff.mpr (by simp [Nat.testBit_one_eq_true_iff_self_eq_zero])
  rw [Nat.testBit_mod_two_pow, Nat.mul_comm, Nat.testBit_two_pow_mul_add h hone]
  by_cases hin : i < n
  · simp [hin, hin.trans hlt, Nat.not_le.mpr hin, hbit]
  · simp [hin, show i ≠ 0 by omega, show n ≤ i by omega]

/-! ### The vector algorithm, a branch at a time (R147) -/

section
variable {d : Dev} {s q : Nat}

/-- With TAKE_ANY = 1 the frame passes, whatever its number, and the history is all ones. -/
theorem vectorRcv_of_takeAny (hany : d.sg s 3 32 1 = 1) :
    d.vectorRcv s q = (true, (((d.ss s 3 16 16 q).ss s 3 32 1 0).setHist s (2 ^ d.sHistLen s - 1)).rcvPass s) := if_pos hany

variable {dd : Int} (hany : d.sg s 3 32 1 ≠ 1) (hdd : dd = toSigned 16 (q + 65536 - d.sg s 3 16 16))
include hany hdd

/-- A number at least the history's length away is rogue. -/
theorem vectorRcv_of_rogue (hfar : (d.sHistLen s : Int) ≤ dd ∨ dd ≤ -(d.sHistLen s : Int)) :
    d.vectorRcv s q = (false, d.strCount s 3 1) := by
  subst hdd
  simp only [Dev.vectorRcv, if_neg hany, if_pos hfar]

/-- A number within the history and not ahead of RCV_SEQ is judged by its history bit. -/
theorem vectorRcv_of_behind (hnear : ¬ ((d.sHistLen s : Int) ≤ dd ∨ dd ≤ -(d.sHistLen s : Int))) (hle : dd ≤ 0) :
    d.vectorRcv s q = if (d.hist s).testBit dd.natAbs then (false, d.rcvDup s)
      else (true, ((d.setHist s (d.hist s ||| 2 ^ dd.natAbs)).strCount s 2 1).rcvPass s) := by
  subst hdd
  simp only [Dev.vectorRcv, if_neg hany, if_neg hnear, if_pos hle]

/-- A number ahead of RCV_SEQ within the history passes and moves the history up. -/
theorem vectorRcv_of_ahead (hnear : ¬ ((d.sHistLen s : Int) ≤ dd ∨ dd ≤ -(d.sHistLen s : Int))) (hpos : 0 < dd) :
    d.vectorRcv s q
      = (true, (((((if dd ≠ 1 then d.strCount s 2 1 else d).strCount s 4 (zerosIn (d.hist s) (d.sHistLen s - dd.natAbs) (d.sHistLen s))).setHist s
          ((d.hist s * 2 ^ dd.natAbs + 1) % 2 ^ d.sHistLen s)).ss s 3 16 16 q).rcvPass s)) := by
  have hone : dd.natAbs ≠ 1 ↔ dd ≠ 1 := by omega
  subst hdd
  simp only [Dev.vectorRcv, if_neg hany, if_neg hnear, if_neg (Int.not_le.mpr hpos), hone]

end

/-! ### The match algorithm, a branch at a time (R148) -/

section
variable {d : Dev} {s q : Nat}

theorem matchRcv_of_takeAny (hany : d.sg s 3 32 1 = 1) :
    d.matchRcv s q = (true, ((d.ss s 3 16 16 q).ss s 3 32 1 0).rcvPass s) := if_pos hany

theorem matchRcv_of_eq (hany : d.sg s 3 32 1 ≠ 1) (heq : q = d.sg s 3 16 16) : d.matchRcv s q = (false, d.rcvDup s) := by
  simp only [Dev.matchRcv, if_neg hany, if_pos heq]

theorem matchRcv_of_ne (hany : d.sg s 3 32 1 ≠ 1) (hne : q ≠ d.sg s 3 16 16) :
    d.matchRcv s q
      = (true, ((if (q + 65536 - d.sg s 3 16 16) % 65536 ≠ 1 then d.strCount s 2 1 else d).ss s 3 16 16 q).rcvPass s) := by
  simp only [Dev.matchRcv, if_neg hany, if_neg hne]

/-- A numbered frame passes the match algorithm exactly where TAKE_ANY = 1 or its number is not RCV_SEQ. -/
theorem matchRcv_passes_iff : (d.matchRcv s q).1 = true ↔ d.sg s 3 32 1 = 1 ∨ q ≠ d.sg s 3 16 16 := by
  by_cases hany : d.sg s 3 32 1 = 1
  · simp [matchRcv_of_takeAny hany, hany]
  · by_cases heq : q = d.sg s 3 16 16
    · rw [matchRcv_of_eq hany heq]
      simp [hany, heq]
    · simp [matchRcv_of_ne hany heq, heq]

/-! ### The algorithm ALG selects, and tagless frames (R149) -/

theorem recover_of_vector (halg : d.sg s 0 7 1 = 0) : d.recover s (some q) = d.vectorRcv s q := if_pos halg

theorem recover_of_match (halg : d.sg s 0 7 1 ≠ 0) : d.recover s (some q) = d.matchRcv s q := if_neg halg

theorem recover_tagless_taken (htake : d.sg s 0 8 1 = 1) : d.recover s none = (true, (d.strCount s 5 1).rcvPass s) := if_pos htake

theorem recover_tagless_discarded (htake : d.sg s 0 8 1 ≠ 1) : d.recover s none = (false, d.strCount s 5 1) := if_neg htake

end

/-- Settles O29: by the algorithm selected, then by TAKE_ANY, and for the vector algorithm by where the distance stands to 0 and the history. -/
theorem recoveryOfReceivedFrames : Obligations.RecoveryOfReceivedFrames := by
  refine ⟨?vector, ?matching, ?tagless, fun d s => ⟨?passed, ?duplicate⟩⟩
  case vector =>
    intro d s q dd halg hdd
    rw [recover_of_vector halg]
    refine ⟨vectorRcv_of_takeAny, fun hany hfar => vectorRcv_of_rogue hany hdd hfar, ?behind, ?ahead⟩
    case behind =>
      intro hany hlo hhi hle
      rw [vectorRcv_of_behind hany hdd (by omega) hle]
      exact ⟨fun hseen => if_pos hseen, fun hnew => if_neg (by simp [hnew])⟩
    case ahead =>
      intro hany hpos hhi
      have hn : 0 < dd.natAbs := by omega
      have hw : dd.natAbs < d.sHistLen s := by omega
      exact ⟨_, _, testBit_shifted_history (d.hist s) hn hw, zerosIn_eq_filter_range (d.hist s) (Nat.sub_le _ _),
        vectorRcv_of_ahead hany hdd (by omega) hpos⟩
  case matching =>
    intro d s q halg
    rw [recover_of_match halg]
    refine ⟨matchRcv_passes_iff, ?takeAny, ?same, ?other⟩
    case takeAny => intro hany; rw [matchRcv_of_takeAny hany]
    case same => intro hany heq; rw [matchRcv_of_eq hany heq]
    case other => intro hany hne; rw [matchRcv_of_ne hany hne]
  case tagless => exact fun d s => ⟨recover_tagless_taken, recover_tagless_discarded⟩
  case passed => rw [Dev.rcvPass]
  case duplicate => rw [Dev.rcvDup]

end Sys2Proof.Machine
end

section
/-! The fault queue, chapter 14: a message that finds room, one that finds the queue full, and the overflow message (R421, R422). -/

namespace Sys2Proof.Machine

/-! ### The queue -/

/-- The registers that show the queue are brought up to date; the queue itself stays. -/
@[simp] theorem fqSync_fq (s : State) : s.fqSync.fq = s.fq := (rfl)

/-- The Note message displaced is the first of the queue: those before it and those after it stay, in order. -/
theorem dropNote_append_cons {l t : List (Word × Word)} {e : Word × Word} (hl : ∀ x ∈ l, msgClass x.1 ≠ 0) (he : msgClass e.1 = 0) :
    dropNote (l ++ e :: t) = l ++ t := by
  induction l with
  | nil => exact if_pos he
  | cons x l ih =>
    obtain ⟨hx, hl⟩ := List.forall_mem_cons.mp hl
    calc dropNote (x :: (l ++ e :: t))
        = x :: dropNote (l ++ e :: t) := if_neg hx
      _ = x :: (l ++ t) := by rw [ih hl]

/-! ### The three ways a message meets the queue -/

section
variable {s : State} {w : Word}

/-- With room in the queue the message is its newest entry. -/
theorem enqueue_of_room (h : s.fq.length < 1024) : s.enqueue w = ({ s with fq := s.fq ++ [(w, compact s.dev.now)] } : State).fqSync := if_pos h

variable (hfull : s.fq.length = 1024)
include hfull

/-- A full queue takes a message that is no Note in the place of its oldest Note. -/
theorem enqueue_of_displaces (hw : msgClass w ≠ 0) (hnote : ∃ e ∈ s.fq, msgClass e.1 = 0) :
    s.enqueue w = ({ s with fq := dropNote s.fq ++ [(w, compact s.dev.now)], dev := s.dev.fltLost } : State).fqSync := by
  have hany : s.fq.any (fun x => msgClass x.1 == 0) = true := by simpa using hnote
  rw [State.enqueue, if_neg (by omega), if_pos ⟨hw, hany⟩]

/-- A full queue drops a Note, and drops any message where it holds no Note. -/
theorem enqueue_of_dropped (hwhy : msgClass w = 0 ∨ ∀ e ∈ s.fq, msgClass e.1 ≠ 0) : s.enqueue w = { s with dev := s.dev.fltLost } := by
  have hno : ¬ (msgClass w ≠ 0 ∧ s.fq.any (fun x => msgClass x.1 == 0) = true) := by
    rintro ⟨hw, hany⟩
    obtain ⟨e, he, hnote⟩ := List.any_eq_true.mp hany
    exact hwhy.resolve_left hw e he (beq_iff_eq.mp hnote)
  rw [State.enqueue, if_neg (by omega), if_neg hno]

end

/-! ### A loss -/

section
variable (d : Dev)

/-- A loss shows in the registers through `FLT_LOST_CNT` and OVF alone, whether or not it is the first. -/
theorem rd_fltLost (a : Nat) : d.fltLost.rd a = ((d.inc Reg.fltLostCnt).sb Reg.fltStat 5 true).rd a := by
  unfold Dev.fltLost; split <;> rfl

theorem fltLost_mem : d.fltLost.mem = d.mem := by
  unfold Dev.fltLost; split <;> rfl

theorem gb_fltLost_ovf : d.fltLost.gb Reg.fltStat 5 = true := by
  rw [Dev.gb, rd_fltLost]; exact gb_sb_self _ _ _ (by decide)

theorem rd_fltLost_cnt : d.fltLost.rd Reg.fltLostCnt = BitVec.ofNat 64 ((d.rd Reg.fltLostCnt).toNat + 1) := by
  rw [rd_fltLost, rd_sb_ne _ _ _ (by decide), rd_inc_self]

variable {d}

theorem rd_fltLost_ne {a : Nat} (hstat : a ≠ Reg.fltStat) (hcnt : a ≠ Reg.fltLostCnt) : d.fltLost.rd a = d.rd a := by
  rw [rd_fltLost, rd_sb_ne _ _ _ hstat, rd_inc_ne _ hcnt]

/-- A loss that follows another, OVF still set or the overflow message still owed, adds one to the messages lost. -/
theorem fltLost_flt_of_counting (h : d.gb Reg.fltStat 5 = true ∨ d.flt.owed = true) :
    d.fltLost.flt = { d.flt with lost := d.flt.lost + 1 } := by
  simp only [Dev.fltLost, if_pos h]; rfl

/-- The first loss since OVF was clear starts the count at one, and an overflow message is owed. -/
theorem fltLost_flt_of_first (hovf : d.gb Reg.fltStat 5 = false) (howed : d.flt.owed = false) :
    d.fltLost.flt = { d.flt with lost := 1, owed := true } := by
  have hfirst : ¬ (d.gb Reg.fltStat 5 = true ∨ d.flt.owed = true) := by simp [hovf, howed]
  simp only [Dev.fltLost, if_neg hfirst]; rfl

/-- After a loss with OVF clear the overflow message is owed. -/
theorem fltLost_owed (hovf : d.gb Reg.fltStat 5 = false) : d.fltLost.flt.owed = true := by
  by_cases howed : d.flt.owed = true
  · rw [fltLost_flt_of_counting (.inr howed), howed]
  · rw [fltLost_flt_of_first hovf (Bool.eq_false_of_not_eq_true howed)]

end

/-! ### The overflow message, and what the collector queues -/

/-- Owed, with room in the queue and the collector up, the overflow message is collected with the messages lost as its ADDRESS. -/
theorem overflowMessage_of_owed {s : State} (howed : s.dev.flt.owed = true) (hroom : s.fq.length < 1024) (hup : s.dev.collectorUp = true) :
    overflowMessage s = ({ s with dev := { s.dev with flt := { s.dev.flt with owed := false } } } : State).collect
      ⟨s.dev.tim.up, srcCode 16 0, 0x10, s.dev.flt.lost % 2 ^ 40, false⟩ := if_pos ⟨howed, hroom, hup⟩

/-- The queue after a message was collected is the queue after it was enqueued, on the device its class was counted and shown on. -/
theorem collect_fq (s : State) (m : WireMsg) {c : Nat} {d0 d : Dev} (hc : c = s.dev.classOf m)
    (hd0 : d0 = { s.dev with flt := { s.dev.flt with classAt := Sparse.put s.dev.flt.classAt c s.dev.tim.up } })
    (hd : d = (((d0.inc Reg.fltMsgCnt).inc (Reg.fltClassCnt c)).sb Reg.fltStat c true).pinSync) :
    (s.collect m).fq = (({ s with dev := d } : State).enqueue (faultWord m.src m.kind c m.addr)).fq := by
  subst hd hd0 hc; rfl

/-- Settles O55: by whether the queue has room, holds a Note or holds none, and by whether OVF was set before the loss. -/
theorem faultQueueOverflow : Obligations.FaultQueueOverflow := by
  refine ⟨fun s w => ⟨?room, enqueue_of_dropped, ?displaced⟩, fun d => ⟨?ovfClear, ?ovfSet, gb_fltLost_ovf d, rd_fltLost_cnt d, ?frame, ?memory⟩,
    ?owed, ?collected⟩
  case room =>
    intro hroom
    rw [enqueue_of_room hroom, fqSync_fq]
  case displaced =>
    intro e t l hfq hfull hl he hw
    have hnote : ∃ x ∈ s.fq, msgClass x.1 = 0 := ⟨e, by simp [hfq], he⟩
    rw [enqueue_of_displaces hfull hw hnote, hfq, dropNote_append_cons hl he]
  case ovfClear =>
    intro hovf
    exact ⟨fltLost_owed hovf, fun howed => by rw [fltLost_flt_of_first hovf howed]⟩
  case ovfSet =>
    intro hovf
    rw [fltLost_flt_of_counting (.inl hovf)]
    exact ⟨rfl, rfl⟩
  case frame => exact fun a hstat hcnt => rd_fltLost_ne hstat hcnt
  case memory => exact sameMem_of_eq (fltLost_mem d)
  case owed =>
    intro s howed hroom hup
    have hexec : exec .overflowMessage s = .next (overflowMessage s) := rfl
    rw [hexec, overflowMessage_of_owed howed hroom hup]
  case collected =>
    intro s m c d0 d hc _ hroom hd0 hd
    rw [collect_fq s m hc hd0 hd, enqueue_of_room (s := { s with dev := d }) hroom, fqSync_fq]

end Sys2Proof.Machine
end

section
/-! The two queues: what every command does to the commands that wait and to the fault queue (R421), and what a step does. -/

namespace Sys2Proof.Machine

/-! ### Both queues kept -/

/-- The commands that wait are the same, and the fault queue stays within its bound. -/
def State.KeepsQueues (s t : State) : Prop := t.pending = s.pending ∧ (s.queueBound → t.queueBound)

namespace State.KeepsQueues

theorem refl (s : State) : s.KeepsQueues s := ⟨rfl, id⟩

theorem trans {s t u : State} (h : s.KeepsQueues t) (h' : t.KeepsQueues u) : s.KeepsQueues u := ⟨h'.1.trans h.1, h'.2 ∘ h.2⟩

/-- A change of the device, and a fault queue no longer than before. -/
theorem shrink (s : State) (d : Dev) {l : List (Word × Word)} (h : l.length ≤ s.fq.length) : s.KeepsQueues { s with dev := d, fq := l } :=
  ⟨rfl, fun hb => h.trans hb⟩

/-- A change of the device alone. -/
theorem dev (s : State) (d : Dev) : s.KeepsQueues { s with dev := d } := shrink s d le_rfl

/-- What keeps the queues from a state whose device alone differs keeps them from the state itself. -/
theorem of_dev {s t : State} {d : Dev} (h : State.KeepsQueues { s with dev := d } t) : s.KeepsQueues t := (dev s d).trans h

/-- What keeps the queues, followed by a change of the device alone, keeps them. -/
theorem then_dev {s t : State} (h : s.KeepsQueues t) (d : Dev) : s.KeepsQueues { t with dev := d } := h.trans (dev t d)

end State.KeepsQueues

open State (KeepsQueues)

/-! ### Messages put into the fault queue and taken out of it -/

theorem length_dropNote_lt {l : List (Word × Word)} (h : l.any (fun x => msgClass x.1 == 0) = true) : (dropNote l).length < l.length := by
  induction l with
  | nil => cases h
  | cons e t ih =>
    by_cases he : msgClass e.1 = 0
    · simp [dropNote, he]
    · simpa [dropNote, he] using ih (by simpa [he] using h)

theorem keepsQueues_fqSync (s : State) : s.KeepsQueues s.fqSync := .dev s _

/-- With room the queue grows by one; a full queue gives up a Note for the message, or drops it. -/
theorem keepsQueues_enqueue (s : State) (w : Word) : s.KeepsQueues (s.enqueue w) := by
  by_cases hroom : s.fq.length < 1024
  · rw [enqueue_of_room hroom]
    exact ⟨rfl, fun _ => by simpa [State.queueBound] using hroom⟩
  · rw [State.enqueue, if_neg hroom]
    split
    case isTrue h => exact ⟨rfl, fun hb => by
      have hlt := length_dropNote_lt h.2
      have hle : s.fq.length ≤ 1024 := hb
      simp only [State.queueBound, fqSync_fq, List.length_append, List.length_singleton]
      omega⟩
    case isFalse => exact .dev s _

theorem keepsQueues_fqPop (s : State) : s.KeepsQueues s.fqPop :=
  (KeepsQueues.shrink s s.dev (by simp)).trans (keepsQueues_fqSync _)

theorem keepsQueues_fqTake (s : State) (n : Nat) : s.KeepsQueues (s.fqTake n) :=
  (KeepsQueues.shrink s s.dev (by simp)).trans (keepsQueues_fqSync _)

theorem keepsQueues_collect (s : State) (m : WireMsg) : s.KeepsQueues (s.collect m) :=
  .of_dev ((keepsQueues_enqueue _ _).then_dev _)

theorem keepsQueues_handleNext (s : State) : s.KeepsQueues s.handleNext := by
  unfold State.handleNext
  split
  · exact .refl s
  · exact .of_dev (keepsQueues_collect _ _)

theorem keepsQueues_handleAll (n : Nat) (s : State) : s.KeepsQueues (s.handleAll n) := by
  induction n generalizing s with
  | zero => exact .refl s
  | succ n ih =>
    unfold State.handleAll
    split
    · exact (keepsQueues_handleNext s).trans (ih _)
    · exact .refl s

theorem keepsQueues_submit (s : State) (src kind addr : Nat) (inj : Bool) : s.KeepsQueues (s.submit src kind addr inj) :=
  .of_dev (keepsQueues_handleAll _ _)

theorem keepsQueues_faultMessage (m : Option (BitVec 12 × BitVec 8 × BitVec 40)) (s : State) : s.KeepsQueues (faultMessage m s) := by
  unfold faultMessage
  split
  · exact .refl s
  · split
    · exact keepsQueues_handleNext s
    · split
      · exact keepsQueues_submit ..
      · exact .refl s

theorem keepsQueues_overflowMessage (s : State) : s.KeepsQueues (overflowMessage s) := by
  unfold overflowMessage
  split
  · exact .of_dev (keepsQueues_collect _ _)
  · exact .refl s

theorem keepsQueues_fltRead (s : State) : s.KeepsQueues (fltRead s) := by
  unfold fltRead
  split
  · exact .refl s
  · dsimp only
    split
    · exact .dev s _
    · exact (keepsQueues_fqTake s _).then_dev _

/-! ### Resets and power -/

theorem keepsQueues_coreReset (s : State) (tim hbm cfg : Bool) (cause : Nat) : s.KeepsQueues (s.coreReset tim hbm cfg cause) :=
  .shrink s _ (Nat.zero_le _)

theorem keepsQueues_toStandby (s : State) (cause : Nat) : s.KeepsQueues (s.toStandby cause) := .shrink s _ (Nat.zero_le _)

theorem keepsQueues_fromStandby (s : State) : s.KeepsQueues s.fromStandby := (keepsQueues_coreReset s ..).then_dev _

theorem keepsQueues_standbyExit (why : Nat) (s : State) : s.KeepsQueues (standbyExit why s) := by
  unfold standbyExit
  extract_lets
  split_ifs
  · exact .refl s
  · exact .of_dev (keepsQueues_fromStandby _)
  · exact .refl s
  · exact .of_dev (keepsQueues_fromStandby _)
  · exact .of_dev (keepsQueues_fromStandby _)
  · exact .refl s

theorem keepsQueues_powerTransitionDone (s : State) : s.KeepsQueues (powerTransitionDone s) := by
  unfold powerTransitionDone
  split
  · exact .refl s
  · dsimp only
    split_ifs
    · exact .refl s
    · exact (keepsQueues_toStandby s 1).trans (keepsQueues_fromStandby _)
    · exact keepsQueues_toStandby s 1
  · exact .dev s _
  · split
    · exact .refl s
    · exact .dev s _

theorem keepsQueues_dipTimerExpiry (s : State) : s.KeepsQueues (dipTimerExpiry s) := by
  unfold dipTimerExpiry
  split
  · exact .refl s
  · extract_lets d0 d1
    clear_value d1
    split
    · exact .dev s _
    · exact .of_dev (keepsQueues_toStandby _ 2)

theorem keepsQueues_powerOnReset (bad : Nat) (s : State) : s.KeepsQueues (powerOnReset bad s) := by
  fun_cases powerOnReset bad s
  case case1 => exact .refl s
  case case2 => exact .of_dev ((keepsQueues_coreReset _ true true true _).then_dev _)

theorem keepsQueues_deviceResetStart (s : State) : s.KeepsQueues (deviceResetStart s) := by
  unfold deviceResetStart
  split
  · extract_lets
    split
    · exact .of_dev ((keepsQueues_coreReset _ ..).then_dev _)
    · exact .refl s
  · exact .refl s

theorem keepsQueues_perstAssert (s : State) : s.KeepsQueues (perstAssert s) := by
  unfold perstAssert
  extract_lets
  split_ifs
  · exact .refl s
  · exact .dev s _
  · exact .of_dev (keepsQueues_standbyExit 1 _)
  · exact .dev s _
  · exact .of_dev (keepsQueues_coreReset _ ..)
  · exact .dev s _

/-! ### Register writes and beats that may reach the fault queue -/

theorem keepsQueues_wrQStat (s : State) (v : Word) : s.KeepsQueues (s.wrQStat v) := by
  unfold State.wrQStat
  split
  · exact keepsQueues_fqPop s
  · exact .refl s

theorem keepsQueues_wrJigInj (s : State) (v : Word) : s.KeepsQueues (s.wrJigInj v) := by
  unfold State.wrJigInj
  extract_lets
  split
  · exact .dev s _
  · exact .of_dev (keepsQueues_submit ..)

theorem keepsQueues_gate {s : State} (r : Req) (a : Nat) {f : State → State} (h : s.KeepsQueues (f s)) : s.KeepsQueues (s.gate r a f) := by
  unfold State.gate
  split_ifs
  · exact .dev s _
  · exact h
  · exact .dev s _

theorem keepsQueues_wrAny (s : State) (a : Nat) (v : Word) : s.KeepsQueues (s.wrAny a v) := by
  unfold State.wrAny
  split_ifs
  · exact keepsQueues_wrQStat s v
  · exact keepsQueues_wrJigInj s v
  · exact .dev s _

/-- A write through BAR0 acts on the device alone, but for the registers that act on the fault queue. -/
theorem keepsQueues_write0 (s : State) (r : Req) (a width : Nat) (v : Word) : s.KeepsQueues (s.write0 r a width v) := by
  unfold State.write0
  extract_lets
  split
  · exact .dev s _
  split
  · exact .dev s _
  split
  · exact .dev s _
  split
  · split
    · split
      · exact .dev s _
      · exact .refl s
    · exact .refl s
  split
  · split <;> exact .dev s _
  split
  · exact .dev s _
  split
  · exact .dev s _
  · exact keepsQueues_wrAny s _ _

theorem keepsQueues_benStore (s : State) (a n : Nat) (v : Word) : s.KeepsQueues (s.benStore a n v) := by
  unfold State.benStore
  extract_lets
  split
  · exact keepsQueues_write0 s ..
  split
  · exact .dev s _
  split
  · exact .dev s _
  split <;> exact .dev s _

theorem keepsQueues_hubWrite (s : State) (r : Req) (sp : Space) (a width : Nat) (v : Word) : s.KeepsQueues (s.hubWrite r sp a width v) := by
  cases sp with
  | bar0 => exact keepsQueues_write0 s ..
  | bar4 => exact .dev s _
  | bar2 k =>
    simp only [State.hubWrite]
    split
    · split <;> exact .dev s _
    · exact .refl s
  | vf k =>
    simp only [State.hubWrite]
    split
    · exact .dev s _
    · split
      · exact .dev s _
      · exact .refl s
  | dev =>
    simp only [State.hubWrite]
    split
    · exact keepsQueues_benStore s ..
    · exact .refl s

theorem keepsQueues_mapWrite {s t : State} {f a : Nat} {l : List Byte} (h : s.mapWrite f a l = some t) : s.KeepsQueues t := by
  unfold State.mapWrite at h
  extract_lets at h
  split_ifs at h with hbm hok
  · cases h
    exact .dev s _
  · split at h
    · cases h
    · split_ifs at h
      cases h
      split
      · exact keepsQueues_write0 s ..
      · exact .dev s _
      · exact .dev s _

theorem keepsQueues_beat (s : State) (c k : Nat) (bad : Bool) (l : List Byte) : s.KeepsQueues (s.beat c k bad l) := by
  unfold State.beat
  extract_lets
  split
  · exact .refl s
  split
  · exact .dev s _
  split
  · split
    · exact .dev s _
    split
    · split <;> exact .dev s _
    · split
      case h_1 t ht => exact (keepsQueues_mapWrite ht).then_dev _
      case h_2 => exact .dev s _
  split <;> exact .dev s _

theorem keepsQueues_beats (n : Nat) (s : State) (c k : Nat) (bad : Bool) (l : List Byte) : s.KeepsQueues (State.beats n s c k bad l) := by
  induction n generalizing s l with
  | zero => exact .refl s
  | succ n ih => exact (keepsQueues_beat s c k bad l).trans (ih _ _)

theorem keepsQueues_dmaBeatComplete (c k : Nat) (bad : Bool) (l : List Byte) (s : State) : s.KeepsQueues (dmaBeatComplete c k bad l s) := by
  unfold dmaBeatComplete
  split
  · exact .refl s
  · exact (keepsQueues_beats ..).then_dev _

/-! ### Every command, and every step -/

/-- Every command answers a next state and keeps both queues: all but eleven act on the device alone. -/
theorem exec_keepsQueues (c : Instr) (s : State) : ∃ t, exec c s = .next t ∧ s.KeepsQueues t := by
  cases c with
  | registerWrite r sp a width v => exact ⟨_, rfl, keepsQueues_hubWrite s r sp a width v⟩
  | dmaBeatComplete c side bad octets => exact ⟨_, rfl, keepsQueues_dmaBeatComplete c.val side.val bad octets s⟩
  | deviceResetStart => exact ⟨_, rfl, keepsQueues_deviceResetStart s⟩
  | fltRead => exact ⟨_, rfl, keepsQueues_fltRead s⟩
  | faultMessage m => exact ⟨_, rfl, keepsQueues_faultMessage m s⟩
  | overflowMessage => exact ⟨_, rfl, keepsQueues_overflowMessage s⟩
  | faultPop r v => exact ⟨_, rfl, keepsQueues_gate r Reg.fltQStat (keepsQueues_wrQStat s _)⟩
  | jigInject r v => exact ⟨_, rfl, keepsQueues_gate r Reg.jigInj (keepsQueues_wrJigInj s v)⟩
  | powerTransitionDone => exact ⟨_, rfl, keepsQueues_powerTransitionDone s⟩
  | standbyExit why => exact ⟨_, rfl, keepsQueues_standbyExit why.val s⟩
  | dipTimerExpiry => exact ⟨_, rfl, keepsQueues_dipTimerExpiry s⟩
  | powerOnReset bad => exact ⟨_, rfl, keepsQueues_powerOnReset bad.toNat s⟩
  | perstAssert => exact ⟨_, rfl, keepsQueues_perstAssert s⟩
  | _ => exact ⟨_, rfl, .dev s _⟩

theorem step_of_pending {c : Instr} {l : List Instr} {s : State} (h : s.pending = c :: l) : step s = exec c { s with pending := l } := by
  simp only [step, h]

/-- A step goes on, and keeps the fault queue within its bound. -/
theorem step_keepsBound (s : State) : ∃ t, step s = .next t ∧ (s.queueBound → t.queueBound) := by
  cases hp : s.pending with
  | nil => exact ⟨_, step_idle hp, id⟩
  | cons c l =>
    obtain ⟨t, ht, -, hb⟩ := exec_keepsQueues c { s with pending := l }
    exact ⟨t, (step_of_pending hp).trans ht, hb⟩

/-- Settles O2: by the equation of a step on a queue that is not empty. -/
theorem stepExecutesTheFrontCommand : Obligations.StepExecutesTheFrontCommand := fun _ _ _ => step_of_pending

/-- Settles O1: every command and every step goes on, as each keeps both queues. -/
theorem everyCommandGoesOn : Obligations.EveryCommandGoesOn := by
  refine ⟨fun c s => ?command, fun s => ?step⟩
  case command =>
    obtain ⟨t, ht, hp, -⟩ := exec_keepsQueues c s
    exact ⟨t, ht, hp⟩
  case step =>
    obtain ⟨t, ht, -⟩ := step_keepsBound s
    exact ⟨t, ht⟩

/-- Settles O4: the state a command or a step answers is the one for which the bound was shown. -/
theorem faultQueueStaysBounded : Obligations.FaultQueueStaysBounded := by
  refine ⟨fun c s t hb ht => ?command, fun s t hb ht => ?step⟩
  case command =>
    obtain ⟨u, hu, -, hk⟩ := exec_keepsQueues c s
    cases hu.symm.trans ht
    exact hk hb
  case step =>
    obtain ⟨u, hu, hk⟩ := step_keepsBound s
    cases hu.symm.trans ht
    exact hk hb

end Sys2Proof.Machine
end

section
/-! One clock of the time base, and the machine after reset (chapters 0, 2 and 12). -/

namespace Sys2Proof.Machine

/-! ### The receive buffer's log under writes -/

section
variable (d : Dev)

@[simp] theorem wr_rxb (a : Nat) (v : Word) : (d.wr a v).rxb = d.rxb := (rfl)
@[simp] theorem sf_rxb (a lo w v : Nat) : (d.sf a lo w v).rxb = d.rxb := (rfl)
@[simp] theorem sb_rxb (a i : Nat) (b : Bool) : (d.sb a i b).rxb = d.rxb := (rfl)
@[simp] theorem addCnt_rxb (a n : Nat) : (d.addCnt a n).rxb = d.rxb := (rfl)
@[simp] theorem inc_rxb (a : Nat) : (d.inc a).rxb = d.rxb := (rfl)
@[simp] theorem raise_rxb (k u kind addr : Nat) : (d.raise k u kind addr).rxb = d.rxb := (rfl)
@[simp] theorem stN_rxb (a : Nat) (l : List Byte) : (d.stN a l).rxb = d.rxb := (rfl)
@[simp] theorem stW_rxb (a : Nat) (v : Word) : (d.stW a v).rxb = d.rxb := (rfl)

end

/-! ### Clocks -/

/-- Clocks leave every engine as it was. -/
theorem sameEngines_clocks (d : Dev) (n : Nat) : d.sameEngines (d.clocks n) := by
  unfold Dev.sameEngines
  obtain ⟨t, h | h⟩ := clocks_cases d n <;> simp [h]

/-- The free-running clock never goes back. -/
theorem up_le_up_clocks (d : Dev) (n : Nat) : d.tim.up ≤ (d.clocks n).tim.up := by
  unfold Dev.clocks
  dsimp only
  split
  · exact Nat.le_add_right _ _
  · exact Nat.le_add_right _ _

/-- With no slew in progress none starts, and the bit that shows one stays. -/
theorem clocks_of_no_slew {d : Dev} (h : d.tim.slew = 0) (n : Nat) :
    (d.clocks n).tim.slew = 0 ∧ (d.clocks n).rd Reg.timStat = d.rd Reg.timStat := by
  have hmove : d.slewMove n = 0 := by simp [Dev.slewMove, h]
  simp [Dev.clocks, h, hmove, Dev.rd]

/-- Settles O3: a step on an empty queue is one clock, whose frame the laws of `clocks` give. -/
theorem emptyQueueIdlesOneClock : Obligations.EmptyQueueIdlesOneClock := fun s h =>
  ⟨step_idle h, fun _ ha => rd_clocks 1 (List.ne_of_not_mem_cons ha), sameMem_of_eq (clocks_mem s.dev 1), sameEngines_clocks s.dev 1,
    up_le_up_clocks s.dev 1, fun hs => clocks_of_no_slew hs 1⟩

/-! ### The machine after reset -/

/-- After reset nothing is listed, so every register reads its reset value. -/
theorem rd_reset (a : Nat) : State.reset.dev.rd a = resetOf a := rfl

/-- Settles O6: nothing is listed after reset, and the reset values of the registers named are those of their tables. -/
theorem resetState : Obligations.ResetState := by
  exact ⟨rfl, rfl, Nat.zero_le _, reset_mem_wf, reset_regs_wf, fun a => ⟨rd_reset a, rfl⟩, by decide, by decide, by decide, by decide, by decide,
    by decide⟩

end Sys2Proof.Machine
end

section
/-! The hub, chapters 0 and 1: reads and writes of BAR0, BAR4 and the Bench, failed accesses, and snapshot groups (R12, R17, R22–R28, R396–R398). -/

namespace Sys2Proof.Machine

/-! ### Gated register writes as commands -/

/-- A gated register write that its island takes and the unlock permits has its effect on the device alone. -/
theorem onDev_gate_of_takes {s : State} {r : Req} {a : Nat} (f : Dev → Dev) (h : s.takes r a) :
    onDev (fun d => d.gate r a f) s = .next { s with dev := f s.dev } := by
  rw [onDev_next, gate_open f h.1 h.2]

/-! ### Reads of BAR0 -/

section
variable {d : Dev} {r : Req} {a n : Nat}

/-- Within BAR0 no read is refused to the Bench for its address. -/
theorem not_beyondBar0 (r : Req) (h : a < 0x8000000) : ¬ (r = .bench ∧ 0x8000000 ≤ a) := fun hb => Nat.not_le.mpr h hb.2

/-- A read that reaches a word that is no counter in service answers that word, with a table command that is due ended first (R291). -/
theorem read0_of_word (ha : a < 0x8000000) (hw : wrongWidth a n = false) (hu : d.unreachable (a / 8 * 8) = false)
    (hc : isCounter (a / 8 * 8) = false ∨ d.goneAt (a / 8 * 8) = true) {e : Dev}
    (he : e = if a / 8 * 8 = Reg.fwdTblStat ∨ a / 8 * 8 = Reg.fwdTblData then d.tblSync else d) :
    d.read0 r a n = e.answer (if n = 8 then e.wordAt r (a / 8 * 8) else halfWord (a % 8 == 4) (e.wordAt r (a / 8 * 8))) := by
  have hcnt : ¬ (isCounter (a / 8 * 8) = true ∧ d.goneAt (a / 8 * 8) = false) := by
    rcases hc with h | h <;> simp [h]
  simp only [Dev.read0, not_beyondBar0 r ha, hw, hu, hcnt, if_false, Bool.false_eq_true, ← he]

/-- A read that reaches a counter in service is a counter read (R12). -/
theorem read0_of_counter (ha : a < 0x8000000) (hw : wrongWidth a n = false) (hu : d.unreachable (a / 8 * 8) = false)
    (hc : isCounter (a / 8 * 8) = true) (hg : d.goneAt (a / 8 * 8) = false) :
    d.read0 r a n = if n = 8 then d.rc64 (a / 8 * 8) else if a % 8 = 0 then d.rcLow (a / 8 * 8) else d.rcHigh (a / 8 * 8) := by
  simp only [Dev.read0, not_beyondBar0 r ha, hw, hu, hc, hg, and_self, if_true, if_false, Bool.false_eq_true]

end

/-- Whole words, and each half of one, are read with a width and an alignment that BAR0 takes. -/
theorem wrongWidth_aligned {a : Nat} (h : a % 8 = 0) :
    wrongWidth a 8 = false ∧ wrongWidth a 4 = false ∧ wrongWidth (a + 4) 4 = false := by
  refine ⟨?_, ?_, ?_⟩ <;> simp [wrongWidth] <;> omega

theorem wrongWidth_of {a w : Nat} (h : (w ≠ 4 ∧ w ≠ 8) ∨ a % w ≠ 0) : wrongWidth a w = true := by
  simpa [wrongWidth, Bool.or_eq_true] using h

theorem word_of_high {a : Nat} (h : a % 8 = 0) : a / 8 * 8 = a ∧ (a + 4) / 8 * 8 = a ∧ (a + 4) % 8 = 4 := by omega

theorem find_eq_getD {m : Sparse Word} {a : Nat} {h : Word} (e : Word) (hf : Sparse.find m a = some h) : Sparse.getD m a e = h := by
  simp [Sparse.getD, hf]

theorem getD_of_find_none {m : Sparse Word} {a : Nat} (e : Word) (hf : Sparse.find m a = none) : Sparse.getD m a e = e := by
  simp [Sparse.getD, hf]

/-- A read of BAR0 with a width or an alignment that is not supported, by a PF (R25). -/
theorem read0_of_wrongWidth (d : Dev) (n : Fin 4) {a w : Nat} (h : wrongWidth a w = true) :
    d.read0 (.pf n) a w = (d.accFail (.pf n) false false a 3 (d.islandOf (a / 8 * 8))).answer 0 := by
  simp only [Dev.read0, reduceCtorEq, false_and, if_false, h, if_true, Dev.badRead, Dev.badWidth]

theorem write0_of_wrongWidth (s : State) (n : Fin 4) {a w : Nat} (v : Word) (h : wrongWidth a w = true) :
    s.write0 (.pf n) a w v = { s with dev := s.dev.accFail (.pf n) false true a 3 (s.dev.islandOf (a / 8 * 8)) } := by
  simp only [State.write0, reduceCtorEq, false_and, if_false, h, if_true, Dev.badWidth]

/-! ### The Bench in HBM -/

section
variable {d : Dev} {a n : Nat}

/-- An access of the Bench below the images reaches no image of a BAR. -/
theorem below_images (h : a < bar0Image) : ¬ (bar0Image ≤ a ∧ a < bar0Image + 0x8000000) ∧ ¬ (0x1040000000 ≤ a ∧ a < 0x1080000000)
    ∧ ¬ (0x1010000000 ≤ a ∧ a < 0x1010080000) := by
  unfold bar0Image at *
  omega

theorem benLoad_of_area (h : a < bar0Image) {r : BenArea} (hr : benArea false a n = some r) (hm : d.benMay r a n = true) :
    d.benLoad a n = d.answer (BitVec.ofNat 64 (leNat (d.ldN a n))) := by
  obtain ⟨h0, h4, -⟩ := below_images h
  simp only [Dev.benLoad, h0, h4, if_false, hr, hm, if_true]

theorem benLoad_of_none (h : a < bar0Image) (hr : benArea false a n = none) : d.benLoad a n = d.benchRefuse := by
  obtain ⟨h0, h4, -⟩ := below_images h
  simp only [Dev.benLoad, h0, h4, if_false, hr]

theorem benStore_of_area {s : State} (v : Word) (h : a < bar0Image) {r : BenArea} (hr : benArea true a n = some r) (hm : s.dev.benMay r a n = true)
    (hw : r.whole = false) :
    s.benStore a n v = { s with dev := if n = 8 ∧ a % 8 = 0 then s.dev.stW a v else s.dev.stN a (leBytes n v.toNat) } := by
  obtain ⟨h0, h4, h2⟩ := below_images h
  simp only [State.benStore, h0, h4, h2, if_false, hr, hm, hw, Bool.false_eq_true, Bool.true_eq_false]

theorem benStore_of_none {s : State} (v : Word) (h : a < bar0Image) (hr : benArea true a n = none) :
    s.benStore a n v = { s with dev := s.dev.benchRefuse } := by
  obtain ⟨h0, h4, h2⟩ := below_images h
  simp only [State.benStore, h0, h4, h2, if_false, hr]

/-! ### The regions of Table BEN-4 -/

/-- The solver region takes loads of any width and alignment. -/
theorem benArea_solver_load (hlo : 0x40000000 ≤ a) (hhi : a + n ≤ 0x80000000) :
    benArea false a n = some ⟨0x40000000, 0x80000000, false, true, false⟩ := by
  have h1 : ¬ a + n ≤ 0x20000000 := by omega
  have h2 : ¬ a + n ≤ 0x21000000 := by omega
  have h3 : ¬ a + n ≤ 0x21400000 := by omega
  have h4 : ¬ a + n ≤ 0x24000000 := by omega
  simp [benArea, benAreas, *]

/-- The solver region takes no stores. -/
theorem benArea_solver_store (hn : 0 < n) (hlo : 0x40000000 ≤ a) (hhi : a + n ≤ 0x80000000) : benArea true a n = none := by
  simp [benArea, benAreas]
  omega

/-- The customer region takes loads and stores of any width and alignment. -/
theorem benArea_customer (w : Bool) (hn : 0 < n) (hlo : 0x80000000 ≤ a) (hhi : a + n ≤ 0x600000000) :
    benArea w a n = some ⟨0x80000000, 0x600000000, true, true, false⟩ := by
  have h1 : ¬ a + n ≤ 0x20000000 := by omega
  have h2 : ¬ a + n ≤ 0x21000000 := by omega
  have h3 : ¬ a + n ≤ 0x21400000 := by omega
  have h4 : ¬ a + n ≤ 0x24000000 := by omega
  have h5 : ¬ a + n ≤ 0x80000000 := by omega
  simp [benArea, benAreas, *]

/-- The main table takes whole words alone. -/
theorem benArea_main (w : Bool) (h : n ≠ 8) (hlo : a < 0x20000000) : benArea w a n = none := by
  simp [benArea, benAreas, h]
  omega

end

/-- Settles O9: by the paths of a read and a write through the hub, and by the region of the Bench's map that holds the address. -/
theorem readsThroughTheHub : Obligations.ReadsThroughTheHub := by
  refine ⟨fun s r a ha8 hlt hu => ⟨fun hc hg => ?counter, fun hc d hd => ?word⟩, fun s n a w v => ⟨fun h => ?wrongRead, fun h => ?wrongWrite⟩,
    fun s a n v hhbm hpos hn => ⟨fun hlo hhi hone => ?load, fun hlo hhi hw => ?octets, fun hlo hhi hn8 ha8 => ?whole, fun hlo hhi => ?solver,
      fun hlo hn8 => ⟨?mainLoad, ?mainStore⟩⟩⟩
  case counter =>
    obtain ⟨hw8, hw4, hw44⟩ := wrongWidth_aligned ha8
    obtain ⟨e, e4, h4⟩ := word_of_high ha8
    have hlt4 : a + 4 < 0x8000000 := by omega
    have hread : ∀ n, wrongWidth a n = false → s.dev.read0 r a n = if n = 8 then s.dev.rc64 a else s.dev.rcLow a := fun n hn => by
      rw [read0_of_counter hlt hn (by rwa [e]) (by rwa [e]) (by rwa [e]), e, if_pos ha8]
    have hhigh : s.dev.read0 r (a + 4) 4 = s.dev.rcHigh a := by
      rw [read0_of_counter hlt4 hw44 (by rwa [e4]) (by rwa [e4]) (by rwa [e4]), e4, h4, if_neg (by decide), if_neg (by decide)]
    refine ⟨?_, ?_, fun h hf => ?_, fun hf => ?_⟩
    · calc exec (.rcRead64 r .bar0 ⟨a, 8⟩) s = onDev (fun d => d.read0 r a 8) s := rfl
        _ = _ := by rw [onDev_next, hread 8 hw8]; rfl
    · calc exec (.rcReadLow r .bar0 a) s = onDev (fun d => d.read0 r a 4) s := rfl
        _ = _ := by rw [onDev_next, hread 4 hw4]; rfl
    · calc exec (.rcReadHigh r .bar0 a) s = onDev (fun d => d.read0 r (a + 4) 4) s := rfl
        _ = _ := by rw [onDev_next, hhigh, Dev.rcHigh, find_eq_getD _ hf]; rfl
    · calc exec (.rcReadHigh r .bar0 a) s = onDev (fun d => d.read0 r (a + 4) 4) s := rfl
        _ = _ := by rw [onDev_next, hhigh, Dev.rcHigh, getD_of_find_none _ hf]; rfl
  case word =>
    obtain ⟨hw8, hw4, hw44⟩ := wrongWidth_aligned ha8
    obtain ⟨e, e4, h4⟩ := word_of_high ha8
    have hlt4 : a + 4 < 0x8000000 := by omega
    have hread : ∀ n, wrongWidth a n = false → s.dev.read0 r a n = d.answer (if n = 8 then d.wordAt r a else halfWord false (d.wordAt r a)) :=
      fun n hn => by rw [read0_of_word hlt hn (by rwa [e]) (by rwa [e]) (e := d) (by rwa [e]), e, ha8]; rfl
    have hhigh : s.dev.read0 r (a + 4) 4 = d.answer (halfWord true (d.wordAt r a)) := by
      rw [read0_of_word hlt4 hw44 (by rwa [e4]) (by rwa [e4]) (e := d) (by rwa [e4]), e4, h4]; rfl
    refine ⟨?_, ?_, ?_⟩
    · calc exec (.rcRead64 r .bar0 ⟨a, 8⟩) s = onDev (fun d => d.read0 r a 8) s := rfl
        _ = _ := by rw [onDev_next, hread 8 hw8]; rfl
    · calc exec (.rcReadLow r .bar0 a) s = onDev (fun d => d.read0 r a 4) s := rfl
        _ = _ := by rw [onDev_next, hread 4 hw4]; rfl
    · calc exec (.rcReadHigh r .bar0 a) s = onDev (fun d => d.read0 r (a + 4) 4) s := rfl
        _ = _ := by rw [onDev_next, hhigh]; rfl
  case wrongRead =>
    calc exec (.rcRead64 (.pf n) .bar0 ⟨a, w⟩) s = onDev (fun d => d.read0 (.pf n) a w) s := rfl
      _ = _ := by rw [onDev_next, read0_of_wrongWidth _ n (wrongWidth_of h)]; rfl
  case wrongWrite =>
    calc exec (.registerWrite (.pf n) .bar0 a w v) s = .next (s.write0 (.pf n) a w v) := rfl
      _ = _ := by rw [write0_of_wrongWidth s n v (wrongWidth_of h)]
  case load =>
    have himg : a < bar0Image := by unfold bar0Image; omega
    have harea : ∃ r, benArea false a n = some r ∧ r.cached = true :=
      hone.elim (fun h => ⟨_, benArea_solver_load hlo h, rfl⟩) (fun h => ⟨_, benArea_customer false hpos h hhi, rfl⟩)
    obtain ⟨r, hr, hcached⟩ := harea
    calc exec (.rcRead64 .bench .dev ⟨a, n⟩) s = onDev (fun d => d.benLoad a n) s := rfl
      _ = _ := by rw [onDev_next, benLoad_of_area himg hr (by simp [Dev.benMay, hhbm, hcached])]; rfl
  case octets =>
    have himg : a < bar0Image := by unfold bar0Image; omega
    calc exec (.registerWrite .bench .dev a n v) s = .next (s.benStore a n v) := rfl
      _ = _ := by
        rw [benStore_of_area v himg (benArea_customer true hpos hlo hhi) (by simp [Dev.benMay, hhbm]) rfl, if_neg (by omega)]
  case whole =>
    have himg : a < bar0Image := by unfold bar0Image; omega
    calc exec (.registerWrite .bench .dev a n v) s = .next (s.benStore a n v) := rfl
      _ = _ := by
        rw [benStore_of_area v himg (benArea_customer true hpos hlo hhi) (by simp [Dev.benMay, hhbm]) rfl, if_pos ⟨hn8, ha8⟩]
  case solver =>
    have himg : a < bar0Image := by unfold bar0Image; omega
    calc exec (.registerWrite .bench .dev a n v) s = .next (s.benStore a n v) := rfl
      _ = _ := by rw [benStore_of_none v himg (benArea_solver_store hpos hlo hhi), Dev.benchRefuse]
  case mainLoad =>
    have himg : a < bar0Image := by unfold bar0Image; omega
    calc exec (.rcRead64 .bench .dev ⟨a, n⟩) s = onDev (fun d => d.benLoad a n) s := rfl
      _ = _ := by rw [onDev_next, benLoad_of_none himg (benArea_main false hn8 hlo), Dev.benchRefuse]
  case mainStore =>
    have himg : a < bar0Image := by unfold bar0Image; omega
    calc exec (.registerWrite .bench .dev a n v) s = .next (s.benStore a n v) := rfl
      _ = _ := by rw [benStore_of_none v himg (benArea_main true hn8 hlo), Dev.benchRefuse]

end Sys2Proof.Machine
end

section
/-! Failed accesses, the unlock, register writes through the hub, and snapshot groups (R17, R22–R28). -/

namespace Sys2Proof.Machine

/-! ### What a failed access leaves -/

section
variable (d : Dev) (r : Req) (b4 wr : Bool) (off kind isl : Nat)

/-- The record of a failed access stands in `GLB_ACC_ERR`, unless one stands there already. -/
theorem rd_accFail_err : (d.accFail r b4 wr off kind isl).rd Reg.glbAccErr
    = if d.gb Reg.glbAccErr 63 then d.rd Reg.glbAccErr else BitVec.ofNat 64 (accRecord r b4 wr off kind isl + 2 ^ 63) := by
  unfold Dev.accFail
  extract_lets rec_ d1
  rw [rd_raise, rd_inc_ne _ (by decide), apply_ite (fun x : Dev => x.rd Reg.glbAccErr), rd_wr_self]

theorem rd_accFail_cnt : (d.accFail r b4 wr off kind isl).rd Reg.glbAccErrCnt = BitVec.ofNat 64 ((d.rd Reg.glbAccErrCnt).toNat + 1) := by
  unfold Dev.accFail
  extract_lets rec_ d1
  rw [rd_raise, rd_inc_self, apply_ite (fun x : Dev => x.rd Reg.glbAccErrCnt), rd_wr_ne _ _ (by decide), ite_self]

theorem accFail_wire : (d.accFail r b4 wr off kind isl).flt.wire
    = d.flt.wire ++ [⟨d.tim.up, srcCode 0 isl, 0x10, accRecord r b4 wr off kind isl % 2 ^ 37 % 2 ^ 40, false⟩] := by
  unfold Dev.accFail
  extract_lets rec_ d1
  have hflt : d1.flt = d.flt := by simp only [d1]; split <;> simp
  have htim : d1.tim = d.tim := by simp only [d1]; split <;> simp
  rw [raise_wire, inc_flt, inc_tim, hflt, htim]

theorem accFail_mem : (d.accFail r b4 wr off kind isl).mem = d.mem := by
  unfold Dev.accFail
  split <;> simp

theorem sameEngines_accFail : d.sameEngines (d.accFail r b4 wr off kind isl) := by
  unfold Dev.accFail
  split <;> simp [Dev.sameEngines]

variable {a : Nat}

theorem rd_accFail_ne (h : a ≠ Reg.glbAccErr) (h' : a ≠ Reg.glbAccErrCnt) : (d.accFail r b4 wr off kind isl).rd a = d.rd a := by
  unfold Dev.accFail
  extract_lets rec_ d1
  rw [rd_raise, rd_inc_ne _ h', apply_ite (fun x : Dev => x.rd a), rd_wr_ne _ _ h, ite_self]

end

/-- A crossing of BAR0 to an island that serves its units, unanswered in its time (R17). -/
theorem bridgeTimeout_of_ok {d : Dev} (r : Req) (write : Bool) {a isl : Nat} (hi : isl = d.islandOf (a / 8 * 8)) (hok : d.islandOk isl = true)
    (hrun : d.halted = false) {e : Dev}
    (he : e = (d.waitUp (d.tim.up + (if isl = 47 then 200 else 2) * usU)).accFail r false write a 1 isl) :
    bridgeTimeout r .bar0 write a d = if write then e else e.answer (ones 8) := by
  subst he hi
  simp only [bridgeTimeout, hok, hrun, Bool.true_eq_false, Bool.false_eq_true, or_self, if_false]

/-- Settles O10: by the laws of a failed access and the timeout of a crossing. -/
theorem failedAccesses : Obligations.FailedAccesses := by
  refine ⟨fun d r b4 wr off kind isl => ⟨fun hv => ?held, fun hv => ?first, rd_accFail_cnt .., accFail_wire .., fun a h h' => rd_accFail_ne d r b4 wr off kind isl h h',
    sameMem_of_eq (accFail_mem ..), sameEngines_accFail ..⟩, fun s r write a hok hrun => ⟨_, rfl, ?timeout⟩⟩
  case held => rw [rd_accFail_err, if_pos hv]
  case first => rw [rd_accFail_err, if_neg (by simp [hv])]
  case timeout =>
    calc exec (.bridgeTimeout r .bar0 write a) s = onDev (bridgeTimeout r .bar0 write a) s := rfl
      _ = _ := by rw [onDev_next, bridgeTimeout_of_ok r write rfl hok hrun rfl]; rfl

/-! ### Writes of BAR0 -/

section
variable {s : State} {r : Req} {a : Nat} (v : Word) (ha8 : a % 8 = 0) (hlt : a < 0x8000000) (hmsix : a < 0x3000000 ∨ 0x3010000 ≤ a)
  (hmb : mailboxAt a = none) (hu : s.dev.unreachable a = false)
include ha8 hlt hmsix hmb hu

/-- A whole word of BAR0 outside the MSI-X tables and the mailboxes is not written without the unlock. -/
theorem write0_locked (hw : s.dev.mayWrite r a = false) : s.write0 r a 8 v = { s with dev := s.dev.lockRefuse a (s.dev.islandOf a) } := by
  obtain ⟨e, -, -⟩ := word_of_high ha8
  have hno : ¬ (0x3000000 ≤ a ∧ a < 0x3010000) := by omega
  simp only [State.write0, not_beyondBar0 r hlt, (wrongWidth_aligned ha8).1, e, hu, hno, hmb, hw, if_true, if_false, Bool.false_eq_true]

/-- With the unlock it is written by the rule of its block, where it is no register of an admin queue either. -/
theorem write0_open (had : adminAt a = none) (hw : s.dev.mayWrite r a = true) : s.write0 r a 8 v = s.wrAny a v := by
  obtain ⟨e, -, -⟩ := word_of_high ha8
  have hno : ¬ (0x3000000 ≤ a ∧ a < 0x3010000) := by omega
  simp only [State.write0, not_beyondBar0 r hlt, (wrongWidth_aligned ha8).1, e, hu, hno, hmb, had, hw, Dev.merged, if_true, if_false,
    Bool.false_eq_true, Bool.true_eq_false]

end

/-- The registers of the clock generator, the reset and the calibration block lie apart from every register with a rule of its own. -/
theorem plain_address {a k : Nat} (hb : blockOf a = some k) (h1 : 19 ≤ k) (h2 : k ≤ 21) :
    a < 0x8000000 ∧ 0x3010000 ≤ a ∧ mailboxAt a = none ∧ adminAt a = none ∧ a ≠ Reg.fltQStat ∧ a ≠ Reg.jigInj := by
  obtain ⟨hlo, hhi⟩ := blockOf_plain hb h1 h2
  refine ⟨by omega, by omega, ?_, ?_, ?_, ?_⟩
  · rw [mailboxAt, if_neg (by omega), if_neg (by unfold Reg.mbxCfg; omega)]
  · rw [adminAt, if_neg (by unfold Reg.hqAqSqBase; omega), if_neg (by unfold Reg.benAqSqBase Reg.benAqDb; omega)]
  · unfold Reg.fltQStat
    omega
  · unfold Reg.jigInj
    omega

/-- A write of a register of those blocks goes by its field table alone. -/
theorem wrAny_of_plain {s : State} {a k : Nat} (v : Word) (hb : blockOf a = some k) (h1 : 19 ≤ k) (h2 : k ≤ 21) :
    s.wrAny a v = { s with dev := s.dev.wrReg a v } := by
  obtain ⟨-, -, -, -, hq, hj⟩ := plain_address hb h1 h2
  have hdev : s.dev.wrAny a v = s.dev.wrReg a v := by
    have hk : k = 19 ∨ k = 20 ∨ k = 21 := by omega
    rcases hk with rfl | rfl | rfl <;> simp [Dev.wrAny, hb]
  rw [State.wrAny, if_neg hq, if_neg hj, hdev]

theorem wrReg_of_inRange {d : Dev} {a : Nat} {v : Word} {g : RegDesc} {ix : List Nat} (hr : regAt a = some (g, ix)) (hv : fldsOk g.flds v = true) :
    d.wrReg a v = d.wr a (writeFlds g.flds v (d.rd a)) := by
  simp only [Dev.wrReg, hr, hv, if_true]

/-! ### Words of BAR4 -/

section
variable {d : Dev} {r : Req} {o isl k : Nat} (v : Word) (ho : o % 8 = 0) (hat : d.bar4At o = some (isl, k)) (hok : d.islandOk isl = true)
  (hrun : d.halted = false)
include ho hat hok hrun

/-- Without the unlock a word of BAR4 reads 0. -/
theorem read4_locked (hun : d.unlockedBy k r = false) : d.read4 r o 8 = d.answer 0 := by
  simp [Dev.read4, hat, ho, hok, hrun, hun]

/-- Without the unlock a write of a word of BAR4 is refused. -/
theorem write4_locked (hun : d.unlockedBy k r = false) : d.write4 r o 8 v = d.lockRefuse o isl := by
  simp [Dev.write4, hat, ho, Dev.gate4, hok, hrun, hun]

/-- With the unlock a write of a word of BAR4 takes effect. -/
theorem write4_open (hun : d.unlockedBy k r = true) : d.write4 r o 8 v = d.bar4Wr o v := by
  simp [Dev.write4, hat, ho, Dev.gate4, hok, hrun, hun]

end

theorem scanRoll_mem_regs (d : Dev) : d.scanRoll.mem = d.mem ∧ d.scanRoll.regs = d.regs := by
  unfold Dev.scanRoll
  split
  · exact ⟨rfl, rfl⟩
  · exact ⟨rfl, rfl⟩

/-- A write of a forwarding table stores its word; the sweeper's and the scan's positions may catch up first. -/
theorem fwdWrite_eq_stW (d : Dev) (o : Nat) (v : Word) : ∃ x : Dev, x.mem = d.mem ∧ x.regs = d.regs ∧ (0x4000000 ≤ o → o < 0x20000000 → x = d)
    ∧ d.fwdWrite o v = x.stW (bar4Addr o) v := by
  refine ⟨_, ?_, ?_, ?_, rfl⟩
  · split_ifs
    · exact (scanRoll_mem_regs d).1
    · rfl
    · rfl
  · split_ifs
    · exact (scanRoll_mem_regs d).2
    · rfl
    · rfl
  · intro hlo hhi
    rw [if_neg (by omega), if_neg (by omega)]

/-- What is stored from a state with the same memory changes the eight octets of its word alone. -/
theorem sameMemBut_stW {d x : Dev} (h : x.mem = d.mem) (a : Nat) (v : Word) : d.sameMemBut (x.stW a v) a 8 := fun c hc =>
  (stW_frame x a v c hc).trans (by simp [Dev.ldB, h])

/-- Settles O11: by the unlock, and where it permits the write by the block that holds the address. -/
theorem registerWritesAndTheUnlock : Obligations.RegisterWritesAndTheUnlock := by
  refine ⟨⟨fun s r a v ha8 hlt hmsix hmb hu hw => ?locked, fun s r o isl k v ho hat hok hrun hun => ⟨?read, ?write⟩⟩,
    fun s r a k v g ix ha8 hb h1 h2 hr hv ht => ?plain, fun s r a v ha8 hlt hmsix hmb had ht => ?block,
    fun s r o isl k v ho hlo hat hok hrun hun => ?table⟩
  case locked =>
    calc exec (.registerWrite r .bar0 a 8 v) s = .next (s.write0 r a 8 v) := rfl
      _ = _ := by rw [write0_locked v ha8 hlt hmsix hmb hu hw, Dev.lockRefuse]
  case read =>
    calc exec (.rcRead64 r .bar4 ⟨o, 8⟩) s = onDev (fun d => d.read4 r o 8) s := rfl
      _ = _ := by rw [onDev_next, read4_locked ho hat hok hrun hun, Dev.answer]
  case write =>
    calc exec (.registerWrite r .bar4 o 8 v) s = .next { s with dev := s.dev.write4 r o 8 v } := rfl
      _ = _ := by rw [write4_locked v ho hat hok hrun hun, Dev.lockRefuse]
  case plain =>
    obtain ⟨hlt, hlo, hmb, had, -, -⟩ := plain_address hb h1 h2
    calc exec (.registerWrite r .bar0 a 8 v) s = .next (s.write0 r a 8 v) := rfl
      _ = .next (s.wrAny a v) := by rw [write0_open v ha8 hlt (.inr hlo) hmb ht.1 had ht.2]
      _ = _ := by rw [wrAny_of_plain v hb h1 h2, wrReg_of_inRange hr hv]
  case block =>
    calc exec (.registerWrite r .bar0 a 8 v) s = .next (s.write0 r a 8 v) := rfl
      _ = _ := by rw [write0_open v ha8 hlt hmsix hmb ht.1 had ht.2]
  case table =>
    obtain ⟨x, hmem, hregs, hsame, hx⟩ := fwdWrite_eq_stW s.dev o v
    refine ⟨x, hmem, hregs, hsame, ?_, sameMemBut_stW hmem _ v⟩
    have hwr : s.dev.bar4Wr o v = s.dev.fwdWrite o v := by
      rw [Dev.bar4Wr, if_neg (by omega), if_neg (by omega)]
    calc exec (.registerWrite r .bar4 o 8 v) s = .next { s with dev := s.dev.write4 r o 8 v } := rfl
      _ = _ := by rw [write4_open v ho hat hok hrun hun, hwr, hx]

/-! ### Snapshot groups -/

/-- Settles O12: by whether a GO is taken or comes while one is pending, and by whether the capture's island still serves. -/
theorem snapshotGroupsCapture : Obligations.SnapshotGroupsCapture := by
  have hexec : ∀ (s : State) (r : Req) (v : Word), s.takes r Reg.glbSnapCtl →
      exec (.snapshotGo r v) s = .next { s with dev := s.dev.wrSnapCtl (setB v 63 true) } := fun s r v ht => onDev_gate_of_takes _ ht
  have hgo : ∀ v : Word, getB (setB v 63 true) 63 = true := fun v => by rw [getB_setB _ _ _ (by decide), if_pos rfl]
  refine ⟨fun s r v isl ht hidle hisl hok => ?taken, fun s r v ht hbusy => ?ignored, fun s g i isl hs hisl hok => ?captured,
    fun s g i isl hs hisl hok => ?failed⟩
  case taken => simp [hexec s r v ht, Dev.wrSnapCtl, hgo v, hidle, hisl, hok]
  case ignored => simp [hexec s r v ht, Dev.wrSnapCtl, hgo v, hbusy]
  case captured =>
    calc exec .snapshotCapture s = onDev snapshotCapture s := rfl
      _ = _ := by simp [onDev_next, snapshotCapture, hs, hisl, hok]
  case failed =>
    calc exec .snapshotCapture s = onDev snapshotCapture s := rfl
      _ = _ := by simp [onDev_next, snapshotCapture, hs, hisl, hok]

end Sys2Proof.Machine
end

section
/-! Frames: what reads, commands on a few registers and stores of one word leave as it was (chapters 0, 1, 14 and 15). -/

namespace Sys2Proof.Machine

/-! ### A device kept but for listed registers -/

/-- Registers but those listed, memory and the engines are as they were. -/
def Dev.KeepsBut (l : List Nat) (d e : Dev) : Prop := d.sameRegsBut l e ∧ d.sameMem e ∧ d.sameEngines e

namespace Dev.KeepsBut

variable {l : List Nat} {d e f : Dev}

theorem refl (l : List Nat) (d : Dev) : d.KeepsBut l d := ⟨fun _ _ => rfl, sameMem_refl d, by simp [Dev.sameEngines]⟩

theorem mono {l' : List Nat} (h : d.KeepsBut l e) (hl : l ⊆ l') : d.KeepsBut l' e :=
  ⟨fun a ha => h.1 a (fun hm => ha (hl hm)), h.2⟩

/-- A change of the device that leaves every register, memory and the engines as they are. -/
theorem of_same (h : d.KeepsBut l e) (hr : ∀ a, f.rd a = e.rd a) (hm : f.mem = e.mem) (he : e.sameEngines f) : d.KeepsBut l f := by
  obtain ⟨hregs, hmem, heng⟩ := h
  refine ⟨fun a ha => (hr a).trans (hregs a ha), fun a => (sameMem_of_eq hm a).trans (hmem a), ?_⟩
  unfold Dev.sameEngines at *
  grind

theorem wr (h : d.KeepsBut l e) {a : Nat} (ha : a ∈ l) (v : Word) : d.KeepsBut l (e.wr a v) := by
  obtain ⟨hregs, hmem, heng⟩ := h
  refine ⟨fun b hb => ?_, hmem, heng⟩
  rw [rd_wr_ne e v (ne_of_mem_of_not_mem ha hb).symm, hregs b hb]

theorem sf (h : d.KeepsBut l e) {a : Nat} (ha : a ∈ l) (lo w v : Nat) : d.KeepsBut l (e.sf a lo w v) := h.wr ha _

theorem sb (h : d.KeepsBut l e) {a : Nat} (ha : a ∈ l) (i : Nat) (b : Bool) : d.KeepsBut l (e.sb a i b) := h.wr ha _

theorem inc (h : d.KeepsBut l e) {a : Nat} (ha : a ∈ l) : d.KeepsBut l (e.inc a) := h.wr ha _

theorem raise (h : d.KeepsBut l e) (k u kind addr : Nat) : d.KeepsBut l (e.raise k u kind addr) := h

theorem answer (h : d.KeepsBut l e) (v : Word) : d.KeepsBut l (e.answer v) := h

theorem tim (h : d.KeepsBut l e) (t : Tim) : d.KeepsBut l { e with tim := t } := ⟨h.1, h.2.1, h.2.2⟩

theorem holdWords (h : d.KeepsBut l e) (m : Sparse Word) : d.KeepsBut l { e with hold := m } := ⟨h.1, h.2.1, h.2.2⟩

theorem clocks (h : d.KeepsBut l e) (ht : Reg.timStat ∈ l) (n : Nat) : d.KeepsBut l (e.clocks n) := by
  obtain ⟨t, hc | hc⟩ := clocks_cases e n <;> rw [hc]
  · exact h.tim t
  · exact (h.tim t).sb ht 6 false

theorem waitUp (h : d.KeepsBut l e) (ht : Reg.timStat ∈ l) (t : Nat) : d.KeepsBut l (e.waitUp t) := by
  unfold Dev.waitUp
  split
  · exact h
  · exact h.clocks ht _

theorem waitLocal (h : d.KeepsBut l e) (ht : Reg.timStat ∈ l) (x : Nat) : d.KeepsBut l (e.waitLocal x) := by
  unfold Dev.waitLocal
  split
  · exact h
  · exact h.clocks ht _

theorem accFail (h : d.KeepsBut l e) (ha : Reg.glbAccErr ∈ l) (hc : Reg.glbAccErrCnt ∈ l) (r : Req) (b4 wr : Bool) (off kind isl : Nat) :
    d.KeepsBut l (e.accFail r b4 wr off kind isl) := by
  unfold Dev.accFail
  extract_lets rec_ d1
  have h1 : d.KeepsBut l d1 := by
    simp only [d1]
    split
    · exact h
    · exact h.wr ha _
  exact (h1.inc hc).raise ..

theorem lockRefuse (h : d.KeepsBut l e) (hc : Reg.glbLockWrCnt ∈ l) (off isl : Nat) : d.KeepsBut l (e.lockRefuse off isl) := (h.inc hc).raise ..

/-- A gated register write keeps what its effect and a refusal keep. -/
theorem gate {r : Req} {a : Nat} {g : Dev → Dev} (h : d.KeepsBut l (g d)) (ha : Reg.glbAccErr ∈ l) (hc : Reg.glbAccErrCnt ∈ l)
    (hl : Reg.glbLockWrCnt ∈ l) : d.KeepsBut l (d.gate r a g) := by
  rcases gate_cases d r a g with ⟨-, e⟩ | ⟨-, -, e⟩ | ⟨-, -, e⟩ <;> rw [e]
  · exact (refl l d).accFail ha hc ..
  · exact (refl l d).lockRefuse hl ..
  · exact h

end Dev.KeepsBut

open Dev (KeepsBut)

/-! ### Reads -/

theorem keepsBut_benchRefuse (d : Dev) {l : List Nat} (h : Reg.benAccFaultCnt ∈ l) : d.KeepsBut l d.benchRefuse := (KeepsBut.refl l d).inc h

/-- A read of BAR0 changes the word it reads, where that is a counter, and the records of a failed access alone; a read of the table-command
registers lets a table command that is due end first. -/
theorem read0_keepsBut (d : Dev) (r : Req) (a n : Nat) :
    ∃ e : Dev, (e = d ∨ (Reg.fwdTblStat = a / 8 * 8 ∨ Reg.fwdTblData = a / 8 * 8) ∧ e = d.tblSync)
      ∧ e.KeepsBut [a / 8 * 8, Reg.glbAccErr, Reg.glbAccErrCnt, Reg.benAccFaultCnt] (d.read0 r a n) := by
  fun_cases Dev.read0 d r a n
  case case1 => exact ⟨d, .inl rfl, keepsBut_benchRefuse d (by simp)⟩
  case case2 =>
    refine ⟨d, .inl rfl, ?_⟩
    unfold Dev.badRead Dev.badWidth
    refine (KeepsBut.accFail ?_ (by simp) (by simp) ..).answer _
    split
    · exact keepsBut_benchRefuse d (by simp)
    · exact .refl _ d
  case case3 => exact ⟨d, .inl rfl, ((KeepsBut.refl _ d).accFail (by simp) (by simp) ..).answer _⟩
  case case4 => exact ⟨d, .inl rfl, (((KeepsBut.refl _ d).holdWords _).answer _).wr (List.mem_cons_self ..) 0⟩
  case case5 => exact ⟨d, .inl rfl, (((KeepsBut.refl _ d).holdWords _).answer _).wr (List.mem_cons_self ..) 0⟩
  case case6 => exact ⟨d, .inl rfl, (KeepsBut.refl _ d).answer _⟩
  case case7 w _ _ _ _ e =>
    refine ⟨e, ?_, (KeepsBut.refl _ e).answer _⟩
    by_cases hw : w = Reg.fwdTblStat ∨ w = Reg.fwdTblData
    · exact .inr ⟨hw.imp Eq.symm Eq.symm, if_pos hw⟩
    · exact .inl (if_neg hw)

/-- A read of BAR0 of `n` octets at `a`, as a command. -/
theorem read_frame {s t : State} {r : Req} {a n w : Nat} (hw : w = a / 8 * 8) (h : onDev (fun d => d.read0 r a n) s = .next t) :
    ∃ d : Dev, (d = s.dev ∨ (Reg.fwdTblStat ∈ [w] ∨ Reg.fwdTblData ∈ [w]) ∧ d = s.dev.tblSync)
      ∧ d.sameRegsBut ([w] ++ [Reg.glbAccErr, Reg.glbAccErrCnt, Reg.benAccFaultCnt]) t.dev ∧ d.sameMem t.dev
      ∧ d.sameEngines t.dev ∧ t.fq = s.fq ∧ t.pending = s.pending := by
  subst hw
  cases h
  obtain ⟨e, he, hregs, hmem, heng⟩ := read0_keepsBut s.dev r a n
  exact ⟨e, by simpa using he, hregs, hmem, heng, rfl, rfl⟩

/-! ### Commands on a few registers -/

section
variable {d : Dev} {l : List Nat}

theorem keepsBut_wrSmonClr (h : Reg.smonStat ∈ l) (v : Word) : d.KeepsBut l (d.wrSmonClr v) := by
  unfold Dev.wrSmonClr
  split_ifs
  · exact .refl l d
  · exact (KeepsBut.refl l d).sf h ..
  · exact ((KeepsBut.refl l d).sf h ..).sf h ..

theorem keepsBut_keepSupplyWarning (h : Reg.smonStat ∈ l) (h9 : Reg.smonRail 9 ∈ l) (b : Bool) : d.KeepsBut l (keepSupplyWarning b d) := by
  have h1 : d.KeepsBut l ((d.sb Reg.smonStat 1 b).sb (Reg.smonRail 9) 48 b) := ((KeepsBut.refl l d).sb h ..).sb h9 ..
  unfold keepSupplyWarning
  split
  · exact h1
  · exact h1.sb h9 ..

/-- A write of `TIM_ADJ` by its field table alone: in range it is stored, out of range `TIM_STAT` shows it ignored. -/
theorem keepsBut_wrReg_timAdj (ha : Reg.timAdj ∈ l) (hs : Reg.timStat ∈ l) (v : Word) : d.KeepsBut l (d.wrReg Reg.timAdj v) := by
  unfold Dev.wrReg
  split
  · exact .refl l d
  · split
    · exact (KeepsBut.refl l d).wr ha _
    · exact (KeepsBut.refl l d).sb hs 5 true

/-- A write of `TIM_ADJ` with GO and SLEW = 1 starts a slew. -/
theorem keepsBut_slew (ha : Reg.timAdj ∈ l) (hs : Reg.timStat ∈ l) {v : Word} (hslew : getB v 48 = true) : d.KeepsBut l (d.wrTimAdj v) := by
  have h1 := keepsBut_wrReg_timAdj (d := d) ha hs v
  unfold Dev.wrTimAdj
  extract_lets d1 ofs
  rw [if_pos hslew]
  split
  · exact (h1.tim _).sb hs 6 _
  · exact h1

theorem keepsBut_attemptsClear {i : Nat} (hi : Reg.fltIslStat i ∈ l) (hs : Reg.timStat ∈ l) : d.KeepsBut l (attemptsClear i d) := by
  unfold attemptsClear
  split
  · split
    · exact ((KeepsBut.refl l d).waitUp hs _).sf hi ..
    · exact .refl l d
  · exact .refl l d

theorem keepsBut_benchTimerInterrupt (h : Nat) (hs : Reg.timStat ∈ l) : d.KeepsBut l (benchTimerInterrupt h d) := by
  unfold benchTimerInterrupt
  split
  · exact .refl l d
  · exact (KeepsBut.refl l d).waitLocal hs _

theorem keepsBut_ptmTimeout (hc : Reg.timPtmToCnt ∈ l) (hp : Reg.timPtmCtl ∈ l) (hs : Reg.timStat ∈ l) : d.KeepsBut l (ptmTimeout d) := by
  unfold ptmTimeout
  split
  · exact .refl l d
  · extract_lets d0 src d1
    have h0 : d.KeepsBut l d0 := (KeepsBut.refl l d).waitUp hs _
    clear_value d0
    have h1 : d.KeepsBut l d1 := (h0.tim _).inc hc
    clear_value d1
    split
    · exact h1.sb hp ..
    · exact h1

end

/-! ### Power requests -/

section
variable {d : Dev} {l : List Nat}

/-- Every register but those listed and memory are as before. -/
def Dev.KeepsRegs (l : List Nat) (d e : Dev) : Prop := d.sameRegsBut l e ∧ d.sameMem e

theorem Dev.KeepsRegs.pwr {e : Dev} (h : d.KeepsRegs l e) (p : Pwr) : d.KeepsRegs l { e with pwr := p } := ⟨h.1, h.2⟩

theorem keepsRegs_of {e : Dev} (h : d.KeepsBut l e) : d.KeepsRegs l e := ⟨h.1, h.2.1⟩

/-- A request starts the sequencer or is refused; the registers of the sequencer alone show it. -/
theorem keepsRegs_wrPwrCtl (hc : Reg.pwrCtl ∈ l) (hs : Reg.pwrStat ∈ l) (v : Word) : d.KeepsRegs l (d.wrPwrCtl v) := by
  have href : ∀ {e : Dev} (c : Nat), d.KeepsBut l e → d.KeepsRegs l (e.pwrRef c) := fun c h => keepsRegs_of ((h.sb hs ..).sf hs ..)
  have h1 : d.KeepsBut l (d.sf Reg.pwrCtl 0 2 (getF v 0 2)) := (KeepsBut.refl l d).sf hc ..
  unfold Dev.wrPwrCtl
  split
  · exact href 5 (.refl l d)
  · extract_lets d1
    split
    · unfold Dev.pwrRequest
      split
      · split_ifs
        · exact keepsRegs_of (h1.sb hs ..)
        · exact keepsRegs_of (h1.sb hs ..)
        · exact (keepsRegs_of ((h1.sb hs ..).sb hs ..)).pwr _
      · exact href _ h1
    · exact keepsRegs_of h1

/-- A power request as a gated register write. -/
theorem keepsRegs_gate_wrPwrCtl (r : Req) (v : Word) :
    d.KeepsRegs [Reg.pwrCtl, Reg.pwrStat, Reg.glbAccErr, Reg.glbAccErrCnt, Reg.glbLockWrCnt] (d.gate r Reg.pwrCtl (fun x => x.wrPwrCtl v)) := by
  rcases gate_cases d r Reg.pwrCtl (fun x => x.wrPwrCtl v) with ⟨-, e⟩ | ⟨-, -, e⟩ | ⟨-, -, e⟩ <;> rw [e]
  · exact keepsRegs_of ((KeepsBut.refl _ d).accFail (by simp) (by simp) ..)
  · exact keepsRegs_of ((KeepsBut.refl _ d).lockRefuse (by simp) ..)
  · exact keepsRegs_wrPwrCtl (by simp) (by simp) v

end

/-! ### A POP of the fault queue -/

theorem keepsBut_fqSync (s : State) : s.dev.KeepsBut [Reg.fltQHead, Reg.fltQTime, Reg.fltQStat] s.fqSync.dev :=
  (((KeepsBut.refl _ s.dev).wr (by simp) _).wr (by simp) _).sf (by simp) ..

/-- A POP shows the next entry in the registers of the queue. -/
theorem keepsBut_faultPop (s : State) (r : Req) (v : Word) :
    s.dev.KeepsBut [Reg.fltQHead, Reg.fltQTime, Reg.fltQStat, Reg.glbAccErr, Reg.glbAccErrCnt, Reg.glbLockWrCnt]
      (s.gate r Reg.fltQStat (fun x => x.wrQStat v)).dev := by
  unfold State.gate State.wrQStat
  split_ifs
  · exact (KeepsBut.refl _ s.dev).accFail (by simp) (by simp) ..
  · exact (keepsBut_fqSync { s with fq := s.fq.drop 1 }).mono (by simp)
  · exact .refl _ _
  · exact (KeepsBut.refl _ s.dev).lockRefuse (by simp) ..

/-- What a command that acts on the device alone, with a frame, leaves as it was. -/
theorem onDev_frame {s t : State} {f : Dev → Dev} {l : List Nat} (h : s.dev.KeepsBut l (f s.dev)) (ht : onDev f s = .next t) :
    s.dev.sameRegsBut l t.dev ∧ s.dev.sameMem t.dev ∧ s.dev.sameEngines t.dev ∧ t.fq = s.fq ∧ t.pending = s.pending := by
  cases ht
  exact ⟨h.1, h.2.1, h.2.2, rfl, rfl⟩

theorem powerRequest_frame {s t : State} {r : Req} (v : Word)
    (ht : onDev (fun d => d.gate r Reg.pwrCtl (fun x => x.wrPwrCtl v)) s = .next t) :
    s.dev.sameRegsBut [Reg.pwrCtl, Reg.pwrStat, Reg.glbAccErr, Reg.glbAccErrCnt, Reg.glbLockWrCnt] t.dev ∧ s.dev.sameMem t.dev
      ∧ t.fq = s.fq ∧ t.pending = s.pending := by
  cases ht
  obtain ⟨hregs, hmem⟩ := keepsRegs_gate_wrPwrCtl (d := s.dev) r v
  exact ⟨hregs, hmem, rfl, rfl⟩

/-- Settles O7: command by command, by the frame of its effect. -/
theorem frameOfReadsAndRegisterCommands : Obligations.FrameOfReadsAndRegisterCommands := by
  refine ⟨fun s t r a c l hm ht => ?reads, fun s t r v b i h c l hm ht => ?few, fun s t r v c hm ht => ?power, fun s t r v ht => ?pop⟩
  case reads =>
    simp only [List.mem_cons, List.not_mem_nil, or_false, Prod.mk.injEq] at hm
    obtain ⟨rfl, rfl⟩ | ⟨rfl, rfl⟩ | ⟨rfl, rfl⟩ := hm
    · exact read_frame rfl ht
    · exact read_frame rfl ht
    · exact read_frame rfl ht
  case few =>
    simp only [List.mem_cons, List.not_mem_nil, or_false, Prod.mk.injEq] at hm
    obtain ⟨rfl, rfl⟩ | ⟨rfl, rfl⟩ | ⟨rfl, rfl⟩ | ⟨rfl, rfl⟩ | ⟨rfl, rfl⟩ | ⟨rfl, rfl⟩ := hm
    · exact onDev_frame (f := fun d => d.gate r Reg.smonClr (fun x => x.wrSmonClr (setB v 63 true)))
        (KeepsBut.gate (keepsBut_wrSmonClr (by simp) _) (by simp) (by simp) (by simp)) ht
    · exact onDev_frame (keepsBut_keepSupplyWarning (by simp) (by simp) b) ht
    · exact onDev_frame (f := fun d => d.gate r Reg.timAdj (fun x => x.wrTimAdj (setB (setB v 63 true) 48 true)))
        (KeepsBut.gate (keepsBut_slew (by simp) (by simp) (by simp [getB_setB])) (by simp) (by simp) (by simp)) ht
    · exact onDev_frame (keepsBut_attemptsClear (by simp) (by simp)) ht
    · exact onDev_frame (keepsBut_benchTimerInterrupt h.val (by simp)) ht
    · exact onDev_frame (keepsBut_ptmTimeout (by simp) (by simp) (by simp)) ht
  case power =>
    simp only [List.mem_cons, List.not_mem_nil, or_false] at hm
    obtain rfl | rfl | rfl := hm
    · exact powerRequest_frame (pwrWord 0) ht
    · exact powerRequest_frame (pwrWord 1) ht
    · exact powerRequest_frame (pwrWord 2) ht
  case pop =>
    have he : s.gate r Reg.fltQStat (fun x => x.wrQStat (setB v 63 true)) = t := Host.Outcome.next.inj ht
    subst he
    obtain ⟨hregs, hmem, heng⟩ := keepsBut_faultPop s r (setB v 63 true)
    have hq : s.KeepsQueues (s.gate r Reg.fltQStat (fun x => x.wrQStat (setB v 63 true))) :=
      keepsQueues_gate r Reg.fltQStat (keepsQueues_wrQStat s _)
    exact ⟨hregs, hmem, heng, hq.1⟩

/-! ### Commands that store one word -/

/-- Every octet outside the eight from `x`, registers but those listed, and the engines are as they were. -/
def Dev.KeepsButWord (x : Nat) (l : List Nat) (d e : Dev) : Prop := d.sameMemBut e x 8 ∧ d.sameRegsBut l e ∧ d.sameEngines e

theorem Dev.KeepsBut.butWord {d e : Dev} {l : List Nat} (h : d.KeepsBut l e) (x : Nat) : d.KeepsButWord x l e :=
  ⟨fun a _ => h.2.1 a, h.1, h.2.2⟩

theorem keepsButWord_stW (d : Dev) (x : Nat) (l : List Nat) (v : Word) : d.KeepsButWord x l (d.stW x v) :=
  ⟨stW_frame d x v, fun _ _ => rfl, by simp [Dev.sameEngines]⟩

/-- The device `e` with the positions of the sweeper and of the scan taken from `d`. -/
def Dev.unrolled (d e : Dev) : Dev :=
  { e with fwd := { e.fwd with scan := d.fwd.scan, scanAt := d.fwd.scanAt, sweep := d.fwd.sweep, sweepAt := d.fwd.sweepAt } }

theorem unrolled_of_fwd_eq {d e : Dev} (h : e.fwd = d.fwd) : d.unrolled e = e := by
  have hfwd : { e.fwd with scan := d.fwd.scan, scanAt := d.fwd.scanAt, sweep := d.fwd.sweep, sweepAt := d.fwd.sweepAt } = e.fwd := by rw [h]
  rw [Dev.unrolled, hfwd]

section
variable {d : Dev} {l : List Nat}

/-- A word of a mailbox's request area is stored, or its drop is shown and counted. -/
theorem keepsButWord_mbxGate (r : Req) (m k : Nat) (v : Word) (a : Nat) (ha : Reg.glbAccErr ∈ l) (hc : Reg.glbAccErrCnt ∈ l)
    (hs : Reg.mbxStat m ∈ l) (ho : Reg.mbxOwnErrCnt ∈ l) :
    d.KeepsButWord (mbxBuf m + 8 * k) l (d.mbxGate r m a (fun x => x.wrMbxReq m k v)) := by
  unfold Dev.mbxGate
  split
  · exact ((KeepsBut.refl l d).accFail ha hc ..).butWord _
  split
  · dsimp only [Dev.wrMbxReq]
    split
    · exact ((KeepsBut.refl l d).sb hs ..).butWord _
    · exact keepsButWord_stW ..
  · exact ((KeepsBut.refl l d).inc ho).butWord _

/-- A calendar entry is stored, or its write is refused with what shows and counts that. -/
theorem keepsButWord_writeEntry (b sl i : Nat) (v : Word) (h1 : Reg.calStat ∈ l) (h2 : Reg.calWrRefCnt ∈ l) (h3 : Reg.solStat ∈ l)
    (h4 : Reg.solForeignCnt ∈ l) : d.KeepsButWord (entryAddr b sl i) l (d.writeEntry b sl i v) := by
  unfold Dev.writeEntry Dev.solForeign
  split_ifs
  · exact (((KeepsBut.refl l d).sb h3 ..).inc h4).butWord _
  · exact ⟨stW_frame d _ v, fun _ _ => rfl, by simp [Dev.sameEngines]⟩
  · exact (((KeepsBut.refl l d).sb h1 ..).inc h2).butWord _

/-- A gated access of a table keeps what its effect keeps: an access that fails or is refused stores nothing. -/
theorem keepsButWord_gate4 {x : Nat} (r : Req) (off isl k : Nat) {f : Dev → Dev} (h : d.KeepsButWord x l (f d)) (ha : Reg.glbAccErr ∈ l)
    (hc : Reg.glbAccErrCnt ∈ l) (hl : Reg.glbLockWrCnt ∈ l) : d.KeepsButWord x l (d.gate4 r off isl k f) := by
  unfold Dev.gate4
  split_ifs
  · exact ((KeepsBut.refl l d).accFail ha hc ..).butWord _
  · exact h
  · exact ((KeepsBut.refl l d).lockRefuse hl ..).butWord _

end

/-- What the frame of a store leaves as it was, once its command went on. -/
theorem onDev_butWord {s t : State} {f : Dev → Dev} {x : Nat} {l : List Nat} (h : s.dev.KeepsButWord x l (f s.dev))
    (ht : onDev f s = .next t) :
    s.dev.sameMemBut t.dev x 8 ∧ s.dev.sameRegsBut l t.dev ∧ s.dev.sameEngines { t.dev with fwd := t.dev.fwd } ∧ t.fq = s.fq
      ∧ t.pending = s.pending := by
  cases ht
  obtain ⟨hmem, hregs, heng⟩ := h
  exact ⟨hmem, hregs, heng, rfl, rfl⟩

/-! ### The positions of the sweeper and the scan -/

theorem unrolled_moved (d : Dev) (a b : Nat) (l m : Sparse Nat) :
    d.unrolled { d with fwd := { d.fwd with scan := a, scanAt := b, sweep := l, sweepAt := m } } = d := rfl

theorem unrolled_scanRoll (d : Dev) : d.unrolled d.scanRoll = d := by
  unfold Dev.scanRoll
  split
  · exact unrolled_of_fwd_eq rfl
  · exact unrolled_moved d _ _ d.fwd.sweep d.fwd.sweepAt

theorem unrolled_sweepRoll (d : Dev) (s : Nat) : d.unrolled (d.sweepRoll s) = d := unrolled_moved d d.fwd.scan d.fwd.scanAt _ _

/-- A write of a word of the forwarding tables stores it from a state that differs by the positions of the sweeper and the scan alone. -/
theorem fwdWrite_unrolled (d : Dev) (o : Nat) (v : Word) : ∃ x : Dev, d.fwdWrite o v = x.stW (bar4Addr o) v ∧ d.unrolled x = d := by
  refine ⟨_, rfl, ?_⟩
  split_ifs
  · exact unrolled_scanRoll d
  · exact unrolled_sweepRoll d _
  · exact unrolled_of_fwd_eq rfl

/-- A write of the trie stores its word and moves nothing. -/
theorem fwdWrite_of_trie (d : Dev) (w : TrieWord) (v : Word) : d.fwdWrite (trieOff w) v = d.stW (bar4Addr (trieOff w)) v := by
  have hrange : 0x4000000 ≤ trieOff w ∧ trieOff w < 0x20000000 := by
    cases w with
    | root v6 i => simp only [trieOff]; split <;> omega
    | nextHop n k => simp only [trieOff]; omega
    | tail t e k => simp only [trieOff]; omega
    | node n i => simp only [trieOff]; omega
  obtain ⟨hlo, hhi⟩ := hrange
  rw [Dev.fwdWrite, if_neg (by omega), if_neg (by omega)]

/-- The frame of a write of a word of the forwarding tables. -/
theorem fwdWrite_frame (d : Dev) (o : Nat) (v : Word) (l : List Nat) : d.sameMemBut (d.fwdWrite o v) (bar4Addr o) 8
    ∧ d.sameRegsBut l (d.fwdWrite o v) ∧ d.sameEngines (d.unrolled (d.fwdWrite o v)) := by
  obtain ⟨x, hx, hd⟩ := fwdWrite_unrolled d o v
  have hmem : (d.unrolled x).mem = d.mem := congrArg Dev.mem hd
  have hregs : (d.unrolled x).regs = d.regs := congrArg Dev.regs hd
  have heng : d.sameEngines (d.unrolled x) := by rw [hd]; simp [Dev.sameEngines]
  rw [hx]
  have hrd : ∀ a, x.rd a = d.rd a := fun a => congrArg (fun m => Sparse.getD m a (resetOf a)) hregs
  exact ⟨sameMemBut_stW hmem _ v, fun a _ => hrd a, heng⟩

/-- The frame of a gated write of a word of the forwarding tables: an access that fails or is refused stores nothing and moves nothing. -/
theorem gate4_fwdWrite_frame {d : Dev} (r : Req) (o isl : Nat) (v : Word) {l : List Nat} (ha : Reg.glbAccErr ∈ l) (hc : Reg.glbAccErrCnt ∈ l)
    (hl : Reg.glbLockWrCnt ∈ l) {e : Dev} (he : d.gate4 r o isl 10 (fun x => x.fwdWrite o v) = e) :
    d.sameMemBut e (bar4Addr o) 8 ∧ d.sameRegsBut l e ∧ d.sameEngines (d.unrolled e) := by
  have hkept : ∀ {e}, d.KeepsBut l e → d.sameMemBut e (bar4Addr o) 8 ∧ d.sameRegsBut l e ∧ d.sameEngines (d.unrolled e) := fun {e} h => by
    obtain ⟨hregs, hmem, heng⟩ := h
    obtain ⟨-, -, -, -, -, -, -, hfwd, -⟩ := id heng
    exact ⟨fun a _ => hmem a, hregs, by rwa [unrolled_of_fwd_eq hfwd]⟩
  subst he
  unfold Dev.gate4
  split_ifs
  · exact hkept ((KeepsBut.refl l d).accFail ha hc ..)
  · exact fwdWrite_frame d o v l
  · exact hkept ((KeepsBut.refl l d).lockRefuse hl ..)

/-- Settles O8: command by command, by the frame of its store; a forwarding table's word first lets the sweeper or the scan catch up. -/
theorem frameOfStoresToMemory : Obligations.FrameOfStoresToMemory := by
  intro s t r m w b sl i fw tw v c x l moves hm ht
  simp only [List.mem_cons, List.not_mem_nil, or_false, Prod.mk.injEq] at hm
  obtain ⟨rfl, rfl, rfl, rfl⟩ | ⟨rfl, rfl, rfl, rfl⟩ | ⟨rfl, rfl, rfl, rfl⟩ | ⟨rfl, rfl, rfl, rfl⟩ := hm
  · exact onDev_butWord (f := fun d => d.mbxGate r m.val (0x4000000 + m.val * 0x1000 + 8 * w.toNat) (fun x => x.wrMbxReq m.val w.toNat v))
      (keepsButWord_mbxGate r m.val w.toNat v (0x4000000 + m.val * 0x1000 + 8 * w.toNat) (by simp) (by simp) (by simp) (by simp)) ht
  · have hwr := keepsButWord_writeEntry (d := s.dev)
      (l := [Reg.calStat, Reg.calWrRefCnt, Reg.solStat, Reg.solForeignCnt] ++ [Reg.glbAccErr, Reg.glbAccErrCnt, Reg.glbLockWrCnt])
      b.val sl.val i.toNat v (by simp) (by simp) (by simp) (by simp)
    exact onDev_butWord (f := fun d => d.gate4 r (entryOffset b.val sl.val i.toNat) (calIsland sl.val) 2
      (fun x => x.writeEntry b.val sl.val i.toNat v)) (keepsButWord_gate4 r _ _ 2 hwr (by simp) (by simp) (by simp)) ht
  · have ht' : onDev (fun d => d.gate4 r (fwdOff fw) (d.fwdWordIsl fw) 10 (fun x => x.fwdWrite (fwdOff fw) v)) s = .next t := ht
    rw [onDev_next] at ht'
    obtain rfl := Host.Outcome.next.inj ht'
    obtain ⟨hmem, hregs, heng⟩ := gate4_fwdWrite_frame (d := s.dev) r (fwdOff fw) (s.dev.fwdWordIsl fw) v
      (l := [] ++ [Reg.glbAccErr, Reg.glbAccErrCnt, Reg.glbLockWrCnt]) (by simp) (by simp) (by simp) rfl
    exact ⟨hmem, hregs, heng, rfl, rfl⟩
  · have hwr := keepsButWord_stW s.dev (bar4Addr (trieOff tw)) ([] ++ [Reg.glbAccErr, Reg.glbAccErrCnt, Reg.glbLockWrCnt]) v
    rw [← fwdWrite_of_trie] at hwr
    exact onDev_butWord (f := fun d => d.gate4 r (trieOff tw) 2 10 (fun x => x.fwdWrite (trieOff tw) v))
      (keepsButWord_gate4 r _ 2 10 hwr (by simp) (by simp) (by simp)) ht

end Sys2Proof.Machine
end

section
/-! The time base, chapter 2: the servo's samples and states, steps and slews, PTM, the time pins and scheduled snapshots (R37–R41, R51–R62). -/

namespace Sys2Proof.Machine

/-! ### Bits and fields of a written word -/

/-- The bit that a command's meaning sets or clears in the word written reads so; every other bit and field is the word's own. -/
theorem getB_setB_self (v : Word) {i : Nat} (b : Bool) (h : i < 64) : getB (setB v i b) i = b := by rw [getB_setB v b i h, if_pos rfl]

theorem getB_setB_ne (v : Word) {i j : Nat} (b : Bool) (h : i < 64) (hj : j ≠ i) : getB (setB v i b) j = getB v j := by
  rw [getB_setB v b j h, if_neg hj]

theorem getF_setB_ne (v : Word) {i lo w : Nat} (b : Bool) (h : i < 64) (hd : lo + w ≤ i ∨ i < lo) : getF (setB v i b) lo w = getF v lo w :=
  getF_setF_ne v _ (by omega) (by omega)

/-! ### Samples -/

/-- An accepted sample before the state machine judges it (R37). -/
def Dev.sampleNoted (d : Dev) (x : Int) : Dev :=
  { ((d.sf Reg.timServoOfs 0 48 (ofSigned 48 x)).sf Reg.timServoOfs 48 16 (d.gf Reg.timServoOfs 48 16 + 1)) with
    tim := { d.tim with lastAcc := some d.tim.up, srcSince := d.tim.up } }

section
variable (d : Dev) (x : Int)

theorem gf_tim (t : Tim) (a lo w : Nat) : ({ d with tim := t } : Dev).gf a lo w = d.gf a lo w := rfl

theorem acceptSample_eq : d.acceptSample x = (d.sampleNoted x).servoSample x := by
  simp only [Dev.acceptSample, Dev.sampleNoted, sf_tim]

theorem gf_sampleNoted (a lo w : Nat) : (d.sampleNoted x).gf a lo w
    = ((d.sf Reg.timServoOfs 0 48 (ofSigned 48 x)).sf Reg.timServoOfs 48 16 (d.gf Reg.timServoOfs 48 16 + 1)).gf a lo w :=
  gf_tim _ _ a lo w

theorem sampleNoted_theta : (d.sampleNoted x).gf Reg.timServoOfs 0 48 = ofSigned 48 x % 2 ^ 48 := by
  rw [gf_sampleNoted, gf_sf_field _ _ _ (by decide) (by decide), gf_sf_self _ _ _ (by decide)]

theorem sampleNoted_seq : (d.sampleNoted x).gf Reg.timServoOfs 48 16 = (d.gf Reg.timServoOfs 48 16 + 1) % 2 ^ 16 := by
  rw [gf_sampleNoted, gf_sf_self _ _ _ (by decide)]

theorem keepsBut_sampleNoted : d.KeepsBut [Reg.timServoOfs] (d.sampleNoted x) :=
  (((Dev.KeepsBut.refl _ d).sf (by simp) ..).sf (by simp) ..).tim _

/-- A division uses at most a free value. -/
theorem freeDiv_dev (a b : Int) : (d.freeDiv a b).2 = d ∨ (d.freeDiv a b).2 = d.useFree := by
  unfold Dev.freeDiv
  split
  · exact .inl rfl
  · exact .inr rfl

end

theorem Dev.KeepsBut.useFree {l : List Nat} {d e : Dev} (h : d.KeepsBut l e) : d.KeepsBut l e.useFree := ⟨h.1, h.2.1, h.2.2⟩

theorem Dev.KeepsBut.freeDiv {l : List Nat} {d e : Dev} (h : d.KeepsBut l e) (a b : Int) : d.KeepsBut l (e.freeDiv a b).2 := by
  rcases freeDiv_dev e a b with he | he <;> rw [he]
  · exact h
  · exact h.useFree

/-- An applied sample that is not the first updates RATE and INTEG, and nothing else of the registers, memory and the engines (R37). -/
theorem applySample_rates {d : Dev} (x : Int) {q1 q2 : Int × Dev} (hfirst : d.tim.first = false)
    (h1 : q1 = d.freeDiv (x * 2 ^ (80 - d.gf Reg.timServoCfg 5 5)) ((d.tim.up - d.tim.lastApp : Nat) : Int))
    (h2 : q2 = q1.2.freeDiv (x * 2 ^ (80 - d.gf Reg.timServoCfg 0 5)) ((d.tim.up - d.tim.lastApp : Nat) : Int)) :
    (d.applySample x).gf Reg.timRate 0 40 = ofSigned 40 (clampI (-rateLim) rateLim (d.tim.integ - q1.1 - q2.1)) % 2 ^ 40
    ∧ (d.applySample x).gf Reg.timServoInteg 0 40 = ofSigned 40 (clampI (-rateLim) rateLim (d.tim.integ - q1.1)) % 2 ^ 40
    ∧ d.KeepsBut [Reg.timRate, Reg.timServoInteg] (d.applySample x) := by
  have happ : d.applySample x = d.rateUpdate x := if_neg (by simp [hfirst])
  have hk : d.KeepsBut [Reg.timRate, Reg.timServoInteg] q2.2 := by
    subst h2 h1
    exact ((Dev.KeepsBut.refl _ d).freeDiv ..).freeDiv ..
  obtain ⟨d1, hd1, hrd⟩ : ∃ d1, d1 = (q2.2.sf Reg.timRate 0 40 (ofSigned 40 (clampI (-rateLim) rateLim (d.tim.integ - q1.1 - q2.1)))).sf
      Reg.timServoInteg 0 40 (ofSigned 40 (clampI (-rateLim) rateLim (d.tim.integ - q1.1)))
      ∧ ∃ t, d.rateUpdate x = { d1 with tim := t } := by
    subst h2 h1
    exact ⟨_, rfl, _, rfl⟩
  obtain ⟨t, ht⟩ := hrd
  rw [happ, ht]
  refine ⟨?_, ?_, ?_⟩
  · rw [Dev.gf, rd_tim, ← Dev.gf, hd1, gf_sf_ne _ _ _ _ _ _ (by decide), gf_sf_self _ _ _ (by decide)]
  · rw [Dev.gf, rd_tim, ← Dev.gf, hd1, gf_sf_self _ _ _ (by decide)]
  · rw [hd1]
    exact ((hk.sf (by simp) ..).sf (by simp) ..).tim t

/-! ### States of the servo -/

section
variable {d : Dev}

theorem wrTimCtl_free {v : Word} (h : getF v 0 3 = 0) : d.wrTimCtl v = (d.sf Reg.timCtl 0 3 0).setTimState 0 := by
  simp [Dev.wrTimCtl, h]

theorem wrTimCtl_source {v : Word} (h0 : getF v 0 3 ≠ 0) (h4 : getF v 0 3 ≤ 4) (hne : getF v 0 3 ≠ d.gf Reg.timCtl 0 3) :
    d.wrTimCtl v = (d.sf Reg.timCtl 0 3 (getF v 0 3)).enterAcquire := by
  simp only [Dev.wrTimCtl, Nat.not_lt.mpr h4, h0, if_false, ne_eq, hne, not_false_eq_true, if_true]

theorem wrTimCtl_outOfRange {v : Word} (h : 4 < getF v 0 3) : d.wrTimCtl v = d.sb Reg.timStat 5 true := by
  have hout : d.outOfRange Reg.timCtl = d.sb Reg.timStat 5 true := rfl
  rw [Dev.wrTimCtl, if_pos h, hout]

/-- The source's timeout in acquire: the servo is free. -/
theorem sourceTimeout_acquire (h : d.timState = 1) {e : Dev} (he : e = d.waitUp (d.tim.srcSince + d.gf Reg.timServoCfg 32 16 * 100 * usU)) :
    sourceTimeout d = ((e.sb Reg.timStat 4 true).raise 1 0 0x10 (e.gf Reg.timCtl 0 3)).setTimState 0 := by
  simp only [sourceTimeout, h, true_or, if_true, ← he]

/-- The source's timeout in locked: the servo holds over at the integral's rate. -/
theorem sourceTimeout_locked (h : d.timState = 2) {e f : Dev} (he : e = d.waitUp (d.tim.srcSince + d.gf Reg.timServoCfg 32 16 * 100 * usU))
    (hf : f = ((((e.sb Reg.timStat 4 true).raise 1 0 0x10 (e.gf Reg.timCtl 0 3)).sf Reg.timRate 0 40
      (((e.sb Reg.timStat 4 true).raise 1 0 0x10 (e.gf Reg.timCtl 0 3)).gf Reg.timServoInteg 0 40)).inc Reg.timHoldCnt)) :
    sourceTimeout d = ({ f with tim := { f.tim with holdSince := f.tim.up, badRun := 0 } } : Dev).setTimState 3 := by
  rw [hf]
  simp only [sourceTimeout, h, or_true, if_true, ← he, OfNat.ofNat_ne_one, if_false]

theorem holdoverExpiry_of_due (h : d.timState = 3) (hmax : d.gf Reg.timHoldCfg 0 32 ≠ 0) (hnot : d.gb Reg.timStat 2 = false) :
    holdoverExpiry d = (((d.waitUp (d.tim.holdSince + d.gf Reg.timHoldCfg 0 32 * secU)).sb Reg.timStat 2 true).raise 1 0 0x11 0).squelch :=
  if_pos ⟨h, hmax, hnot⟩

end

/-- Settles O14: by the sample's record, the rate's update, and the transition each write and timer makes. -/
theorem servoSamplesAndStates : Obligations.ServoSamplesAndStates := by
  refine ⟨⟨fun d x => ⟨d.sampleNoted x, rfl, acceptSample_eq d x, sampleNoted_theta d x, sampleNoted_seq d x, ?noted⟩,
    fun d x q1 q2 hfirst h1 h2 => ?rates⟩, fun s r v ht h0 => ?free, fun s r v ht h0 h4 hne => ?acquire, fun s r v ht h4 => ?out,
    fun s e h he => ?fromAcquire, fun s e f h he hf => ?fromLocked, fun s h hmax hnot => ?expiry⟩
  case noted =>
    obtain ⟨hregs, hmem, heng⟩ := keepsBut_sampleNoted d x
    exact ⟨fun a ha => hregs a (by simpa using ha), hmem, heng⟩
  case rates =>
    obtain ⟨hrate, hinteg, hregs, hmem, heng⟩ := applySample_rates x hfirst h1 h2
    exact ⟨hrate, hinteg, fun a ha hb => hregs a (by simp [ha, hb]), hmem, heng⟩
  case free =>
    rw [← wrTimCtl_free h0]
    exact onDev_gate_of_takes (fun d => d.wrTimCtl v) ht
  case acquire =>
    rw [← wrTimCtl_source h0 h4 hne]
    exact onDev_gate_of_takes (fun d => d.wrTimCtl v) ht
  case out =>
    rw [← wrTimCtl_outOfRange h4]
    exact onDev_gate_of_takes (fun d => d.wrTimCtl v) ht
  case fromAcquire =>
    rw [← sourceTimeout_acquire h he]
    exact onDev_next sourceTimeout s
  case fromLocked =>
    rw [← sourceTimeout_locked h he hf]
    exact onDev_next sourceTimeout s
  case expiry =>
    rw [← holdoverExpiry_of_due h hmax hnot]
    exact onDev_next holdoverExpiry s

/-! ### Steps -/

/-- R39: no step is permitted exactly where a port transmits its schedule or an attachment is in coldstart, integrate, active or passive. -/
theorem stepsPermitted_eq_false (d : Dev) : d.stepsPermitted = false ↔
    (d.gb Reg.calStat 0 = true ∧ ∃ p < 36, d.gb (Reg.calPortCfg p) 0 = true)
    ∨ ∃ a < 2, 2 ≤ d.gf (Reg.rngStat a) 0 3 ∧ d.gf (Reg.rngStat a) 0 3 ≠ 6 := by
  simp only [Dev.stepsPermitted, Bool.and_eq_false_iff, Bool.or_eq_false_iff, Bool.not_eq_false', List.all_eq_false, List.mem_range,
    Bool.or_eq_true, Bool.not_eq_true', decide_eq_true_eq, beq_iff_eq, not_or, not_lt, Bool.not_eq_false, ne_eq]

section
variable {d : Dev} {v : Word}

/-- A step asked for: a GO with MODE = 0 (R39). -/
theorem wrTimAdj_step {e : Dev} (he : e = d.wrReg Reg.timAdj (setB (setB v 63 true) 48 false)) :
    d.wrTimAdj (setB (setB v 63 true) 48 false)
      = if e.stepsPermitted then e.stepAccepted.stepBy (toSigned 48 (getF v 0 48) * 2 ^ 32) else e.stepRefused := by
  have hgo : getB (setB (setB v 63 true) 48 false) 63 = true := by
    rw [getB_setB_ne _ _ (by decide) (by decide), getB_setB_self _ _ (by decide)]
  have hmode : getB (setB (setB v 63 true) 48 false) 48 = false := getB_setB_self _ _ (by decide)
  have hofs : getF (setB (setB v 63 true) 48 false) 0 48 = getF v 0 48 := by
    rw [getF_setB_ne _ _ (by decide) (by decide), getF_setB_ne _ _ (by decide) (by decide)]
  simp only [Dev.wrTimAdj, hgo, hmode, hofs, if_true, Bool.false_eq_true, if_false, ← he]

/-- A slew asked for: a GO with MODE = 1 (R38). -/
theorem wrTimAdj_slew : d.wrTimAdj (setB (setB v 63 true) 48 true)
    = (d.wrReg Reg.timAdj (setB (setB v 63 true) 48 true)).slewBy (toSigned 48 (getF v 0 48) * 2 ^ 32) := by
  have hgo : getB (setB (setB v 63 true) 48 true) 63 = true := by
    rw [getB_setB_ne _ _ (by decide) (by decide), getB_setB_self _ _ (by decide)]
  have hmode : getB (setB (setB v 63 true) 48 true) 48 = true := getB_setB_self _ _ (by decide)
  have hofs : getF (setB (setB v 63 true) 48 true) 0 48 = getF v 0 48 := by
    rw [getF_setB_ne _ _ (by decide) (by decide), getF_setB_ne _ _ (by decide) (by decide)]
  simp only [Dev.wrTimAdj, hgo, hmode, hofs, if_true]

/-- A SET asked for (R39). -/
theorem wrTimSetNs_go (hr : inRangeAt Reg.timSetNs (setB v 63 true) = true) {e : Dev} (he : e = d.wrReg Reg.timSetNs (setB v 63 true)) :
    d.wrTimSetNs (setB v 63 true) = if e.stepsPermitted
      then e.stepAccepted.setLocal (e.gf Reg.timSetSec 0 48 * secU + getF v 16 32 * nsU + getF v 0 16 * 2 ^ 32) else e.stepRefused := by
  have hgo : getB (setB v 63 true) 63 = true := getB_setB_self _ _ (by decide)
  have hns : getF (setB v 63 true) 16 32 = getF v 16 32 := getF_setB_ne _ _ (by decide) (by decide)
  have hfrac : getF (setB v 63 true) 0 16 = getF v 0 16 := getF_setB_ne _ _ (by decide) (by decide)
  simp only [Dev.wrTimSetNs, hr, hgo, hns, hfrac, if_true, ← he]

/-- Where no step is permitted the servo's correction is a slew, and local time does not jump. -/
theorem correctPhase_of_notPermitted {x : Int} (hp : d.stepsPermitted = false) (hs : d.tim.steppedAt ≠ some d.tim.up) :
    (d.correctPhase x).tim.slew = -x * 2 ^ 32 ∧ (d.correctPhase x).now = d.now := by
  unfold Dev.correctPhase Dev.now Tim.now
  simp [hs, hp, Dev.slewBy]

end

theorem exec_timeStep_of_takes {s : State} {r : Req} (v : Word) (h : s.takes r Reg.timAdj) :
    exec (.timeStep r v) s = .next { s with dev := s.dev.wrTimAdj (setB (setB v 63 true) 48 false) } :=
  onDev_gate_of_takes (fun d => d.wrTimAdj (setB (setB v 63 true) 48 false)) h

theorem exec_timeSetLoad_of_takes {s : State} {r : Req} (v : Word) (h : s.takes r Reg.timSetNs) :
    exec (.timeSetLoad r v) s = .next { s with dev := s.dev.wrTimSetNs (setB v 63 true) } :=
  onDev_gate_of_takes (fun d => d.wrTimSetNs (setB v 63 true)) h

/-- Settles O15: by the rule of R39, for a step and a SET of software and for a correction of the servo. -/
theorem stepsNotPermitted : Obligations.StepsNotPermitted := by
  refine ⟨stepsPermitted_eq_false, fun s r v ht hp => ?step, fun s r v ht hr hp => ?set, fun d x hp hs => correctPhase_of_notPermitted hp hs⟩
  case step => rw [exec_timeStep_of_takes v ht, wrTimAdj_step rfl, if_neg (by simp [hp]), Dev.stepRefused]
  case set => rw [exec_timeSetLoad_of_takes v ht, wrTimSetNs_go hr rfl, if_neg (by simp [hp]), Dev.stepRefused]

/-! ### The end of a slew -/

/-- In the clocks that `slewClocks` counts the slew moves by its whole remainder. -/
theorem slewMove_slewClocks {d : Dev} {n : Nat} (hs : d.tim.slew ≠ 0) (hn : d.slewClocks = some n) : d.slewMove n = d.tim.slew := by
  unfold Dev.slewClocks at hn
  rw [if_neg hs] at hn
  split_ifs at hn with hr
  obtain rfl := Option.some.inj hn
  have hpos : 0 < d.slewRate.natAbs := Int.natAbs_pos.mpr hr
  have hcover : d.tim.slew.natAbs ≤ (d.tim.slew.natAbs + d.slewRate.natAbs - 1) / d.slewRate.natAbs * d.slewRate.natAbs := by
    have hdiv := Nat.div_add_mod (d.tim.slew.natAbs + d.slewRate.natAbs - 1) d.slewRate.natAbs
    have hmod := Nat.mod_lt (d.tim.slew.natAbs + d.slewRate.natAbs - 1) hpos
    rw [Nat.mul_comm] at hdiv
    omega
  rw [Dev.slewMove, if_pos hcover]

/-- The slew in progress ends with those clocks, and the bit that shows it clears. -/
theorem clocks_ends_slew {d : Dev} {n : Nat} (hs : d.tim.slew ≠ 0) (hn : d.slewClocks = some n) :
    (d.clocks n).tim.slew = 0 ∧ (d.clocks n).gb Reg.timStat 6 = false := by
  have hmove := slewMove_slewClocks hs hn
  unfold Dev.clocks
  extract_lets base mv adv src t d1
  have hslew : t.slew = 0 := by simp [t, mv, hmove]
  rw [if_pos ⟨hs, hslew⟩]
  exact ⟨by rw [sb_tim]; exact hslew, gb_sb_self _ _ _ (by decide)⟩

/-! ### PTM -/

section
variable {d : Dev}

theorem ptmIssue_of_ready (h : d.ptmReady = true) (hs : d.tim.ptmSent = none) :
    d.ptmIssue = { d with tim := { d.tim with ptmSent := some d.tim.up, ptmT1 := stampOf d.now }, out := .pcie 0 [] :: d.out } :=
  if_pos ⟨h, hs⟩

theorem ptmIssue_of_not (h : d.ptmReady = false ∨ d.tim.ptmSent ≠ none) : d.ptmIssue = d :=
  if_neg (by rintro ⟨hr, hs⟩; rcases h with h | h <;> simp_all)

/-- A request by software; AUTO is not newly set, so the period does not start. -/
theorem wrPtmCtl_request {v : Word} (hr : inRangeAt Reg.timPtmCtl (setB v 2 true) = true) (ha : getB v 1 = false ∨ d.gb Reg.timPtmCtl 1 = true) :
    d.wrPtmCtl (setB v 2 true) = (d.wrReg Reg.timPtmCtl (setB v 2 true)).ptmIssue := by
  have hreq : getB (setB v 2 true) 2 = true := getB_setB_self _ _ (by decide)
  have hauto : getB (setB v 2 true) 1 = getB v 1 := getB_setB_ne _ _ (by decide) (by decide)
  have hnot : ¬ (getB v 1 = true ∧ d.gb Reg.timPtmCtl 1 = false) := by
    rintro ⟨h1, h2⟩; rcases ha with h | h <;> simp_all
  simp only [Dev.wrPtmCtl, hr, hreq, hauto, hnot, if_true, if_false]

theorem ptmPeriodTimer_of_auto (h : d.gb Reg.timPtmCtl 1 = true) {e : Dev} (he : e = d.waitUp (d.tim.ptmLast + d.gf Reg.timPtmCtl 16 10 * msU)) :
    ptmPeriodTimer d = ({ e with tim := { e.tim with ptmLast := e.tim.up } } : Dev).ptmIssue := by
  simp only [ptmPeriodTimer, h, if_true, ← he]

/-- The exchange completed: t1, Tm and d stand in their registers, and nothing is outstanding (R53). -/
def Dev.ptmTaken (d : Dev) (tm : Word) (dl : BitVec 32) : Dev :=
  ({ ((((d.wr Reg.timPtmLocal (compact d.tim.ptmT1)).wr Reg.timPtmMaster tm).sf Reg.timPtmDelay 0 32 dl.toNat).sf Reg.timPtmDelay 48 16
      (d.gf Reg.timPtmDelay 48 16 + 1)) with tim := { d.tim with ptmSent := none, ptmMiss := 0 } } : Dev).sb Reg.timPtmCtl 63 true

theorem ptmTaken_reads (tm : Word) (dl : BitVec 32) :
    (d.ptmTaken tm dl).rd Reg.timPtmLocal = compact d.tim.ptmT1 ∧ (d.ptmTaken tm dl).rd Reg.timPtmMaster = tm
    ∧ (d.ptmTaken tm dl).gf Reg.timPtmDelay 0 32 = dl.toNat
    ∧ (d.ptmTaken tm dl).gf Reg.timPtmDelay 48 16 = (d.gf Reg.timPtmDelay 48 16 + 1) % 2 ^ 16
    ∧ (d.ptmTaken tm dl).gb Reg.timPtmCtl 63 = true ∧ (d.ptmTaken tm dl).tim.ptmSent = none ∧ (d.ptmTaken tm dl).tim.ptmMiss = 0 := by
  unfold Dev.ptmTaken
  refine ⟨?_, ?_, ?_, ?_, gb_sb_self _ _ _ (by decide), ?_, ?_⟩
  · rw [rd_sb_ne _ _ _ (by decide), rd_tim, rd_sf_ne _ _ _ _ (by decide), rd_sf_ne _ _ _ _ (by decide), rd_wr_ne _ _ (by decide), rd_wr_self]
  · rw [rd_sb_ne _ _ _ (by decide), rd_tim, rd_sf_ne _ _ _ _ (by decide), rd_sf_ne _ _ _ _ (by decide), rd_wr_self]
  · rw [gf_sb_ne _ _ _ _ _ (by decide), gf_tim, gf_sf_field _ _ _ (by decide) (by decide), gf_sf_self _ _ _ (by decide),
      Nat.mod_eq_of_lt dl.isLt]
  · rw [gf_sb_ne _ _ _ _ _ (by decide), gf_tim, gf_sf_self _ _ _ (by decide)]
  · rw [sb_tim]
  · rw [sb_tim]

/-- With another source selected than PTM the response leaves the servo alone; the conversion to a sample uses at most a free value. -/
theorem ptmResponse_of_otherSource {t : Nat} (tm : Word) (dl : BitVec 32) (hs : d.tim.ptmSent = some t) (hsrc : d.gf Reg.timCtl 0 3 ≠ 4) :
    ptmResponse tm dl d = d.ptmTaken tm dl ∨ ptmResponse tm dl d = (d.ptmTaken tm dl).useFree := by
  have hctl : (d.ptmTaken tm dl).gf Reg.timCtl 0 3 = d.gf Reg.timCtl 0 3 := by
    unfold Dev.ptmTaken
    rw [gf_sb_ne _ _ _ _ _ (by decide), gf_tim, gf_sf_ne _ _ _ _ _ _ (by decide), gf_sf_ne _ _ _ _ _ _ (by decide), Dev.gf,
      rd_wr_ne _ _ (by decide), rd_wr_ne _ _ (by decide), ← Dev.gf]
  have heq : ptmResponse tm dl d
      = ((d.ptmTaken tm dl).theta48 ((d.tim.ptmT1 / 2 ^ 32 : Nat) + ((dl.toNat : Int) - tm.toNat) * 65536)).2.sourceSample 4
        ((d.ptmTaken tm dl).theta48 ((d.tim.ptmT1 / 2 ^ 32 : Nat) + ((dl.toNat : Int) - tm.toNat) * 65536)).1 := by
    simp only [ptmResponse, hs, Dev.ptmTaken, sf_tim, wr_tim]
  rw [heq]
  unfold Dev.theta48
  split
  · exact .inl (sourceSample_unselected _ (by rw [hctl]; exact hsrc))
  · exact .inr (sourceSample_unselected _ (by rw [Dev.gf, rd_useFree, ← Dev.gf, hctl]; exact hsrc))

theorem ptmTimeout_of_sent {t : Nat} (hs : d.tim.ptmSent = some t) {e : Dev} (he : e = d.waitUp (t + msU)) :
    ptmTimeout d = if 3 ≤ d.tim.ptmMiss + 1 then
        (({ e with tim := { e.tim with ptmSent := none, ptmMiss := e.tim.ptmMiss + 1 } } : Dev).inc Reg.timPtmToCnt).sb Reg.timPtmCtl 63 false
      else ({ e with tim := { e.tim with ptmSent := none, ptmMiss := e.tim.ptmMiss + 1 } } : Dev).inc Reg.timPtmToCnt := by
  subst he
  simp only [ptmTimeout, hs]

end

/-- Settles O16: each write, timer and response of the time base and of PTM by its equation. -/
theorem timeBaseAndPtm : Obligations.TimeBaseAndPtm := by
  refine ⟨⟨fun s r v d ht hd hp => ?step, fun s r v ht => ?slew, fun s r v d ht hr hd hp => ?set, fun s n hs hn => ⟨?complete, clocks_ends_slew hs hn⟩⟩,
    fun d => ptmIssue_of_ready, fun d => ptmIssue_of_not, fun s r v ht hr ha => ?request, fun s e h he => ?period,
    fun s tm dl t hs hsrc => ⟨ptmResponse tm dl s.dev, onDev_next (ptmResponse tm dl) s, ?response⟩, fun s t e hs he => ?timeout⟩
  case step => rw [exec_timeStep_of_takes v ht, wrTimAdj_step hd, if_pos hp]
  case slew =>
    rw [← wrTimAdj_slew]
    exact onDev_gate_of_takes (fun d => d.wrTimAdj (setB (setB v 63 true) 48 true)) ht
  case set => rw [exec_timeSetLoad_of_takes v ht, wrTimSetNs_go hr hd, if_pos hp]
  case complete =>
    have hc : slewComplete s.dev = s.dev.clocks n := by simp only [slewComplete, hn, hs, if_false]
    rw [← hc]
    exact onDev_next slewComplete s
  case request =>
    rw [← wrPtmCtl_request hr ha]
    exact onDev_gate_of_takes (fun d => d.wrPtmCtl (setB v 2 true)) ht
  case period =>
    rw [← ptmPeriodTimer_of_auto h he]
    exact onDev_next ptmPeriodTimer s
  case response =>
    obtain ⟨hl, hm, hd, hq, hv, hn, h0⟩ := ptmTaken_reads (d := s.dev) tm dl
    rcases ptmResponse_of_otherSource tm dl hs hsrc with h | h <;> rw [h]
    · exact ⟨hl, hm, hd, hq, hv, hn, h0⟩
    · simp only [Dev.gf, Dev.gb, rd_useFree, useFree_tim] at *
      exact ⟨hl, hm, hd, hq, hv, hn, h0⟩
  case timeout =>
    rw [← ptmTimeout_of_sent hs he]
    exact onDev_next ptmTimeout s

end Sys2Proof.Machine
end

section
/-! The time pins and scheduled counter snapshots, chapter 2 (R55–R60, R62, R400). -/

namespace Sys2Proof.Machine

/-! ### The PPS input -/

section
variable {d : Dev} {rising : Bool} {held : Nat} (hen : d.gb Reg.timPpsinCfg 0 = true) (hedge : rising ≠ d.gb Reg.timPpsinCfg 1)
  (hfilt : d.gf Reg.timPpsinCfg 8 8 ≤ held)
include hen hedge hfilt

/-- An edge too early after the last, or too far from the second while the servo is locked or holds over, is rejected. -/
theorem ppsInEdge_rejected (h : (∃ t, d.tim.ppsLast = some t ∧ (d.tim.up - t) * 2 < secU)
    ∨ ((d.timState = 2 ∨ d.timState = 3) ∧ d.gf Reg.timPpsinCfg 16 16 * 100 * nsU < (secondOffset (stampOf d.now)).natAbs)) :
    ppsInEdge rising held d = d.inc Reg.timPpsinRejCnt := by
  unfold ppsInEdge
  rw [if_pos ⟨hen, hedge, hfilt⟩]
  extract_lets cap early far
  have hrej : (early || far) = true := by
    rcases h with ⟨t, hl, ht⟩ | ⟨hst, hfar⟩
    · simp [early, hl, ht]
    · simp [far, cap, hst, hfar]
  rw [if_pos hrej]

/-- The first edge, near enough to the second where that counts, is captured and is a sample of source 3. -/
theorem ppsInEdge_first (hl : d.tim.ppsLast = none)
    (hnear : d.timState ≤ 1 ∨ (secondOffset (stampOf d.now)).natAbs ≤ d.gf Reg.timPpsinCfg 16 16 * 100 * nsU) :
    ppsInEdge rising held d = ({ (d.wr Reg.timPpsinCap (compact (stampOf d.now))) with
      tim := { d.tim with ppsLast := some d.tim.up } } : Dev).sourceSample 3 (secondOffset (stampOf d.now) / 2 ^ 32) := by
  have hfar : ((d.timState == 2 || d.timState == 3)
      && decide (d.gf Reg.timPpsinCfg 16 16 * 100 * nsU < (secondOffset (stampOf d.now)).natAbs)) = false := by
    rcases hnear with h | h
    · simp [show d.timState ≠ 2 by omega, show d.timState ≠ 3 by omega]
    · simp [Nat.not_lt.mpr h]
  rw [ppsInEdge, if_pos ⟨hen, hedge, hfilt⟩]
  simp only [hl, hfar, Bool.or_self, Bool.false_eq_true, if_false, wr_tim]

end

/-! ### The time outputs -/

section
variable {d e : Dev}

theorem ppsOutEdge_rise (hp : d.pinLow Reg.timPpsoutCfg = false) (ho : d.tim.ppsOut = false)
    (he : e = d.waitLocal (nextSecond d.now (toSigned 24 (d.gf Reg.timPpsoutCfg 8 24) * (nsU : Nat)))) :
    ppsOutEdge false true d = { e with tim := { e.tim with ppsOut := true, ppsAt := e.tim.up } } := by
  simp only [ppsOutEdge, hp, ho, Bool.false_eq_true, false_and, if_false, if_true, ← he]

theorem ppsOutEdge_fall (hp : d.pinLow Reg.timPpsoutCfg = false) (ho : d.tim.ppsOut = true)
    (he : e = d.waitUp (d.tim.ppsAt + d.gf Reg.timPpsoutCfg 32 20 * usU)) :
    ppsOutEdge false false d = { e with tim := { e.tim with ppsOut := false, ppsAt := e.tim.up, ppsKeep := false } } := by
  simp only [ppsOutEdge, hp, ho, Bool.false_eq_true, false_and, if_false, if_true, ← he]

theorem clkOutEdge_fall (hp : d.pinLow Reg.timClk10Cfg = false) (ho : d.tim.clk10 = true) (he : e = d.waitUp (d.tim.clk10At + 50 * nsU)) :
    ppsOutEdge true false d = { e with tim := { e.tim with clk10 := false, clk10At := e.tim.up } } := by
  simp only [ppsOutEdge, hp, ho, Bool.false_eq_true, if_false, if_true, ← he]

end

/-! ### Scheduled snapshots -/

section
variable {d : Dev} {v : Word}

/-- A write with ARM = 1 and CANCEL = 0 tries to arm. -/
theorem wrSnaptCtl_arm (h : getB v 1 = false) {e : Dev} (he : e = d.wrReg Reg.timSnaptCtl (setB v 0 true)) :
    d.wrSnaptCtl (setB v 0 true) = e.snapTryArm := by
  have harm : getB (setB v 0 true) 0 = true := getB_setB_self _ _ (by decide)
  have hcan : getB (setB v 0 true) 1 = false := by rw [getB_setB_ne _ _ (by decide) (by decide), h]
  simp only [Dev.wrSnaptCtl, harm, hcan, Bool.false_eq_true, and_false, if_false, if_true, ← he]

/-- A write with both is ignored, and shown so. -/
theorem wrSnaptCtl_both (h : getB v 1 = true) : d.wrSnaptCtl (setB v 0 true) = d.sb Reg.timStat 5 true := by
  have harm : getB (setB v 0 true) 0 = true := getB_setB_self _ _ (by decide)
  have hcan : getB (setB v 0 true) 1 = true := by rw [getB_setB_ne _ _ (by decide) (by decide), h]
  have herr : d.cfgErr Reg.timSnaptCtl = d.sb Reg.timStat 5 true := rfl
  rw [Dev.wrSnaptCtl, if_pos ⟨harm, hcan⟩, herr]

/-- A write with CANCEL = 1 and ARM = 0 cancels a snapshot that is armed. -/
theorem wrSnaptCtl_cancel (h : getB v 0 = false) {e : Dev} (he : e = d.wrReg Reg.timSnaptCtl (setB v 1 true)) (hs : e.snaptState = 1) :
    d.wrSnaptCtl (setB v 1 true) = e.sf Reg.timSnaptStat 0 2 0 := by
  have harm : getB (setB v 1 true) 0 = false := by rw [getB_setB_ne _ _ (by decide) (by decide), h]
  have hcan : getB (setB v 1 true) 1 = true := getB_setB_self _ _ (by decide)
  simp only [Dev.wrSnaptCtl, harm, hcan, Bool.false_eq_true, false_and, if_false, if_true, ← he, hs]

end

section
variable {d : Dev} {t : Nat}

theorem snapTryArm_noScope (h : d.gf Reg.timSnaptCtl 2 3 = 0) : d.snapTryArm = d.sf Reg.timSnaptStat 16 4 4 := by
  simp only [Dev.snapTryArm, h, if_true]

variable (hscope : d.gf Reg.timSnaptCtl 2 3 ≠ 0)
include hscope

theorem snapTryArm_busy (h : d.snaptState = 1 ∨ d.snaptState = 2) : d.snapTryArm = d.sf Reg.timSnaptStat 16 4 3 := by
  simp only [Dev.snapTryArm, hscope, h, if_false, if_true]

variable (h1 : d.snaptState ≠ 1) (h2 : d.snaptState ≠ 2) (ht : t = d.gf Reg.timSnaptSec 0 48 * secU + d.gf Reg.timSnaptNs 0 32 * nsU)
include h1 h2 ht

theorem snapTryArm_tooSoon (h : t < d.now + 10 * usU ∨ (d.gb Reg.timSnaptCtl 5 = true ∧ d.beforeSecond t = true)) :
    d.snapTryArm = d.sf Reg.timSnaptStat 16 4 1 := by
  simp only [Dev.snapTryArm, hscope, h1, h2, or_self, if_false, ← ht]
  rcases h with h | ⟨hr, hb⟩
  · rw [if_pos h]
  · rw [hr, hb]
    simp

variable (hnow : d.now + 10 * usU ≤ t)
include hnow

theorem snapTryArm_ring_inactive (hring : d.gb Reg.timSnaptCtl 5 = true) (hb : d.beforeSecond t = false) (ha : d.anyActive = false) :
    d.snapTryArm = d.sf Reg.timSnaptStat 16 4 2 := by
  simp only [Dev.snapTryArm, hscope, h1, h2, or_self, if_false, ← ht, Nat.not_lt.mpr hnow, hring, hb, ha, Bool.false_eq_true, and_false, and_self,
    if_true]

theorem snapTryArm_local (hring : d.gb Reg.timSnaptCtl 5 = false) :
    d.snapTryArm = d.snapArm (d.gf Reg.timSnaptCtl 8 8) (d.gf Reg.timSnaptCtl 2 3) (d.gb Reg.timSnaptCtl 6) false t := by
  simp only [Dev.snapTryArm, hscope, h1, h2, or_self, if_false, ← ht, Nat.not_lt.mpr hnow, hring, Bool.false_eq_true, false_and]

end

theorem exec_snaptArm_of_takes {s : State} {r : Req} (v : Word) (h : s.takes r Reg.timSnaptCtl) :
    exec (.snaptArm r v) s = .next { s with dev := s.dev.wrSnaptCtl (setB v 0 true) } :=
  onDev_gate_of_takes (fun d => d.wrSnaptCtl (setB v 0 true)) h

/-- Settles O17: each edge of the pins, and each step of a scheduled snapshot with the first code that applies to one refused. -/
theorem timePinsAndSnapshots : Obligations.TimePinsAndSnapshots := by
  refine ⟨⟨fun s rising held hen hedge hfilt h => ?rejected, fun s rising held hen hedge hfilt hl hnear => ?first, fun s e hp ho he => ?rise,
    fun s e hp ho he => ?fall, fun s e hp ho he => ?clkFall⟩,
    fun s r v d t ht h1 hd hT => ⟨fun h0 => ?noScope, fun h0 hb => ?busy, fun h0 hn1 hn2 h => ?tooSoon, fun h0 hn1 hn2 hnow hr hb ha => ?inactive,
      fun h0 hn1 hn2 hnow hr => ?armed⟩,
    fun s r v ht h => ?both, fun s r v d ht h0 hd hs => ?cancel, fun s hs => ?capture, fun s hs hq => ?image⟩
  case rejected =>
    rw [← ppsInEdge_rejected hen hedge hfilt h]
    exact onDev_next (ppsInEdge rising held) s
  case first =>
    rw [← ppsInEdge_first hen hedge hfilt hl hnear]
    exact onDev_next (ppsInEdge rising held) s
  case rise =>
    rw [← ppsOutEdge_rise hp ho he]
    exact onDev_next (ppsOutEdge false true) s
  case fall =>
    rw [← ppsOutEdge_fall hp ho he]
    exact onDev_next (ppsOutEdge false false) s
  case clkFall =>
    rw [← clkOutEdge_fall hp ho he]
    exact onDev_next (ppsOutEdge true false) s
  case noScope => rw [exec_snaptArm_of_takes v ht, wrSnaptCtl_arm h1 hd, snapTryArm_noScope h0]
  case busy => rw [exec_snaptArm_of_takes v ht, wrSnaptCtl_arm h1 hd, snapTryArm_busy h0 hb]
  case tooSoon => rw [exec_snaptArm_of_takes v ht, wrSnaptCtl_arm h1 hd, snapTryArm_tooSoon h0 hn1 hn2 hT h]
  case inactive => rw [exec_snaptArm_of_takes v ht, wrSnaptCtl_arm h1 hd, snapTryArm_ring_inactive h0 hn1 hn2 hT hnow hr hb ha]
  case armed => rw [exec_snaptArm_of_takes v ht, wrSnaptCtl_arm h1 hd, snapTryArm_local h0 hn1 hn2 hT hnow hr]
  case both => rw [exec_snaptArm_of_takes v ht, wrSnaptCtl_both h]
  case cancel =>
    rw [← wrSnaptCtl_cancel h0 hd hs]
    exact onDev_gate_of_takes (fun d => d.wrSnaptCtl (setB v 1 true)) ht
  case capture =>
    have h : snaptCapture s.dev = (s.dev.waitLocal s.dev.tim.snapT).snapCapture false := if_pos hs
    rw [← h]
    exact onDev_next snaptCapture s
  case image =>
    have h : snaptImageDone s.dev = ({ s.dev.writeImage with
        tim := { s.dev.writeImage.tim with snapImage := [], snapBytes := [] } } : Dev).sf Reg.timSnaptStat 0 2 3 := by
      simp only [snaptImageDone, hs, hq, if_true, Bool.false_eq_true, if_false]
    rw [← h]
    exact onDev_next snaptImageDone s

end Sys2Proof.Machine
end

section
/-! The calendar, chapter 3: bank commands, validation, cycles, activation, start and stop (R64–R82, R96, R98, Table CAL-5). -/

namespace Sys2Proof.Machine

/-! ### Bank commands -/

theorem getF_setB_above (v : Word) {i lo w : Nat} (b : Bool) (hi : i < 64) (h : lo + w ≤ i) : getF (setB v i b) lo w = getF v lo w :=
  getF_setB_ne v b hi (.inl h)

theorem getF_calCmdWord_op (op : Nat) (v : Word) : getF (calCmdWord op v) 0 2 = op % 4 :=
  (getF_setB_above _ _ (by decide) (by decide)).trans (getF_setF_self _ _ (by decide))

theorem getF_calCmdWord_bank (op : Nat) (v : Word) {lo : Nat} (h : 2 ≤ lo) (h' : lo + 2 ≤ 63) : getF (calCmdWord op v) lo 2 = getF v lo 2 := by
  rw [calCmdWord, getF_setB_above _ _ (by decide) h', getF_setF_ne _ _ (by decide) (.inr h)]

theorem getB_calCmdWord_go (op : Nat) (v : Word) : getB (calCmdWord op v) 63 = true := getB_setB_self _ _ (by decide)

theorem bankSt_setBankSt (d : Dev) (b : Nat) {st : Nat} (h : st < 8) : (d.setBankSt b st).bankSt b = st := by
  rw [Dev.bankSt, Dev.setBankSt, gf_sf_self _ _ _ (by decide)]
  exact Nat.mod_eq_of_lt h

theorem bankSt_calRef (d : Dev) (b code : Nat) : (d.calRef code).bankSt b = d.bankSt b := by
  have h : Reg.calBankStat b ≠ Reg.calStat := by unfold Reg.calBankStat Reg.calStat; omega
  rw [Dev.bankSt, Dev.calRef, gf_sf_ne (h := h), gf_sb_ne (h := h), Dev.bankSt]

/-- What a GO of `CAL_CMD` makes of the device: the solver forgets a bank whose state the command `e` changed. -/
def Dev.afterBankCmd (d e : Dev) (b : Nat) : Dev := if e.bankSt b = d.bankSt b then e else e.solTouch b

theorem afterBankCmd_setBankSt (d e : Dev) {b st : Nat} (hst : st < 8) (h : d.bankSt b ≠ st) :
    d.afterBankCmd (e.setBankSt b st) b = (e.setBankSt b st).solTouch b := by
  rw [Dev.afterBankCmd, bankSt_setBankSt e b hst, if_neg (Ne.symm h)]

theorem afterBankCmd_calRef (d : Dev) (b code : Nat) : d.afterBankCmd (d.calRef code) b = d.calRef code := by
  rw [Dev.afterBankCmd, bankSt_calRef, if_pos rfl]

section
variable {x d : Dev} {v : Word} {op : Nat} (hl : x.solLocked (getF v 4 2) = false) (hd : d = x.wrReg Reg.calCmd (calCmdWord op v))
include hl hd

theorem wrCalCmd_copy (hop : op = 1) (hs : x.solLocked (getF v 8 2) = false) :
    x.wrCalCmd (calCmdWord op v) = d.afterBankCmd (d.calCopy (getF v 4 2) (getF v 8 2)) (getF v 4 2) := by
  subst hop hd
  simp only [Dev.wrCalCmd, getF_calCmdWord_op, getF_calCmdWord_bank, getB_calCmdWord_go, hl, hs, Nat.reduceLeDiff, Nat.reduceAdd, Nat.reduceMod,
    Bool.false_eq_true, and_false, or_self, one_ne_zero, if_false, if_true, Dev.afterBankCmd]

theorem wrCalCmd_commit (hop : op = 2) :
    x.wrCalCmd (calCmdWord op v) = d.afterBankCmd (d.calCommit (getF v 4 2)) (getF v 4 2) := by
  subst hop hd
  simp only [Dev.wrCalCmd, getF_calCmdWord_op, getF_calCmdWord_bank, getB_calCmdWord_go, hl, Nat.reduceLeDiff, Nat.reduceAdd, Nat.reduceMod,
    Bool.false_eq_true, OfNat.ofNat_ne_one, false_and, and_false, or_self, OfNat.ofNat_ne_zero, if_false, if_true, Dev.afterBankCmd]

theorem wrCalCmd_unstage (hop : op = 3) :
    x.wrCalCmd (calCmdWord op v) = d.afterBankCmd (d.calUnstage (getF v 4 2)) (getF v 4 2) := by
  subst hop hd
  simp only [Dev.wrCalCmd, getF_calCmdWord_op, getF_calCmdWord_bank, getB_calCmdWord_go, hl, Nat.reduceLeDiff, Nat.reduceAdd, Nat.reduceMod,
    Bool.false_eq_true, OfNat.ofNat_ne_one, false_and, and_false, or_self, OfNat.ofNat_ne_zero, if_false, if_true, Dev.afterBankCmd]

end

section
variable {d : Dev} {b src : Nat}

theorem calCopy_accepted (hst : d.bankSt b = 0 ∨ d.bankSt b = 3) (hne : src ≠ b) (h1 : d.bankSt src ≠ 1) (h2 : d.bankSt src ≠ 2)
    (hsrc : b ∉ d.copySources) : d.calCopy b src = (d.setBank b { (d.bank b) with
      cap := if d.bankSt src = 0 then d.shadowPar src else (d.bank src).par, src := some src, since := d.tim.up }).setBankSt b 1 := by
  refine if_neg ?_
  simp only [List.contains_iff_mem, hne, h1, h2, hsrc, or_false]
  omega

theorem calCommit_accepted (hst : d.bankSt b = 0 ∨ d.bankSt b = 3) (hsrc : b ∉ d.copySources) : d.calCommit b = (d.setBank b { (d.bank b) with
      cap := d.shadowPar b, back := d.bankSt b, since := d.tim.up }).setBankSt b 2 := by
  refine if_neg ?_
  simp only [List.contains_iff_mem, hsrc, or_false]
  omega

theorem calCommit_refused (h : (d.bankSt b ≠ 0 ∧ d.bankSt b ≠ 3) ∨ b ∈ d.copySources) : d.calCommit b = d.calRef 1 :=
  if_pos (by simpa only [List.contains_iff_mem] using h)

theorem calUnstage_accepted (hst : d.bankSt b = 3) (hsrc : b ∉ d.copySources) : d.calUnstage b = d.setBankSt b 0 :=
  if_neg (by simp [hst, hsrc])

theorem calUnstage_refused (h : d.bankSt b ≠ 3 ∨ b ∈ d.copySources) : d.calUnstage b = d.calRef 1 :=
  if_pos (by simpa only [List.contains_iff_mem] using h)

end

/-- Settles O18: `wrCalCmd` runs the command on the device with `CAL_CMD` written; each command is accepted or refused as its guard says. -/
theorem bankCommands : Obligations.BankCommands := by
  refine ⟨fun s r v op d ht hd hl => ⟨fun hop hs hst hne h1 h2 hsrc => ?copy, fun hop hst hsrc => ?commit, fun hop hst hsrc => ?unstage⟩,
    fun s r v op d ht hd hl => ⟨fun hop h => ?commitRefused, fun hop h => ?unstageRefused⟩⟩
  case copy =>
    rw [← afterBankCmd_setBankSt d _ (by decide) (by omega), ← calCopy_accepted hst hne h1 h2 hsrc, ← wrCalCmd_copy hl hd hop hs, hop]
    exact onDev_gate_of_takes (fun x => x.wrCalCmd (calCmdWord 1 v)) ht
  case commit =>
    rw [← afterBankCmd_setBankSt d _ (by decide) (by omega), ← calCommit_accepted hst hsrc, ← wrCalCmd_commit hl hd hop, hop]
    exact onDev_gate_of_takes (fun x => x.wrCalCmd (calCmdWord 2 v)) ht
  case unstage =>
    rw [← afterBankCmd_setBankSt d _ (by decide) (by omega), ← calUnstage_accepted hst hsrc, ← wrCalCmd_unstage hl hd hop, hop]
    exact onDev_gate_of_takes (fun x => x.wrCalCmd (calCmdWord 3 v)) ht
  case commitRefused =>
    have he : s.dev.wrCalCmd (calCmdWord 2 v) = d.calRef 1 := by
      rw [← hop, wrCalCmd_commit hl hd hop, calCommit_refused h, afterBankCmd_calRef]
    exact (onDev_gate_of_takes (fun x => x.wrCalCmd (calCmdWord 2 v)) ht).trans (by rw [he, Dev.calRef])
  case unstageRefused =>
    have he : s.dev.wrCalCmd (calCmdWord 3 v) = d.calRef 1 := by
      rw [← hop, wrCalCmd_unstage hl hd hop, calUnstage_refused h, afterBankCmd_calRef]
    exact (onDev_gate_of_takes (fun x => x.wrCalCmd (calCmdWord 3 v)) ht).trans (by rw [he, Dev.calRef])

/-! ### Validation, copy, cycles and port configuration -/

section
variable {d e : Dev} {b k p i : Nat} (hst : d.bankSt b = 2)
  (he : e = (d.waitUp ((d.bank b).since + ((d.bank b).cap.largest + 2000) * nsU)).readEntries b (d.bank b).cap (List.range 36))
  (hv : e.validate b (d.bank b).cap (List.range 36) = (k, p, i)) {f : Dev}
  (hf : f = ((e.sf (Reg.calBankStat b) 4 4 k).sf (Reg.calBankStat b) 8 6 p).sf (Reg.calBankStat b) 16 18 i)
include hst he hv hf

theorem calValidationDone_passed (hk : k = 0) : calValidationDone b d = ((f.sf (Reg.calGen b) 0 16 (f.gf (Reg.calGen b) 0 16 + 1)).setBank b
    { (f.bank b) with par := (d.bank b).cap }).setBankSt b 3 := by
  subst hk
  simp only [calValidationDone, hst, if_true, ← he, hv, ← hf]

theorem calValidationDone_failed (hk : k ≠ 0) (h9 : k ≠ 9) : calValidationDone b d = (f.inc Reg.calValFailCnt).setBankSt b (f.bank b).back := by
  simp only [calValidationDone, hst, if_true, ← he, hv, ← hf, hk, h9, if_false]

end

theorem calCopyDone_of_copying {d : Dev} {b src : Nat} (hsrc : (d.bank b).src = some src) (hst : d.bankSt b = 1) :
    ∃ e f : Dev, f = e.sf (Reg.calGen b) 0 16 (e.gf (Reg.calGen src) 0 16)
      ∧ calCopyDone b d = (f.setBank b { (f.bank b) with src := none }).setBankSt b 0 := by
  unfold calCopyDone
  split
  next h => exact absurd (h.symm.trans hsrc) (by simp)
  next x h =>
    obtain rfl := Option.some.inj (h.symm.trans hsrc)
    rw [if_pos hst]
    extract_lets d0 lo hi dst moved hurt fixed d1 d2 d3 par d4 d5 d6
    have h6 : d6 = d5.sf (Reg.calGen b) 0 16 (d5.gf (Reg.calGen x) 0 16) := rfl
    clear_value d0 lo hi moved hurt fixed d1 d2 d3 d4 d5 d6
    exact ⟨d5, d6, h6, rfl⟩

/-- The generation copied reads the same in both banks. -/
theorem gf_calGen_copied {d e : Dev} {b src : Nat} (he : e = d.sf (Reg.calGen b) 0 16 (d.gf (Reg.calGen src) 0 16)) :
    e.gf (Reg.calGen b) 0 16 = e.gf (Reg.calGen src) 0 16 := by
  subst he
  by_cases h : src = b
  · rw [h]
  · have hne : Reg.calGen src ≠ Reg.calGen b := by unfold Reg.calGen; omega
    rw [gf_sf_self _ _ _ (by decide), gf_sf_ne (h := hne)]
    exact Nat.mod_eq_of_lt (Nat.mod_lt _ (by decide))

theorem cycleBoundary_of_running {d e : Dev} {c : CalSrc} {bd n : Nat} (hrun : d.running = true) (hc : d.cal.cur = some c)
    (hb : bd = c.beg + d.cycLen c.bank) (hn : n = (c.num + 1) % 2 ^ 48)
    (he : e = (((d.waitLocal bd).takeCfg bd).takeResume bd).takePorts bd) (hstop : ¬ (e.cal.stopAt = some bd ∧ e.running = true)) :
    cycleBoundary d = (e.beginCycle bd n).syncMode := by
  have hnext : d.nextBound = some (bd, n) := by rw [Dev.nextBound, hc, hb, hn]
  simp only [cycleBoundary, hnext, hrun, Bool.not_true, Bool.false_and, Bool.false_eq_true, if_false, ← he, if_neg hstop]

theorem wrCalPort_stopped {d : Dev} (p : Nat) (v : Word) (h : d.running = false) : d.wrCalPort p v = d.wrReg (Reg.calPortCfg p) v := by
  simp only [Dev.wrCalPort, h, Bool.false_eq_true, if_false]

theorem wrCalPort_running {d e : Dev} (p : Nat) {v : Word} {bd n : Nat} (h : d.running = true)
    (hb : d.boundaryFrom (d.now + 1000 * nsU) = some (bd, n)) (he : e = d.wrReg (Reg.calPortCfg p) v) :
    d.wrCalPort p v = { e with cal := { e.cal with
      cfgPend := e.cal.cfgPend.filter (fun q => !(q.1 == p && q.2.1 == bd)) ++ [(p, bd, e.rd (Reg.calPortCfg p))]
      cfgOld := Sparse.put e.cal.cfgOld p (Sparse.getD d.cal.cfgOld p (d.rd (Reg.calPortCfg p))) } } := by
  simp only [Dev.wrCalPort, h, if_true, hb, ← he]

section
variable {d e : Dev} {sl t : Nat} {c : CalSrc} (ht : Sparse.find d.cal.reval sl = some t) (hc : d.cal.cur = some c) {x : Dev}
  (hx : x = d.waitUp (t + (c.par.covered sl + 2000) * nsU))
  (he : e = ({ x with cal := { x.cal with reval := Sparse.del x.cal.reval sl } } : Dev).readEntries c.bank c.par (slicePorts sl))
include ht hc hx he

theorem calRevalidationEnd_passed {bd n : Nat} (hv : (e.validate c.bank c.par (slicePorts sl)).1 = 0)
    (hb : e.boundaryFrom (e.now + 1000 * nsU) = some (bd, n)) :
    calRevalidationEnd sl d = { e with cal := { e.cal with resume := Sparse.put e.cal.resume sl bd } } := by
  simp only [calRevalidationEnd, ht, hc, ← hx, ← he, hv, if_true, hb]

theorem calRevalidationEnd_failed {k p i : Nat} (hv : e.validate c.bank c.par (slicePorts sl) = (k, p, i)) (hk : k ≠ 0) :
    calRevalidationEnd sl d = e.raise 2 sl 0x12 (if 5 ≤ k then entryOffset c.bank sl i else 0) := by
  simp only [calRevalidationEnd, ht, hc, ← hx, ← he, hv, hk, if_false]

end

/-- Settles O19: each command ends as its branch says; the copied generation is the source's. -/
theorem validationAndCycles : Obligations.ValidationAndCycles := by
  refine ⟨fun s b d k p i hst hd hv => ⟨_, rfl, fun hk => ?passed, fun hk h9 => ?failed⟩, fun s b src hsrc hst => ?copy,
    fun s c hrun hc hp bd n d hb hn hd hstop => ?cycle, fun s r p v ht hrun => ?cfgStopped, fun s r p v bd n d ht hrun hb hd => ?cfgRunning,
    fun s sl t c e d ht hc he hd => ⟨fun hv bd n hb => ?revalidated, fun k p i hv hk => ?invalid⟩⟩
  case passed =>
    rw [← calValidationDone_passed hst hd hv rfl hk]
    exact onDev_next (calValidationDone b.val) s
  case failed =>
    rw [← calValidationDone_failed hst hd hv rfl hk h9]
    exact onDev_next (calValidationDone b.val) s
  case copy =>
    obtain ⟨e, f, hf, he⟩ := calCopyDone_of_copying hsrc hst
    exact ⟨f, _, onDev_next (calCopyDone b.val) s, he, gf_calGen_copied hf⟩
  case cycle =>
    rw [← cycleBoundary_of_running hrun hc hb hn hd hstop]
    exact onDev_next cycleBoundary s
  case cfgStopped =>
    rw [← wrCalPort_stopped p.val v hrun]
    exact onDev_gate_of_takes (fun d => d.wrCalPort p.val v) ht
  case cfgRunning =>
    rw [← wrCalPort_running p.val hrun hb hd]
    exact onDev_gate_of_takes (fun d => d.wrCalPort p.val v) ht
  case revalidated =>
    rw [← calRevalidationEnd_passed ht hc he hd hv hb]
    exact onDev_next (calRevalidationEnd sl.val) s
  case invalid =>
    rw [← calRevalidationEnd_failed ht hc he hd hv hk]
    exact onDev_next (calRevalidationEnd sl.val) s

/-! ### Activation -/

section
variable {d : Dev} {b cyc : Nat}

theorem calActivate_ring (h : d.calRing = true) : d.calActivate b cyc = d.calRef 3 := if_pos h

variable (hring : d.calRing = false)
include hring

theorem calActivate_stopped (h : d.running = false) : d.calActivate b cyc = d.calRef 4 := by
  simp only [Dev.calActivate, hring, h, Bool.false_eq_true, if_false, if_true]

variable (hrun : d.running = true)
include hrun

theorem calActivate_notStaged (h : d.bankSt b ≠ 3 ∨ d.cal.pend ≠ none) : d.calActivate b cyc = d.calRef 1 := by
  simp only [Dev.calActivate, hring, hrun, Bool.false_eq_true, Bool.true_eq_false, if_false]
  exact if_pos (h.imp id Option.isSome_iff_ne_none.mpr)

variable (hst : d.bankSt b = 3) (hp : d.cal.pend = none) {at_ n : Nat} {c : CalSrc}
  (hb : d.boundaryFrom (d.now + 1000 * nsU) = some (at_, n)) (hc : d.cal.cur = some c)
include hst hp hb hc

theorem calActivate_of_staged : d.calActivate b cyc = if cyc = 0 then d.schedule ⟨b, at_, n, false, true⟩
    else if cyc ≤ c.num ∨ c.beg + (cyc - c.num) * d.cycLen c.bank < at_ then d.calRef 2
    else d.schedule ⟨b, c.beg + (cyc - c.num) * d.cycLen c.bank, cyc, false, true⟩ := by
  simp only [Dev.calActivate, hring, hrun, hst, hp, hb, hc, Bool.false_eq_true, Bool.true_eq_false, Option.isSome_none, ne_eq, not_true, or_self,
    if_false]

end

section
variable {d e : Dev} {v : Word}

/-- A GO without CANCEL activates the bank the word names. -/
theorem wrCalAct_go (hv : getB v 62 = false) (he : e = d.wrReg Reg.calAct (setB v 63 true)) (hl : d.solLocked (getF v 0 2) = false) :
    d.wrCalAct (setB v 63 true) = e.calActivate (getF v 0 2) (getF v 8 48) := by
  have hgo : getB (setB v 63 true) 63 = true := getB_setB_self _ _ (by decide)
  have hcan : getB (setB v 63 true) 62 = false := by rw [getB_setB_ne _ _ (by decide) (by decide), hv]
  have hbank : getF (setB v 63 true) 0 2 = getF v 0 2 := getF_setB_above _ _ (by decide) (by decide)
  have hcyc : getF (setB v 63 true) 8 48 = getF v 8 48 := getF_setB_above _ _ (by decide) (by decide)
  simp only [Dev.wrCalAct, hgo, hcan, hbank, hcyc, hl, Bool.false_eq_true, false_and, if_false, if_true, ← he]

theorem wrCalAct_cancel (hv : getB v 63 = false) (he : e = d.wrReg Reg.calAct (setB v 62 true)) (hl : d.solLocked (getF v 0 2) = false) :
    d.wrCalAct (setB v 62 true) = e.calCancel := by
  have hgo : getB (setB v 62 true) 63 = false := by rw [getB_setB_ne _ _ (by decide) (by decide), hv]
  have hcan : getB (setB v 62 true) 62 = true := getB_setB_self _ _ (by decide)
  have hbank : getF (setB v 62 true) 0 2 = getF v 0 2 := getF_setB_above _ _ (by decide) (by decide)
  simp only [Dev.wrCalAct, hgo, hcan, hbank, hl, Bool.false_eq_true, and_false, if_false, if_true, ← he]

theorem calCancel_pending {q : CalPend} (hring : d.calRing = false) (hp : d.cal.pend = some q) (ha : q.act = true) (hst : d.bankSt q.bank ≠ 5) :
    d.calCancel = d.unschedule := by
  simp only [Dev.calCancel, hring, hp, ha, hst, Bool.false_eq_true, Bool.true_eq_false, if_false]

end

/-- Settles O21: the refusal codes in their order, and the boundary of a GO that none of them meets. -/
theorem activationAcceptance : Obligations.ActivationAcceptance := by
  rintro s r v d b cyc ht rfl rfl
  refine ⟨fun hv hd hl => ?go, fun hv hd hl hring q hp ha hst => ?cancel⟩
  case go =>
    have hex : exec (.calActivate r v) s = .next { s with dev := d.calActivate (getF v 0 2) (getF v 8 48) } := by
      rw [← wrCalAct_go hv hd hl]
      exact onDev_gate_of_takes (fun d => d.wrCalAct (setB v 63 true)) ht
    rw [hex]
    refine ⟨fun hring => by rw [calActivate_ring hring], fun hring hrun => by rw [calActivate_stopped hring hrun],
      fun hring hrun h => by rw [calActivate_notStaged hring hrun h], fun at_ n c hring hrun hst hp hb hc => ?_⟩
    rw [calActivate_of_staged hring hrun hst hp hb hc]
    refine ⟨fun h0 => by rw [if_pos h0], fun h0 h => by rw [if_neg h0, if_pos h], fun hlt hle => ?_⟩
    rw [if_neg (by omega : ¬ getF v 8 48 = 0), if_neg (by omega)]
  case cancel =>
    rw [← calCancel_pending hring hp ha hst, ← wrCalAct_cancel hv hd hl]
    exact onDev_gate_of_takes (fun d => d.wrCalAct (setB v 62 true)) ht

/-! ### Start, stop and hand-over -/

section
variable {d e : Dev} {v : Word}

theorem calStart_refused (h : d.bankSt (getF v 2 2) ≠ 3 ∨ d.cal.stopAt ≠ none) : d.calStart v = d.calRef 1 :=
  if_pos (h.imp id Option.isSome_iff_ne_none.mpr)

variable (hst : d.bankSt (getF v 2 2) = 3) (hstop : d.cal.stopAt = none)
include hst hstop

theorem calStart_tooSoon (h : d.calStartAt < d.now + d.leadU + 3000 * nsU) : d.calStart v = d.calRef 5 := by
  simp only [Dev.calStart, hst, hstop, Option.isSome_none, ne_eq, not_true, Bool.false_eq_true, or_self, if_false, h, if_true]

variable (h : d.now + d.leadU + 3000 * nsU ≤ d.calStartAt) (he : e = d.wrReg Reg.calCtl v)
include h he

theorem calStart_local (hring : e.calRing = false) : d.calStart v = e.schedule ⟨getF v 2 2, d.calStartAt, 0, true, false⟩ := by
  simp only [Dev.calStart, hst, hstop, Option.isSome_none, ne_eq, not_true, Bool.false_eq_true, or_self, if_false, Nat.not_lt.mpr h, ← he, hring]

theorem calStart_onRing (hring : e.calRing = true) {at_ : Nat}
    (hat : at_ = (d.calStartAt + e.ringC e.mainAtt - 1) / e.ringC e.mainAtt * e.ringC e.mainAtt) :
    d.calStart v = e.schedule ⟨getF v 2 2, at_, e.ringNum e.mainAtt at_, true, false⟩ := by
  simp only [Dev.calStart, hst, hstop, Option.isSome_none, ne_eq, not_true, Bool.false_eq_true, or_self, if_false, Nat.not_lt.mpr h, ← he, hring,
    if_true, ← hat]

end

section
variable {d e : Dev} {v : Word}

theorem wrCalCtl_start (hrun : d.running = false) (hen : getB (d.rd Reg.calCtl) 0 = false) :
    d.wrCalCtl (setB v 0 true) = d.calStart (setB v 0 true) := by
  simp only [Dev.wrCalCtl, hrun, hen, getB_setB_self v true (by decide : 0 < 64), Bool.false_eq_true, false_and, if_false, and_self, if_true]

theorem wrCalCtl_stop (hen : getB (d.rd Reg.calCtl) 0 = true) (hsame : getF (setB v 0 false) 1 3 = getF (d.rd Reg.calCtl) 1 3) :
    d.wrCalCtl (setB v 0 false) = d.calStop (setB v 0 false) := by
  simp only [Dev.wrCalCtl, hen, hsame, getB_setB_self v false (by decide : 0 < 64), ne_eq, not_true, and_false, if_false, Bool.true_eq_false,
    false_and, and_self, if_true]

theorem calStop_start {q : CalPend} (he : e = d.wrReg Reg.calCtl v) (hrun : d.running = false) (hp : d.cal.pend = some q) (hq : q.start = true)
    (hst : d.bankSt q.bank = 4) : d.calStop v = e.unschedule := by
  simp only [Dev.calStop, hp, hrun, hq, hst, and_self, if_true, ← he]

theorem calStop_running {bs n : Nat} (he : e = d.wrReg Reg.calCtl v) (hrun : d.running = true)
    (hb : d.boundaryFrom (d.now + 1000 * nsU) = some (bs, n)) :
    d.calStop v = (({ e with cal := { e.cal with stopAt := some bs } } : Dev).sb Reg.calStat 1 true).dropStopped bs := by
  cases hp : d.cal.pend <;> simp only [Dev.calStop, hp, hrun, Bool.true_eq_false, false_and, if_false, hb, ← he]

variable {q : CalPend} (hp : d.cal.pend = some q) (hst : d.bankSt q.bank = 4) (he : e = d.waitLocal (d.handOver q.at_))
include hp hst he

theorem calHandOver_taken (h : q.start = false ∨ e.calRing = false ∨ e.ringStartOk = true) : calHandOver d
    = (((e.sf (Reg.calGen q.bank) 16 16 (e.gf (Reg.calGen q.bank) 0 16)).sb (Reg.calGen q.bank) 32 true).setBankSt q.bank 5).sf
        Reg.calActStat 0 2 2 := by
  have hno : ¬ (q.start ∧ e.calRing ∧ e.ringStartOk = false) := by
    rintro ⟨h1, h2, h3⟩
    rcases h with h | h | h <;> simp_all
  simp only [calHandOver, hp, hst, if_true, ← he, if_neg hno]

theorem calHandOver_waits (hs : q.start = true) (hring : e.calRing = true) (hno : e.ringStartOk = false) : calHandOver d
    = ({ e with cal := { e.cal with pend := some { q with at_ := q.at_ + e.ringC e.mainAtt, cyc := (q.cyc + 1) % 2 ^ 48 } } } : Dev).actStat 1
        q.bank ((q.cyc + 1) % 2 ^ 48) := by
  simp only [calHandOver, hp, hst, if_true, ← he, hs, hring, hno, and_self]

end

/-- Settles O22: which boundary a start, a stop or a cancelled start chooses, and what the hand-over point makes of a pending one. -/
theorem calendarStartsAndHandsOver : Obligations.CalendarStartsAndHandsOver := by
  refine ⟨⟨fun s r v d ht hrun hen hd => ?start, fun s r v d ht hen hsame hd => ?stop⟩,
    fun s q d hp hst hd => ⟨fun h => ?taken, fun hs hring hno => ?waits⟩⟩
  case start =>
    have hex : exec (.calendarStart r v) s = .next { s with dev := s.dev.calStart (setB v 0 true) } := by
      rw [← wrCalCtl_start hrun hen]
      exact onDev_gate_of_takes (fun d => d.wrCalCtl (setB v 0 true)) ht
    have hb : getF (setB v 0 true) 2 2 = getF v 2 2 := getF_setB_ne _ _ (by decide) (.inr (by decide))
    rw [hex, ← hb]
    exact ⟨fun h => by rw [calStart_refused h], fun hst hstop h => by rw [calStart_tooSoon hst hstop h],
      fun hst hstop h hring => by rw [calStart_local hst hstop h hd hring],
      fun hst hstop h hring at_ hat => by rw [calStart_onRing hst hstop h hd hring hat]⟩
  case stop =>
    have hex : exec (.calendarStop r v) s = .next { s with dev := s.dev.calStop (setB v 0 false) } := by
      rw [← wrCalCtl_stop hen hsame]
      exact onDev_gate_of_takes (fun d => d.wrCalCtl (setB v 0 false)) ht
    rw [hex]
    exact ⟨fun q hrun hp hq hst => by rw [calStop_start hd hrun hp hq hst], fun bs n hrun hb => by rw [calStop_running hd hrun hb]⟩
  case taken =>
    rw [← calHandOver_taken hp hst hd h]
    exact onDev_next calHandOver s
  case waits =>
    rw [← calHandOver_waits hp hst hd hs hring hno]
    exact onDev_next calHandOver s

end Sys2Proof.Machine
end

section
/-! Launches, the wire, low power idle and pauses (R83–R92, R103–R115, R258–R263). -/

namespace Sys2Proof.Machine

/-! ### Fetch -/

section
variable {d : Dev} {p i n : Nat} {c : CalSrc} {e : Word} {l : Nat}

theorem fetchBarred_eq_false (hl : d.now < l) (hen : getB (d.portCfgAt p l) 0 = true) (hs : d.sliceOut (sliceOf p) = false)
    (hla : d.cal.launches = []) (hr : (d.port p).released = []) : d.fetchBarred p l = false := by
  simp [Dev.fetchBarred, Nat.not_le.mpr hl, hen, hs, hla, hr]

theorem launchFetch_of_due {b : Dev} (hsrc : d.launchSrc p i n = some (c, e, l)) (hbar : d.fetchBarred p l = false)
    (hb : b = (d.waitLocal (l - d.leadU)).scrub (entryAddr c.bank (sliceOf p) i) Reg.calEccCnt)
    (hbad : b.isBad (entryAddr c.bank (sliceOf p) i) = false) (hk : eKind e = 1) : launchFetch p i n d = b.fetchStream p i n c e l := by
  simp only [launchFetch, hsrc, hbar, Bool.false_eq_true, if_false, ← hb, hbad, hk, if_true]

theorem fetchStream_of_open {b : Dev} (ht : b.sType (eArg e) = 1) (hd : d = b.readRec (eArg e)) (hbar : d.strBar (eArg e) (some p) = .none) :
    b.fetchStream p i n c e l = d.fetchLaunch p i n c e l := by
  simp only [Dev.fetchStream, ht, if_true, ← hd, hbar]

theorem fetchLaunch_of_new {la : Launch} (hrep : d.sReplicated (eArg e) = false)
    (hla : la = { port := p, idx := i, stream := eArg e, at_ := l, hcyc := eCyc e, cyc := n, key := l
                  resLen := d.sResLen (eArg e), cls := d.launchCls p (eArg e) })
    (hno : d.instOf la = none) : d.fetchLaunch p i n c e l = d.newInst la 1 := by
  simp only [Dev.fetchLaunch, hrep, Bool.false_eq_true, if_false, ← hla, hno]

theorem newInst_fabric {la : Launch} (k : Nat) (h : d.sFabric la.stream = true) : d.newInst la k = { d with cal := { d.cal with
      insts := d.cal.insts ++ [{ stream := la.stream, cyc := la.cyc, key := la.key, left := k }], launches := d.cal.launches ++ [la] } } := if_pos h

theorem newInst_host {la : Launch} (k : Nat) {q : Nat} {sq : Sq} (h : d.sFabric la.stream = false) (hq : d.sg la.stream 1 0 16 = q)
    (hs : d.hostSource q = 0) (hsq : d.sq q = some sq) : d.newInst la k = ((({ d with cal := { d.cal with
      insts := d.cal.insts ++ [{ stream := la.stream, cyc := la.cyc, key := la.key, left := k, qp := some q, entry := some (q, sq.claimed) }]
      launches := d.cal.launches ++ [la] } } : Dev).modSq q (fun x => { x with claimed := x.claimed + 1 })).pumpSq q) := by
  simp only [Dev.newInst, h, Bool.false_eq_true, if_false, hq, hs, hsq, Option.map_some, Option.getD_some]

end

/-! ### Arm and launch -/

section
variable {d e : Dev} {p : Nat} {l : Launch} {i : Inst} {id : Nat} {f : Frame}

theorem bindFabric_of_bound (ok : Bool) (h : i.frame = some id) : d.bindFabric ok l i = d := if_pos (.inl (by simp [h]))

theorem armLaunch_of_bound (hp : p < 32) (ok : Bool) (hi : d.instOf l = some i) (hn : i.none_ = false) (hf : i.frame = some id) :
    d.armLaunch p ok l i = d.armChecks l i := by
  simp only [Dev.armLaunch, bindFabric_of_bound ok hf, ite_self, hi, hn, Bool.false_eq_true, if_false, hf, Option.isNone_some, false_and,
    Nat.not_le.mpr hp, decide_false, Bool.false_and]

theorem armChecks_passed (hl : d.launchLink l.port = true) (hf : i.frame = some id) (hid : d.frame id = some f) (hr : f.ready = true)
    (ho : d.overrun (d.judged l) f = false) (hp : d.pausedAt (d.judged l) = false) : d.armChecks l i = { d with cal := { d.cal with
      launches := d.cal.launches.map (fun x => if x = l then { d.judged l with armed := true } else x) } } := by
  simp only [Dev.armChecks, hl, Bool.true_eq_false, if_false, hf, Option.bind_some, hid, hr, ho, hp, Bool.false_eq_true]

theorem armAt_of_open (hbar : d.strBar l.stream (some p) = .none) (hi : d.instOf l = some i) : d.armAt p l = d.armLaunch p true l i := by
  simp only [Dev.armAt, hbar, hi]

theorem launchArm_of_due (hn : d.nextLaunch p false = some l) (he : e = d.waitLocal (l.at_ - 1000 * nsU)) : launchArm p d = e.armAt p l := by
  simp only [launchArm, hn, ← he]

/-- A launch with its frame at L on a port that is open: late on a busy wire, or one that wakes, and else on the wire. -/
theorem launch_of_bound (hn : d.nextLaunch p true = some l) (he : e = (d.waitLocal l.at_).settleWire p (d.waitLocal l.at_).tim.up)
    (hi : e.instOf l = some i) (hf : i.frame = some id) (hid : e.frame id = some f) (ho : e.portOpen p = true) :
    launch p d = if (e.port p).cur.isSome ∨ e.tim.up < (e.port p).gapEnd then e.lateDiscard l 3
      else if e.waking p e.tim.up then e.lateDiscard l 7
      else ((e.inc (Reg.calLaunchCnt p)).newTx p id f l.cls true e.tim.up e.now (e.launchStamp p e.now)
        (if p < 32 then none else some (l.at_ + e.wireTime p l.resLen))).dropLaunch l := by
  simp only [launch, hn, ← he, hi, Option.bind_some, hf, hid, ho, Bool.true_eq_false, if_false]

theorem copyLost_of_noInst (st cause : Nat) (h : d.instOf l = none) : d.copyLost l st cause = d := by
  simp only [Dev.copyLost, h]

theorem dropLaunch_forgets (d : Dev) (l : Launch) : l ∉ (d.dropLaunch l).cal.launches := by simp [Dev.dropLaunch]

end

/-- Settles O23: the fetch up to the claim of the entry, the checks of the arm, and the launch on a free and on a busy wire. -/
theorem launchFromFetchToWire : Obligations.LaunchFromFetchToWire := by
  refine ⟨fun s p i n c e l b d la hsrc hl hen hs hla hrel hb hbad hk ht hd hbar hrep hlaunch hno => ?fetch,
    ⟨fun s p l d i id f hp hn hpl hd hbar hi hnone hf hid hr hlink ho hpa => ?arm,
      fun s p l d i id f hn hd hi hf hid ho hcur hgap hwake => ?start⟩,
    fun d l cause _ => rfl, dropLaunch_forgets, fun s p l d i id f hn hd hi hf hid ho hbusy => ?late⟩
  case fetch =>
    have hex : exec (.launchFetch p i n) s = .next { s with dev := d.newInst la 1 } := by
      rw [← fetchLaunch_of_new hrep hlaunch hno, ← fetchStream_of_open ht hd hbar,
        ← launchFetch_of_due hsrc (fetchBarred_eq_false hl hen hs hla hrel) hb hbad hk]
      exact onDev_next (launchFetch p.val i.toNat n.toNat) s
    have hst : la.stream = eArg e := by rw [hlaunch]
    have hcyc : la.cyc = n.toNat := by rw [hlaunch]
    have hkey : la.key = l := by rw [hlaunch]
    rw [hex]
    refine ⟨fun hfab => ?_, fun q sq hfab hq hh hsq => ?_⟩
    · rw [newInst_fabric 1 (hst ▸ hfab), hst, hcyc, hkey]
    · rw [newInst_host 1 (hst ▸ hfab) (hst ▸ hq) hh hsq, hst, hcyc, hkey]
  case arm =>
    have he : launchArm p.val s.dev = d.armChecks l i := by
      rw [launchArm_of_due hn hd, armAt_of_open hbar hi, armLaunch_of_bound hp true hi hnone hf]
    rw [← armChecks_passed (hpl ▸ hlink) hf hid hr ho hpa, ← he]
    exact onDev_next (launchArm p.val) s
  case start =>
    have he := launch_of_bound hn hd hi hf hid ho
    rw [if_neg (by simp [hcur, Nat.not_lt.mpr hgap]), hwake, if_neg Bool.false_ne_true] at he
    rw [← he]
    exact onDev_next (launch p.val) s
  case late =>
    have he := launch_of_bound hn hd hi hf hid ho
    rw [if_pos (hbusy.imp_left Option.isSome_iff_ne_none.mpr)] at he
    rw [← he]
    exact onDev_next (launch p.val) s

/-! ### The wire -/

section
variable {d e : Dev} {p u x : Nat} {g : Item → Bool}

/-- A free wire of a port that can send starts the item picked. -/
theorem chooseOf_of_picked {i : Item} (he : e = (d.pauseCheck p).purge p) (hc : (e.port p).cur = none)
    (hu : u = max (max e.tim.up (e.port p).gapEnd) ((e.port p).wakeEnd.getD 0)) (hx : x = e.now + (u - e.tim.up)) (hs : e.canSend p u = true)
    (hp : e.pickItem p x g = some i) : d.chooseOf p g = e.startItem p u x i := by
  simp only [Dev.chooseOf, ← he, hc, Option.isSome_none, Bool.false_eq_true, if_false, ← hu, ← hx, hs, if_true, hp]

theorem choose_of_free (h : (d.port p).cur = none) : d.choose p = d.chooseOf p (fun _ => true) := by
  simp only [Dev.choose, h, Option.isSome_none, Bool.false_eq_true, if_false]

theorem startItem_pause {q : Nat} (h : (d.port p).pauseOwed = some q) : d.startItem p u x .pause
    = (d.useFree.modPort p (fun y => { y with pauseOwed := none, pauseLast := u })).go p
        { kind := .pause, cls := 2, octets := pauseOctets (Config.freeWord d.free) q, start := u, local_ := x } none := by
  simp only [Dev.startItem, h, Option.getD_some]

theorem startItem_new {pr id c : Nat} {f : Frame} (h : d.frame id = some f) : d.startItem p u x (.new pr id c)
    = (d.modPort p (fun y => { y with queue := y.queue.filter (fun q => q != (pr, id)) })).newTx p id f c false u x (d.egressStamp p x)
        (d.beLimit p x) := by
  simp only [Dev.startItem, h]

theorem nonschedFrameStart_of_started (h : (d.port p).cur = none) (he : e = d.choose p) (hs : ((e.port p).cur).isSome = true) :
    nonschedFrameStart p d = e := by
  simp only [nonschedFrameStart, h, Option.isSome_none, Bool.false_eq_true, if_false, ← he, hs, if_true]

variable {t : Tx} (hc : (d.port p).cur = some t)
include hc

theorem transmissionEnd_of_sent (hm : d.dataMissing t = false) (ho : d.overLimit p t = false) :
    transmissionEnd p d = ((d.waitUp (d.txEnd p t)).endTx p t).choose p := by
  simp only [transmissionEnd, hc, hm, ho, Bool.false_eq_true, if_false]

theorem guardianCut_control {l : Nat} (hl : t.limit = some l) (ho : d.overLimit p t = true) (hk : t.kind = .control false)
    (he : e = d.waitLocal l) : guardianCut p d = (((((e.emitTx p { t with
        stompAt := some (min (max ((e.tim.up - t.start) * d.portRate p / (8000 * nsU) - 12) (d.sentAt p t d.tim.up)) t.dataLen) }).wireFree p
          e.tim.up).inc (Reg.rngGuardCutCnt (p - 32))).inc (Reg.preStompCnt p)).txDone p t 2 0).raise 5 p 0x10 0 := by
  simp only [guardianCut, hc, hl, ho, if_true, hk, ← he]

end

theorem emitTx_of_noJig {d : Dev} {p : Nat} {t : Tx} (h : t.jig = 0) :
    d.emitTx p t = { d with out := .wire p t.smd t.fragOctet (t.data ++ t.check) :: d.out } := if_pos h

/-- Settles O24: each command starts the item picked for it, an end frees the wire and chooses anew, and the guardian stomps at its limit. -/
theorem wireStartsAndEnds : Obligations.WireStartsAndEnds := by
  refine ⟨fun s p d u x hd hc hu hx hs => ⟨fun hp => ?verify, fun hp => ?respond, fun hp => ?announce, fun hp => ?annResp, fun q hp hq => ?pause,
      fun pr id c f hc0 hp hf hst => ?frame⟩,
    fun s p t hc hm ho => ?ended, fun d p t h => emitTx_of_noJig h, fun s p t l d hc hl ho hk hd => ?cut⟩
  case verify =>
    have he := chooseOf_of_picked hd hc hu hx hs hp
    rw [Dev.startItem] at he
    rw [← he]
    exact onDev_next (fun d => d.chooseOf p.val (fun i => i == .verify)) s
  case respond =>
    have he := chooseOf_of_picked hd hc hu hx hs hp
    rw [Dev.startItem] at he
    rw [← he]
    exact onDev_next (fun d => d.chooseOf p.val (fun i => i == .respond)) s
  case announce =>
    have he := chooseOf_of_picked hd hc hu hx hs hp
    rw [Dev.startItem] at he
    rw [← he]
    exact onDev_next (fun d => d.chooseOf p.val (fun i => i == .announce)) s
  case annResp =>
    have he := chooseOf_of_picked hd hc hu hx hs hp
    rw [Dev.startItem] at he
    rw [← he]
    exact onDev_next (fun d => d.chooseOf p.val (fun i => i == .annResp)) s
  case pause =>
    rw [← startItem_pause hq, ← chooseOf_of_picked hd hc hu hx hs hp]
    exact onDev_next (fun d => d.chooseOf p.val (fun i => i == .pause)) s
  case frame =>
    have he : d.startItem p.val u x (.new pr id c) = s.dev.choose p.val := by
      rw [choose_of_free hc0, chooseOf_of_picked hd hc hu hx hs hp]
    rw [← startItem_new hf, ← nonschedFrameStart_of_started hc0 he hst]
    exact onDev_next (nonschedFrameStart p.val) s
  case ended =>
    rw [← transmissionEnd_of_sent hc hm ho]
    exact onDev_next (transmissionEnd p.val) s
  case cut =>
    rw [← guardianCut_control hc hl ho hk hd]
    exact onDev_next (guardianCut p.val) s

/-! ### Low power idle and pauses -/

section
variable {d e : Dev} {p : Nat}

theorem lpiEntry_of_idle {y : PortSt} (hy : y = d.port p) (he : e = d.waitUp (y.idleSince + d.gf (Reg.macEeeCfg p) 32 16 * usU))
    (hen : d.gb (Reg.macEeeCfg p) 0 = true) (hm : d.lpiMode p = true) (hl : d.linkUp p = true) (hc : y.cur = none) (hs : y.lpiSince = none)
    (hP : y.suspP = none) (hX : y.suspX = none) (hi : d.items p = []) (hsch : d.schedEn p = false) :
    lpiEntry p d = ((e.modPort p (fun z => { z with lpiSince := some e.tim.up, tw := d.gf (Reg.macEeeCfg p) 16 16 })).sb (Reg.macStat p) 1
      true).inc (Reg.macTxLpiCnt p) := by
  simp only [lpiEntry, ← hy, ← he, hen, hm, hl, hc, hs, hP, hX, hi, hsch, Option.isNone_none, List.isEmpty_nil, Bool.true_and, Bool.not_false,
    Bool.true_or, Bool.false_eq_true, false_and, if_false, if_true]

theorem lpiWake_of_item {t : Nat} (hs : (d.port p).lpiSince = some t) (hi : d.items p ≠ []) : lpiWake p d
    = ((d.modPort p (fun z => { z with lpiSince := none, wakeEnd := some (d.tim.up + (d.port p).tw * nsU) })).sb (Reg.macStat p) 1 false).addCnt
        (Reg.macTxLpiUsCnt p) ((d.tim.up - t) / usU) := by
  simp only [lpiWake, hs, List.isEmpty_iff, hi, if_false]

theorem rxLpi_of_up (enter : Bool) (hp : p < 32) (hm : d.mergedAway p = false) (hl : d.linkUp p = true) : rxLpi p enter d
    = if enter = true ∧ d.gb (Reg.macStat p) 2 = false then (d.sb (Reg.macStat p) 2 enter).inc (Reg.macRxLpiCnt p)
      else d.sb (Reg.macStat p) 2 enter := by
  simp only [rxLpi, Nat.not_le.mpr hp, hm, hl, Bool.false_eq_true, Bool.true_eq_false, or_self, if_false]

theorem pauseRepeat_of_held {q : Nat} (hp : p < 32) (hen : d.gb (Reg.macPauseCfg p) 3 = true) (ha : d.gb (Reg.macStat p) 3 = true)
    (hb : d.gf (Reg.macRxBuf p) 32 16 * 1024 < d.heldFor p) (hr : d.portRate p ≠ 0) (hq : q = d.gf (Reg.macPauseCfg p) 16 16)
    (he : e = d.waitUp ((d.port p).pauseLast + q * 512 * 1000 * nsU / (2 * d.portRate p))) :
    pauseRepeat p d = (e.modPort p (fun y => { y with pauseOwed := some q })).chooseOf p (fun i => i == .pause) := by
  subst hq
  simp only [pauseRepeat, hp, hen, ha, hb, hr, ne_eq, not_false_eq_true, and_self, if_true, ← he]

end

/-- Settles O25: LPI is entered from idle and left for an item, the receiver's LPI follows the line, and a pause ends or is repeated. -/
theorem lowPowerIdleAndPause : Obligations.LowPowerIdleAndPause := by
  refine ⟨fun s p y d hy hd hen hm hl hc hs hP hX hi hsch => ?enter, fun s p t hs hi => ?wake, fun s p enter hp hm hl => ?receiver,
    fun s p t h => ?expiry, fun s p q d hp hen ha hb hr hq hd => ?again⟩
  case enter =>
    rw [← lpiEntry_of_idle hy hd hen hm hl hc hs hP hX hi hsch]
    exact onDev_next (lpiEntry p.val) s
  case wake =>
    rw [← lpiWake_of_item hs hi]
    exact onDev_next (lpiWake p.val) s
  case receiver =>
    rw [← rxLpi_of_up enter hp hm hl]
    exact onDev_next (rxLpi p.val enter) s
  case expiry =>
    have he : pauseExpiry p.val s.dev
        = ((((s.dev.waitUp t).modPort p.val (fun y => { y with pauseEnd := none })).sb (Reg.macStat p.val) 0 false).choose p.val) := by
      simp only [pauseExpiry, h]
    rw [← he]
    exact onDev_next (pauseExpiry p.val) s
  case again =>
    rw [← pauseRepeat_of_held hp hen ha hb hr hq hd]
    exact onDev_next (pauseRepeat p.val) s

end Sys2Proof.Machine
end

section
/-! Pre-emption: holds, cuts, verification, announcement and configuration (R106, R114–R117, R127, R128). -/

namespace Sys2Proof.Machine

section
variable {d e : Dev} {p : Nat}

theorem preemptHoldRaise_of_next {r : Resv} (ha : d.preActive p = true) (hn : d.nextHold p = some r) (he : e = d.waitLocal (r.at_ - d.holdAdvU p)) :
    preemptHoldRaise p d = ((e.modPort p (fun y => { y with holds := y.holds ++ [⟨r.cls == 2, r.at_, r.until_⟩] })).inc (Reg.preHoldCnt p)).askCut
      p r.cls := by
  simp only [preemptHoldRaise, ha, if_true, hn, ← he]

theorem preemptHoldRelease_of_one {h : Hold} (hh : (d.port p).holds = [h]) (hr : (d.port p).released = []) : preemptHoldRelease p d
    = ((d.waitLocal h.until_).modPort p (fun y => { y with holds := y.holds.erase h })).choose p := by
  simp only [preemptHoldRelease, hh, hr, List.foldl_cons, List.foldl_nil, List.contains_nil, Bool.false_eq_true, if_false]

end

/-! ### Cuts -/

section
variable {d : Dev} {p k kk a : Nat} {t : Tx} (hc : (d.port p).cur = some t) (ha : t.cutAt = some a) (hto : t.cutTo = none) (hst : t.stompAt = none)
include hc ha hto hst

theorem preemptCut_lapses (hact : d.preActive p = false) :
    preemptCut p k d = d.modPort p (fun y => { y with cur := some { t with cutAt := none } }) := by
  simp only [preemptCut, hc, ha, hto, hst, Option.isSome_none, Bool.false_eq_true, or_self, if_false, hact, if_true]

variable (hact : d.preActive p = true) (hkk : kk = max (clampN (d.sentAt p t (a + 4 * nsU)) (d.sentAt p t (a + 16 * nsU)) k) t.fmin)
include hact hkk

theorem preemptCut_cuts (h1 : kk < t.dataLen) (h2 : 64 + kk ≤ t.left) (hn : t.nest = false ∨ t.cutCrit = false) :
    preemptCut p k d = d.modPort p (fun y => { y with cur := some { t with cutTo := some kk } }) := by
  have hno : ¬ (t.nest = true ∧ t.cutCrit = true) := by rcases hn with h | h <;> simp [h]
  simp only [preemptCut, hc, ha, hto, hst, Option.isSome_none, Bool.false_eq_true, Bool.true_eq_false, or_self, if_false, hact, ← hkk, h1, h2,
    and_self, if_true, if_neg hno]

theorem preemptCut_deferred (h : t.dataLen ≤ kk ∨ t.left < 64 + kk) (hcut : t.cuttable = true) : preemptCut p k d
    = (d.modPort p (fun y => { y with cur := some { t with cuttable := false } })).inc (Reg.preCutDeferCnt p) := by
  have hno : ¬ (kk < t.dataLen ∧ 64 + kk ≤ t.left) := by omega
  simp only [preemptCut, hc, ha, hto, hst, Option.isSome_none, Bool.false_eq_true, Bool.true_eq_false, or_self, if_false, hact, ← hkk, if_neg hno,
    hcut, if_true]

end

/-! ### Verification and announcement -/

section
variable {d e : Dev} {p t : Nat}

section
variable (hs : (d.port p).vSent = some t) (hst : d.verifySt p = 3)
  (he : e = (d.waitUp (t + (d.port p).vTime * msU)).modPort p (fun y => { y with vSent := none }))
include hs hst he

theorem verifyTimeout_repeats (h : (d.port p).vTry < 3) : verifyTimeout p d = e.sf (Reg.prePortStat p) 0 3 2 := by
  simp only [verifyTimeout, hs, hst, if_true, ← he, h]

theorem verifyTimeout_fails (h : 3 ≤ (d.port p).vTry) : verifyTimeout p d
    = (((e.sf (Reg.prePortStat p) 0 3 5).inc (Reg.preVerifyFailCnt p)).raise 3 p 0x10 0).preEval p := by
  simp only [verifyTimeout, hs, hst, if_true, ← he, Nat.not_lt.mpr h, if_false]

end

section
variable (hs : (d.port p).nSent = some t) (hst : d.nestSt p = 1) (hseen : d.gb (Reg.prePortStat p) 15 = false)
include hs hst hseen

theorem announceTimeout_repeats (h : (d.port p).nTry < 3) : announceTimeout p d
    = (d.waitUp (t + (d.port p).nTime * msU)).modPort p (fun y => { y with nSent := none, nOwed := true }) := by
  simp only [announceTimeout, hs, hst, hseen, Nat.not_le.mpr h, if_false, if_true]

theorem announceTimeout_fails (h : 3 ≤ (d.port p).nTry) : announceTimeout p d
    = ((((d.waitUp (t + (d.port p).nTime * msU)).modPort p (fun y => { y with nSent := none })).sf (Reg.prePortStat p) 4 2 3).raise 3 p 0x11 0) := by
  simp only [announceTimeout, hs, hst, hseen, h, true_or, if_true]

end

variable {v : Word} (hm : d.mergedAway p = false) (hr : inRangeAt (Reg.prePortCfg p) v = true)
  (he : e = d.wrReg (Reg.prePortCfg p) (if p < 32 then setB v 4 false else v))
include hm hr he

theorem wrPreCfg_stored (hno : getB v 63 = false) (hsame : e.gb (Reg.prePortCfg p) 1 = d.gb (Reg.prePortCfg p) 1) :
    d.wrPreCfg p v = e.preEval p := by
  simp only [Dev.wrPreCfg, hm, hr, Bool.false_eq_true, if_false, if_true, ← he, hsame, bne_self_eq_false, hno, Bool.false_and, Bool.or_self,
    false_and]

theorem wrPreCfg_restarted (hgo : getB v 63 = true) (hst : 4 ≤ d.verifySt p) :
    d.wrPreCfg p v = (((e.verifyOff p).sb (Reg.prePortStat p) 3 false).nestEval p).preEval p := by
  simp only [Dev.wrPreCfg, hm, hr, Bool.false_eq_true, if_false, if_true, ← he, hgo, hst, decide_true, Bool.and_self, Bool.or_true]

end

/-- Settles O26: each branch of a hold, a cut, a timeout and a configuration write. -/
theorem holdsCutsAndVerification : Obligations.HoldsCutsAndVerification := by
  refine ⟨⟨fun s p r d ha hn hd => ?raised, fun s p h hh hr => ?released,
      fun s p k kk a t hc ha hto hst hact hkk => ⟨fun h1 h2 hn => ?cut, fun h hcut => ?deferred⟩, fun s p k a t hc ha hto hst hact => ?lapsed⟩,
    ⟨fun s p t d hs hst hd => ⟨fun h => ?verifyAgain, fun h => ?verifyFailed⟩,
      fun s p t hs hst hseen => ⟨fun h => ?announceAgain, fun h => ?announceFailed⟩⟩,
    fun s r p v d ht hm hr hno hd hsame => ?stored, fun s r p v d ht hm hr hst hd => ?restarted⟩
  case raised =>
    rw [← preemptHoldRaise_of_next ha hn hd]
    exact onDev_next (preemptHoldRaise p.val) s
  case released =>
    rw [← preemptHoldRelease_of_one hh hr]
    exact onDev_next (preemptHoldRelease p.val) s
  case cut =>
    rw [← preemptCut_cuts hc ha hto hst hact hkk h1 h2 hn]
    exact onDev_next (preemptCut p.val k) s
  case deferred =>
    rw [← preemptCut_deferred hc ha hto hst hact hkk h hcut]
    exact onDev_next (preemptCut p.val k) s
  case lapsed =>
    rw [← preemptCut_lapses hc ha hto hst hact]
    exact onDev_next (preemptCut p.val k) s
  case verifyAgain =>
    rw [← verifyTimeout_repeats hs hst hd h]
    exact onDev_next (verifyTimeout p.val) s
  case verifyFailed =>
    rw [← verifyTimeout_fails hs hst hd h]
    exact onDev_next (verifyTimeout p.val) s
  case announceAgain =>
    rw [← announceTimeout_repeats hs hst hseen h]
    exact onDev_next (announceTimeout p.val) s
  case announceFailed =>
    rw [← announceTimeout_fails hs hst hseen h]
    exact onDev_next (announceTimeout p.val) s
  case stored =>
    rw [← wrPreCfg_stored hm hr hd hno hsame]
    exact onDev_gate_of_takes (fun d => d.wrPreCfg p.val v) ht
  case restarted =>
    rw [← wrPreCfg_restarted hm hr hd (getB_setB_self v true (by decide)) hst]
    exact onDev_gate_of_takes (fun d => d.wrPreCfg p.val (setB v 63 true)) ht

end Sys2Proof.Machine
end

section
/-! Reception and reassembly (R122, Table PRE-7, R239), stream records, their counters and scans (R134, R135, R151, R153, R158). -/

namespace Sys2Proof.Machine

/-! ### Reassembly -/

section
variable {d : Dev} {p : Nat} {ex : Bool} {n : Nat} {k : Option Nat} {l : List Byte} {code : Bool}

theorem rxInitial_opens (m : RxMark) (hno : (d.port p).ctx ex = none) (hm : checkOf [] l = .m) (hl : 64 ≤ l.length) : d.rxInitial p ex n l m
    = (d.modPort p (fun y => y.setCtx ex none false)).modPort p (fun y => y.setCtx ex
        (some { fc := n, next := 0, octets := body l, mark := m, since := d.tim.up, timeout := d.gf (Reg.prePortCfg p) 16 16 }) false) := by
  simp only [Dev.rxInitial, hno, Option.isSome_none, Bool.false_eq_true, if_false, hm, Nat.not_lt.mpr hl]

variable (hskip : (if ex then (d.port p).skipX else (d.port p).skipP) = false)
include hskip

theorem rxContinue_unfit (h : (d.port p).ctx ex = none ∨ ∃ c, (d.port p).ctx ex = some c ∧ (c.fc ≠ n ∨ k ≠ some c.next)) :
    d.rxContinue p ex n k l code = (d.modPort p (fun z => z.setCtx ex none true)).inc (Reg.preAsmErrCnt p) := by
  rcases h with hc | ⟨c, hc, hne⟩
  · simp only [Dev.rxContinue, hskip, Bool.false_eq_true, if_false, hc]
  · simp only [Dev.rxContinue, hskip, Bool.false_eq_true, if_false, hc, if_pos hne]

variable {c : Ctx} (hc : (d.port p).ctx ex = some c) (hfc : c.fc = n) (hk : k = some c.next)
include hc hfc hk

theorem rxContinue_completes (h : checkOf c.octets l = .f) : d.rxContinue p ex n k l code
    = (((d.modPort p (fun z => z.setCtx ex none false)).inc (Reg.preFragRxCnt p)).inc (Reg.preAsmOkCnt p)).macReceive p
        (c.octets ++ l) { c.mark with code := c.mark.code || code } := by
  simp only [Dev.rxContinue, hskip, Bool.false_eq_true, hc, hfc, hk, ne_eq, not_true, or_self, if_false, h]

theorem rxContinue_appends (h : checkOf c.octets l = .m) (hl : 64 ≤ l.length) : d.rxContinue p ex n k l code
    = (d.modPort p (fun z => z.setCtx ex (some { c with next := (c.next + 1) % 4, octets := c.octets ++ body l, since := d.tim.up
                                                        mark := { c.mark with code := c.mark.code || code } }) false)).inc (Reg.preFragRxCnt p) := by
  simp only [Dev.rxContinue, hskip, Bool.false_eq_true, hc, hfc, hk, ne_eq, not_true, or_self, if_false, h, Nat.not_lt.mpr hl]

theorem rxContinue_fails (h : checkOf c.octets l = .bad ∨ (checkOf c.octets l = .m ∧ l.length < 64)) : d.rxContinue p ex n k l code
    = (d.modPort p (fun z => z.setCtx ex none false)).inc (Reg.preAsmErrCnt p) := by
  rcases h with h | ⟨h, hl⟩
  · simp only [Dev.rxContinue, hskip, Bool.false_eq_true, hc, hfc, hk, ne_eq, not_true, or_self, if_false, h]
  · simp only [Dev.rxContinue, hskip, Bool.false_eq_true, hc, hfc, hk, ne_eq, not_true, or_self, if_false, h, hl, if_true]

end

/-! ### Arrival -/

theorem jigOrder_of_none_held {d : Dev} (p smd frag : Nat) (l : List Byte) (m : RxMark) (h : d.flt.held = []) :
    d.jigOrder p smd frag l m = (d.rxPacket p smd frag l m).jigPassed p := by
  simp only [Dev.jigOrder, h, List.filter_nil, List.getLast?_nil]

/-- What begins a frame meets the MAC where no rule of the Jig takes it. -/
theorem rxArrive_of_noRule {d0 d e : Dev} {p smd frag t : Nat} {l : List Byte} {x : RxLine} {m : RxMark} (hcan : d0.canReceive p = true)
    (hd : d = d0.countLine p x) (ht : t = octetTime (d.portRate p) l.length)
    (hm : m = { code := d.codeError p x, stamp := d.ingressStamp p (d.now - t), beg := d.tim.up - t, during := x.during.toNat })
    (hjig : d.jigRule p false l (if d.jigActive then d.streamOf p l else none) true = (none, e)) (hheld : e.flt.held = [])
    (hX : idxOf [0xA7, 0x1E, 0x73, 0xF8] smd = none) (hP : idxOf [0x61, 0x52, 0x2A, 0x9E] smd = none) :
    d0.rxArrive p smd frag l x = (e.rxPacket p smd frag l m).jigPassed p := by
  simp only [Dev.rxArrive, hcan, Bool.true_eq_false, if_false, ← hd, ← ht, ← hm, hX, hP, Option.isSome_none, Bool.or_self, Bool.not_false, hjig,
    jigOrder_of_none_held _ _ _ _ _ hheld]

/-- Settles O27: the branches of Table PRE-7, and the path of an arrival to the MAC. -/
theorem receptionAndReassembly : Obligations.ReceptionAndReassembly := by
  refine ⟨⟨fun d p ex n l m => rxInitial_opens m, fun d p ex n k l code c hs hc hfc hk => ⟨rxContinue_completes hs hc hfc hk,
      rxContinue_appends hs hc hfc hk, rxContinue_fails hs hc hfc hk⟩, fun d p ex n k l code => rxContinue_unfit, fun s p ex c hc => ?timeout⟩,
    fun s p l x t m d e hcan hd ht hm hjig hheld => ⟨?frame, fun smd frag hX hP => ?mpacket⟩⟩
  case timeout =>
    have he : reasmTimeout p.val ex s.dev = (((s.dev.waitUp (c.since + c.timeout * usU)).modPort p.val
        (fun y => if ex then { y with ctxX := none } else { y with ctxP := none })).inc (Reg.preReasmToCnt p.val)) := by
      rw [PortSt.ctx] at hc
      simp only [reasmTimeout, hc]
    rw [← he]
    exact onDev_next (reasmTimeout p.val ex) s
  case frame =>
    have hmac : e.rxPacket p.val 0xD5 0 l m = e.macReceive p.val l m := rfl
    rw [← hmac, ← rxArrive_of_noRule hcan hd ht hm hjig hheld (by decide) (by decide)]
    exact onDev_next (fun d => d.rxArrive p.val 0xD5 0 l x) s
  case mpacket =>
    rw [← rxArrive_of_noRule hcan hd ht hm hjig hheld hX hP]
    exact onDev_next (fun d => d.rxArrive p.val smd.toNat frag.toNat l x) s

/-! ### Stream records -/

section
variable {d : Dev} {st k : Nat} {v : Word}

theorem recLocked_eq_true (h : (d.sType st = 1 ∧ 3 ≤ k) ∨ (d.sType st = 2 ∧ d.sType (d.sg st 0 2 18) = 1)) : d.recLocked st k = true := by
  rcases h with ⟨h1, h2⟩ | ⟨h1, h2⟩ <;> simp [Dev.recLocked, h1, h2]

theorem writeRec_locked (h : d.recLocked st k = true) : d.writeRec st k v = (d.sb Reg.strStat 2 true).inc Reg.strWrRefCnt := if_pos h

theorem writeRec_word (h : d.recLocked st k = false) (hk : k ≠ 0) : d.writeRec st k v = d.setSw st k v := by
  simp only [Dev.writeRec, h, Bool.false_eq_true, if_false, hk]

theorem writeRec_begins (h : d.recLocked st k = false) (hk : k = 0) (ht : d.sType st ≠ 1) (hv : getF v 0 2 = 1) :
    d.writeRec st k v = (d.setSw st 0 v).initStream st := by
  subst hk
  simp only [Dev.writeRec, h, Bool.false_eq_true, if_false, ht, hv, ne_eq, not_false_eq_true, and_self, if_true]

end

theorem exec_streamRecordWrite_of_takes4 {s : State} {r : Req} {st : BitVec 18} (k : Fin 8) (v : Word)
    (h : s.takes4 r (halfIsland (halfOf st.toNat)) 4) :
    exec (.streamRecordWrite r st k v) s = .next { s with dev := s.dev.writeRec st.toNat k.val v } := by
  obtain ⟨hok, hrun, hun⟩ := h
  have he : s.dev.recWrite4 r st.toNat k.val v = s.dev.writeRec st.toNat k.val v := gate4_open (fun x => x.writeRec st.toNat k.val v) hok hrun hun
  rw [← he]
  exact onDev_next (fun d => d.recWrite4 r st.toNat k.val v) s

/-! ### Counters -/

section
variable {d e : Dev} {v : Word} {st : Nat} (hbusy : d.gb Reg.strCntStat 0 = false) (hst : st = getF v 0 18)
  (hhalf : d.gb Reg.strStat (halfOf st) = false) (h4 : d.gb Reg.strStat 4 = false) (hhbm : d.hbmOk = true)
  (he : e = d.wrReg Reg.strCntSel (setB v 63 true))
include hbusy hst hhalf h4 hhbm he

/-- A GO reads the eight counters, and clears them with CLR = 1. -/
theorem wrCntSel_go {f : Dev} (hf : f = if getB v 32 then e.stWs (cntAddr st 0) (List.replicate 8 0) else e) :
    d.wrCntSel (setB v 63 true) = ((({ f with str := { f.str with capture := some (st, e.ldWs (cntAddr st 0) 8) } } : Dev).sb Reg.strCntStat 0
      true).sb Reg.strCntStat 1 false).sb Reg.strCntStat 2 false := by
  have hgo : getB (setB v 63 true) 63 = true := getB_setB_self _ _ (by decide)
  have hclr : getB (setB v 63 true) 32 = getB v 32 := getB_setB_ne _ _ (by decide) (by decide)
  have hsel : getF (setB v 63 true) 0 18 = st := (getF_setB_above _ _ (by decide) (by decide)).trans hst.symm
  simp only [Dev.wrCntSel, hgo, if_true, hbusy, Bool.false_eq_true, Bool.true_eq_false, if_false, hsel, hhalf, h4, hhbm, or_self, ← he, hclr, ← hf]

end

theorem streamCaptureDone_of_capture {d : Dev} {st : Nat} {vals : List Word} (h : d.str.capture = some (st, vals)) : streamCaptureDone d
    = (((({ (d.wrs (Reg.strCntData 0) vals) with str := { d.str with capture := none } } : Dev).sb Reg.strCntStat 0 false).sb
        Reg.strCntStat 1 true).sf Reg.strCntStat 8 18 st) := by
  simp only [streamCaptureDone, h]

/-! ### Scans -/

section
variable {d e : Dev} {x : Nat} (he : e = d.readRec x)
include he

theorem visits_of_bad (h : d.recBad x = true) : d.recoveryVisit x = e ∧ d.latentVisit x = e := by
  simp only [Dev.recoveryVisit, Dev.latentVisit, Dev.scanVisitRec, h, if_true, ← he, and_self]

variable (h : d.recBad x = false)
include h

theorem recoveryVisit_expires (hr : e.sg x 3 34 11 = 1) : d.recoveryVisit x = (e.ss x 3 34 11 0).recoveryReset x := by
  simp only [Dev.recoveryVisit, Dev.scanVisitRec, h, Bool.false_eq_true, if_false, ← he, hr, one_ne_zero, if_true]

theorem recoveryVisit_counts (hr : 1 < e.sg x 3 34 11) : d.recoveryVisit x = e.ss x 3 34 11 (e.sg x 3 34 11 - 1) := by
  simp only [Dev.recoveryVisit, Dev.scanVisitRec, h, Bool.false_eq_true, if_false, ← he, Nat.ne_of_gt (Nat.zero_lt_of_lt hr), Nat.ne_of_gt hr]

theorem latentVisit_found
    (hd : e.sg x 1 42 8 < (((e.sg x 4 0 16 * e.sg x 1 37 2 : Nat) : Int) - (e.sg x 4 16 16 : Int)).natAbs)
    (hp : e.sg x 4 0 16 ≠ 65535) (hq : e.sg x 4 16 16 ≠ 65535) :
    d.latentVisit x = ((e.ss x 3 33 1 1).raise 4 (halfOf x) 0x11 x).inc Reg.strLatentCnt := by
  simp only [Dev.latentVisit, Dev.scanVisitRec, h, Bool.false_eq_true, if_false, ← he]
  rw [if_pos ⟨hd, hp, hq⟩]

end

section
variable {d e : Dev} {k t : Nat}

theorem recoveryScan_at {ms : Nat} (hms : ms = max (d.str.scanMs + 1) ((d.now + msU - 1) / msU))
    (he : e = { d.waitLocal (ms * msU) with str := { (d.waitLocal (ms * msU)).str with scanMs := ms } }) :
    recoveryScan d = (e.scanIds (fun x => e.sRcv x && e.sg x 0 53 11 != 0)).foldl Dev.recoveryVisit e := by
  simp only [recoveryScan, ← hms, ← he]

theorem latentTest_at (ht : t = d.nextMultiple (d.gf (Reg.strLeProf k) 0 16) (Sparse.find d.str.tested k))
    (he : e = { d.waitLocal t with str := { (d.waitLocal t).str with tested := Sparse.put (d.waitLocal t).str.tested k t } }) :
    latentTest k d = ((d.waitLocal t).latentIds k).foldl Dev.latentVisit e := by
  simp only [latentTest, ← ht, Dev.latentRun, ← he]

/-- A profile whose test of the same instant is not due, or done, is reset alone. -/
theorem latentProfileReset_at (hper : d.gf (Reg.strLeProf k) 16 16 ≠ 0)
    (ht : t = d.nextMultiple (d.gf (Reg.strLeProf k) 16 16) (Sparse.find d.str.cleared k))
    (hdue : t % (d.gf (Reg.strLeProf k) 0 16 * msU) ≠ 0 ∨ Sparse.find d.str.tested k = some t)
    (he : e = { d.waitLocal t with str := { (d.waitLocal t).str with cleared := Sparse.put (d.waitLocal t).str.cleared k t } }) :
    latentProfileReset k d = (e.latentIds k).foldl (fun x i => (x.latentClear i).inc Reg.strLeResetCnt) e := by
  have hno : ¬ (t % (d.gf (Reg.strLeProf k) 0 16 * msU) = 0 ∧ Sparse.find d.str.tested k ≠ some t) :=
    fun ⟨h1, h2⟩ => hdue.elim (· h1) h2
  simp only [latentProfileReset, hper, if_false, ← ht, if_neg hno, ← he]

end

/-! ### Stream commands -/

section
variable {op st : Nat} (hop : op = 1 ∨ op = 2) (hst : st < 2 ^ 18)
include hop hst

theorem strCmdWord_fields : getF (strCmdWord op st) 0 18 = st ∧ getF (strCmdWord op st) 18 2 = op ∧ getB (strCmdWord op st) 63 = true := by
  have hw : (strCmdWord op st).toNat = st + op * 2 ^ 18 + 2 ^ 63 := by
    rcases hop with rfl | rfl <;> simp [strCmdWord, fld, BitVec.toNat_ofNat] <;> omega
  refine ⟨?_, ?_, ?_⟩
  · rw [getF, hw, Nat.shiftRight_zero]
    omega
  · rw [getF, hw, Nat.shiftRight_eq_div_pow]
    rcases hop with rfl | rfl <;> omega
  · rw [getB, hw, Nat.testBit_eq_decide_div_mod_eq]
    rcases hop with rfl | rfl <;> simp <;> omega

theorem inRangeAt_strCmdWord : inRangeAt Reg.strCmd (strCmdWord op st) = true := by
  obtain ⟨-, h2, -⟩ := strCmdWord_fields hop hst
  have he : inRangeAt Reg.strCmd (strCmdWord op st) = decide (1 ≤ getF (strCmdWord op st) 18 2 ∧ getF (strCmdWord op st) 18 2 ≤ 2) := by
    simp [inRangeAt, show regAt Reg.strCmd = some (_, _) from rfl, fldsOk, Fld.inRange]
  rw [he, h2]
  rcases hop with rfl | rfl <;> rfl

variable {d e : Dev} (he : e = d.wrReg Reg.strCmd (strCmdWord op st))
include he

theorem wrStrCmd_taken (hok : e.recOk st = true) (hf : e.strFenced st = false) :
    d.wrStrCmd (strCmdWord op st) = if op = 1 then e.recoveryReset st else e.latentClear st := by
  obtain ⟨h1, h2, h3⟩ := strCmdWord_fields hop hst
  simp only [Dev.wrStrCmd, inRangeAt_strCmdWord hop hst, if_true, h1, h2, h3, ← he, hok, hf, and_self]

theorem wrStrCmd_refused (h : e.recOk st = false ∨ e.strFenced st = true) : d.wrStrCmd (strCmdWord op st) = e.sb Reg.strStat 3 true := by
  obtain ⟨h1, h2, h3⟩ := strCmdWord_fields hop hst
  have hno : ¬ (e.recOk st = true ∧ e.strFenced st = false) := by rcases h with h | h <;> simp [h]
  simp only [Dev.wrStrCmd, inRangeAt_strCmdWord hop hst, if_true, h1, h3, ← he, if_neg hno]

end

/-- Settles O28: a record's write by its lock, the capture with and without CLR, the visits of the scans and the two commands. -/
theorem streamRecordsAndCounters : Obligations.StreamRecordsAndCounters := by
  refine ⟨fun s r st k v ht => ?records,
    ⟨fun s r v d st ht hb hst hh h4 hhbm hclr hd => ?capture, fun s r v d st ht hb hst hh h4 hhbm hclr hd => ?captureClear, fun s st vals h => ?done⟩,
    fun s ms d hms hd => ?scan, fun d e x he => ⟨visits_of_bad he, recoveryVisit_expires he, recoveryVisit_counts he, latentVisit_found he⟩,
    fun s k t d ht hd => ?test, fun s k t d hper ht hdue hd => ?reset, fun s r st ht => ⟨fun d hd hok hf => ?resetRcv,
      fun d hd hok hf => ?clearLatent, fun d hd h => ?refused⟩⟩
  case records =>
    rw [exec_streamRecordWrite_of_takes4 k v ht]
    exact ⟨fun h => by rw [writeRec_locked (recLocked_eq_true (.inl h))], fun h => by rw [writeRec_locked (recLocked_eq_true (.inr h))],
      fun h hk => by rw [writeRec_word h hk], fun h hk hty hv => by rw [writeRec_begins h hk hty hv]⟩
  case capture =>
    rw [← wrCntSel_go hb hst hh h4 hhbm hd (by simp only [hclr, Bool.false_eq_true, if_false])]
    exact onDev_gate_of_takes (fun d => d.wrCntSel (setB v 63 true)) ht
  case captureClear =>
    rw [← wrCntSel_go hb hst hh h4 hhbm hd (by rw [if_pos hclr])]
    exact onDev_gate_of_takes (fun d => d.wrCntSel (setB v 63 true)) ht
  case done =>
    rw [← streamCaptureDone_of_capture h]
    exact onDev_next streamCaptureDone s
  case scan =>
    rw [← recoveryScan_at hms hd]
    exact onDev_next recoveryScan s
  case test =>
    rw [← latentTest_at ht hd]
    exact onDev_next (latentTest k.val) s
  case reset =>
    rw [← latentProfileReset_at hper ht hdue hd]
    exact onDev_next (latentProfileReset k.val) s
  case resetRcv =>
    have he := wrStrCmd_taken (.inl rfl) st.isLt hd hok hf
    rw [if_pos rfl] at he
    rw [← he]
    exact onDev_gate_of_takes (fun d => d.wrStrCmd (strCmdWord 1 st.toNat)) ht
  case clearLatent =>
    have he := wrStrCmd_taken (.inr rfl) st.isLt hd hok hf
    rw [if_neg (by decide)] at he
    rw [← he]
    exact onDev_gate_of_takes (fun d => d.wrStrCmd (strCmdWord 2 st.toNat)) ht
  case refused =>
    rw [← wrStrCmd_refused (.inl rfl) st.isLt hd h]
    exact onDev_gate_of_takes (fun d => d.wrStrCmd (strCmdWord 1 st.toNat)) ht

end Sys2Proof.Machine
end

section
/-! The ring, chapter 6: cycle and control segment, pins, halt and restart, agreement (R165–R208). -/

namespace Sys2Proof.Machine

/-! ### The cycle -/

theorem bestCopies_single (f : RSync) : bestCopies [f] = [f] := by simp [bestCopies]

theorem ratt_modAtt_self (d : Dev) (a : Nat) (g : RAtt → RAtt) : (d.modAtt a g).ratt a = g (d.ratt a) := by
  by_cases h : a = 0 <;> simp only [Dev.modAtt, Dev.ratt, h, if_true, if_false]

/-- The index passed next lies after the ones passed, and its boundary is the first that local time has not left behind. -/
theorem nextIdx_bounds {done now cyc : Nat} (hc : 0 < cyc) (h : done * cyc ≤ now) :
    done < nextIdx done now cyc ∧ now < (nextIdx done now cyc + 1) * cyc ∧ (nextIdx done now cyc - 1) * cyc ≤ now := by
  have hle : done ≤ now / cyc := (Nat.le_div_iff_mul_le hc).mpr h
  have hlo : now / cyc * cyc ≤ now := Nat.div_mul_le_self now cyc
  have hhi : now < (now / cyc + 1) * cyc := (Nat.div_lt_iff_lt_mul hc).mp (Nat.lt_succ_self _)
  unfold nextIdx
  split
  next hlt => exact ⟨hlt, hhi, (Nat.mul_le_mul_right cyc (Nat.sub_le _ _)).trans hlo⟩
  next hnot => exact ⟨by omega, hhi.trans_le (Nat.mul_le_mul_right cyc (by omega)), by simpa using hlo⟩

section
variable {d e : Dev} {a0 a k : Nat} (ha : a = d.memOf a0) (hcy : d.ringC a ≠ 0)
include ha hcy

theorem ringCycleBoundary_at {f : Dev} (hk : k = nextIdx (d.ratt a).cycle d.now (d.ringC a))
    (he : e = (d.waitLocal (k * d.ringC a)).modAtt a (fun r => { r with cycle := k, seg := [], rej := [], sent := false, barSent := false }))
    (hf : f = { e with rng := { e.rng with beOld := Sparse.del e.rng.beOld a } }) : ringCycleBoundary a0 d
    = ((((f.msBoundary a (k % 2 ^ 48)).wakeSwitch).barBoundary a).listenBoundary a k).sendBoundary a (k % 2 ^ 48) := by
  simp only [ringCycleBoundary, ← ha, hcy, if_false, ← hk, ← he, ← hf]

variable {done : Nat} (hdone : done = (d.now + d.ringC a - d.ringSeg a) / d.ringC a) (hk : k = if (d.ratt a).segDone < done then done - 1 else done)
  (he : e = (d.waitLocal (k * d.ringC a + d.ringSeg a)).modAtt a (fun r => { r with segDone := k + 1 }))
include hdone hk he

theorem controlSegmentEnd_off (h : e.memSt a = 0 ∨ e.memSt a = 6) :
    controlSegmentEnd a0 d = ((e.segPorts a).modAtt a (fun r => { r with seg := [], rej := [] })).setMembers a 0 := by
  simp only [controlSegmentEnd, ← ha, hcy, if_false, ← hdone, ← hk, ← he, if_pos h]

theorem controlSegmentEnd_live (h0 : e.memSt a ≠ 0) (h6 : e.memSt a ≠ 6) :
    ∃ f : Dev, controlSegmentEnd a0 d = f.modAtt a (fun r => { r with seg := [], rej := [] }) := by
  simp -zeta only [controlSegmentEnd, ← ha]
  extract_lets b cy done' k' d0 c seg th d1 inside now_ near old before beforeNear keep was d2 d3 d4
  have h : ¬ (d0.memSt a = 0 ∨ d0.memSt a = 6) := by
    have hd0 : d0 = e := by rw [he, hk, hdone]
    rw [hd0]
    exact not_or.mpr ⟨h0, h6⟩
  rw [if_neg hcy, if_neg h]
  exact ⟨d4, rfl⟩

end

section
variable {d : Dev} {a c : Nat}

theorem sendBoundary_member (h : d.memSt a = 3 ∨ d.memSt a = 4) : d.sendBoundary a c = d.ringSend a 2 c := if_pos h

theorem sendBoundary_silent (h : d.memSt a = 0 ∨ d.memSt a = 1 ∨ d.memSt a = 5 ∨ d.memSt a = 6) :
    d.sendBoundary a c = d.modAtt a (fun r => { r with ann := none }) := by
  have h34 : ¬ (d.memSt a = 3 ∨ d.memSt a = 4) := by omega
  have h2 : d.memSt a ≠ 2 := by omega
  simp only [Dev.sendBoundary, if_neg h34, h2, false_and, if_false]

end

theorem controlFrameForward_at {d e : Dev} {p : Nat} {f : RFwd} (hf : d.rng.fwds.find? (fun g => g.port == p) = some f) (he : e = d.waitLocal f.due) :
    controlFrameForward p d = (({ e with rng := { e.rng with fwds := e.rng.fwds.erase f } } : Dev).modPort p (fun y => { y with
        ctl := y.ctl ++ [{ octets := f.octets, own := false, fwd := some (f.stamp, d.ldlyU f.from_ / 2 ^ 40)
                           bcast := (f.octets.getD 14 0).toNat % 16 == 4 }] })).choose p := by
  simp only [controlFrameForward, hf, ← he]

section
variable {d e : Dev} {a0 a t : Nat} (ha : a = d.memOf a0)
include ha

theorem coldstartAbortWait_at (ht : (d.ratt a).abortAt = some t) (hs : d.memSt a = 2) : coldstartAbortWait a0 d = (d.waitUp t).rngTo a 1 := by
  simp only [coldstartAbortWait, ← ha, ht, hs, if_true]

variable (ht : (d.ratt a).winEnd = some t) (hs : d.memSt a = 1)
include ht hs

theorem collectionWindowEnd_empty (hw : ((d.waitUp t).ratt a).win = []) :
    collectionWindowEnd a0 d = (d.waitUp t).modAtt a (fun r => { r with winEnd := none, win := [] }) := by
  simp only [collectionWindowEnd, ← ha, ht, hs, hw, ne_eq, not_true, if_false, List.filter_nil, List.isEmpty_nil, if_true,
    show bestCopies [] = [] from rfl, List.foldl_nil]

theorem collectionWindowEnd_cold {f : RSync} (hw : ((d.waitUp t).ratt a).win = [f]) (hf : f.cold = true)
    (he : e = ((d.waitUp t).modAtt a (fun r => { r with winEnd := none, win := [] })).sf (Reg.rngStat a) 24 6 f.src)
    (hp : e.stepsPermitted = true) :
    collectionWindowEnd a0 d = (e.stepBy (-f.theta)).modAtt a (fun r => { r with adopted := true, valid := some (f.cyc, true) }) := by
  simp only [collectionWindowEnd, ← ha, ht, hs, hw, ne_eq, not_true, if_false, List.filter_cons, hf, Bool.not_true, Bool.false_eq_true, if_true,
    List.filter_nil, List.isEmpty_nil, bestCopies_single, List.foldl_cons, List.foldl_nil, ← he, hp, List.head?_cons, List.all_cons,
    beq_self_eq_true, List.all_nil, Bool.and_self]

end

/-- Settles O30: a boundary passes its index, a segment's end empties its lists, and the waits of a cold start end. -/
theorem ringCycle : Obligations.RingCycle := by
  refine ⟨⟨fun s a0 a k d e ha hcy hk he hd => ?boundary, fun done now cyc hc h => nextIdx_bounds hc h, fun d a c => sendBoundary_member,
      fun d a c => sendBoundary_silent⟩, fun s p f d hf hd => ?forward,
    fun s a0 a k done d ha hcy hdone hk hd => ⟨fun h => ?off, fun h0 h6 => ?live⟩, fun s a0 a t ha ht hs => ?abort,
    fun s a0 a t ha ht hs hw => ?empty, fun s a0 a t f d ha ht hs hw hf hd hp => ?cold⟩
  case boundary =>
    rw [← ringCycleBoundary_at ha hcy hk he hd]
    exact onDev_next (ringCycleBoundary a0.val) s
  case forward =>
    rw [← controlFrameForward_at hf hd]
    exact onDev_next (controlFrameForward p.val) s
  case off =>
    rw [← controlSegmentEnd_off ha hcy hdone hk hd h]
    exact onDev_next (controlSegmentEnd a0.val) s
  case live =>
    obtain ⟨f, hf⟩ := controlSegmentEnd_live ha hcy hdone hk hd h0 h6
    refine ⟨_, onDev_next (controlSegmentEnd a0.val) s, ?_, ?_, f, hf⟩ <;> rw [hf, ratt_modAtt_self]
  case abort =>
    rw [← coldstartAbortWait_at ha ht hs]
    exact onDev_next (coldstartAbortWait a0.val) s
  case empty =>
    rw [← collectionWindowEnd_empty ha ht hs hw]
    exact onDev_next (collectionWindowEnd a0.val) s
  case cold =>
    rw [← collectionWindowEnd_cold ha ht hs hw hf hd hp]
    exact onDev_next (collectionWindowEnd a0.val) s

/-! ### Pins, halt and restart -/

section
variable {d : Dev} {a : Nat}

theorem bypassInsert_permitted (hi : d.inserted a = false) (hw : d.pinWant a = true) (hs : d.sameRing = false) :
    bypassInsert a d = (d.pinRise a).ringEval := by
  simp only [bypassInsert, hi, hw, hs, Bool.false_eq_true, Bool.true_eq_false, or_self, false_and, if_false]

theorem bypassInsert_idle (h : d.inserted a = true ∨ d.pinWant a = false) : bypassInsert a d = d := if_pos h

/-- The fields of `RNG_CTL` that stand fast while the attachment is not OFF. -/
def ringHeld (w : Word) : Nat × Nat × Nat := (getF w 3 1, getF w 4 6, getF w 12 4)

theorem ringHeld_setB (v : Word) {i : Nat} (h : i = 62 ∨ i = 63) : ringHeld (setB v i true) = ringHeld v := by
  have hf : ∀ lo w, lo + w ≤ 62 → getF (setB v i true) lo w = getF v lo w := fun lo w hw => getF_setB_above v true (by omega) (by omega)
  simp only [ringHeld, hf 3 1 (by decide), hf 4 6 (by decide), hf 12 4 (by decide)]

variable {e : Dev} {w : Word} (hheld : ringHeld w = ringHeld (d.rd (Reg.rngCtl a)))
  (he : e = (((d.wrReg (Reg.rngCtl a) w).rebase d.joined d.holder).sb (Reg.rngStat 0) 3
      ((d.wrReg (Reg.rngCtl a) w).rebase d.joined d.holder).sameRing).sb (Reg.rngStat 1) 3
      ((d.wrReg (Reg.rngCtl a) w).rebase d.joined d.holder).sameRing)
  (hs : e.sameRing = false)
include hheld he hs

theorem wrRngCtl_halts (hgo : getB w 62 = true) (hst : e.gf (Reg.rngStat (e.memOf a)) 0 3 ≠ 6) :
    d.wrRngCtl a w = (e.rngTo (e.memOf a) 6).ringSync := by
  rw [ringHeld, ringHeld] at hheld
  simp only [Dev.wrRngCtl, hheld, ne_eq, not_true, and_false, if_false, ← he, hs, Bool.false_eq_true, false_and, hgo, if_true, hst]

theorem wrRngCtl_restarts (hno : getB w 62 = false) (hgo : getB w 63 = true) (hst : e.gf (Reg.rngStat (e.memOf a)) 0 3 = 6) :
    d.wrRngCtl a w = (e.rngTo (e.memOf a) 0).ringSync := by
  rw [ringHeld, ringHeld] at hheld
  simp only [Dev.wrRngCtl, hheld, ne_eq, not_true, and_false, if_false, ← he, hs, Bool.false_eq_true, false_and, hno, hgo, hst, and_self, if_true]

end

/-- Settles O31: the pin rises where R165 permits it; HALT and RESTART leave the held fields as they are. -/
theorem ringPinsHaltAndRestart : Obligations.RingPinsHaltAndRestart := by
  refine ⟨⟨fun s a hi hw hs => ?rise, fun s a h => ?idle⟩, fun s r a v d ht hheld => ⟨fun w hw hd hs hst => ?halt, fun w hw h62 hd hs hst => ?restart⟩⟩
  case rise =>
    have he : bypassInsert a.val s.dev = (({ s.dev with rng := { s.dev.rng with
        pinAt := Sparse.put s.dev.rng.pinAt a.val s.dev.tim.up } } : Dev).sb (Reg.rngStat a.val) 4 true).ringEval :=
      bypassInsert_permitted hi hw hs
    rw [← he]
    exact onDev_next (bypassInsert a.val) s
  case idle =>
    have h2 : exec (.bypassInsert a) s = .next { s with dev := bypassInsert a.val s.dev } := onDev_next (bypassInsert a.val) s
    rw [h2, bypassInsert_idle h]
  case halt =>
    subst hw
    rw [← wrRngCtl_halts ((ringHeld_setB v (.inl rfl)).trans hheld) hd hs (getB_setB_self v true (by decide)) hst]
    exact onDev_gate_of_takes (fun d => d.wrRngCtl a.val (setB v 62 true)) ht
  case restart =>
    subst hw
    rw [← wrRngCtl_restarts ((ringHeld_setB v (.inr rfl)).trans hheld) hd hs (by rw [getB_setB_ne _ _ (by decide) (by decide), h62])
      (getB_setB_self v true (by decide)) hst]
    exact onDev_gate_of_takes (fun d => d.wrRngCtl a.val (setB v 63 true)) ht

/-! ### Agreement -/

section
variable {d e : Dev} {bank k : Nat}

theorem msPropose_notActive (h : d.gf (Reg.rngStat d.mainAtt) 0 3 ≠ 4) : d.msPropose bank = d.sf Reg.rngMsStat 4 4 5 := if_pos h

variable (h4 : d.gf (Reg.rngStat d.mainAtt) 0 3 = 4) (hsw : (d.ratt d.mainAtt).sw = none) (hk : k = d.cycIdx d.mainAtt d.now + 1)
include h4 hsw hk

theorem msPropose_accepted (ho : d.offer bank ((k + 3) * d.ringC d.mainAtt) ((k + 3) % 2 ^ 48) = (true, e)) {w : Switch}
    (hw : w = { p := k % 2 ^ 48, id := (d.ratt d.mainAtt).msNext, src := d.nodeId d.mainAtt, bank := bank
                cyc := (k + 3) % 2 ^ 48, own := true, offer := true, ack := true }) : d.msPropose bank
    = (e.modAtt d.mainAtt (fun x => { x with sw := some w, msNext := ((d.ratt d.mainAtt).msNext + 1) % 256 })).msStat 1 0 w 0 := by
  simp only [Dev.msPropose, h4, hsw, ← hk, ho, ← hw, ne_eq, not_true, Option.isSome_none, Bool.false_eq_true, if_false]

theorem msPropose_refused (ho : d.offer bank ((k + 3) * d.ringC d.mainAtt) ((k + 3) % 2 ^ 48) = (false, e)) :
    d.msPropose bank = e.sf Reg.rngMsStat 4 4 4 := by
  simp only [Dev.msPropose, h4, hsw, ← hk, ho, ne_eq, not_true, Option.isSome_none, Bool.false_eq_true, if_false]

end

section
variable {d e : Dev} {v : Word}

theorem wrMsCtl_go (he : e = d.wrReg Reg.rngMsCtl (setB v 63 true)) : d.wrMsCtl (setB v 63 true) = e.msPropose (getF v 0 2) := by
  simp only [Dev.wrMsCtl, getB_setB_self v true (by decide : 63 < 64), if_true, ← he, getF_setB_above v true (by decide) (by decide : 0 + 2 ≤ 63)]

theorem wrBarCtl_go (he : e = d.wrReg Reg.rngBarCtl (setB v 63 true)) (h4 : d.gf (Reg.rngStat d.mainAtt) 0 3 = 4)
    (hb : (d.ratt d.mainAtt).barAt = none) : d.wrBarCtl (setB v 63 true)
    = ((e.modAtt d.mainAtt (fun x => { x with barAt := some (d.tim.up + usU), barDue := false, barSent := false })).sf
        Reg.rngBarStat 0 16 (getF v 0 16)).sb Reg.rngBarStat 16 true := by
  simp only [Dev.wrBarCtl, getB_setB_self v true (by decide : 63 < 64), h4, and_self, if_true, hb, Option.isSome_none, Bool.false_and,
    Bool.false_eq_true, if_false, ← he, getF_setB_above v true (by decide) (by decide : 0 + 16 ≤ 63)]

theorem wrBcCtl_go (hr : inRangeAt Reg.rngBcCtl (setB v 63 true) = true) (h5 : d.gb Reg.rngBcStat 5 = false)
    (he : e = d.wrReg Reg.rngBcCtl (setB v 63 true)) : d.wrBcCtl (setB v 63 true) = ({ e with rng := { e.rng with
      bcNum := (d.rng.bcNum + 1) % 65536
      bcs := e.rng.bcs ++ [⟨getF v 8 1, (d.rng.bcNum + 1) % 65536, getF v 0 7, none,
        ((List.range 8).flatMap (fun k => leBytes 8 (d.rd (Reg.rngBcTx k)).toNat)).take (getF v 0 7)⟩] } } : Dev).sb Reg.rngBcStat 5 true := by
  simp only [Dev.wrBcCtl, hr, if_true, getB_setB_self v true (by decide : 63 < 64), h5, and_self, ← he,
    getF_setB_above v true (by decide) (by decide : 8 + 1 ≤ 63), getF_setB_above v true (by decide) (by decide : 0 + 7 ≤ 63)]

/-- `bcSend` for the broadcast found and the window's start as arguments, so that neither is searched for while the send is reasoned about. -/
def Dev.bcSendAt (d : Dev) (relay : Bool) (start : Nat → Nat → Nat → Option Nat) : Option RBc → Dev
  | none => d
  | some b =>
    match start b.att 512 d.now with
    | none => d
    | some t =>
      let d0 := d.waitLocal t
      let a := d.memOf b.att
      let ring := d.gf (Reg.rngCtl a) 12 4
      let d1 : Dev := { d0 with rng := { d0.rng with bcs := d0.rng.bcs.erase b } }
      let d2 := (d.bcPorts b.att).foldl (fun (x : Dev) p =>
        (x.modPort p (fun y => { y with ctl := y.ctl ++
          [{ octets := d0.bcOctets a p b.seq b.len b.fed.isSome (b.fed.getD ring) (d0.ringNum a d0.now) b.data
             own := false, bcast := true }] })).choose p) d1
      if relay then d2 else (d2.sb Reg.rngBcStat 5 false).wakeBcast

theorem bcSend_eq_bcSendAt (relay : Bool) :
    d.bcSend relay = d.bcSendAt relay d.bcStart (d.rng.bcs.find? (fun b => b.fed.isSome == relay && d.bcMay b.att)) := rfl

theorem bcSendAt_of_start {relay : Bool} {b : RBc} {a t : Nat} {f : Dev} {start : Nat → Nat → Nat → Option Nat} (ha : a = d.memOf b.att)
    (ht : start b.att 512 d.now = some t) (he : e = d.waitLocal t)
    (hf : f = (d.bcPorts b.att).foldl (fun (x : Dev) p => (x.modPort p (fun y => { y with
            ctl := y.ctl ++ [{ octets := e.bcOctets a p b.seq b.len b.fed.isSome (b.fed.getD (d.gf (Reg.rngCtl a) 12 4)) (e.ringNum a e.now) b.data
                               own := false, bcast := true }] })).choose p) ({ e with rng := { e.rng with bcs := e.rng.bcs.erase b } } : Dev)) :
    d.bcSendAt relay start (some b) = if relay then f else (f.sb Reg.rngBcStat 5 false).wakeBcast := by
  simp only [Dev.bcSendAt, ht, ← he, ← ha, ← hf]

theorem bcSend_of_due {relay : Bool} {b : RBc} {a t : Nat} {f : Dev} (hb : d.rng.bcs.find? (fun x => x.fed.isSome == relay && d.bcMay x.att) = some b)
    (ha : a = d.memOf b.att) (ht : d.bcStart b.att 512 d.now = some t) (he : e = d.waitLocal t)
    (hf : f = (d.bcPorts b.att).foldl (fun (x : Dev) p => (x.modPort p (fun y => { y with
            ctl := y.ctl ++ [{ octets := e.bcOctets a p b.seq b.len b.fed.isSome (b.fed.getD (d.gf (Reg.rngCtl a) 12 4)) (e.ringNum a e.now) b.data
                               own := false, bcast := true }] })).choose p) ({ e with rng := { e.rng with bcs := e.rng.bcs.erase b } } : Dev)) :
    d.bcSend relay = if relay then f else (f.sb Reg.rngBcStat 5 false).wakeBcast := by
  rw [bcSend_eq_bcSendAt, hb]
  exact bcSendAt_of_start ha ht he hf

theorem wrBcStat_pop : d.wrBcStat (setB v 63 true) = ({ d with rng := { d.rng with bcRx := d.rng.bcRx.drop 1 } } : Dev).syncBc :=
  if_pos (getB_setB_self v true (by decide))

end

/-- Settles O32: a proposal by what the calendar answers, a barrier's arrival, and a broadcast from its GO to its send instant. -/
theorem ringAgreement : Obligations.RingAgreement := by
  refine ⟨⟨fun s r v d e k ht hd h4 hsw hk => ⟨fun ho w hw => ?accepted, fun ho => ?refused⟩, fun s r v d ht hd h => ?notActive,
      fun s r v d ht hd h4 hb => ?barrier⟩,
    fun s r v d ht hr h5 hd => ?go, fun s relay b a t d e hb ha ht hd he => ?send, fun s r v ht => ?pop⟩
  case accepted =>
    rw [← msPropose_accepted h4 hsw hk ho hw, ← wrMsCtl_go hd]
    exact onDev_gate_of_takes (fun d => d.wrMsCtl (setB v 63 true)) ht
  case refused =>
    rw [← msPropose_refused h4 hsw hk ho, ← wrMsCtl_go hd]
    exact onDev_gate_of_takes (fun d => d.wrMsCtl (setB v 63 true)) ht
  case notActive =>
    rw [← msPropose_notActive h, ← wrMsCtl_go hd]
    exact onDev_gate_of_takes (fun d => d.wrMsCtl (setB v 63 true)) ht
  case barrier =>
    rw [← wrBarCtl_go hd h4 hb]
    exact onDev_gate_of_takes (fun d => d.wrBarCtl (setB v 63 true)) ht
  case go =>
    rw [← wrBcCtl_go hr h5 hd]
    exact onDev_gate_of_takes (fun d => d.wrBcCtl (setB v 63 true)) ht
  case send =>
    rw [← bcSend_of_due hb ha ht hd he]
    cases relay
    · exact onDev_next (fun d => d.bcSend false) s
    · exact onDev_next (fun d => d.bcSend true) s
  case pop =>
    rw [← wrBcStat_pop (v := v)]
    exact onDev_gate_of_takes (fun d => d.wrBcStat (setB v 63 true)) ht

end Sys2Proof.Machine
end

section
/-! The solver, chapter 7: its registers and its jobs (R210–R233). -/

namespace Sys2Proof.Machine

/-! ### Registers -/

section
variable {d e : Dev} {v : Word}

/-- A write of `SOL_CMD` with one bit set runs the command of that bit. -/
theorem wrSolCmd_single (h0 : getB v 0 = false) (h1 : getB v 1 = false) (h2 : getB v 2 = false) :
    d.wrSolCmd (setB v 0 true) = d.solSubmit ∧ d.wrSolCmd (setB v 1 true) = d.solAbort ∧ d.wrSolCmd (setB v 2 true) = d.solActivate := by
  have hself : ∀ i, i < 64 → getB (setB v i true) i = true := fun i hi => getB_setB_self v true hi
  have hne : ∀ i j, i < 64 → j ≠ i → getB (setB v i true) j = getB v j := fun i j hi hj => getB_setB_ne v true hi hj
  refine ⟨?_, ?_, ?_⟩
  · simp [Dev.wrSolCmd, hself 0, hne 0 1, hne 0 2, h1, h2, bit]
  · simp [Dev.wrSolCmd, hself 1, hne 1 0, hne 1 2, h0, h2, bit]
  · simp [Dev.wrSolCmd, hself 2, hne 2 0, hne 2 1, h0, h1, bit]

theorem solSubmit_room (h : d.sol.queue.length < 16) : d.solSubmit = ({ d with sol := { d.sol with queue := d.sol.queue ++
      [{ words := (List.range 8).map (fun k => d.rd (Reg.solReq k)), fileAddr := d.gf Reg.solFileAddr 0 35
         fileLen := d.gf Reg.solFileLen 0 32 }] } } : Dev).solSync := by
  simp only [Dev.solSubmit, Dev.solQueue, Nat.not_le.mpr h, if_false, if_true]

theorem solSubmit_full (h : 16 ≤ d.sol.queue.length) : d.solSubmit = (d.inc Reg.solRefuseCnt).sb Reg.solStat 15 true := by
  simp only [Dev.solSubmit, Dev.solQueue, h, if_true, Bool.false_eq_true, if_false]

theorem solAbort_placing {j : SolJob} (hj : d.sol.job = some j) (hp : j.phase = 0) :
    d.solAbort = { d with sol := { d.sol with job := some { j with abort := true } } } := by
  simp only [Dev.solAbort, hj, hp, if_true, Dev.setJob]

theorem solAbort_none (hj : d.sol.job = none) : d.solAbort = d := by simp only [Dev.solAbort, hj]

theorem solActivate_notStaged (h : d.bankSt d.solHead ≠ 3) :
    d.solActivate = d.wr Reg.solActStat (BitVec.ofNat 64 (fld 0 3 6 + fld 3 2 d.solHead)) := by
  simp only [Dev.solActivate, h, ne_eq, not_false_eq_true, if_true]

theorem solActivate_scheduled (h : d.bankSt d.solHead = 3) (hr : d.calRing = false)
    (he : e = ((d.sf Reg.calAct 0 2 d.solHead).sf Reg.calAct 8 48 0).calActivate d.solHead 0) (h4 : e.bankSt d.solHead = 4) :
    d.solActivate = e.wr Reg.solActStat (BitVec.ofNat 64 (fld 0 3 1 + fld 3 2 d.solHead)) := by
  simp only [Dev.solActivate, h, hr, ne_eq, not_true, Bool.false_eq_true, if_false, ← he, h4, if_true]

theorem wrSolRes_pop : d.wrSolRes (setB v 63 true) = d.solPop := if_pos (getB_setB_self v true (by decide))

theorem wrSolCtl_enables (hr : inRangeAt Reg.solCtl (setB v 0 true) = true) (hwas : d.gb Reg.solCtl 0 = false)
    (he : e = d.wrReg Reg.solCtl (setB v 0 true)) : d.wrSolCtl (setB v 0 true) = (e.sf Reg.solStat 7 2 e.solBase).solSync := by
  simp only [Dev.wrSolCtl, hr, if_true, hwas, getB_setB_self v true (by decide : 0 < 64), and_self, ← he]

theorem wrSolCtl_disables {f : Dev} (hr : inRangeAt Reg.solCtl (setB v 0 false) = true) (hwas : d.gb Reg.solCtl 0 = true)
    (he : e = d.wrReg Reg.solCtl (setB v 0 false)) (hg : e.gf (Reg.benGrpStat 0) 0 3 = 3) (hj : e.sol.job = none)
    (hf : f = e.sf (Reg.benGrpStat 0) 0 3 1) : d.wrSolCtl (setB v 0 false)
    = ({ f with sol := { f.sol with taken := false, queue := f.sol.queue.map (fun q => { q with aborted := true }) } } : Dev).solTidy := by
  have hjob : f.sol.job = none := by rw [hf, sf_sol, hj]
  have hab : ({ f with sol := { f.sol with taken := false, queue := f.sol.queue.map (fun q => { q with aborted := true }) } } : Dev).solAbort
      = { f with sol := { f.sol with taken := false, queue := f.sol.queue.map (fun q => { q with aborted := true }) } } := solAbort_none hjob
  simp only [Dev.wrSolCtl, hr, if_true, hwas, Bool.true_eq_false, false_and, if_false, getB_setB_self v false (by decide : 0 < 64), and_self, ← he,
    hg, ← hf, hab]

theorem solverReady_takes (hen : d.gb Reg.solCtl 0 = true) (ht : d.sol.taken = false)
    (hg : d.gf (Reg.benGrpStat 0) 0 3 = 1 ∨ d.gf (Reg.benGrpStat 0) 0 3 = 2) :
    solverReady d = (({ d with sol := { d.sol with taken := true } } : Dev).sf (Reg.benGrpStat 0) 0 3 3).solSync :=
  if_pos ⟨hen, ht, hg⟩

end

section
variable {s : State} {r : Req} (v : Word)

theorem exec_solSubmit_of_takes (h : s.takes r Reg.solCmd) : exec (.solSubmit r v) s = .next { s with dev := s.dev.wrSolCmd (setB v 0 true) } :=
  onDev_gate_of_takes (fun d => d.wrSolCmd (setB v 0 true)) h

theorem exec_solAbort_of_takes (h : s.takes r Reg.solCmd) : exec (.solAbort r v) s = .next { s with dev := s.dev.wrSolCmd (setB v 1 true) } :=
  onDev_gate_of_takes (fun d => d.wrSolCmd (setB v 1 true)) h

theorem exec_solActivate_of_takes (h : s.takes r Reg.solCmd) : exec (.solActivate r v) s = .next { s with dev := s.dev.wrSolCmd (setB v 2 true) } :=
  onDev_gate_of_takes (fun d => d.wrSolCmd (setB v 2 true)) h

end

/-- Settles O33: each register of the solver, bit by bit. -/
theorem solverRegisterCommands : Obligations.SolverRegisterCommands := by
  refine fun s r v => ⟨fun ht h0 h1 h2 => ?commands, fun ht => ?pop, fun d ht hr hwas hd => ?enable, fun d ht hr hwas hd hg hj => ?disable,
    fun hen ht hg => ?ready⟩
  case commands =>
    obtain ⟨hs, ha, hact⟩ := wrSolCmd_single (d := s.dev) h0 h1 h2
    rw [exec_solSubmit_of_takes v ht, exec_solAbort_of_takes v ht, exec_solActivate_of_takes v ht, hs, ha, hact]
    exact ⟨fun h => by rw [solSubmit_room h], fun h => by rw [solSubmit_full h], fun j hj hp => by rw [solAbort_placing hj hp],
      fun h => by rw [solActivate_notStaged h], fun e h hr he h4 => by rw [solActivate_scheduled h hr he h4]⟩
  case pop =>
    have he : s.dev.wrSolRes (setB v 63 true) = ({ s.dev with sol := { s.dev.sol with results := s.dev.sol.results.drop 1 } } : Dev).solTidy :=
      wrSolRes_pop
    rw [← he]
    exact onDev_gate_of_takes (fun d => d.wrSolRes (setB v 63 true)) ht
  case enable =>
    have he : s.dev.wrSolCtl (setB v 0 true) = (d.sf Reg.solStat 7 2 (d.activeBank.getD (d.gf Reg.calCtl 2 2))).solSync := wrSolCtl_enables hr hwas hd
    rw [← he]
    exact onDev_gate_of_takes (fun d => d.wrSolCtl (setB v 0 true)) ht
  case disable =>
    have he := wrSolCtl_disables hr hwas hd hg hj rfl
    exact (onDev_gate_of_takes (fun d => d.wrSolCtl (setB v 0 false)) ht).trans (by rw [he])
  case ready =>
    rw [← solverReady_takes hen ht hg]
    exact onDev_next solverReady s

/-! ### Jobs -/

section
variable {d e : Dev} {q : SolReq} {t : List SolReq} {tgt head c : Nat} (hq : d.sol.queue = q :: t) (hst : d.gf Reg.solStat 0 2 = 1)
  (hj : d.sol.job = none) (hab : q.aborted = false) (hres : d.sol.results.length < 16) (htgt : tgt = d.solTarget q) (hhead : head = d.solHead)
  (he : e = (({ d with sol := { d.sol with queue := t } } : Dev).sf Reg.solStat 9 2 tgt).sb Reg.solStat 11 true)
include hq hst hj hab hres htgt hhead he

omit hq htgt hhead he in
theorem jobStart_open : ¬ (d.gf Reg.solStat 0 2 ≠ 1 ∨ d.sol.job.isSome ∨ q.aborted ∨ 16 ≤ d.sol.results.length) := by
  simp [hst, hj, hab, hres]

/-- A leave that passes its checks copies the head bank into its target. -/
theorem solverJobStart_leave (hop : q.op = 2) (hc : d.incCode q (d.bank head).par (d.bankEnts head (d.bank head).par) = 0)
    (hbar : d.bankBar q tgt = false) : solverJobStart d = ((e.calCopy tgt head).setJob
      { req := q, target := tgt, base := head, index := q.index, wrote := [], touched := true, ends := [q.stream] }).solSync := by
  simp only [solverJobStart, hq, if_neg (jobStart_open hst hj hab hres), ← htgt, ← hhead, ← he, hop, Nat.reduceEqDiff, false_and, hc, hbar,
    ne_eq, not_true, Bool.false_eq_true, OfNat.ofNat_ne_one, if_false, if_true]

theorem solverJobStart_refused (hop : q.op ≠ 3 ∨ q.formatOk = false)
    (hc : c = d.incCode q (d.bank head).par (d.bankEnts head (d.bank head).par)) (h0 : c ≠ 0) : solverJobStart d = (e.setJob
      { req := q, target := tgt, base := if q.op = 3 then tgt else head, index := q.index, phase := 2, code := c }).solSync := by
  have hno : ¬ (q.op = 3 ∧ q.formatOk = true) := by rcases hop with h | h <;> simp [h]
  simp only [solverJobStart, hq, if_neg (jobStart_open hst hj hab hres), ← htgt, ← hhead, ← he, if_neg hno, ← hc, h0, ne_eq,
    not_false_eq_true, if_true, SolJob.fail]

end

section
variable {d e : Dev} {j : SolJob} (hj : d.sol.job = some j)
include hj

theorem solverPlacement_aborted (hp : j.phase = 0) (hb : d.bankSt j.target ≠ 1) (ha : j.abort = true) :
    solverPlacement d = d.setJob { j with phase := 2, code := 13, index := j.req.index } := by
  simp only [solverPlacement, hj, hp, hb, ne_eq, not_true, or_self, if_false, ha, if_true, SolJob.fail]

theorem solverPlacement_placed {p : SolPlan} (hp : j.phase = 0) (hb : d.bankSt j.target ≠ 1) (ha : j.abort = false) (hop : j.req.op ≠ 3)
    (hplan : d.incPlan j.req (d.shadowPar j.target) (d.bankEnts j.target (d.shadowPar j.target)) = (0, some p)) :
    solverPlacement d = ((d.writePlan j.target p).calCommit j.target).setJob { j with phase := 1, psel := p.psel, ofs := p.ofs } := by
  simp only [solverPlacement, hj, hp, hb, ne_eq, not_true, or_self, if_false, ha, Bool.false_eq_true, hop, hplan]

/-- A bank that is STAGED, or further, ends its job with result 0, and the head moves to it. -/
theorem solverResultPost_staged {n gen : Nat} {f : Dev} (hp : j.phase = 1) (hb : 3 ≤ d.bankSt j.target) (hact : j.req.act = false)
    (hn : n = d.sol.jobs + 1) (hgen : gen = d.gf (Reg.calGen j.target) 0 16) (he : e = (d.sf Reg.solStat 7 2 j.target).inc Reg.solJobOkCnt)
    (hf : f = ({ e with sol := { e.sol with jobs := n, owns := Sparse.put e.sol.owns j.target (n, gen)
                                            ends := e.sol.ends ++ j.ends.map (fun x => (x, n)) } } : Dev).solPost
            j.req 0 0 (some j.target) (some j.base) j.moved (some gen) j.index j.psel j.ofs) :
    solverResultPost d = (({ f with sol := { f.sol with job := none } } : Dev).sb Reg.solStat 11 false).solTidy := by
  have h1 : d.bankSt j.target ≠ 1 := by omega
  have h2 : d.bankSt j.target ≠ 2 := by omega
  simp only [solverResultPost, hj, hp, h1, h2, hb, hact, ← hn, ← hgen, ← he, ← hf, one_ne_zero, or_self, if_false, if_true, OfNat.one_ne_ofNat,
    OfNat.zero_ne_ofNat, Bool.false_eq_true, false_and, and_false]

end

theorem pendingEndWrite_inForce {d : Dev} {b n g : Nat} (hb : d.activeBank = some b) (ho : Sparse.find d.sol.owns b = some (n, g))
    (hs : d.gf Reg.solStat 0 2 = 1 ∨ d.gf Reg.solStat 0 2 = 2) :
    pendingEndWrite d = (d.sol.ends.filter (fun e => decide (e.2 ≤ n))).foldl (fun (x : Dev) e => x.endRec e.1)
      { d with sol := { d.sol with ends := d.sol.ends.filter (fun e => !(decide (e.2 ≤ n))) } } := by
  simp only [pendingEndWrite, hb, Option.bind_some, ho, if_pos hs]

section
variable {d e : Dev} {j : SolJob}

theorem bankSt_inc_solRefuseCnt (d : Dev) (b : Nat) : (d.inc Reg.solRefuseCnt).bankSt b = d.bankSt b := by
  have h : Reg.calBankStat b ≠ Reg.solRefuseCnt := by
    unfold Reg.calBankStat Reg.solRefuseCnt
    omega
  rw [Dev.bankSt, Dev.gf, rd_inc_ne _ h, Dev.bankSt, Dev.gf]

theorem solHead_inc_solRefuseCnt (d : Dev) : (d.inc Reg.solRefuseCnt).solHead = d.solHead := by
  rw [Dev.solHead, Dev.gf, rd_inc_ne _ (by decide), Dev.solHead, Dev.gf]

/-- A target the job has not touched stays as it is unless it is STAGED and no longer the head. -/
theorem solDropTarget_untouched (code : Nat) (ht : j.touched = false) (h : d.bankSt j.target ≠ 3 ∨ j.target = d.solHead) :
    d.solDropTarget j code = d := by
  have hno : ¬ (d.bankSt j.target = 3 ∧ j.target ≠ d.solHead ∧ (j.touched = true ∨ code ≠ 14)) := fun ⟨h3, hne, _⟩ => h.elim (· h3) hne
  rw [Dev.solDropTarget, if_neg hno, if_neg (by simp [ht])]

theorem solverResultPost_refused (hj : d.sol.job = some j) (hp : j.phase = 2) (h0 : j.code ≠ 0) (h12 : j.code ≠ 12) (h13 : j.code ≠ 13)
    (ht : j.touched = false) (hw : j.wrote = []) (h1 : d.bankSt j.target ≠ 1) (h2 : d.bankSt j.target ≠ 2)
    (h : d.bankSt j.target ≠ 3 ∨ j.target = d.solHead)
    (he : e = (d.inc Reg.solRefuseCnt).solPost j.req j.code 0 (some j.target) (some j.base) j.moved
      (some (d.gf (Reg.calGen j.target) 0 16)) j.index j.psel j.ofs) :
    solverResultPost d = (({ e with sol := { e.sol with job := none } } : Dev).sb Reg.solStat 11 false).solTidy := by
  have hdrop : (d.inc Reg.solRefuseCnt).solDropTarget j j.code = d.inc Reg.solRefuseCnt :=
    solDropTarget_untouched j.code ht (by rwa [bankSt_inc_solRefuseCnt, solHead_inc_solRefuseCnt])
  simp only [solverResultPost, hj, hp, h1, h2, or_self, OfNat.ofNat_ne_zero, if_false, if_true, h0, h12, h13, hdrop, hw, List.foldl_nil, ← he,
    false_and]

end

/-- Settles O34: the start of a job, its placement, and its result, posted or refused. -/
theorem solverJobRuns : Obligations.SolverJobRuns := by
  refine ⟨fun s q t d tgt head hq hst hj hab hres hop htgt hhead hd hc hbar => ?leave,
    fun s q t d tgt head c hq hst hj hab hres hop htgt hhead hd hc h0 => ?startRefused,
    fun s j p hj hp hb => ⟨fun ha => ?aborted, fun ha hop hplan => ?placed⟩, fun s j n gen d e hj hp hb hact hn hgen hd he => ?staged,
    fun s j e hj hp h0 h12 h13 ht hw h1 h2 h he => ?refused, fun s b n g hb ho hs => ?ended⟩
  case leave =>
    rw [← solverJobStart_leave hq hst hj hab hres htgt hhead hd hop hc hbar]
    exact onDev_next solverJobStart s
  case startRefused =>
    rw [← solverJobStart_refused hq hst hj hab hres htgt hhead hd hop hc h0]
    exact onDev_next solverJobStart s
  case aborted =>
    rw [← solverPlacement_aborted hj hp hb ha]
    exact onDev_next solverPlacement s
  case placed =>
    rw [← solverPlacement_placed hj hp hb ha hop hplan]
    exact onDev_next solverPlacement s
  case staged =>
    rw [← solverResultPost_staged hj hp hb hact hn hgen hd he]
    exact onDev_next solverResultPost s
  case refused =>
    rw [← solverResultPost_refused hj hp h0 h12 h13 ht hw h1 h2 h he]
    exact onDev_next solverResultPost s
  case ended =>
    rw [← pendingEndWrite_inForce hb ho hs]
    exact onDev_next pendingEndWrite s

end Sys2Proof.Machine
end

section
/-! Ports and their links, chapter 8 (R235–R245). -/

namespace Sys2Proof.Machine

/-! ### Mode writes -/

section
variable {d e : Dev} {p : Nat} {v : Word}

theorem setMode_of_single {mode : Nat} (hm : mode ≠ 6) (hwas : d.laneMode p ≠ 6)
    (he : e = (((((d.laneInit p).sf (Reg.sdsMode p) 0 3 mode).sf (Reg.pcsCfg p) 0 2 (lowFec mode)).sb (Reg.macEeeCfg p) 0 false).sf
      (Reg.macEeeCfg p) 16 16 0)) : d.setMode p mode = ((((e.loadEqFuse p).loadTsFuse p).preEval p).syncSat p) := by
  simp only [Dev.setMode, ← he, hwas, hm, false_and, and_false, if_false]

section
variable (hp : p < 32) (hm : d.mergedAway p = false) (hv : getB v 63 = false) (h7 : getF v 0 3 ≠ 7) (h6 : getF v 0 3 ≠ 6)
include hp hm hv h7 h6

theorem wrSdsMode_accepted (hoff : d.gf (Reg.macCfg p) 0 2 = 0) : d.wrSdsMode p v = d.setMode p (getF v 0 3) := by
  simp only [Dev.wrSdsMode, hm, hv, Nat.not_le.mpr hp, h7, h6, Bool.false_eq_true, false_and, or_self, if_false, List.all_cons, List.all_nil,
    Dev.macOff, hoff, beq_self_eq_true, Bool.and_self, if_true]

theorem wrSdsMode_refused (hon : d.gf (Reg.macCfg p) 0 2 ≠ 0) : d.wrSdsMode p v = d.sb (Reg.pcsStat p) 14 true := by
  have hall : [p].all d.macOff = false := by simp [Dev.macOff, hon]
  simp only [Dev.wrSdsMode, hm, hv, Nat.not_le.mpr hp, h7, h6, Bool.false_eq_true, false_and, or_self, if_false, hall]

end

theorem wrSdsMode_retrain (hm : d.mergedAway p = false) (h : 32 ≤ p ∨ getF v 0 3 = d.laneMode p) : d.wrSdsMode p (setB v 63 true) = d.retrain p := by
  have hgo : getB (setB v 63 true) 63 = true := getB_setB_self v true (by decide)
  have hmode : getF (setB v 63 true) 0 3 = getF v 0 3 := getF_setB_above v true (by decide) (by decide)
  have hopen : 32 ≤ p ∨ (getB (setB v 63 true) 63 = true ∧ getF (setB v 63 true) 0 3 = d.laneMode p) := by
    rw [hgo, hmode]
    exact h.imp id (⟨rfl, ·⟩)
  rw [Dev.wrSdsMode, if_neg (by simp [hm]), if_pos hopen]
  exact if_pos hgo

theorem retrain_single (h : d.laneMode p ≠ 6) (he : e = (((d.forceDown p).linkRestart p).takeShims p).syncSat p) :
    d.retrain p = e.sb (Reg.sdsLaneStat p) 2 false := by
  simp only [Dev.retrain, Dev.lanes, h, if_false, List.foldl_cons, List.foldl_nil, ← he, Nat.mul_zero, Nat.zero_add]

end

/-! ### Links -/

section
variable {d e : Dev} {p : Nat}

theorem linkUpEvent_fixed {f : Dev} (c : Nat) (ha : d.linkAllowed p = true) (hu : d.linkUp p = false) (hneg : d.gb (Reg.pcsCfg p) 2 = false)
    (he : e = (d.waitUp ((d.port p).goodSince + d.gf (Reg.pcsCfg p) 16 16 * msU)).modPort p
      (fun y => { y with lastRate := some (d.portRate p), failSince := none }))
    (hf : f = e.showUp p) : linkUpEvent p c d = if 32 ≤ p then (((f.adapt p).syncSat p).preEval p).ringEval else ((f.adapt p).syncSat p).preEval p := by
  cases hr : (d.port p).negRate <;>
    simp only [linkUpEvent, ha, hu, hneg, Bool.true_eq_false, Bool.false_eq_true, ne_eq, not_true, false_and, or_self, if_false, if_true, hr,
      List.isEmpty_nil, Bool.not_true, Bool.false_and, ← he, ← hf]

theorem linkDownEvent_present {a : Nat} (st : LineState) (hm : d.mergedAway p = false) (ha : a = Reg.pcsStat p)
    (he : e = (d.lanes p).foldl (fun (x : Dev) l => (x.sb (Reg.sdsLaneStat p) (4 * l) (st.sig.getLsbD l)).sb
      (Reg.sdsLaneStat p) (4 * l + 1) (st.cdr.getLsbD l)) ((d.sf a 1 3 st.pcs.toNat).sf a 7 4 (st.pcs.toNat / 64))) :
    linkDownEvent p st d = d.linkJudge (if e.gb a 7 = true ∧ d.gb a 7 = false then e.inc (Reg.pcsHiberCnt p) else e) p := by
  subst ha
  simp only [linkDownEvent, hm, Bool.false_eq_true, if_false, ← he]

variable {d0 : Dev} {dn : Nat} (hup : d.linkUp p = true) (hbad : d.linkBad p = true) (hdn : dn = d.gf (Reg.pcsCfg p) 32 16)
  (h0 : d0.remoteFault p = false) (hrf : e.remoteFault p = false)
include hup hbad hdn h0 hrf

theorem linkJudge_atOnce (hs : (d.port p).failSince = none) (hz : dn = 0) (he : e = (d.linkRestart p).linkLost p) : d0.linkJudge d p = e := by
  simp only [Dev.linkJudge, hup, hbad, ← hdn, h0, hs, hz, Bool.true_eq_false, if_false, if_true, ← he, hrf, Bool.and_false, Bool.false_and,
    Bool.false_eq_true]

theorem linkJudge_begins (hs : (d.port p).failSince = none) (hz : dn ≠ 0) (he : e = d.modPort p (fun y => { y with failSince := some d.tim.up })) :
    d0.linkJudge d p = e := by
  simp only [Dev.linkJudge, hup, hbad, ← hdn, h0, hs, hz, Bool.true_eq_false, if_false, ← he, hrf, Bool.and_false, Bool.false_and,
    Bool.false_eq_true]

theorem linkJudge_lost {t : Nat} (hs : (d.port p).failSince = some t) (he : e = ((d.waitUp (t + dn * usU)).linkRestart p).linkLost p) :
    d0.linkJudge d p = e := by
  simp only [Dev.linkJudge, hup, hbad, ← hdn, h0, hs, Bool.true_eq_false, if_false, ← he, hrf, Bool.and_false, Bool.false_and, Bool.false_eq_true]

end

/-- Settles O35: a mode write by the MAC's state, RETRAIN, and the two judgements of a link. -/
theorem portModesAndLinks : Obligations.PortModesAndLinks := by
  refine ⟨fun s r p v ht hp hm hv h7 h6 => ⟨fun d hne hwas hoff hd => ?mode, fun hne hon => ?refused⟩, fun s r p v ht hm h => ?retrain,
    fun d p h e he => retrain_single h he, fun s p c a d e hal hu hneg ha hd he => ?up, fun s p st a d hm ha hd => ?down,
    fun d0 d p dn hup hbad hdn h0 => ⟨fun e hs hz he hrf => linkJudge_atOnce hup hbad hdn h0 hrf hs hz he,
      fun e hs hz he hrf => linkJudge_begins hup hbad hdn h0 hrf hs hz he, fun t e hs he hrf => linkJudge_lost hup hbad hdn h0 hrf hs he⟩⟩
  case mode =>
    rw [← setMode_of_single hne hwas hd, ← wrSdsMode_accepted hp hm hv h7 hne hoff]
    exact onDev_gate_of_takes (fun d => d.wrSdsMode p.val v) ht
  case refused =>
    rw [← wrSdsMode_refused hp hm hv h7 hne hon]
    exact onDev_gate_of_takes (fun d => d.wrSdsMode p.val v) ht
  case retrain =>
    rw [← wrSdsMode_retrain hm h]
    exact onDev_gate_of_takes (fun d => d.wrSdsMode p.val (setB v 63 true)) ht
  case up =>
    have hf : e = d.showUp p.val := by rw [he, ha, Dev.showUp]
    rw [← linkUpEvent_fixed c.val hal hu hneg hd hf]
    exact onDev_next (linkUpEvent p.val c.val) s
  case down =>
    rw [← linkDownEvent_present st hm ha hd]
    exact onDev_next (linkDownEvent p.val st) s

/-! ### MDIO -/

theorem fld_of_lt {lo w v : Nat} (h : v < 2 ^ w) : fld lo w v = v * 2 ^ lo := by rw [fld, Nat.mod_eq_of_lt h]

section
variable (v : Word) (c45 : Bool) {op : Nat} (hop : op < 4)

theorem getB_mdioCmd_go : getB (mdioCmd c45 op v) 63 = true := getB_setB_self _ true (by decide)

theorem getB_mdioCmd_c45 : getB (mdioCmd c45 op v) 28 = c45 := by
  rw [mdioCmd, getB_setB_ne _ _ (by decide) (by decide), getB_setF _ _ _ (by decide), if_neg (by decide), getB_setB_self _ _ (by decide)]

theorem getF_mdioCmd_below {lo w : Nat} (h : lo + w ≤ 26) : getF (mdioCmd c45 op v) lo w = getF v lo w := by
  rw [mdioCmd, getF_setB_above _ _ (by decide) (by omega), getF_setF_ne _ _ (by decide) (.inl h), getF_setB_above _ _ (by decide) (by omega)]

include hop in
theorem getF_mdioCmd_op : getF (mdioCmd c45 op v) 26 2 = op := by
  rw [mdioCmd, getF_setB_above _ _ (by decide) (by decide), getF_setF_self _ _ (by decide)]
  omega

include hop in
/-- The bits of a frame: start, opcode, addresses, and the turnaround with the data of a write. -/
theorem mdioFrame_mdioCmd : mdioFrame (mdioCmd c45 op v) = (if c45 then 0 else 2 ^ 30) + op * 2 ^ 28 + (getF v 21 5 * 2 ^ 23 + getF v 16 5 * 2 ^ 18)
    + (if (if c45 then decide (2 ≤ op) else op == 2) then 0 else 2 ^ 17 + getF v 0 16) := by
  have hst : fld 30 2 (if c45 then 0 else 1) = if c45 then 0 else 2 ^ 30 := by cases c45 <;> rfl
  have hta : fld 16 2 2 = 2 ^ 17 := rfl
  have hopf : fld 28 2 op = op * 2 ^ 28 := fld_of_lt hop
  have hpa : fld 23 5 (getF v 21 5) = getF v 21 5 * 2 ^ 23 := fld_of_lt (Nat.mod_lt _ (by decide))
  have hda : fld 18 5 (getF v 16 5) = getF v 16 5 * 2 ^ 18 := fld_of_lt (Nat.mod_lt _ (by decide))
  simp only [mdioFrame, getB_mdioCmd_c45, getF_mdioCmd_op v c45 hop, getF_mdioCmd_below v c45 (by decide : 21 + 5 ≤ 26),
    getF_mdioCmd_below v c45 (by decide : 16 + 5 ≤ 26), getF_mdioCmd_below v c45 (by decide : 0 + 16 ≤ 26), hst, hta, hopf, hpa, hda]
  omega

variable {d : Dev} {b : Nat} {v c45} (hval : c45 = true ∨ op = 1 ∨ op = 2)
include hop hval

theorem wrMdioCmd_go : d.wrMdioCmd b (mdioCmd c45 op v) = if d.gb (Reg.macMdioStat b) 16 then d.sb (Reg.macMdioStat b) 19 true
    else (let e := (d.wrReg (Reg.macMdioCmd b) (mdioCmd c45 op v)).sb (Reg.macMdioStat b) 16 true
      ({ e with mgmt := { e.mgmt with mdio := Sparse.put e.mgmt.mdio b ⟨d.tim.up, mdioCmd c45 op v, d.rd (Reg.macMdioCfg b)⟩ } } : Dev).emit
        (.mdio b (!(d.gb (Reg.macMdioCfg b) 8)) (mdioFrame (mdioCmd c45 op v)))) := by
  have hno : ¬ (c45 = false ∧ (op = 0 ∨ op = 3)) := by
    rcases hval with rfl | h | h
    · simp
    all_goals omega
  rw [Dev.wrMdioCmd, getB_mdioCmd_c45, getF_mdioCmd_op v c45 hop, if_neg hno, if_pos (getB_mdioCmd_go v c45)]

end

theorem mdioFrameDone_of_run {d e f : Dev} {b a : Nat} {m : MdioRun} (ack : Bool) (data : Nat) (ha : a = Reg.macMdioStat b)
    (hm : Sparse.find d.mgmt.mdio b = some m) (he : e = d.waitUp (m.at_ + (if getB m.cfg 8 then 32 else 64) * 4 * (getF m.cfg 0 8 + 1) * nsU))
    (hf : f = (({ e with mgmt := { e.mgmt with mdio := Sparse.del e.mgmt.mdio b } } : Dev).sb a 16 false).sb a 17 true) :
    mdioFrameDone b ack data d
      = (if mdioRead m.cmd then (if ack then f.sf a 0 16 data else (f.sf a 0 16 0xFFFF).sb a 18 true) else f).wakeMdio b := by
  subst ha
  simp only [mdioFrameDone, hm, ← he, ← hf]

/-! ### SMBus -/

section
variable (v : Word) {op : Nat}

theorem getB_smbCmd_go : getB (smbCmd op v) 63 = true := getB_setB_self _ true (by decide)

theorem getF_smbCmd_op (hop : op < 4) : getF (smbCmd op v) 22 2 = op := by
  rw [smbCmd, getF_setB_above _ _ (by decide) (by decide), getF_setF_self _ _ (by decide)]
  omega

variable {d : Dev} {c : Nat} {w : Word}

theorem wrSmbCmd_badLength (h : getF w 16 6 = 0 ∨ 32 < getF w 16 6) : d.wrSmbCmd c w = d.outOfRange (Reg.macSmbCmd c) :=
  if_pos (by omega)

variable (hw : w = smbCmd op v) (hop : op < 3) (h0 : 0 < getF w 16 6) (h32 : getF w 16 6 ≤ 32)
include hw hop h0 h32

theorem smbCmd_wellFormed : ¬ (getF w 16 6 = 0 ∨ 32 < getF w 16 6 ∨ op = 3) ∧ getB w 63 = true ∧ getF w 22 2 = op := by
  have hf : getF w 22 2 = op := hw ▸ getF_smbCmd_op v (by omega)
  exact ⟨by omega, hw ▸ getB_smbCmd_go v, hf⟩

theorem wrSmbCmd_busy (hb : d.gb (Reg.macSmbStat c) 0 = true) : d.wrSmbCmd c w = d.sb (Reg.macSmbStat c) 6 true := by
  obtain ⟨hok, hgo, hf⟩ := smbCmd_wellFormed v hw hop h0 h32
  simp only [Dev.wrSmbCmd, hf, if_neg hok, hgo, if_true, hb]

/-- The octets driven, behind 9 clocks where the last transaction timed out, with the Packet Error Code of a write where PEC = 1. -/
theorem wrSmbCmd_go {e : Dev} (hb : d.gb (Reg.macSmbStat c) 0 = false)
    (he : e = ((if c ∈ d.mgmt.smbClear then { (d.emit (.smbClocks c)) with mgmt := { d.mgmt with smbClear := d.mgmt.smbClear.erase c } }
        else d).wrReg (Reg.macSmbCmd c) w).sb (Reg.macSmbStat c) 0 true) :
    d.wrSmbCmd c w = ({ e with mgmt := { e.mgmt with smb := Sparse.put e.mgmt.smb c (w, d.rd (Reg.macSmbCfg c)) } } : Dev).emit (.smb c
      (if d.gb (Reg.macSmbCfg c) 1 = true ∧ op = 0 then d.smbOctets c w ++ [BitVec.ofNat 8 (pec (d.smbOctets c w))] else d.smbOctets c w)) := by
  obtain ⟨hok, hgo, hf⟩ := smbCmd_wellFormed v hw hop h0 h32
  simp only [Dev.wrSmbCmd, if_neg hok, hgo, if_true, hb, Bool.false_eq_true, if_false, hf, List.contains_iff_mem, ← he]

end

/-- The end of a write or of a probe: how it ended, and the octets transferred. -/
theorem smbEnd_of_send {d b e : Dev} {c a len op : Nat} {how : Fin 4} {n : Nat} {l : List Byte} {v cfg : Word} (ha : a = Reg.macSmbStat c)
    (hf : Sparse.find d.mgmt.smb c = some (v, cfg)) (hlen : len = getF v 16 6) (hop : op = getF v 22 2) (h02 : op = 0 ∨ op = 2)
    (hb : b = { d with mgmt := { d.mgmt with smb := Sparse.del d.mgmt.smb c
                                             smbClear := if how = 2 then c :: d.mgmt.smbClear.erase c else d.mgmt.smbClear } })
    (he : e = ((b.sb a 0 false).sb a 1 true).sf a 8 6 (if op = 2 then 0 else if how = 0 then len else min n len)) :
    smbEnd c how.val n l d = (if how = 1 then e.sb a 2 true else if how = 2 then e.sb a 3 true else if how = 3 then e.sb a 4 true else e).wakeSmb c := by
  subst ha hlen
  have hv : getF v 22 2 = 0 ∨ getF v 22 2 = 2 := hop ▸ h02
  fin_cases how <;> rcases hv with hv | hv <;>
    simp [smbEnd, hf, hv, he, hb, hop]

/-- Settles O36: the frames of MDIO field by field, the octets of SMBus, and how each ends. -/
theorem managementBuses : Obligations.ManagementBuses := by
  refine ⟨⟨fun s r b v w c c45 op ht hc hw => ?mdio, fun v ph hph => ?frames, fun s b ack data a m d e ha hm hd he => ?mdioDone⟩,
    fun s r c v w i op ht hi hw => ?smb, fun s c how n l a len op v cfg b d ha hf hlen hop h02 hb hd => ?smbDone⟩
  case mdio =>
    subst hw
    have hex : exec c s = .next { s with dev := s.dev.wrMdioCmd b.val (mdioCmd c45 op v) } ∧ op < 4 ∧ (c45 = true ∨ op = 1 ∨ op = 2) := by
      simp only [List.mem_cons, Prod.mk.injEq, List.not_mem_nil, or_false] at hc
      rcases hc with ⟨rfl, rfl, rfl⟩ | ⟨rfl, rfl, rfl⟩ | ⟨rfl, rfl, rfl⟩ | ⟨rfl, rfl, rfl⟩ | ⟨rfl, rfl, rfl⟩ | ⟨rfl, rfl, rfl⟩ <;>
        exact ⟨onDev_gate_of_takes (fun d => d.wrMdioCmd b.val (mdioCmd _ _ v)) ht, by decide, by decide⟩
    obtain ⟨hex, hop, hval⟩ := hex
    rw [hex, wrMdioCmd_go hop hval]
    exact ⟨fun hb => by rw [if_neg (by simp [hb])], fun hb => by rw [if_pos hb]⟩
  case frames =>
    subst hph
    refine ⟨?_, ?_, ?_, ?_, ?_, ?_⟩ <;> rw [mdioFrame_mdioCmd v _ (by decide)] <;> simp [Nat.add_assoc]
  case mdioDone =>
    have hex := mdioFrameDone_of_run ack data.toNat ha hm hd he
    have hcmd : exec (.mdioFrameDone b ack data) s = .next { s with dev := mdioFrameDone b.val ack data.toNat s.dev } :=
      onDev_next (mdioFrameDone b.val ack data.toNat) s
    rw [hcmd, hex]
    exact ⟨fun h => by rw [h, if_neg Bool.false_ne_true], fun h => by rw [h, if_pos rfl]⟩
  case smb =>
    have hex : exec i s = .next { s with dev := s.dev.wrSmbCmd c.val w } ∧ op < 3 := by
      subst hw
      simp only [List.mem_cons, Prod.mk.injEq, List.not_mem_nil, or_false] at hi
      rcases hi with ⟨rfl, rfl⟩ | ⟨rfl, rfl⟩ | ⟨rfl, rfl⟩ <;>
        exact ⟨onDev_gate_of_takes (fun d => d.wrSmbCmd c.val (smbCmd _ v)) ht, by decide⟩
    obtain ⟨hex, hop⟩ := hex
    rw [hex]
    exact ⟨fun d h0 h32 hb hd => by rw [wrSmbCmd_go v hw hop h0 h32 hb hd], fun h0 h32 hb => by rw [wrSmbCmd_busy v hw hop h0 h32 hb],
      fun h => by rw [wrSmbCmd_badLength h]⟩
  case smbDone =>
    rw [← smbEnd_of_send ha hf hlen hop h02 hb hd]
    exact onDev_next (smbEnd c.val how.val n.toNat l) s

end Sys2Proof.Machine
end

section
/-! Forwarding, chapter 9: the pass of a frame (R46, R272, R297–R300, Table FWD-1). -/

namespace Sys2Proof.Machine

/-! ### The pick -/

@[simp] theorem setFrame_frame (d : Dev) (id : Nat) (f : Frame) : (d.setFrame id f).frame id = some f := by
  simp [Dev.frame, Dev.setFrame, find_put_self]

section
variable {d e : Dev} {sl id : Nat} {t : List Nat} {f : Frame} (hid : d.frame id = some f) (hb : f.bank = sl)
include hid hb

/-- A frame that needs no read and waits for none runs. -/
theorem fwdPick_runs (hno : f.hostOnly = true ∨ d.vlanOk f = false) (hl : d.fwd.lookups.any (fun m => m.frame == id && m.res.isNone) = false)
    (hr : f.ready = true) : d.fwdPick sl (id :: t) [] [] = d.fwdRun sl id f := by
  have hk : f.headKnown = true := by rw [Frame.headKnown, hr, Bool.true_or]
  have hneed : d.readsNeeded sl id f = [] := if_pos (.inr hno)
  have hany : ∀ l : List Nat, l.any ([] : List Nat).contains = false := fun l => by simp
  simp only [Dev.fwdPick, hid, hb, hk, hany, ne_eq, not_true, Bool.true_eq_false, Bool.false_eq_true, or_self, if_false, if_pos hno, hneed, hl, hr,
    false_and]

theorem fwdPick_reads (hh : f.hostOnly = false) (hk : f.headKnown = true) (hv : d.vlanOk f = true) (he : e = d.readWays sl f)
    (hn : e.readsNeeded sl id f ≠ []) (hroom : e.readsOut sl + (e.readsNeeded sl id f).length ≤ 256) : d.fwdPick sl (id :: t) [] []
    = { e with fwd := { e.fwd with lookups := e.fwd.lookups ++ (e.readsNeeded sl id f).map (fun k => ⟨id, sl, k.1, k.2, none⟩) } } := by
  have hany : ∀ l : List Nat, l.any ([] : List Nat).contains = false := fun l => by simp
  simp only [Dev.fwdPick, hid, hb, hk, hany, ne_eq, not_true, Bool.true_eq_false, Bool.false_eq_true, or_self, if_false, hh, hv, ← he, hn,
    not_false_eq_true, if_true, hroom]

end

section
variable {d e : Dev} {sl id : Nat} {f : Frame} (he : e = d.setFrame id { f with dests := [inPipeline] })
include he

theorem fwdRun_hostOnly (hh : f.hostOnly = true) : d.fwdRun sl id f = ((e.fwdTake id).toHost sl id f.rx).fwdEnd id [] 0 := by
  have hg : ({ f with dests := [inPipeline] } : Frame).hostOnly = true := hh
  simp only [Dev.fwdRun, hg, if_true, ← he]

theorem fwdRun_vlanDrop (hh : f.hostOnly = false) (hl : f.loc = false) (hv : d.vlanOk f = false) :
    d.fwdRun sl id f = ((e.fwdTake id).inc (Reg.fwdVlanDropCnt sl)).fwdDiscard id := by
  have hg : ({ f with dests := [inPipeline] } : Frame).hostOnly = false := hh
  have hfr : e.frame id = some { f with dests := [inPipeline] } := he ▸ setFrame_frame d id _
  have hvl : e.vlanOk { f with dests := [inPipeline] } = false := he ▸ hv
  have hno : ¬ (f.loc = true ∧ ({ f with dests := [inPipeline] } : Frame).edge.isSome = true) := by simp [hl]
  simp only [Dev.fwdRun, hg, Bool.false_eq_true, if_neg hno, if_false, ← he, hfr, hvl, if_true]

end

/-! ### Lookups and destinations -/

section
variable {d e : Dev} {sl id key : Nat} {src : Bool} {w : Word} {f : Frame}

theorem mainTableLookupReturn_of_read {m : MainRead} {res : Option (Word × Bool)}
    (hm : d.fwd.lookups.find? (fun x => x.slice == sl && x.res.isNone) = some m) (hr : d.mainReturn sl m.key m.src = (res, e)) :
    mainTableLookupReturn sl d
      = { e with fwd := { e.fwd with lookups := e.fwd.lookups.map (fun x => if x = m then { x with res := some res } else x) } } := by
  simp only [mainTableLookupReturn, hm, hr]

theorem mainReturn_static (hr : d.mainRead sl key = (some (w, true), e)) (hc : e.cacheEntry sl key = none) :
    d.mainReturn sl key src = (some (w, true), (e.cacheInstall sl key w true src).2) := by
  simp only [Dev.mainReturn, hr, Bool.true_eq_false, and_false, if_false, hc, Option.isSome_none, Bool.false_eq_true]

theorem destSet_port (hk : eDkind w = 0) (hid : d.frame id = some f) (hd : f.dove = none) : d.destSet sl id f (some w)
    = if d.prune f (2 ^ eDest w) false = [] then (d.inc (Reg.fwdNoDestCnt sl)).fwdDiscard id else d.fwdEnd id (d.prune f (2 ^ eDest w) false) 0 := by
  simp only [Dev.destSet, hk, Dev.send, hid, hd, Bool.false_and, Bool.false_eq_true, if_false, and_true]

theorem mem_prune (d : Dev) (f : Frame) (set q : Nat) (flood : Bool) : q ∈ d.prune f set flood ↔
    q < 36 ∧ set.testBit q = true ∧ (d.gf (Reg.fwdVlan f.vid) 0 36).testBit q = true ∧ f.rx ≠ some q ∧ d.gb (Reg.macCfg q) 0 = true
      ∧ d.linkUp q = true ∧ (q < 32 ∨ d.ringMay f.rx flood q = true) ∧ (f.edge = none ∨ d.isPdelay q f.octets = false) := by
  have hpd : (f.edge = none ∨ d.isPdelay q f.octets = false) ↔ (!(f.edge.isSome && d.isPdelay q f.octets)) = true := by
    cases f.edge <;> simp
  simp only [Dev.prune, List.mem_filter, List.mem_range, Bool.and_eq_true, Bool.or_eq_true, decide_eq_true_eq, bne_iff_ne, hpd, and_assoc]

end

theorem forwardFrame_up {d : Dev} {sl : Nat} {l : List Nat} (h : d.islandOk (fwdIsland sl) = true) (hw : d.fwd.wait = l) :
    forwardFrame sl d = d.fwdPick sl l [] [] := by
  rw [forwardFrame, if_pos h, hw]

/-- Settles O37: the pick of the oldest frame and its run, a lookup's return, and the ports of a destination. -/
theorem forwardingPass : Obligations.ForwardingPass := by
  refine ⟨fun s sl id t f d hok hw hid hb hd => ⟨fun hh hl hr => ?host, fun hh hloc hv hl hr => ?vlan, fun hh hk hv hn hroom => ?reads⟩,
    fun s sl m res e hm hr => ?returned, fun d d1 sl key src w => mainReturn_static, fun d s id f w hk hid hdv => ?dest, mem_prune⟩
  case host =>
    rw [← fwdRun_hostOnly hd hh, ← fwdPick_runs hid hb (.inl hh) hl hr, ← forwardFrame_up hok hw]
    exact onDev_next (forwardFrame sl.val) s
  case vlan =>
    rw [← fwdRun_vlanDrop hd hh hloc hv, ← fwdPick_runs hid hb (.inr hv) hl hr, ← forwardFrame_up hok hw]
    exact onDev_next (forwardFrame sl.val) s
  case reads =>
    have he := (forwardFrame_up hok hw).trans (fwdPick_reads hid hb hh hk hv rfl hn hroom)
    exact (onDev_next (forwardFrame sl.val) s).trans (by rw [he])
  case returned =>
    rw [← mainTableLookupReturn_of_read hm hr]
    exact onDev_next (mainTableLookupReturn sl.val) s
  case dest =>
    rw [destSet_port hk hid hdv]
    exact ⟨fun h => by rw [if_pos h], fun h => by rw [if_neg h]⟩

/-! ### Learning -/

section
variable {d d1 e : Dev} {sl key port i : Nat} {o : Option (Word × Bool)} (hs : d.cacheSearch sl key = (none, d1))
  (hr : d1.mainRead sl key = (o, e)) (ho : ∀ w, o ≠ some (w, true))
include hs hr ho

theorem learnKey_unknown : d.learnKey sl key port = e.commitKey sl key port := by
  match o, ho with
  | none, _ => simp only [Dev.learnKey, hs, hr]
  | some (w, false), _ => simp only [Dev.learnKey, hs, hr]
  | some (w, true), ho => exact absurd rfl (ho w)

end

theorem commitKey_freeWay {d : Dev} {sl key port i : Nat} (hi : d.installWay sl key = some i) (hv : eValid (d.cw sl i 0) = false) :
    d.commitKey sl key port = (((d.sweepRoll sl).setCache sl i (BitVec.ofNat 64 (key + fld 60 1 1 + fld 61 1 1 + fld 63 1 0))
      (BitVec.ofNat 64 (getF (BitVec.ofNat 64 (fld 2 16 port)) 0 38))).inc (Reg.fwdLearnCnt sl)).mainLearn sl key port true := by
  simp only [Dev.commitKey, Dev.cacheInstall, hi, hv, Bool.false_eq_true, if_false, bit, if_true]

section
variable {d e : Dev} {r : XsRep} {t : List XsRep} (hr : d.fwd.reports = r :: t)
include hr

theorem xsReconcile_none (h : d.gf Reg.fwdCfg 2 2 = 0) : xsReconcile d = d := by simp only [xsReconcile, hr, h]

theorem xsReconcile_evict (he : e = { d with fwd := { d.fwd with reports := t } }) (h : d.gf Reg.fwdCfg 2 2 = 2) :
    xsReconcile d = e.cacheEvict (fwdKey r.mac r.vid) [r.slice] := by simp only [xsReconcile, hr, h, ← he]

end

/-! ### The sweeper -/

section
variable {d e f : Dev} {sl j gap due i key : Nat}

theorem cacheSweepVisit_next (hok : d.islandOk (fwdIsland sl) = true)
    (hn : nextFrom (d.cacheDyn sl) (Sparse.getD d.fwd.sweep sl 0) 131072 = some (j, gap))
    (hdue : due = Sparse.getD d.fwd.sweepAt sl 0 + gap * d.sweepStep) (he : e = d.waitUp due)
    (hf : f = (({ e with fwd := { e.fwd with
        sweep := Sparse.put e.fwd.sweep sl ((j + 1) % 131072)
        sweepAt := Sparse.put e.fwd.sweepAt sl (due + d.sweepStep) } } : Dev).cacheWayRead sl j).cacheTouch sl j) :
    cacheSweepVisit sl d = if eValid (f.cw sl j 0) = false then f
      else if getB (f.cw sl j 0) 61 then (f.setCache sl j (setB (setB (f.cw sl j 0) 61 false) 62 false) (f.cw sl j 1)).mainRefresh sl
        (eKey (f.cw sl j 0)) (eDest (f.cw sl j 1))
      else if getB (f.cw sl j 0) 62 = false then f.setCache sl j (setB (f.cw sl j 0) 62 true) (f.cw sl j 1)
      else { f with fwd := { f.fwd with cacheRem := f.fwd.cacheRem ++ [(sl, j, eKey (f.cw sl j 0))] } } := by
  simp only [cacheSweepVisit, hok, Bool.true_eq_false, if_false, hn, ← hdue, ← he, Dev.sweepVisit, ← hf]

theorem cacheCompareRemove_oldest (hm : d.fwd.cacheRem.find? (fun e => e.1 == sl) = some (sl, i, key))
    (he : e = ({ d with fwd := { d.fwd with cacheRem := d.fwd.cacheRem.erase (sl, i, key) } } : Dev).cacheWayRead sl i) :
    cacheCompareRemove sl d = if eValid (e.cw sl i 0) = true ∧ eKey (e.cw sl i 0) = key ∧ getB (e.cw sl i 0) 61 = false
        ∧ getB (e.cw sl i 0) 62 = true then (e.cacheInvalid sl i).inc (Reg.fwdCacheAgeCnt sl) else e := by
  simp only [cacheCompareRemove, hm, ← he]

end

/-! ### The main-table scan -/

theorem waitUp_fwd (d : Dev) (t : Nat) : (d.waitUp t).fwd = d.fwd := by
  have h : ∀ n, (d.clocks n).fwd = d.fwd := fun n => by
    obtain ⟨t, h | h⟩ := clocks_cases d n <;> rw [h]
    rfl
  unfold Dev.waitUp
  split
  · rfl
  · exact h _

/-- The scan's next entry, or the end of its pass, on the device `e` at the visit's due time. -/
theorem mainScanVisit_at {d e : Dev} {j due : Nat} (hout : d.mainOut = false) (hj : j = d.scanNext)
    (hdue : due = d.fwd.scanAt + (j - d.fwd.scan) * d.scanStep) (he : e = d.waitUp due) : mainScanVisit d
    = if j < 16777216 then ({ e with fwd := { e.fwd with scan := j + 1, scanAt := due + d.scanStep } } : Dev).scanVisit j
      else ({ e with fwd := { e.fwd with scan := 0, scanAt := e.tim.up, passes := e.fwd.passes + 1 } } : Dev).syncReady := by
  simp only [mainScanVisit, hout, Bool.false_eq_true, if_false, ← hj, ← hdue, ← he]

section
variable {d : Dev} {j : Nat} (hout : d.mainOut = false) (hj : j = d.scanNext)
include hout hj

theorem mainScanVisit_entry (h : j < 16777216) : ∃ e : Dev, mainScanVisit d = e.scanVisit j ∧ e.fwd.scan = j + 1 ∧ e.mem = d.mem := by
  obtain ⟨due, hdue⟩ : ∃ due, due = d.fwd.scanAt + (j - d.fwd.scan) * d.scanStep := ⟨_, rfl⟩
  obtain ⟨e, he⟩ : ∃ e, e = d.waitUp due := ⟨_, rfl⟩
  rw [mainScanVisit_at hout hj hdue he, if_pos h]
  exact ⟨_, rfl, rfl, he ▸ waitUp_mem d due⟩

theorem mainScanVisit_wraps (h : 16777216 ≤ j) :
    ∃ e : Dev, mainScanVisit d = e ∧ e.fwd.scan = 0 ∧ e.fwd.passes = d.fwd.passes + 1 := by
  obtain ⟨due, hdue⟩ : ∃ due, due = d.fwd.scanAt + (j - d.fwd.scan) * d.scanStep := ⟨_, rfl⟩
  obtain ⟨e, he⟩ : ∃ e, e = d.waitUp due := ⟨_, rfl⟩
  have hp : e.fwd = d.fwd := he ▸ waitUp_fwd d due
  refine ⟨_, mainScanVisit_at hout hj hdue he, ?_⟩
  rw [if_neg (Nat.not_lt.mpr h), Dev.syncReady, sb_fwd, sb_fwd]
  exact ⟨rfl, congrArg (fun x : Fwd => x.passes + 1) hp⟩

end

theorem mainCompareRemove_oldest {d e f : Dev} {i key ts : Nat} {t : List (Nat × Nat × Nat)} {o : Option Nat}
    (hm : d.fwd.mainRem = (i, key, ts) :: t) (hout : d.mainOut = false) (he : e = { d with fwd := { d.fwd with mainRem := t } })
    (hf : e.mainFind 0 key = (o, f)) : mainCompareRemove d
    = if o = some i ∧ getB (f.mw i 0) 61 = false ∧ getF (f.mw i 1) 38 16 = ts then (f.mainInvalid i).inc (Reg.fwdMainAgeCnt 0) else f := by
  have hout' : e.mainOut = false := he ▸ hout
  simp only [mainCompareRemove, hm, ← he, hout', Bool.false_eq_true, if_false, hf]

/-- Settles O38: a learned key's commit, a report's reconciliation, and the visits and removals of the sweeper and the scan. -/
theorem learningAndAging : Obligations.LearningAndAging := by
  refine ⟨fun s sl key port i d hf hok hd d1 e o hs hr ho hi hv => ?commit, fun s r t d hr hd => ⟨fun h => ?keep, fun h => ?evict⟩,
    fun s sl j gap due d e hok hn hdue hd he => ?sweep, fun s sl i key d hm hd => ?remove, fun s j hout hj => ⟨fun h => ?visit, fun h => ?wrap⟩,
    fun s i key ts t d e o hm hout hd he => ?mainRemove⟩
  case commit =>
    have hstart : learnCommit sl.val s.dev = d.learnKey sl.val key port := by
      rw [hd]
      cases hat : Sparse.find s.dev.fwd.learnAt sl.val <;> simp only [learnCommit, hf, hok, hat, Bool.true_eq_false, if_false]
    rw [← commitKey_freeWay hi hv, ← learnKey_unknown hs hr ho, ← hstart]
    exact onDev_next (learnCommit sl.val) s
  case keep =>
    have h2 : exec .xsReconcile s = .next { s with dev := xsReconcile s.dev } := onDev_next xsReconcile s
    rw [h2, xsReconcile_none hr h]
  case evict =>
    rw [← xsReconcile_evict hr hd h]
    exact onDev_next xsReconcile s
  case sweep =>
    have h2 : exec (.cacheSweepVisit sl) s = .next { s with dev := cacheSweepVisit sl.val s.dev } := onDev_next (cacheSweepVisit sl.val) s
    rw [h2, cacheSweepVisit_next hok hn hdue hd he]
    exact ⟨fun hv => by rw [if_pos hv], fun hv h1 => by rw [if_neg (by simp [hv]), if_pos h1],
      fun hv h1 h2 => by rw [if_neg (by simp [hv]), if_neg (by simp [h1]), if_pos h2],
      fun hv h1 h2 => by rw [if_neg (by simp [hv]), if_neg (by simp [h1]), if_neg (by simp [h2])]⟩
  case remove =>
    rw [← cacheCompareRemove_oldest hm hd]
    exact onDev_next (cacheCompareRemove sl.val) s
  case visit =>
    obtain ⟨e, he, hscan, hmem⟩ := mainScanVisit_entry hout hj h
    exact ⟨_, e, onDev_next mainScanVisit s, he, hscan, hmem⟩
  case wrap =>
    obtain ⟨e, he, hscan, hpass⟩ := mainScanVisit_wraps hout hj h
    exact ⟨e, he ▸ onDev_next mainScanVisit s, hscan, hpass⟩
  case mainRemove =>
    rw [← mainCompareRemove_oldest hm hout hd he]
    exact onDev_next mainCompareRemove s

end Sys2Proof.Machine
end

section
/-! Clearing, table commands, direct writes and the Try-square, chapter 9 (R289–R292, R298, R302–R304, R307). -/

namespace Sys2Proof.Machine

/-! ### Generation bumps -/

section
variable {d e : Dev} {v : Word}

theorem wrFwdClr_dgen (h : getB v 1 = false) : d.wrFwdClr (setB v 0 true) = d.bump false := by
  simp only [Dev.wrFwdClr, getB_setB_self v true (by decide : 0 < 64), getB_setB_ne v true (by decide : 0 < 64) (by decide : 1 ≠ 0), h, if_true,
    Bool.false_eq_true, if_false]

theorem wrFwdClr_sgen (h : getB v 0 = false) : d.wrFwdClr (setB v 1 true) = d.bump true := by
  simp only [Dev.wrFwdClr, getB_setB_self v true (by decide : 1 < 64), getB_setB_ne v true (by decide : 1 < 64) (by decide : 0 ≠ 1), h, if_true,
    Bool.false_eq_true, if_false]

theorem bump_dgen_early (h : readyAt d.fwd.passes d.fwd.dynAt = false) : d.bump false = d.sb (Reg.fwdStat 0) 3 true := if_pos h

theorem bump_sgen_early (h : readyAt d.fwd.passes d.fwd.statAt = false) : d.bump true = d.sb (Reg.fwdStat 0) 3 true := if_pos h

theorem bump_dgen_ready (h : readyAt d.fwd.passes d.fwd.dynAt = true)
    (he : e = (d.scanRoll.sf Reg.fwdClr 8 4 (d.gf Reg.fwdClr 8 4 + 1)).flashClear false) :
    d.bump false = ({ e with fwd := { e.fwd with dynAt := some e.bumpDue } } : Dev).syncReady := by
  simp only [Dev.bump, h, Bool.false_eq_true, Bool.true_eq_false, if_false, ← he]

theorem bump_sgen_ready (h : readyAt d.fwd.passes d.fwd.statAt = true)
    (he : e = (d.scanRoll.sf Reg.fwdClr 12 4 (d.gf Reg.fwdClr 12 4 + 1)).flashClear true) :
    d.bump true = ({ e with fwd := { e.fwd with statAt := some e.bumpDue } } : Dev).syncReady := by
  simp only [Dev.bump, h, Bool.true_eq_false, if_true, if_false, ← he]

end

/-! ### Table commands -/

section
variable {d e : Dev} {op : Nat}

theorem tblCmdWord_fields (h1 : 1 ≤ op) (h4 : op ≤ 4) : inRangeAt Reg.fwdTblCmd (tblCmdWord op) = true ∧ getB (tblCmdWord op) 63 = true
    ∧ getF (tblCmdWord op) 0 3 = op := by
  interval_cases op <;> exact ⟨rfl, rfl, rfl⟩

section
variable (h1 : 1 ≤ op) (h4 : op ≤ 4) (he : e = d.wrReg Reg.fwdTblCmd (tblCmdWord op))
include h1 h4 he

theorem wrTblCmd_busy (h : e.fwd.tbl ≠ none) : d.wrTblCmd (tblCmdWord op) = e.sb Reg.fwdTblStat 2 true := by
  obtain ⟨hr, hgo, -⟩ := tblCmdWord_fields h1 h4
  simp only [Dev.wrTblCmd, hr, if_true, hgo, Bool.true_eq_false, if_false, ← he, Option.isSome_iff_ne_none.mpr h]

theorem wrTblCmd_begins (h : e.fwd.tbl = none) : d.wrTblCmd (tblCmdWord op) = e.tblGo op := by
  obtain ⟨hr, hgo, hop⟩ := tblCmdWord_fields h1 h4
  simp only [Dev.wrTblCmd, hr, if_true, hgo, Bool.true_eq_false, Bool.false_eq_true, if_false, ← he, h, Option.isSome_none, hop]

end

/-- A command acts at once, and shows its result within its latency of 0.5 to 20 µs. -/
theorem tblGo_run {x : Nat × Option (Word × Nat × Bool)} (hr : d.useFree.tblRun op false = (x, e)) : ∃ due : Nat,
    d.tim.up + usU / 2 ≤ due ∧ due ≤ d.tim.up + 20 * usU
    ∧ d.tblGo op = { (e.sb Reg.fwdTblStat 0 true) with fwd := { e.fwd with tbl := some ⟨due, x.1, x.2⟩ } } := by
  refine ⟨d.tim.up + usU / 2 + Config.pick d.free (20 * usU - usU / 2) % (20 * usU - usU / 2 + 1), by omega, ?_, ?_⟩
  · have hlt : Config.pick d.free (20 * usU - usU / 2) % (20 * usU - usU / 2 + 1) < 20 * usU - usU / 2 + 1 := Nat.mod_lt _ (Nat.succ_pos _)
    omega
  · simp only [Dev.tblGo, hr, sb_fwd]

theorem wrReg_fwd {a : Nat} {v : Word} (h : inRangeAt a v = true) : (d.wrReg a v).fwd = d.fwd := by
  unfold Dev.wrReg
  split
  next => rfl
  next r ix hr =>
    simp only [inRangeAt, hr] at h
    rw [if_pos h, wr_fwd]

end

section
variable {d e : Dev} {key i : Nat} (hout : d.mainOut = false) (hkey : key = d.gf Reg.fwdTblKey 0 60)
include hout hkey

section
variable (hf : d.mainFind 0 key = (some i, e))
include hf

theorem tblRun_insert_present (hd : eDest (d.rd Reg.fwdTblData) ≤ destMax (eDkind (d.rd Reg.fwdTblData))) :
    d.tblRun 1 false = ((0, none), (e.scanRoll.useFree.setMain i (BitVec.ofNat 64 (key + fld 60 1 1 + fld 61 1 1))
      (BitVec.ofNat 64 (getF (d.rd Reg.fwdTblData) 0 38 + fld 38 16 (getF (Config.freeWord d.free) 38 16)
        + fld 54 4 (d.gf Reg.fwdClr 12 4)))).cacheEvict key [0, 1, 2, 3]) := by
  have hg : d.fwdGen true = d.gf Reg.fwdClr 12 4 := rfl
  simp only [Dev.tblRun, ← hkey, Dev.tblInsert, hout, Bool.false_eq_true, if_false, Nat.not_lt.mpr hd, hf, Option.orElse_some, hg]

theorem tblRun_delete_present : d.tblRun 2 false = ((0, none), (e.mainInvalid i).cacheEvict key [0, 1, 2, 3]) := by
  simp only [Dev.tblRun, ← hkey, Dev.tblDelete, hout, Bool.false_eq_true, if_false, hf]

theorem tblRun_lookup_present :
    d.tblRun 3 false = ((0, some (e.mw i 1, getF (e.mw i 0) 62 2, getB (e.mw i 0) 61)), e) := by
  simp only [Dev.tblRun, ← hkey, Dev.tblLookup, hout, Bool.false_eq_true, if_false, hf]

end

theorem tblRun_absent (hf : d.mainFind 0 key = (none, e)) :
    d.tblRun 2 false = ((1, none), e.cacheEvict key [0, 1, 2, 3]) ∧ d.tblRun 3 false = ((1, none), e) := by
  simp only [Dev.tblRun, ← hkey, Dev.tblDelete, Dev.tblLookup, hout, Bool.false_eq_true, if_false, hf, and_self]

end

theorem tblRun_out {d : Dev} (h : d.mainOut = true) :
    d.tblRun 1 false = ((3, none), d) ∧ d.tblRun 2 false = ((3, none), d) ∧ d.tblRun 3 false = ((3, none), d) := by
  simp only [Dev.tblRun, Dev.tblInsert, Dev.tblDelete, Dev.tblLookup, h, if_true, and_self]

section
variable {d e : Dev} {x : TblRun} (hx : d.fwd.tbl = some x) (hdue : x.due ≤ d.tim.up)
  (he : e = { (((d.sb Reg.fwdTblStat 1 true).sf Reg.fwdTblStat 4 3 x.result).sb Reg.fwdTblStat 0 false) with fwd := { d.fwd with tbl := none } })
include hx hdue he

theorem tblSync_ended (hl : x.look = none) : d.tblSync = e := by
  simp only [Dev.tblSync, hx, hdue, if_true, Dev.tblDone, hl, sb_fwd, sf_fwd, he]

theorem tblSync_looked {w : Word} {own : Nat} {st : Bool} (hl : x.look = some (w, own, st)) :
    d.tblSync = ((e.sf Reg.fwdTblStat 8 2 own).sb Reg.fwdTblStat 10 st).wr Reg.fwdTblData w := by
  simp only [Dev.tblSync, hx, hdue, if_true, Dev.tblDone, hl, sb_fwd, sf_fwd, he]

end

/-! ### Direct writes -/

/-- A direct write stores its word, and moves nothing but the forwarding engine's positions. -/
theorem fwdWrite_stores (d : Dev) (o : Nat) (v : Word) : ∃ t : Fwd, d.fwdWrite o v = ({ d with fwd := t } : Dev).stW (bar4Addr o) v := by
  obtain ⟨x, hx, hd⟩ := fwdWrite_unrolled d o v
  have he : ({ d with fwd := x.fwd } : Dev) = x := by
    rw [← hd]
    rfl
  exact ⟨x.fwd, by rw [he, hx]⟩

/-! ### The Try-square -/

section
variable {d e : Dev} (hup : d.islandOk 2 = true)
include hup

theorem tsqWordVisit_paused (hw : d.gb Reg.smonStat 0 = true) : tsqWordVisit d = d.sb Reg.fwdTsqStat 1 true := by
  simp only [tsqWordVisit, hup, Bool.true_eq_false, if_false, hw, if_true]

theorem tsqWordVisit_begins (hw : d.gb Reg.smonStat 0 = false) (he : e = d.sb Reg.fwdTsqStat 1 false) (hr : e.fwd.tsqReads = [])
    (hc : e.fwd.tsqCfg = []) (hen : e.gb Reg.fwdTsqCtl 0 = true) (hreg : e.gf Reg.fwdTsqCtl 16 8 ≠ 0) : tsqWordVisit d
    = (({ e with fwd := { e.fwd with tsqCfg := e.tsqRegs, tsqRegion := 0, tsqIdx := 0 } } : Dev).sb Reg.fwdTsqStat 0 true).tsqVisit := by
  have hb : e.tsqBegin = ({ e with fwd := { e.fwd with tsqCfg := e.tsqRegs, tsqRegion := 0, tsqIdx := 0 } } : Dev).sb Reg.fwdTsqStat 0 true := rfl
  simp only [tsqWordVisit, hup, Bool.true_eq_false, if_false, hw, Bool.false_eq_true, ← he, hr, List.find?_nil, List.head?_nil, Option.bind_none,
    hc, ne_eq, not_true, hen, hreg, not_false_eq_true, and_self, if_true, hb]

end

section
variable {d : Dev} {ws : List Word} {r : TsqRead} {t : List TsqRead} (hr : d.fwd.tsqReads = r :: t) (hs : r.sent = true) (hg : r.got = none)
include hr hs hg

theorem tsqCompare_paused (hw : d.gb Reg.smonStat 0 = true) :
    tsqCompare ws d = { d with fwd := { d.fwd with tsqReads := { r with got := some ws } :: t } } := by
  have hno : ¬ (r.sent = false ∨ r.got.isSome = true) := by simp [hs, hg]
  simp only [tsqCompare, hr, if_neg hno, hw, if_true]

theorem tsqCompare_image {e : Dev} {x : Word} (hw : d.gb Reg.smonStat 0 = false) (he : e = { d with fwd := { d.fwd with tsqReads := t } })
    (hl : e.tsqList r.region = false) (hx : x = ws.getD 0 0) : tsqCompare ws d = (e.tsqImage r x).tsqEndCheck := by
  have hno : ¬ (r.sent = false ∨ r.got.isSome = true) := by simp [hs, hg]
  simp only [tsqCompare, hr, if_neg hno, hw, Bool.false_eq_true, if_false, Dev.tsqJudge, List.tail_cons, ← he, hl, ← hx]

end

section
variable {d : Dev} {r : TsqRead} {ofs : Nat} {m x : Word} (hofs : ofs = d.tsqOfs r.region r.idx) (hm : m = d.tsqC r.region 2)
include hm

theorem tsqImage_equal (hb : r.bad = false) (h : r.word &&& m = x &&& m) : d.tsqImage r x = d := by
  simp only [Dev.tsqImage, ← hm, hb, h, and_self, if_true]

variable (h : r.bad = true ∨ r.word &&& m ≠ x &&& m)
include hofs h

theorem tsqImage_reported (hrep : getB (d.fwd.tsqCfg.getD 0 0) 1 = false) : d.tsqImage r x = d.tsqMiss r.region ofs false := by
  have hno : ¬ (r.bad = false ∧ r.word &&& m = x &&& m) := fun ⟨hb, he⟩ => h.elim (by simp [hb]) (· he)
  simp only [Dev.tsqImage, ← hm, if_neg hno, ← hofs, hrep, Bool.false_eq_true, if_false]

theorem tsqImage_repaired (hrep : getB (d.fwd.tsqCfg.getD 0 0) 1 = true) (htrie : 0x4000000 ≤ ofs) (hw : d.ldW (bar4Addr ofs) = r.word) :
    d.tsqImage r x = (d.stW (bar4Addr ofs) x).tsqMiss r.region ofs true := by
  have hno : ¬ (r.bad = false ∧ r.word &&& m = x &&& m) := fun ⟨hb, he⟩ => h.elim (by simp [hb]) (· he)
  have hfix : d.tsqRepair ofs r.word x = (true, d.stW (bar4Addr ofs) x) := by
    simp only [Dev.tsqRepair, hw, ne_eq, not_true, if_false, htrie, if_true]
  simp only [Dev.tsqImage, ← hm, if_neg hno, ← hofs, hrep, if_true, hfix]

end

/-- A mismatch is counted, and latched with its place where none is latched yet. -/
theorem tsqMiss_latches (d : Dev) {k ofs : Nat} (rep : Bool) (hk : k < 8) (hofs : ofs < 2 ^ 30) : ∃ e : Dev, d.tsqMiss k ofs rep = e.raise 10 0 0x12 ofs
    ∧ e.rd (Reg.fwdTsqMismCnt 0) = BitVec.ofNat 64 ((d.rd (Reg.fwdTsqMismCnt 0)).toNat + 1)
    ∧ (d.gb Reg.fwdTsqMiss 63 = true → e.rd Reg.fwdTsqMiss = d.rd Reg.fwdTsqMiss)
    ∧ (d.gb Reg.fwdTsqMiss 63 = false → e.rd Reg.fwdTsqMiss = BitVec.ofNat 64 (ofs + k * 2 ^ 30 + bit rep * 2 ^ 33 + 2 ^ 63)) := by
  have hword : BitVec.ofNat 64 (fld 0 30 ofs + fld 30 3 k + fld 33 1 (bit rep) + fld 63 1 1)
      = BitVec.ofNat 64 (ofs + k * 2 ^ 30 + bit rep * 2 ^ 33 + 2 ^ 63) := by
    have hbit : bit rep < 2 ^ 1 := by cases rep <;> decide
    rw [fld_of_lt hofs, fld_of_lt (show k < 2 ^ 3 from hk), fld_of_lt hbit, fld_of_lt (by decide : 1 < 2 ^ 1), Nat.pow_zero, Nat.mul_one, Nat.one_mul]
  obtain ⟨e, he, hcnt, hmiss⟩ : ∃ e : Dev, e = (if rep then (d.inc (Reg.fwdTsqMismCnt 0)).inc (Reg.fwdTsqRepairCnt 0) else d.inc (Reg.fwdTsqMismCnt 0))
      ∧ e.rd (Reg.fwdTsqMismCnt 0) = BitVec.ofNat 64 ((d.rd (Reg.fwdTsqMismCnt 0)).toNat + 1) ∧ e.rd Reg.fwdTsqMiss = d.rd Reg.fwdTsqMiss := by
    refine ⟨_, rfl, ?_⟩
    cases rep
    · exact ⟨rd_inc_self d _, rd_inc_ne d (by decide)⟩
    · exact ⟨(rd_inc_ne _ (by decide)).trans (rd_inc_self d _), (rd_inc_ne _ (by decide)).trans (rd_inc_ne d (by decide))⟩
  have hgb : e.gb Reg.fwdTsqMiss 63 = d.gb Reg.fwdTsqMiss 63 := by rw [Dev.gb, Dev.gb, hmiss]
  by_cases hl : d.gb Reg.fwdTsqMiss 63 = true
  · refine ⟨e, ?_, hcnt, fun _ => hmiss, fun h => absurd (hl.symm.trans h) (by decide)⟩
    simp only [Dev.tsqMiss, ← he, hgb, hl, if_true]
  · refine ⟨e.wr Reg.fwdTsqMiss (BitVec.ofNat 64 (ofs + k * 2 ^ 30 + bit rep * 2 ^ 33 + 2 ^ 63)), ?_, ?_, fun h => absurd h hl, fun _ => rd_wr_self e _ _⟩
    · simp only [Dev.tsqMiss, ← he, hgb, hl, Bool.false_eq_true, if_false, hword]
    · rw [rd_wr_ne _ _ (by decide), hcnt]

/-- Settles O39: bumps, table commands from their GO to their result, direct writes, and the visits and judgements of the Try-square. -/
theorem tablesAndTrySquare : Obligations.TablesAndTrySquare := by
  refine ⟨⟨fun s r v d ht hv => ?dgen, fun s r v d ht hv => ?sgen, fun s r op c d ht hc hd => ?commands,
      fun d e key i hout hkey hf => ⟨tblRun_insert_present hout hkey hf, tblRun_delete_present hout hkey hf, tblRun_lookup_present hout hkey hf⟩,
      fun d e key => tblRun_absent, fun d => ⟨rfl, tblRun_out⟩, fun d e x hx hdue he => ⟨tblSync_ended hx hdue he, fun w own st => tblSync_looked hx hdue he⟩,
      fun s r w v ht => ⟨?direct, stW_frame s.dev _ v⟩, fun s r w v ht => ⟨?trie, stW_frame s.dev _ v⟩⟩,
    fun s hup hw => ?paused, fun s d hup hw hd hr hc hen hreg => ?begins,
    fun s ws r t d ofs m x hr hs => ⟨fun hw hg => ?kept, fun hw hg hd hl hx hofs hm => ?judged⟩, fun d k ofs rep => tsqMiss_latches d rep⟩
  case dgen =>
    have hex : exec (.dgenBump r v) s = .next { s with dev := s.dev.bump false } := by
      rw [← wrFwdClr_dgen hv]
      exact onDev_gate_of_takes (fun d => d.wrFwdClr (setB v 0 true)) ht
    rw [hex]
    exact ⟨fun h => by rw [bump_dgen_early h], fun h hd => by rw [bump_dgen_ready h hd]⟩
  case sgen =>
    have hex : exec (.sgenBump r v) s = .next { s with dev := s.dev.bump true } := by
      rw [← wrFwdClr_sgen hv]
      exact onDev_gate_of_takes (fun d => d.wrFwdClr (setB v 1 true)) ht
    rw [hex]
    exact ⟨fun h => by rw [bump_sgen_early h], fun h hd => by rw [bump_sgen_ready h hd]⟩
  case commands =>
    have hex : exec c s = .next { s with dev := s.dev.tblSync.wrTblCmd (tblCmdWord op) } ∧ 1 ≤ op ∧ op ≤ 4 := by
      simp only [List.mem_cons, Prod.mk.injEq, List.not_mem_nil, or_false] at hc
      rcases hc with ⟨rfl, rfl⟩ | ⟨rfl, rfl⟩ | ⟨rfl, rfl⟩ | ⟨rfl, rfl⟩ <;>
        exact ⟨onDev_gate_of_takes (fun d => d.tblSync.wrTblCmd (tblCmdWord _)) ht, by decide, by decide⟩
    obtain ⟨hex, h1, h4⟩ := hex
    have hfwd : d.fwd = s.dev.tblSync.fwd := by rw [hd, wrReg_fwd (tblCmdWord_fields h1 h4).1]
    rw [hex]
    refine ⟨fun h => by rw [wrTblCmd_busy h1 h4 hd (hfwd ▸ h)], fun x e h hrun => ?_⟩
    obtain ⟨due, hlo, hhi, hgo⟩ := tblGo_run hrun
    exact ⟨due, hlo, hhi, by rw [wrTblCmd_begins h1 h4 hd (hfwd ▸ h), hgo]⟩
  case direct =>
    obtain ⟨hok, hrun, hun⟩ := ht
    obtain ⟨t, ht⟩ := fwdWrite_stores s.dev (fwdOff w) v
    refine ⟨t, ?_⟩
    rw [← ht, ← gate4_open (off := fwdOff w) (fun x => x.fwdWrite (fwdOff w) v) hok hrun hun]
    exact onDev_next (fun d => d.gate4 r (fwdOff w) (d.fwdWordIsl w) 10 (fun x => x.fwdWrite (fwdOff w) v)) s
  case trie =>
    obtain ⟨hok, hrun, hun⟩ := ht
    rw [← fwdWrite_of_trie, ← gate4_open (off := trieOff w) (fun x => x.fwdWrite (trieOff w) v) hok hrun hun]
    exact onDev_next (fun d => d.gate4 r (trieOff w) 2 10 (fun x => x.fwdWrite (trieOff w) v)) s
  case paused =>
    rw [← tsqWordVisit_paused hup hw]
    exact onDev_next tsqWordVisit s
  case begins =>
    rw [← tsqWordVisit_begins hup hw hd hr hc hen hreg]
    exact onDev_next tsqWordVisit s
  case kept =>
    rw [← tsqCompare_paused hr hs hg hw]
    exact onDev_next (tsqCompare ws.toList) s
  case judged =>
    have hex : exec (.tsqCompare ws) s = .next { s with dev := (d.tsqImage r x).tsqEndCheck } := by
      rw [← tsqCompare_image hr hs hg hw hd hl hx]
      exact onDev_next (tsqCompare ws.toList) s
    rw [hex]
    exact ⟨fun hb h => by rw [tsqImage_equal hm hb h], fun h hrep => by rw [tsqImage_reported hofs hm h hrep],
      fun h hrep htrie hword => by rw [tsqImage_repaired hofs hm h hrep htrie hword]⟩

end Sys2Proof.Machine
end

section
/-! Doorbells, the reads of queue entries, and the commands of the entries, chapter 10. -/

namespace Sys2Proof.Machine

/-! ### Doorbells -/

theorem bar2Ok_of_up {d : Dev} {f : Nat} (hi : d.islandOk 33 = true) (hs : d.fnStopped f = false) : d.bar2Ok f = true := by
  simp only [Dev.bar2Ok, hi, hs, Bool.not_false, Bool.and_true]

section
variable {d : Dev} {f slot v q : Nat} (hb : d.bar2Ok f = true) (hg : d.globalOf f slot = some q)
include hb hg

theorem sqDoorbell_of_sq {x : Sq} (hx : d.sq q = some x) : sqDoorbell f slot v d
    = if x.size ≤ v then d.doorbellBad f slot
      else (d.modSq q (fun y => { y with tail := (if x.kind = 2 then x.claimed else x.fetched)
        + (v + x.size - (if x.kind = 2 then x.claimed else x.fetched) % x.size) % x.size })).pumpSq q := by
  simp only [sqDoorbell, hb, hg, hx, Bool.true_eq_false, if_false, Option.bind_some, Option.map_some]

theorem cqDoorbell_of_cq {x : Cq} (hx : d.cq q = some x) : cqDoorbell f slot v d
    = if x.size ≤ v ∨ x.tail - x.head < (v + x.size - x.head % x.size) % x.size then d.doorbellBad f slot
      else ((d.modCq q (fun y => { y with head := y.head + (v + x.size - x.head % x.size) % x.size })).drainCq q).pumpTrackers := by
  simp only [cqDoorbell, hb, hg, hx, Bool.true_eq_false, if_false, Option.bind_some, Option.map_some]

end

/-- A doorbell that is ignored is counted, and the queue of a physical function or of the Bench is listed. -/
theorem doorbellBad_counts (d : Dev) (f slot : Nat) :
    ∃ e : Dev, d.doorbellBad f slot = e.inc Reg.hqDbErrCnt ∧ ((f < 4 ∨ f = benchFn) → slot ∈ e.hq.dbErr) := by
  refine ⟨_, rfl, fun h => ?_⟩
  have h' : f < 4 ∨ f = benchFn ∨ slot < (d.fn f).quota := h.elim .inl fun hf => .inr (.inl hf)
  simp only [if_pos h, if_pos h', Dev.syncQ, wr_hq]
  split
  · next hc => exact List.contains_iff_mem.mp hc
  · exact List.mem_append_right _ (List.mem_singleton.mpr rfl)

/-! ### Entries read -/

section
variable {d d1 : Dev} {q : Nat} {x : Sq} {ws : List Word} {e : Sqe} (hx : d.sq q = some x) (hrd : x.rd = 2) (hf : x.fn ≠ benchFn) (hk : x.kind ≠ 2)
  (he : e = { n := x.fetched, words := ws })
  (hd : d1 = d.modSq q (fun y => { y with flight := y.flight ++ [e], fetched := x.fetched + 1, rd := 0 }))
include hx hrd hf hk he hd

/-- The read of an entry by a function of the host, of a queue that the calendar does not claim from: the entry joins those in flight and is judged. -/
theorem sqEntryFetched_takes : sqEntryFetched q ws d
    = (if getB (ws.getD 0 0) 8 ≠ (phaseOf x.fetched x.log == 1) then (d1.inc Reg.hqPhaseErrCnt).endSqe q x.fetched 5 0 0
       else if d.formatBad x.kind e = true then d1.endSqe q x.fetched 4 0 0 else d1).pumpSq q := by
  have hm : d.memOk x.fn (x.slot x.fetched) 64 = true := by simp only [Dev.memOk, bne_iff_ne.mpr hf, Bool.true_or]
  subst he hd
  simp only [sqEntryFetched, hx, hrd, hm, Bool.true_eq_false, and_false, if_false, if_true, Dev.entryWords, if_neg hf, Dev.withCopies, if_neg hk,
    Dev.takeEntry, Sqe.w]

end

/-- Settles O40: a doorbell in range moves its pointer, one out of range is counted, and an entry read joins those in flight and is judged. -/
theorem doorbellsAndEntriesRead : Obligations.DoorbellsAndEntriesRead := by
  unfold Obligations.DoorbellsAndEntriesRead
  refine ⟨?_, ?_, doorbellBad_counts, ?_⟩
  · intro s f slot v q x hi hs hg hx
    have hex : exec (.sqTailDoorbell f slot v) s = .next { s with dev := sqDoorbell f slot.toNat v.toNat s.dev } := onDev_next _ s
    rw [hex, sqDoorbell_of_sq (bar2Ok_of_up hi hs) hg hx]
    exact ⟨fun h hh hv => by rw [if_neg (Nat.not_le.mpr hv), ← hh], fun hv => by rw [if_pos hv]⟩
  · intro s f slot v q rel x hi hs hg hx hrel
    have hex : exec (.cqHeadDoorbell f slot v) s = .next { s with dev := cqDoorbell f slot.toNat v.toNat s.dev } := onDev_next _ s
    rw [hex, cqDoorbell_of_cq (bar2Ok_of_up hi hs) hg hx, ← hrel]
    exact ⟨fun hv hr => by rw [if_neg (by omega)], fun hv => by rw [if_pos hv]⟩
  · intro s q ws x e d hx hrd hf hk he hd
    have hex : exec (.sqEntryFetched q ws) s = .next { s with dev := sqEntryFetched q.toNat ws.toList s.dev } := onDev_next _ s
    rw [hex, sqEntryFetched_takes hx hrd hf hk he hd]
    exact ⟨fun hp => by rw [if_pos hp], fun hp hb => by rw [if_neg (not_not.mpr hp), if_pos hb],
      fun hp hb => by rw [if_neg (not_not.mpr hp), if_neg (Bool.eq_false_iff.mp hb)]⟩

end Sys2Proof.Machine
end

section
/-! The commands of queue entries, from their start to their retirement, chapter 10 (R316–R323, R336, R337). -/

namespace Sys2Proof.Machine

section
variable {d d1 d2 : Dev} {q opc : Nat} {head : List Byte} {e e1 : Sqe} {x : Sq}

theorem runNop_of_next (h : d.nextEntry q 0 = some e) : runNop q d = d.endSqe q e.n 0 0 0 := by
  simp only [runNop, h]

theorem runRxBuf_of_next (h : d.nextEntry q 0x10 = some e) : runRxBuf q d = d.modSqe q e.n (fun y => { y with run := true }) := by
  simp only [runRxBuf, h]

/-! ### Frames read -/

theorem runSend_barred (h : d.nextEntry q opc = some e) (hd : d1 = d.modSqe q e.n (fun y => { y with run := true })) (hs : e.strV = true)
    (ht : d1.sType e.stream ≠ 1) (hb : d1.strBar e.stream none ≠ .none) :
    runSend q opc head d = (d1.countBar (d1.strBar e.stream none)).endSqe q e.n 8 0 0 := by
  simp only [runSend, h, ← hd, hs, ht, and_false, if_false, if_true, hb]

theorem runSend_streamless (h : d.nextEntry q opc = some e) (hd : d1 = d.modSqe q e.n (fun y => { y with run := true })) (hs : e.strV = false) :
    runSend q opc head d = d1.readFrame q e.n head := by
  simp only [runSend, h, ← hd, hs, Bool.false_eq_true, false_and, if_false, if_true]

theorem runSendSched_of_next (h : d.nextEntry q 3 = some e) (hd : d1 = d.modSqe q e.n (fun y => { y with run := true })) :
    runSendSched q d = d1.readFrame q e.n [] := by
  simp only [runSendSched, h, ← hd]

/-- The frame of an entry of a function of the host is read whole once its address is translated. -/
theorem readFrame_whole {n : Nat} (hx : d1.sq q = some x) (he : d1.sqe q n = some e1) (hst : e1.status = none) (hrd : e1.reading = false)
    (hr : d1.reach x.fn = true) (hf : x.fn ≠ benchFn) (hc : d1.cutsThrough e1 = false)
    (ht : d1.xlate x.fn (.frame q n) x.pasid e1.addr e1.len false = (true, d2)) :
    d1.readFrame q n head
      = (d2.hostReads x.fn x.pasid e1.addr e1.len).modSqe q n (fun y => { y with reading := true, cut := false }) := by
  have hno : ¬ (e1.status.isSome = true ∨ e1.reading = true ∨ d1.reach x.fn = false) := by simp [hst, hrd, hr]
  have hm : d1.memOk x.fn e1.addr e1.len = true := by simp only [Dev.memOk, bne_iff_ne.mpr hf, Bool.true_or]
  simp only [Dev.readFrame, hx, he, if_neg hno, hm, Bool.true_eq_false, if_false, hc, Bool.false_eq_true, ht, if_neg hf]

theorem hostFrameFetched_placed {n : Nat} {l : List Byte} (hx : d.sq q = some x) (he : d.sqe q n = some e) (hrd : e.reading = true)
    (hst : e.status = none) (hc : e.cut = false) (ho : e.opc ≠ 3) (hf : x.fn ≠ benchFn) :
    hostFrameFetched q n l d
      = (d.modSqe q n (fun y => { y with reading := false })).placeFrame q e (e.toFrame q (fitTo e.len l) true) := by
  simp only [hostFrameFetched, hx, he, hrd, hst, Option.isSome_none, Bool.true_eq_false, Bool.false_eq_true, or_self, if_false, if_neg hf, hc, if_neg ho]

theorem hostReadError_ends {b : BitVec 16} {n : Nat} {why : HostErr} (hx : d.sq b.toNat = some x) (he : d.sqe b.toNat n = some e) (hrd : e.reading = true)
    (hd : d1 = d.logErr x.fn why) (he1 : d1.sqe b.toNat n = some e1) (hst : e1.status = none) (hc : e1.cut = false) :
    hostReadError (.queue b) ⟨some n, why⟩ d = d1.endSqe b.toNat n 7 0 0 := by
  simp only [hostReadError, hx, he, hrd, if_true, ← hd, Dev.dataFailed, he1, hst, Option.isSome_none, Bool.false_eq_true, if_false, hc]

end

/-! ### Errors of reads -/

theorem emit_fn (d : Dev) (o : Out) (f : Nat) : (d.emit o).fn f = d.fn f := rfl

theorem fn_modFn_self (d : Dev) (f : Nat) (g : Fn → Fn) : (d.modFn f g).fn f = g (d.fn f) := getD_setD_self ..

theorem logErr_shows (d : Dev) {f : Nat} (hf : f ≠ benchFn) : ((d.logErr f .ur).fn f).masterAbort = true ∧ ((d.logErr f .ca).fn f).targetAbort = true
    ∧ getB ((d.logErr f .poison).fn f).aer 12 = true ∧ getB ((d.logErr f .timeout).fn f).aer 14 = true := by
  have bad (i : Nat) (hi : i < 64) : getB ((if (d.fn f).errEn then (d.modFn f (fun x => { x with aer := setB x.aer i true })).emit (.pcie 7 [ridOf f])
      else d.modFn f (fun x => { x with aer := setB x.aer i true })).fn f).aer i = true := by
    split <;> simp only [emit_fn, fn_modFn_self, getB_setB_self _ true hi]
  simp only [Dev.logErr, if_neg hf]
  exact ⟨by rw [fn_modFn_self], by rw [fn_modFn_self], bad 12 (by decide), bad 14 (by decide)⟩

/-! ### Retirement -/

section
variable {d : Dev} {q : Nat} {x : Sq} {e : Sqe} {t : List Sqe} {c : Cq} (hx : d.sq q = some x) (hfl : x.flight = e :: t) (hst : e.status = some 0)
  (hr : d.reach x.fn = true) (hc : d.cq x.cq = some c) (hd3 : (d.fn x.fn).d3 = false) (hh : c.held = false)
include hx hfl hst hr hc hd3 hh

theorem retire_posts_none (hp : e.posts x = false) : d.retire q = d.dropHead q e := by
  simp only [Dev.retire, hx, hfl, List.head?_cons, hst, hr, hc, hd3, hh, hp, Option.isNone_some, Bool.false_eq_true, Bool.true_eq_false, or_self,
    if_false]

theorem retire_full (hp : e.posts x = true) (hf : c.full = true) : d.retire q = (d.overflow x.cq).waitCq x.cq q := by
  simp only [Dev.retire, hx, hfl, List.head?_cons, hst, hr, hc, hd3, hh, hp, hf, Option.isNone_some, Bool.false_eq_true, Bool.true_eq_false, or_self,
    if_false, if_true]

end

/-- Settles O41: each command of an entry, what a frame read leaves, how a read error ends its entry, and the retirement of a finished oldest entry. -/
theorem entryCommandsRun : Obligations.EntryCommandsRun := by
  unfold Obligations.EntryCommandsRun
  refine ⟨?_, ?_, ?_, ?_, ?_, ?_, fun d f hf => logErr_shows d hf, ?_⟩
  · intro s q e h
    rw [← runNop_of_next h]
    exact onDev_next _ s
  · intro s q e h
    rw [← runRxBuf_of_next h]
    exact onDev_next _ s
  · intro s q head opc c e d d1 x e1 hc h hd
    have hex : exec c s = .next { s with dev := runSend q.toNat opc head s.dev } := by
      simp only [List.mem_cons, Prod.mk.injEq, List.not_mem_nil, or_false] at hc
      rcases hc with ⟨rfl, rfl⟩ | ⟨rfl, rfl⟩ <;> exact onDev_next _ s
    rw [hex]
    exact ⟨fun hs ht hb => by rw [runSend_barred h hd hs ht hb],
      fun hs hx he hst hrd hr hf hcut ht => by rw [runSend_streamless h hd hs, readFrame_whole hx he hst hrd hr hf hcut ht]⟩
  · intro s q e d d1 x e1 h hd hx he hst hrd hr hf hcut ht
    rw [← readFrame_whole (head := []) hx he hst hrd hr hf hcut ht, ← runSendSched_of_next h hd]
    exact onDev_next _ s
  · intro s q n l x e hx he hrd hst hcut ho hf
    have h := hostFrameFetched_placed (l := l) hx he hrd hst hcut ho hf
    rw [fitTo] at h
    rw [← h]
    exact onDev_next _ s
  · intro s q n x e e1 why d hx he hrd hd he1 hst hcut
    rw [← hostReadError_ends hx he hrd hd he1 hst hcut]
    exact onDev_next _ s
  · intro s q x e t c hx hfl hst hr hc hd3 hh
    have hex : exec (.entryRetire q) s = .next { s with dev := ((s.dev.retire q.toNat).pumpSq q.toNat).pumpTrackers } := onDev_next _ s
    rw [hex]
    exact ⟨fun hp => by rw [retire_posts_none hx hfl hst hr hc hd3 hh hp, Dev.dropHead],
      fun hp hf => by rw [retire_full hx hfl hst hr hc hd3 hh hp hf]⟩

end Sys2Proof.Machine
end

section
/-! Interrupts of the queues, the power and reset states of a function, and its identity, chapter 10 (R2, R310, R316–R338). -/

namespace Sys2Proof.Machine

/-! ### The writeback word, and what goes to the host -/

section
variable {d d0 d1 : Dev} {q : Nat} {x : Sq}

theorem writebackUpdate_writes (hx : d.sq q = some x) (hw : x.wb ≠ 0) (ho : x.wbOwed = true) (hr : d.reach x.fn = true) (hd3 : (d.fn x.fn).d3 = false)
    (hf : x.fn ≠ benchFn) (hm : x.msi = []) (hn : x.wbAt = none → d0 = d) (hs : ∀ t, x.wbAt = some t → d0 = d.waitUp (t + usU))
    (ht : d0.xlate x.fn (.wback q) x.pasid x.wb 8 true = (true, d1)) :
    writebackUpdate q d = (d1.hostWrite x.fn x.pasid x.wb (leBytes 8 (x.done % x.size))).modSq q
      (fun y => { y with wbOwed := false, wbAt := some d1.tim.up, msi := [] }) := by
  have hmem (y : Dev) : y.memOk x.fn x.wb 8 = true := by simp only [Dev.memOk, bne_iff_ne.mpr hf, Bool.true_or]
  cases ha : x.wbAt with
  | none =>
    obtain rfl := hn ha
    simp only [writebackUpdate, hx, hw, ho, hr, hd3, ha, hmem, ht, Dev.putWback, hm, Dev.memWrite, if_neg hf, List.foldl_nil, Bool.true_eq_false,
      Bool.false_eq_true, or_self, if_false]
  | some t =>
    rw [hs t ha] at ht
    simp only [writebackUpdate, hx, hw, ho, hr, hd3, ha, hmem, ht, Dev.putWback, hm, Dev.memWrite, if_neg hf, List.foldl_nil, Bool.true_eq_false,
      Bool.false_eq_true, or_self, if_false]

end

section
variable (d : Dev) {f : Nat} (pasid : Option Nat) (a len : Nat)

theorem hostRead_untranslated (h : (d.fn f).ats = false) : d.hostRead f pasid a len = d.emit (.hostRead (ridOf f) pasid (.untranslated a) len) := by
  simp only [Dev.hostRead, Dev.hostAddr, h, Bool.false_eq_true, if_false]

theorem hostRead_translated {e : AtcEntry} (h : (d.fn f).ats = true) (he : d.xlt.atc.find? (fun e => e.grants (ridOf f) pasid a false) = some e) :
    d.hostRead f pasid a len = d.emit (.hostRead (ridOf f) pasid (.translated (e.phys + (a - e.base))) len) := by
  simp only [Dev.hostRead, Dev.hostAddr, h, he, if_true]

end

/-! ### Completion interrupts -/

section
variable {d e : Dev} {q : Nat} {c : Cq}

theorem cqTimerExpiry_fires {t : Nat} (hc : d.cq q = some c) (ht : c.timerAt = some t) (hi : c.ien = true) (hu : 0 < c.unrep)
    (he : e = ((d.waitUp t).modCq q (fun x => { x with timerAt := none })).modCq q (fun x => { x with unrep := 0 })) :
    cqTimerExpiry q d = e.fireCq q none := by
  simp only [cqTimerExpiry, hc, ht, hi, hu, and_self, if_true, ← he]

theorem fireCq_none_unowing (hc : d.cq q = some c) (ho : d.owing q = []) : d.fireCq q none = d.fire c.fn c.vec := by
  simp only [Dev.fireCq, hc, Option.bind_none, ho, if_true]

theorem fireCq_none_owing (hc : d.cq q = some c) (ho : d.owing q ≠ []) : d.fireCq q none = d.fireAfter q (d.owing q) := by
  simp only [Dev.fireCq, hc, Option.bind_none, ho, if_false]

end

/-! ### MSI-X -/

section
variable {d : Dev} {f v : Nat}

theorem fire_open (hf : f ≠ benchFn) (ho : (d.fn f).open_ v = true) : d.fire f v = d.emit (.msix f v) := by
  simp only [Dev.fire, if_neg hf, if_pos ho]

theorem fire_closed_pends (hf : f ≠ benchFn) (ho : (d.fn f).open_ v = false) : v ∈ ((d.fire f v).fn f).pba := by
  simp only [Dev.fire, if_neg hf, if_neg (Bool.eq_false_iff.mp ho), fn_modFn_self]
  split
  · next h => exact List.contains_iff_mem.mp h
  · exact List.mem_append_right _ (List.mem_singleton.mpr rfl)

/-- Sending the pending interrupts of a function of which one alone is pending, and open. -/
theorem sendPba_one (hp : (d.fn f).pba = [v]) (ho : (d.fn f).open_ v = true) :
    d.sendPba f = (d.modFn f (fun x => { x with pba := [] })).emit (.msix f v) := by
  simp only [Dev.sendPba, Dev.modFn, hp, List.filter_cons, ho, if_true, List.filter_nil, List.foldl_cons, List.foldl_nil, Bool.not_true,
    Bool.false_eq_true, if_false]

/-- The table of a function with vector `v` unmasked. -/
def Fn.unmask (x : Fn) (v : Nat) : Fn := { x with table := Sparse.put x.table v ((x.vector v).1, setB (x.vector v).2 32 false) }

theorem Fn.vector_unmask (x : Fn) (v : Nat) : getB ((x.unmask v).vector v).2 32 = false := by
  simp only [Fn.unmask, Fn.vector, Sparse.getD, find_put_self, Option.getD_some, getB_setB_self _ _ (by decide : 32 < 64)]

theorem msixUnmask_sends (hp : (d.fn f).pba = [v]) (he : (d.fn f).msixEn = true) (hm : (d.fn f).fnMask = false) (hd : (d.fn f).d3 = false) :
    ∃ e : Dev, msixUnmask f (some v) d = e ∧ (e.fn f).pba = [] ∧ e.out = .msix f v :: d.out ∧ getB ((e.fn f).vector v).2 32 = false := by
  have hfn : (d.modFn f (fun x => x.unmask v)).fn f = (d.fn f).unmask v := fn_modFn_self ..
  have ho : ((d.modFn f (fun x => x.unmask v)).fn f).open_ v = true := by
    simp only [hfn, Fn.open_, Fn.vector_unmask, Bool.not_false, Bool.and_true]
    simp only [Fn.unmask, he, hm, hd, Bool.not_false, Bool.and_true]
  refine ⟨_, rfl, ?_⟩
  have heq : msixUnmask f (some v) d = ((d.modFn f (fun x => x.unmask v)).modFn f (fun x => { x with pba := [] })).emit (.msix f v) :=
    sendPba_one (d := d.modFn f (fun x => x.unmask v)) (by rw [hfn]; exact hp) ho
  rw [heq, emit_fn, fn_modFn_self, hfn]
  exact ⟨rfl, rfl, Fn.vector_unmask ..⟩

end

/-! ### L1 and D3hot -/

section
variable {d e x : Dev} {f : Nat}

theorem l1Request_enters (hl : d.linkL0 = true) (hx : x = d.fireAll.flushMsi) (he : e = x.ptmStop)
    (hm : ∀ y ∈ x.hq.sqs, y.2.fn = benchFn ∨ y.2.msi = []) :
    l1Request false d = { e with hq := { e.hq with link := if e.hq.l12En then .l1sub else .l1 } } := by
  have hno : ¬ (x.hq.sqs.any (fun y => y.2.fn != benchFn && !y.2.msi.isEmpty) = true) := by
    simp only [List.any_eq_true, Bool.and_eq_true, bne_iff_ne, Bool.not_eq_true', not_exists, not_and]
    intro y hy hf
    rw [((hm y hy).resolve_left hf)]
    decide
  simp only [l1Request, hl, Bool.true_eq_false, Bool.false_eq_true, false_and, or_self, if_false, ← hx, if_neg hno, ← he]

theorem l1Request_waits (hl : d.linkL0 = true) (hx : x = d.fireAll.flushMsi) (hm : ∃ y ∈ x.hq.sqs, y.2.fn ≠ benchFn ∧ y.2.msi ≠ []) :
    l1Request false d = x := by
  have hyes : x.hq.sqs.any (fun y => y.2.fn != benchFn && !y.2.msi.isEmpty) = true := by
    obtain ⟨y, hy, hf, hne⟩ := hm
    refine List.any_eq_true.mpr ⟨y, hy, ?_⟩
    rw [bne_iff_ne.mpr hf, List.isEmpty_eq_false_iff.mpr hne]
    rfl
  simp only [l1Request, hl, Bool.true_eq_false, Bool.false_eq_true, false_and, or_self, if_false, ← hx, if_pos hyes]

theorem d3hotEntry_of_lt (hf : f < 1024) (he : e = (d.modFn f (fun x => { x with d3 := true })).syncFn f) :
    d3hotEntry f d = if f = 0 then (e.pmeCheck f).ptmStop else e.pmeCheck f := by
  simp only [d3hotEntry, if_neg (Nat.not_le.mpr hf), ← he]

theorem d3hotExit_queueless (h : (d.fn f).d3 = true) (he : e = ((d.modFn f (fun x => { x with d3 := false })).syncFn f).sendPba f)
    (hc : e.hq.cqs.filter (fun y => y.2.fn == f) = []) (hs : e.hq.sqs.filter (fun y => y.2.fn == f) = []) : d3hotExit f d = e := by
  simp only [d3hotExit, h, Bool.true_eq_false, if_false, ← he, hc, hs, List.foldl_nil]

end

/-! ### Resets of the host side and of a function -/

section
variable {d e : Dev}

/-- A reset of the host side leaves its islands' queues, channels and translations as they are at power-on. -/
theorem resetHost_clears (d : Dev) : d.resetHost.hq = {} ∧ d.resetHost.dma = {} ∧ d.resetHost.xlt = {} := ⟨rfl, rfl, rfl⟩

theorem hotResetEvent_holds (hi : d.islandOk 33 = true) (hp : d.pwrState ≠ 2) (he : e = d.hostReset) : ∃ t : Nat, e.tim.up + msU ≤ t
    ∧ t ≤ e.tim.up + 10 * msU ∧ hotResetEvent d = { e.useFree with pwr := { e.pwr with resetUntil := t, resetAll := false } } := by
  have ht := Nat.mod_lt (Config.pick e.free (10 * msU - msU + 1)) (by decide : 0 < 10 * msU - msU + 1)
  have hms : 10 * msU - msU + msU = 10 * msU := by decide
  refine ⟨e.tim.up + msU + Config.pick e.free (10 * msU - msU + 1) % (10 * msU - msU + 1), by omega, by omega, ?_⟩
  simp only [hotResetEvent, hi, hp, ne_eq, not_false_eq_true, and_self, if_true, Dev.hotReset, ← he, Dev.holdReset]

theorem flr_of_vf {f : Nat} (h4 : 4 ≤ f) (hf : f < 1024) (he : e = (((d.beginFlr [f]).destroyQueues f).forgetRid (ridOf f)).aqStop f) :
    flr f d = ((((((e.aqWr f 2 0x442).aqWr f 0 0).aqWr f 1 0).aqWr f 3 0).modFn f
      (fun x => { first := x.first, quota := x.quota, resetEnd := x.resetEnd, aer := x.aer })).pumpTrackers) := by
  simp only [flr, if_neg (Nat.not_lt.mpr h4), if_pos hf, Dev.flrQueues, if_neg (Nat.not_le.mpr hf), Dev.resetFn, ← he]

theorem resetEnd_foldl_modFn {f t : Nat} (fs : List Nat) (d : Dev) (h : f ∈ fs ∨ (d.fn f).resetEnd = t) :
    ((fs.foldl (fun (x : Dev) g => x.modFn g (fun y => { y with resetEnd := t })) d).fn f).resetEnd = t := by
  induction fs generalizing d with
  | nil => exact h.resolve_left List.not_mem_nil
  | cons g gs ih =>
    refine ih _ ?_
    by_cases hg : f = g
    · exact .inr (by rw [← hg, fn_modFn_self])
    · exact h.imp (fun hm => (List.mem_cons.mp hm).resolve_left hg) (fun hd => by rw [← hd]; exact congrArg Fn.resetEnd (getD_setD_ne _ _ _ _ hg))

theorem beginFlr_ends (d : Dev) {fs : List Nat} {f : Nat} (h : f ∈ fs) : d.tim.up ≤ ((d.beginFlr fs).fn f).resetEnd
    ∧ ((d.beginFlr fs).fn f).resetEnd ≤ d.tim.up + 10 * msU := by
  have ht := Nat.mod_lt (Config.freeWord d.free).toNat (by decide : 0 < 10 * msU + 1)
  rw [Dev.beginFlr, resetEnd_foldl_modFn fs _ (.inl h)]
  omega

end

/-! ### Identity -/

theorem ridOf_vf {f n : Nat} (hf : f < 4) (h0 : 0 < n) (hn : n ≤ 255) : ridOf (f + 4 * n) = ridOf f + (sriovCap f).2.1 + (n - 1) * (sriovCap f).2.2 := by
  have hb : f + 4 * n ≠ benchFn := by unfold benchFn; omega
  have hb' : f ≠ benchFn := by unfold benchFn; omega
  simp only [ridOf, if_neg hb, if_neg hb', if_pos hf, if_neg (by omega : ¬ f + 4 * n < 4), sriovCap]
  omega

/-- Settles O42: interrupts and writebacks, the link and power states of a function, its resets and its identity. -/
theorem interruptsAndFunctionStates : Obligations.InterruptsAndFunctionStates := by
  unfold Obligations.InterruptsAndFunctionStates
  refine ⟨⟨?_, ?_, ?_, ?_, ?_, ?_, ?_, ?_, ?_, ?_, fun d fs f h => beginFlr_ends d h⟩, ?_⟩
  · intro s q x d d1 hx hw ho hr hd3 hf hm hd ht
    rw [← writebackUpdate_writes (d0 := d) hx hw ho hr hd3 hf hm (fun h => by rw [hd, h]) (fun t h => by rw [hd, h]) ht]
    exact onDev_next _ s
  · exact fun d f pasid a len => ⟨fun h => hostRead_untranslated d pasid a len h, fun e h he => hostRead_translated d pasid a len h he⟩
  · intro s q c t d hc ht hi hu hd
    refine ⟨?_, fun c1 h => fireCq_none_unowing h, fun c1 h => fireCq_none_owing h⟩
    rw [← cqTimerExpiry_fires hc ht hi hu hd]
    exact onDev_next _ s
  · exact fun d f v hf => ⟨fire_open hf, fire_closed_pends hf⟩
  · intro s f v hp he hm hd
    obtain ⟨e, hex, h⟩ := msixUnmask_sends hp he hm hd
    refine ⟨e, ?_, h⟩
    rw [← hex]
    exact onDev_next _ s
  · intro s d e hl hd he
    have hex : exec (.l1Request false) s = .next { s with dev := l1Request false s.dev } := onDev_next _ s
    rw [hex]
    exact ⟨fun hm => by rw [l1Request_enters hl hd he hm], fun hm => by rw [l1Request_waits hl hd hm]⟩
  · intro s f d hf hd
    rw [← d3hotEntry_of_lt hf hd]
    exact onDev_next _ s
  · intro s f d h hd hc hs
    rw [← d3hotExit_queueless h hd hc hs]
    exact onDev_next _ s
  · intro s d hl hi hp hd
    obtain ⟨hq, hdma, hxlt⟩ := resetHost_clears s.dev.ptmStop.resetGlb
    rw [← hd] at hq hdma hxlt
    obtain ⟨t, hlo, hhi, hex⟩ := hotResetEvent_holds (e := d.relockIf (fun h => decide (h < 4))) hi hp (by rw [hd]; rfl)
    refine ⟨hq, hdma, hxlt, _, t, rfl, hlo, hhi, ?_⟩
    rw [← hex]
    have hexec : exec .dataLinkDown s = .next { s with dev := dataLinkDown s.dev } := onDev_next _ s
    rw [hexec, dataLinkDown, if_neg hl]
  · intro s f d h4 hf hd
    rw [← flr_of_vf h4 hf hd]
    exact onDev_next _ s
  · intro d f n hf h0 hn
    refine ⟨rfl, ridOf_vf hf h0 hn, if_pos hf, if_neg (by omega), fun g _ => ⟨rfl, rfl, rfl, rfl⟩⟩

end Sys2Proof.Machine
end

section
/-! The registers of the admin queues and of the queue pairs of the Bench, chapters 10 and 13 (R314, R339, R341, R342, R403, R404). -/

namespace Sys2Proof.Machine

/-! ### Who writes the registers of an admin queue -/

theorem aqBase_pf (n : Fin 4) (k : Nat) : aqBase n.val + 8 * k = 0x3010000 + n.val * 0x100 + 8 * k := by
  have hb : n.val ≠ benchFn := by unfold benchFn; omega
  rw [aqBase, if_neg hb, Reg.hqAqSqBase]

/-- A physical function writes the registers of its own admin queue. -/
theorem onDev_aqGate_pf {s : State} {n : Fin 4} {k : Nat} (f : Dev → Dev) (h : s.takes (.pf n) (aqBase n.val + 8 * k)) :
    onDev (fun d => d.aqGate (.pf n) n.val k f) s = .next { s with dev := f s.dev } := by
  have hb : n.val ≠ benchFn := by unfold benchFn; omega
  simp only [onDev_next, Dev.aqGate, if_neg hb, n.isLt, if_true, beq_self_eq_true, or_true, gate_open f h.1 h.2]

theorem onDev_aqGate_bench {s : State} {r : Req} {k : Nat} (f : Dev → Dev) (h : s.takes r (Reg.benAqSqBase + 8 * k)) :
    onDev (fun d => d.aqGate r benchFn k f) s = .next { s with dev := f s.dev } := by
  simp only [onDev_next, Dev.aqGate, if_true, gate_open f h.1 h.2]

section
variable {d e : Dev} {f : Nat} {v w : Word}

/-! ### Doorbells, EN = 1 and EN = 0 of an admin queue -/

theorem aqDoorbell_tail (hr : (d.aq f).ready = true) (hv : getF v 0 32 < 2 ^ d.aqSqLog f) : d.aqDoorbell f true false v = d.modAq f (fun y => { y with
    tail := (d.aq f).head + (getF v 0 32 + 2 ^ d.aqSqLog f - (d.aq f).head % 2 ^ d.aqSqLog f) % 2 ^ d.aqSqLog f }) := by
  have hno : ¬ ((d.aq f).ready = false ∨ 2 ^ d.aqSqLog f ≤ getF v 0 32) := not_or.mpr ⟨by rw [hr]; decide, Nat.not_le.mpr hv⟩
  simp only [Dev.aqDoorbell, if_true, Bool.false_eq_true, if_false, Dev.aqTail, if_neg hno]

theorem wrAqCfg_enables (hw : w = setB v 0 true) (hok : d.aqCfgOk f w = true) (hen : getB (d.aqRd f 2) 0 = false) (he : e = d.aqWr f 2 (aqCfgMask f w)) :
    d.wrAqCfg f w = (e.modAq f (fun x =>
      { x with ready := true, stopping := false, tail := 0, head := 0, cqTail := 0, cqHead := 0, drain := none, busy := false })).aqSync f := by
  have hw0 : getB w 0 = true := by rw [hw, getB_setB_self v true (by decide)]
  simp only [Dev.wrAqCfg, hen, hok, hw0, Bool.false_eq_true, Bool.true_eq_false, false_and, if_false, if_true, ← he]

theorem wrAqCfg_disables {old : Word} (hw : w = setB v 0 false) (ho : old = d.aqRd f 2) (hen : getB old 0 = true)
    (he : e = (if aqSettings f old w then d.aqFlag f 1 true else d).aqWr f 2
      (setF (setF (setB (aqCfgMask f w) 0 false) 4 9 (getF old 4 9)) 32 20 (getF old 32 20))) :
    d.wrAqCfg f w = if (e.aq f).drain ≠ none ∨ (e.aq f).busy = true then e.modAq f (fun x => { x with stopping := true }) else e.aqStop f := by
  have hw0 : getB w 0 = false := by rw [hw, getB_setB_self v false (by decide)]
  simp only [Dev.wrAqCfg, ← ho, hen, hw0, and_self, if_true, Dev.aqDisable, ← he, Option.isSome_iff_ne_none]

/-! ### The queue pairs of the Bench -/

theorem wrBenQpCfg_taken (ha : d.gb Reg.benAqCfg 0 = false) (hs : getF v 0 16 + getF v 16 13 ≤ 16384) (hc : getF v 16 13 ≤ 4096)
    (hf : getF v 0 16 ≤ 16383) (hq : d.hq.sqs = []) (hcq : d.hq.cqs = []) (hfn : d.hq.fns = []) :
    d.wrBenQpCfg v = d.wr Reg.benQpCfg (BitVec.ofNat 64 (fld 0 16 (getF v 0 16) + fld 16 13 (getF v 16 13))) := by
  simp only [Dev.wrBenQpCfg, ha, hq, hcq, hfn, List.any_nil, Bool.false_eq_true, or_false, false_or]
  exact if_neg (by omega)

theorem wrBenQpCfg_beyond (hs : 16384 < getF v 0 16 + getF v 16 13) : d.wrBenQpCfg v = d.sb Reg.benStat 0 true :=
  if_pos (.inr (.inr (.inr (.inl hs))))

/-! ### The capture of the counters of a queue -/

theorem wrQcntSel_captures (hb : d.gb Reg.hqQcntStat 0 = false) (hh : d.hbmOk = true) (hw : w = setB v 63 true) (he : e = d.wrReg Reg.hqQcntSel w)
    (h32 : getB v 32 = false) : d.wrQcntSel w = (((({ e with hq := { e.hq with
      capture := some (getF w 0 16, e.ldWs (qcntAddr (getF w 0 16) 0) 7) } } : Dev).sb Reg.hqQcntStat 0 true).sb Reg.hqQcntStat 1 false).sb
        Reg.hqQcntStat 2 false) := by
  have hgo : getB w 63 = true := by rw [hw, getB_setB_self v true (by decide)]
  have hw32 : getB w 32 = false := by rw [hw, getB_setB_ne v true (by decide) (by decide), h32]
  simp only [Dev.wrQcntSel, hgo, hb, hh, hw32, if_true, Bool.false_eq_true, Bool.true_eq_false, if_false, ← he]

theorem queueCaptureDone_of_capture {q : Nat} {vals : List Word} (h : d.hq.capture = some (q, vals)) :
    queueCaptureDone d = ((({ (d.wrs (Reg.hqQcntData 0) vals) with hq := { d.hq with capture := none } } : Dev).sb Reg.hqQcntStat 0 false).sb
      Reg.hqQcntStat 1 true) := by
  rw [queueCaptureDone, h]

end

/-- Settles O43: the doorbell, EN = 1 and EN = 0 of an admin queue, the queue pairs of the Bench, and the capture of a queue's counters. -/
theorem adminQueueRegisters : Obligations.AdminQueueRegisters := by
  unfold Obligations.AdminQueueRegisters
  refine ⟨?_, ?_, ?_, ?_, ?_, ?_⟩
  · intro s n v ht hr hv
    rw [← aqDoorbell_tail hr hv]
    refine onDev_aqGate_pf (k := 4) (fun d => d.aqDoorbell n.val true false v) ?_
    rwa [aqBase_pf, show 0x3010000 + n.val * 0x100 + 8 * 4 = Reg.hqAqDb n.val by unfold Reg.hqAqDb; omega]
  · intro s r f v w c d hc hw hok hen hd
    rw [← wrAqCfg_enables hw hok hen hd]
    subst hw
    rcases hc with ⟨n, rfl, rfl, ht, rfl⟩ | ⟨rfl, ht, rfl | rfl⟩
    · refine onDev_aqGate_pf (k := 2) (fun d => d.wrAqCfg n.val (setB v 0 true)) ?_
      rwa [aqBase_pf, show 0x3010000 + n.val * 0x100 + 8 * 2 = Reg.hqAqCfg n.val by unfold Reg.hqAqCfg; omega]
    · exact onDev_aqGate_bench (k := 2) (fun d => d.wrAqCfg benchFn (setB v 0 true)) ht
    · exact onDev_aqGate_bench (k := 2) (fun d => d.wrAqCfg benchFn (setB v 0 true)) ht
  · intro s n v w old d ht hw ho hen hd
    have hex : exec (.adminQueueDisable (.pf n) n.val v) s = .next { s with dev := s.dev.wrAqCfg n.val w } := by
      subst hw
      refine onDev_aqGate_pf (k := 2) (fun d => d.wrAqCfg n.val (setB v 0 false)) ?_
      rwa [aqBase_pf, show 0x3010000 + n.val * 0x100 + 8 * 2 = Reg.hqAqCfg n.val by unfold Reg.hqAqCfg; omega]
    rw [hex, wrAqCfg_disables hw ho hen hd]
    exact ⟨fun hdr hb => by rw [if_neg (by simp [hdr, hb])], fun h => by rw [if_pos h]⟩
  · intro s r v ht ha
    have hex : exec (.benchQpConfig r v) s = .next { s with dev := s.dev.wrBenQpCfg v } := onDev_gate_of_takes (fun d => d.wrBenQpCfg v) ht
    rw [hex]
    exact ⟨fun hs hc hf hq hcq hfn => by rw [wrBenQpCfg_taken ha hs hc hf hq hcq hfn], fun hs => by rw [wrBenQpCfg_beyond hs]⟩
  · intro s r v w d ht hb hh hw hd h32
    rw [← wrQcntSel_captures hb hh hw hd h32, hw]
    exact onDev_gate_of_takes (fun d => d.wrQcntSel (setB v 63 true)) ht
  · intro s q vals h
    rw [← queueCaptureDone_of_capture h]
    exact onDev_next _ s

end Sys2Proof.Machine
end

section
/-! The admin commands and their completions, chapter 10 (R340, Tables HQS-10, HQS-11). -/

namespace Sys2Proof.Machine

/-! ### A command runs and is completed -/

section
variable {d d1 d2 y : Dev} {f opc st res : Nat} {ws : List Word} {w0 : Word} {eff : List Word → Dev → Option AdminRes × Dev}
  (hm : d.aqMay f = true) (hf : f ≠ benchFn) (hw : w0 = ws.getD 0 0) (hr : d.aqReach f = (true, d1)) (hz : getF w0 9 23 = 0)
  (hp : getB w0 8 = (phaseOf (d.aq f).head (d.aqSqLog f) == 1)) (ho : getF w0 0 8 = opc) (hv : adminOpc opc = true)
include hm hf hw hr hz hp ho hv

theorem adminRun_completes (he : eff ws d1 = (some (st, res, d2), y)) : adminRun f opc ws eff d
    = ((d2.modAq f (fun x => { x with busy := false })).aqComplete f (d.aq f).head opc (getF w0 32 32) st res).aqHalt f := by
  simp only [adminRun, hm, Dev.aqWords, if_neg hf, ← hw, hp, bne_self_eq_false, ho, hv, hr, hz, he, ne_eq, not_true_eq_false, and_false, if_false,
    Bool.false_eq_true, Bool.true_eq_false]

theorem adminRun_continues (he : eff ws d1 = (none, d2)) : adminRun f opc ws eff d = d2 := by
  simp only [adminRun, hm, Dev.aqWords, if_neg hf, ← hw, hp, bne_self_eq_false, ho, hv, hr, hz, he, ne_eq, not_true_eq_false, and_false, if_false,
    Bool.false_eq_true, Bool.true_eq_false]

end

theorem destroySqDone_of_drained {d d1 d2 d3 : Dev} {f q tag n : Nat} {x : Sq} (ha : (d.aq f).drain = some (q, tag, n)) (hx : d.sq q = some x)
    (hfl : x.flight = []) (hr : d.reach f = true) (ht : d.xlate f (.aqCq f) (d.aqPasid f) (d.aqCqSlot f) 32 true = (true, d1))
    (hw : d1.wbackReady q x = (true, d2)) (hx2 : d2.sq q = some x)
    (hd : d3 = (((d2.lastWback q).removeSq q).drainCq x.cq).modAq f (fun y => { y with drain := none })) :
    destroySqDone f d = ((d3.aqComplete f n 3 tag 0 0).aqHalt f).pumpTrackers := by
  have hds : Dev.drainSq 1 d2 q 0 = (0, d2) := by simp only [Dev.drainSq, hx2, hfl, List.head?_nil]
  simp only [destroySqDone, ha, hx, hfl, List.any_nil, hr, ht, hw, List.length_nil, Nat.zero_add, hds, ← hd, Bool.false_eq_true, Bool.true_eq_false,
    or_self, if_false]

/-! ### Queues created and destroyed -/

theorem syncQ_hq (d : Dev) (q : Nat) : (d.syncQ q).hq = d.hq := by rw [Dev.syncQ, wr_hq]

theorem foldl_syncQ_hq (l : List Nat) (d : Dev) : (l.foldl (fun (x : Dev) q => x.syncQ q) d).hq = d.hq := by
  induction l generalizing d with
  | nil => rfl
  | cons q t ih => rw [List.foldl_cons, ih, syncQ_hq]

theorem syncC_hq (d : Dev) (c : Nat) : (d.syncC c).hq = d.hq := by
  rw [Dev.syncC, syncQ_hq, foldl_syncQ_hq]

theorem aq_modAq_self (d : Dev) (f : Nat) (g : Aq → Aq) : (d.modAq f g).aq f = g (d.aq f) := getD_setD_self ..

section
variable {d : Dev} {f q : Nat} {ws : List Word} {w2 : Word} (hw : w2 = ws.getD 2 0) (hg : d.globalOf f (getF w2 0 16) = some q)
include hw hg

section
variable {base log : Nat} (hb : base = (ws.getD 1 0).toNat) (hl : log = getF w2 16 5) (hal : base % 4096 = 0) (h4 : 4 ≤ log) (h16 : log ≤ 16)
  (hc : cqFieldsOk f w2 = true) (h3 : getF (ws.getD 3 0) 20 44 = 0) (hz : restZero ws [1, 2, 3] = true) (ha : areaOk f base (32 * 2 ^ log) = true)
  (hv : getF w2 21 11 < vectorsOf f)
include hb hl hal h4 h16 hc h3 hz ha hv

theorem createCq_new (hn : d.cq q = none) : ∃ e : Dev, createCq f ws d = (0, 0, e) ∧ e.cq q = some
    { fn := f, base := base, log := log, vec := getF w2 21 11, ien := getB w2 32, timer := getF w2 33 10, count := getF w2 43 9
      pasid := if getB w2 52 then some (getF (ws.getD 3 0) 0 20) else none, pasidNum := getF (ws.getD 3 0) 0 20 } ∧ e.hq.sqs = d.hq.sqs := by
  have hno : ¬ (base % 4096 ≠ 0 ∨ log < 4 ∨ 16 < log ∨ cqFieldsOk f w2 = false ∨ getF (ws.getD 3 0) 20 44 ≠ 0 ∨ restZero ws [1, 2, 3] = false
      ∨ areaOk f base (32 * 2 ^ log) = false) := by
    simp only [hal, h3, hc, hz, ha, ne_eq, not_true_eq_false, Bool.true_eq_false, or_false, false_or]; omega
  simp only [createCq, ← hw, ← hb, ← hl, if_neg hno, if_neg (Nat.not_le.mpr hv), hg, hn, Option.isSome_none, Bool.false_eq_true, if_false]
  refine ⟨_, rfl, ?_, ?_⟩
  · simp only [Dev.cq, syncC_hq, find_put_self]
  · rw [syncC_hq]

theorem createCq_taken (hn : d.cq q ≠ none) : createCq f ws d = (0x23, 0, d) := by
  have hno : ¬ (base % 4096 ≠ 0 ∨ log < 4 ∨ 16 < log ∨ cqFieldsOk f w2 = false ∨ getF (ws.getD 3 0) 20 44 ≠ 0 ∨ restZero ws [1, 2, 3] = false
      ∨ areaOk f base (32 * 2 ^ log) = false) := by
    simp only [hal, h3, hc, hz, ha, ne_eq, not_true_eq_false, Bool.true_eq_false, or_false, false_or]; omega
  simp only [createCq, ← hw, ← hb, ← hl, if_neg hno, if_neg (Nat.not_le.mpr hv), hg, Option.isSome_iff_ne_none.mpr hn, if_true]

end

section
variable (hr : getF w2 16 48 = 0) (hz : restZero ws [2] = true)
include hr hz

theorem destroyCq_eq : destroyCq f ws d
    = if d.cq q = none then (0x24, 0, d) else if d.feeders q = [] then (0, 0, d.removeCq q) else (0x25, 0, d) := by
  simp only [destroyCq, ← hw, hr, hz, hg, Bool.true_eq_false, or_false, ne_eq, not_true_eq_false, if_false, Option.isNone_iff_eq_none,
    List.isEmpty_iff]

theorem destroySq_drains {x : Sq} (hx : d.sq q = some x) (hdr : x.drain = false) : ∃ e : Dev, destroySq f ws d = (none, e)
    ∧ (e.aq f).drain = some (q, getF (ws.getD 0 0) 32 32, (e.aq f).head) := by
  simp only [destroySq, ← hw, hr, hz, hg, hx, hdr, Bool.true_eq_false, Bool.false_eq_true, or_false, ne_eq, not_true_eq_false, if_false]
  refine ⟨_, rfl, ?_⟩
  rw [aq_modAq_self]

end

theorem modifyCq_of_cq (hc : cqFieldsOk f w2 = true) (hz : restZero ws [2] = true) (hv : getF w2 21 11 < vectorsOf f) (hn : d.cq q ≠ none) :
    modifyCq f ws d = (0, 0, d.modCq q (fun x => { x with
      vec := getF w2 21 11, ien := getB w2 32, timer := getF w2 33 10, count := getF w2 43 9
      pasid := if getB w2 52 then some x.pasidNum else none, unrep := 0, timerAt := none })) := by
  have hsome : (d.cq q).isNone = false := Option.isNone_eq_false_iff.mpr (Option.isSome_iff_ne_none.mpr hn)
  simp only [modifyCq, ← hw, hc, hz, if_neg (Nat.not_le.mpr hv), hg, hsome, Bool.true_eq_false, Bool.false_eq_true, or_self, if_false]

end

/-- Settles O44: an admin command runs and is completed with the status of the first bad argument. -/
theorem adminCommandsRun : Obligations.AdminCommandsRun := by
  unfold Obligations.AdminCommandsRun
  refine ⟨?_, ?_, ?_, fun d f ws h4 => if_pos h4⟩
  · intro s f opc st res ws w0 c g d d1 d2 hm hf hw hr hz hp ho
    refine ⟨fun hc hg => ?_, ?_, ?_, ?_⟩
    · have hnow : now_ g ws.toList d1 = (some (st, res, d2), d1) := by rw [now_, hg]
      simp only [List.mem_cons, Prod.mk.injEq, List.not_mem_nil, or_false] at hc
      rcases hc with ⟨rfl, rfl, rfl⟩ | ⟨rfl, rfl, rfl⟩ | ⟨rfl, rfl, rfl⟩ | ⟨rfl, rfl, rfl⟩ | ⟨rfl, rfl, rfl⟩ <;>
        (rw [← adminRun_completes hm hf hw hr hz hp ho (by decide) hnow]; exact onDev_next _ s)
    · rintro rfl he
      rw [← adminRun_completes hm hf hw hr hz hp ho (by decide) he]
      exact onDev_next _ s
    · rintro rfl he
      rw [← adminRun_completes hm hf hw hr hz hp ho (by decide) he]
      exact onDev_next _ s
    · rintro rfl he
      have hrun := adminRun_continues hm hf hw hr hz hp ho (by decide) he
      rw [← hrun]
      exact onDev_next _ s
  · intro s f q tag n x d1 d2 d3 ha hx hfl hr ht hw hx2 hd
    rw [← destroySqDone_of_drained ha hx hfl hr ht hw hx2 hd]
    exact onDev_next _ s
  · intro d f q ws w2 hw hg
    refine ⟨fun base log hb hl hal h4 h16 hc h3 hz ha hv => ⟨?_, ?_⟩, fun hr hz => ⟨?_, ?_, ?_, ?_⟩, modifyCq_of_cq hw hg⟩
    · exact createCq_new hw hg hb hl hal h4 h16 hc h3 hz ha hv
    · exact createCq_taken hw hg hb hl hal h4 h16 hc h3 hz ha hv
    · exact fun hn => by rw [destroyCq_eq hw hg hr hz, if_pos hn]
    · exact fun hn hfe => by rw [destroyCq_eq hw hg hr hz, if_neg hn, if_neg hfe]
    · exact fun hn hfe => by rw [destroyCq_eq hw hg hr hz, if_neg hn, if_pos hfe]
    · exact fun x hx hdr => destroySq_drains hw hg hr hz hx hdr

end Sys2Proof.Machine
end

section
/-! The commands of a DMA channel, its descriptor reads, beats and requests, and the device rings, chapter 11 (R347–R359, R371). -/

namespace Sys2Proof.Machine

/-! ### Commands of a channel -/

theorem dmaCmdWord_op (v : Word) {op : Nat} (h : op < 7) : getF (dmaCmdWord op v) 0 3 = op := by
  rw [dmaCmdWord, getF_setB_above _ true (by decide) (by decide), getF_setF_self v op (by decide)]
  exact Nat.mod_eq_of_lt (by omega)

theorem dmaCmdWord_go (v : Word) (op : Nat) : getB (dmaCmdWord op v) 63 = true := getB_setB_self _ true (by decide)

section
variable (d : Dev) (c : Nat) (v : Word)

theorem wrDmaCmd_commit : d.wrDmaCmd c (dmaCmdWord 1 v) = (d.sf (Reg.dmaChCmd c) 0 3 1).dmaCommit c := by
  simp [Dev.wrDmaCmd, dmaCmdWord_op, dmaCmdWord_go]

theorem wrDmaCmd_handover : d.wrDmaCmd c (dmaCmdWord 2 v) = (d.sf (Reg.dmaChCmd c) 0 3 2).dmaHandoverCmd c := by
  simp [Dev.wrDmaCmd, dmaCmdWord_op, dmaCmdWord_go]

theorem wrDmaCmd_cont : d.wrDmaCmd c (dmaCmdWord 3 v) = (d.sf (Reg.dmaChCmd c) 0 3 3).dmaCont c := by
  simp [Dev.wrDmaCmd, dmaCmdWord_op, dmaCmdWord_go]

theorem wrDmaCmd_skip : d.wrDmaCmd c (dmaCmdWord 4 v) = (d.sf (Reg.dmaChCmd c) 0 3 4).dmaSkip c := by
  simp [Dev.wrDmaCmd, dmaCmdWord_op, dmaCmdWord_go]

theorem wrDmaCmd_abort : d.wrDmaCmd c (dmaCmdWord 5 v) = (d.sf (Reg.dmaChCmd c) 0 3 5).dmaAbort c := by
  simp [Dev.wrDmaCmd, dmaCmdWord_op, dmaCmdWord_go]

theorem wrDmaCmd_clear : d.wrDmaCmd c (dmaCmdWord 6 v) = (d.sf (Reg.dmaChCmd c) 0 3 6).sb (Reg.dmaChStat c) 3 false := by
  simp [Dev.wrDmaCmd, dmaCmdWord_op, dmaCmdWord_go]

end

/-- The command register of a channel written through the gate. -/
theorem dmaCmd_of_takes {s : State} {r : Req} {c : Fin 64} (op : Nat) (v : Word) (h : s.takes r (Reg.dmaChCmd c.val)) :
    dmaCmd r c op v s = .next { s with dev := s.dev.wrDmaCmd c.val (dmaCmdWord op v) } :=
  onDev_gate_of_takes (fun d => d.wrDmaCmd c.val (dmaCmdWord op v)) h

section
variable {d d1 : Dev} {c : Nat}

theorem dmaCommit_of_cq {t : Nat} {q : Cq} (ht : t = getF (d.rd (Reg.dmaShCfg c)) 16 16) (hk : getB (d.rd (Reg.dmaShCfg c)) 4 = false)
    (hq : d.cq t = some q) (hf : q.fn = getF (d.rd (Reg.dmaShCfg c)) 0 2) :
    d.dmaCommit c = (d.modChan c (fun x => { x with comChain := d.rd (Reg.dmaShChain c), comCfg := d.rd (Reg.dmaShCfg c) })).sf (Reg.dmaGen c) 0 16
      (d.gf (Reg.dmaGen c) 0 16 + 1) := by
  simp only [Dev.dmaCommit, ← ht, hk, hq, hf, beq_self_eq_true, Bool.false_eq_true, if_false, if_true]

theorem dmaHandoverCmd_idle (hs : d.chSt c = 0) (hv : d.gb (Reg.dmaGen c) 32 = true) (hg : d.genDue c = true) :
    d.dmaHandoverCmd c = (d.dmaHandover c).dmaRun c := by
  simp only [Dev.dmaHandoverCmd, hs, hv, hg, Bool.true_eq_false, and_false, false_and, if_false, if_true, OfNat.zero_ne_ofNat]

theorem dmaHandoverCmd_running (hs : d.chSt c = 1) (hv : d.gb (Reg.dmaGen c) 32 = true) (hg : d.genDue c = true) :
    d.dmaHandoverCmd c = d.sb (Reg.dmaChStat c) 3 true := by
  simp only [Dev.dmaHandoverCmd, hs, hv, hg, Bool.true_eq_false, and_false, if_false, OfNat.one_ne_ofNat, one_ne_zero]

theorem dmaCont_halted (hs : d.chSt c = 4) (he : d1 = (d.setCh c 1).modChan c Chan.rewound) : d.dmaCont c
    = (if (d1.chan c).ws ≠ [] ∧ (d1.chan c).formatBad = true then d1.dmaFail c 3 0 ((d1.chan c).desc.toNat / 64 * 64) 4 else d1).dmaRun c := by
  simp only [Dev.dmaCont, hs, if_true, ← he, Bool.and_eq_true, Bool.not_eq_true', List.isEmpty_eq_false_iff]

theorem dmaCont_refused (hs : d.chSt c ≠ 4) : d.dmaCont c = d.dmaRef c 1 := if_neg hs

theorem dmaSkip_halted (hs : d.chSt c = 4) : d.dmaSkip c = (d.dmaBoundary c).dmaRun c := if_pos hs

theorem dmaSkip_refused (hs : d.chSt c ≠ 4) : d.dmaSkip c = d.dmaRef c 1 := if_neg hs

theorem dmaAbort_busy (h0 : d.chSt c ≠ 0) (h5 : d.chSt c ≠ 5)
    (he : d1 = if (d.chan c).held = none then d else (d.dmaUnwait c).inc (Reg.dmaRecDropCnt c)) :
    d.dmaAbort c = (((((d1.dmaDropWaits c true).modChan c (fun y => { y with
      held := none, xw := [], err := none, rd := 0, lost := false
      abortRec := decide (d.chSt c = 1 ∨ d.chSt c = 2) && !(d.chan c).ws.isEmpty })).sb (Reg.dmaChStat c) 3 false).setCh c 5).dmaRun c).atsGo := by
  have he' : (if (d.chan c).held.isSome = true then (d.dmaUnwait c).inc (Reg.dmaRecDropCnt c) else d) = d1 := by
    rw [he]
    by_cases h : (d.chan c).held = none
    · rw [if_pos h, if_neg (by simp [h])]
    · rw [if_neg h, if_pos (Option.isSome_iff_ne_none.mpr h)]
  have hno : ¬ (d.chSt c = 0 ∨ d.chSt c = 5) := not_or.mpr ⟨h0, h5⟩
  simp only [Dev.dmaAbort, if_neg hno, he']

theorem dmaAbort_refused (h : d.chSt c = 0 ∨ d.chSt c = 5) : d.dmaAbort c = d.dmaRef c 1 := if_pos h

end

/-! ### Descriptor reads and beats -/

section
variable {d : Dev} {c k : Nat} {x : Chan}

theorem dmaDescriptorRead_host (bad : Bool) (ws : List Word) (hx : x = d.chan c) (hr : x.rd = 2) (hi : d.islandOk 45 = true)
    (hh : getB x.rdAt 0 = false) : dmaDescriptorRead c bad ws d
      = (d.modChan c (fun y => if bad = false then { y with rd := 3, rdWs := ws } else { y with rd := 4, rdErr := 1 })).dmaRun c := by
  simp only [dmaDescriptorRead, ← hx, hr, hi, hh, ne_eq, not_true_eq_false, Bool.true_eq_false, Bool.false_eq_true, or_self, if_false,
    Bool.not_eq_true']

end

section
variable {s : State} {c k : Nat} {l : List Byte} {x : Chan} (hi : s.dev.islandOk 45 = true) (hx : x = s.dev.chan c) (hsp : x.sp k = false)
  (hiss : (x.side k).ack < (x.side k).iss) (hdone : (x.side k).ack ≤ (x.side k).done)
include hi hx hsp hiss hdone

theorem dmaBeatComplete_data (hl : l.length = x.width k) (hw : 0 < x.width k) (hk : k ≠ 0) :
    dmaBeatComplete c k false l s = { s with dev := (s.dev.modChan c (fun y => y.take k l)).dmaRun c } := by
  have hn : s.dev.beatCount c k false l = 1 := by
    simp only [Dev.beatCount, ← hx, hsp, hl, Bool.false_eq_true, or_self, if_false, Nat.div_self hw, max_self]
  have htake : l.take (x.width k) = l := List.take_of_length_le hl.le
  simp only [dmaBeatComplete, hi, hn, State.beats, State.beat, ← hx, hsp, if_neg (Nat.not_le.mpr hiss), if_neg (Nat.not_lt.mpr hdone), hl,
    lt_irrefl, Bool.true_eq_false, Bool.false_eq_true, or_self, if_false, Dev.beatData, if_neg (not_and.mpr fun h => absurd h hk), htake]

theorem dmaBeatComplete_error : dmaBeatComplete c k true l s
    = { s with dev := ((s.dev.beatAck c k (x.width k)).dmaFail c k (x.side k).ack (x.addrAt k (x.side k).ack) 1).dmaRun c } := by
  have hn : s.dev.beatCount c k true l = 1 := if_pos (.inr rfl)
  simp only [dmaBeatComplete, hi, hn, State.beats, State.beat, ← hx, hsp, if_neg (Nat.not_le.mpr hiss), if_neg (Nat.not_lt.mpr hdone),
    Bool.true_eq_false, Bool.false_eq_true, if_false, true_or, if_true, Dev.beatFail]

end

/-! ### Device rings -/

section
variable {d : Dev} {k n rel : Nat} {v w : Word}

theorem wrCrCfg_enables (hw : w = setB v 20 true) (hr : inRangeAt (Reg.dmaCrCfg k) w = true) (hen : d.gb (Reg.dmaCrCfg k) 20 = false) :
    d.wrCrCfg k w = ((((d.wrReg (Reg.dmaCrCfg k) w).modRing k (fun _ => {})).wr (Reg.dmaCrHead k) 0).sb (Reg.dmaCrStat k) 18 false) := by
  have hw0 : getB w 20 = true := by rw [hw, getB_setB_self v true (by decide)]
  have hen' : getB (d.rd (Reg.dmaCrCfg k)) 20 = false := hen
  simp only [Dev.wrCrCfg, hr, hen', hw0, Bool.true_eq_false, Bool.false_eq_true, false_and, and_self, if_false, if_true]

theorem wrCrHead_moves (hn : n = 2 ^ d.gf (Reg.dmaCrCfg k) 0 5) (hen : d.gb (Reg.dmaCrCfg k) 20 = true) (hv : getF v 0 16 < n)
    (hr : rel = (getF v 0 16 + n - (d.dring k).head % n) % n) (hle : rel ≤ (d.dring k).tail - (d.dring k).head) :
    d.wrCrHead k v = Dev.drainRing 65 ((d.sf (Reg.dmaCrHead k) 0 16 (getF v 0 16)).modRing k (fun z => { z with head := z.head + rel })) k := by
  have hno : ¬ (d.gb (Reg.dmaCrCfg k) 20 = false ∨ n ≤ getF v 0 16 ∨ (d.dring k).tail - (d.dring k).head < rel) := by
    rw [hen]
    simp only [Bool.true_eq_false, false_or]
    omega
  simp only [Dev.wrCrHead, ← hn, ← hr, if_neg hno]

end

/-! ### Requests (R349) -/

section
variable {max : Nat} (hmax : 128 ≤ max)

theorem requests_zero (max k a : Nat) : requests max k a 0 = [] := by cases k <;> rfl

theorem requests_succ {k a len : Nat} (h : len ≠ 0) : requests max (k + 1) a len
    = (a, min len (min max (4096 - a % 4096))) :: requests max k (a + min len (min max (4096 - a % 4096))) (len - min len (min max (4096 - a % 4096))) :=
  if_neg h

include hmax in
/-- With one step for each 128 octets, for each page entered and for the last request, the requests carry all octets: a request that is not the last
carries 128 octets or more, or ends its page. -/
theorem requests_sum (k a len : Nat) (h : len / 128 + (a % 4096 + len) / 4096 + 1 ≤ k) : ((requests max k a len).map (fun e => e.2)).sum = len := by
  induction k generalizing a len with
  | zero => omega
  | succ k ih =>
    by_cases h0 : len = 0
    · rw [h0, requests_zero]; rfl
    · rw [requests_succ h0, List.map_cons, List.sum_cons]
      generalize hn : min len (min max (4096 - a % 4096)) = n
      rcases Nat.lt_or_ge n len with hlt | hge
      · rw [ih (a + n) (len - n) (by omega)]
        omega
      · rw [Nat.sub_eq_zero_of_le hge, requests_zero]
        simp only [List.map_nil, List.sum_nil]
        omega

include hmax in
theorem requests_bounded (k a len : Nat) : ∀ e ∈ requests max k a len, 0 < e.2 ∧ e.2 ≤ max ∧ e.1 % 4096 + e.2 ≤ 4096 := by
  induction k generalizing a len with
  | zero => exact fun e he => absurd he List.not_mem_nil
  | succ k ih =>
    intro e he
    by_cases h0 : len = 0
    · rw [h0, requests_zero] at he; exact absurd he List.not_mem_nil
    · rw [requests_succ h0] at he
      rcases List.mem_cons.mp he with rfl | he
      · simp only; omega
      · exact ih _ _ e he

theorem requests_consecutive (k a len : Nat) : ∀ i e, (requests max k a len)[i]? = some e →
    e.1 = a + (((requests max k a len).take i).map (fun x => x.2)).sum := by
  induction k generalizing a len with
  | zero => intro i e he; simp [requests] at he
  | succ k ih =>
    intro i e he
    by_cases h0 : len = 0
    · rw [h0, requests_zero] at he; simp at he
    · rw [requests_succ h0] at he ⊢
      cases i with
      | zero => rw [List.getElem?_cons_zero, Option.some.injEq] at he; simp [← he]
      | succ i =>
        rw [List.getElem?_cons_succ] at he
        rw [ih _ _ i e he, List.take_succ_cons, List.map_cons, List.sum_cons]
        omega

theorem requests_head_addr (k a len : Nat) {f : Nat × Nat} (h : (requests max k a len)[0]? = some f) : len ≠ 0 ∧ f.1 = a := by
  by_cases h0 : len = 0
  · rw [h0, requests_zero] at h; simp at h
  · have := requests_consecutive k a len 0 f h
    exact ⟨h0, by simpa using this⟩

theorem requests_cut (k a len : Nat) : ∀ i e f, (requests max k a len)[i]? = some e → (requests max k a len)[i + 1]? = some f →
    e.2 = max ∨ f.1 % 4096 = 0 := by
  induction k generalizing a len with
  | zero => intro i e f he; simp [requests] at he
  | succ k ih =>
    intro i e f he hf
    by_cases h0 : len = 0
    · rw [h0, requests_zero] at he; simp at he
    · rw [requests_succ h0] at he hf
      rw [List.getElem?_cons_succ] at hf
      cases i with
      | zero =>
        rw [List.getElem?_cons_zero, Option.some.injEq] at he
        obtain ⟨hne, ha⟩ := requests_head_addr _ _ _ hf
        rw [← he, ha]
        simp only
        omega
      | succ i => exact ih _ _ i e f he hf

end

/-- Settles O45: the commands of a channel in each of its states, descriptor reads and beats, the device rings, and how a run of octets is cut into
requests. -/
theorem dmaChannelsAndBeats : Obligations.DmaChannelsAndBeats := by
  unfold Obligations.DmaChannelsAndBeats
  refine ⟨?_, ⟨?_, ?_, ?_, ?_⟩, ?_⟩
  · intro s r c v op d ht hop hd
    have cmd (o : Nat) := dmaCmd_of_takes o v ht
    refine ⟨?_, ?_, ?_, ?_, ?_, ?_, ?_, ?_, ?_, ?_⟩
    · rintro rfl t q hT hk hq hf
      rw [← dmaCommit_of_cq hT hk hq hf, hd, ← wrDmaCmd_commit s.dev c.val v]
      exact cmd 1
    · rintro rfl hs hv hg
      rw [← dmaHandoverCmd_idle hs hv hg, hd, ← wrDmaCmd_handover s.dev c.val v]
      exact cmd 2
    · rintro rfl hs hv hg
      rw [← dmaHandoverCmd_running hs hv hg, hd, ← wrDmaCmd_handover s.dev c.val v]
      exact cmd 2
    · rintro d1 rfl hs hd1
      have hex : exec (.dmaCont r c v) s = .next { s with dev := d.dmaCont c.val } := by
        rw [hd, ← wrDmaCmd_cont s.dev c.val v]; exact cmd 3
      rw [hex, dmaCont_halted hs hd1]
      exact ⟨fun h => by rw [if_neg (fun hb => h.elim hb.1 (fun hf => absurd hb.2 (Bool.eq_false_iff.mp hf)))], fun hw hb => by rw [if_pos ⟨hw, hb⟩]⟩
    · rintro rfl hs
      rw [← dmaCont_refused hs, hd, ← wrDmaCmd_cont s.dev c.val v]
      exact cmd 3
    · rintro rfl hs
      rw [← dmaSkip_halted hs, hd, ← wrDmaCmd_skip s.dev c.val v]
      exact cmd 4
    · rintro rfl hs
      rw [← dmaSkip_refused hs, hd, ← wrDmaCmd_skip s.dev c.val v]
      exact cmd 4
    · rintro d1 rfl h0 h5 hd1
      rw [← dmaAbort_busy h0 h5 hd1, hd, ← wrDmaCmd_abort s.dev c.val v]
      exact cmd 5
    · rintro rfl hs
      rw [← dmaAbort_refused hs, hd, ← wrDmaCmd_abort s.dev c.val v]
      exact cmd 5
    · rintro rfl
      rw [hd, ← wrDmaCmd_clear s.dev c.val v]
      exact cmd 6
  · intro s c bad ws x hx hr hi hh
    rw [← dmaDescriptorRead_host bad ws.toList hx hr hi hh]
    exact onDev_next _ s
  · intro s c k l x w hi hx hw hsp hiss hdone
    subst hw
    refine ⟨fun hl hpos hk => ?_, ?_⟩
    · rw [← dmaBeatComplete_data hi hx hsp hiss hdone hl hpos (fun h => hk (Fin.ext h))]
      rfl
    · rw [← dmaBeatComplete_error (l := l) hi hx hsp hiss hdone]
      rfl
  · intro s r k v w ht hw hr hen
    rw [← wrCrCfg_enables hw hr hen, hw]
    exact onDev_gate_of_takes (fun d => d.wrCrCfg k.val (setB v 20 true)) ht
  · intro s r k v n rel ht hn hen hv hr hle
    rw [← wrCrHead_moves hn hen hv hr hle]
    exact onDev_gate_of_takes (fun d => d.wrCrHead k.val v) ht
  · intro max a len hmax
    exact ⟨_, rfl, requests_sum hmax _ a len (by omega), requests_bounded hmax _ a len, requests_consecutive _ a len, requests_cut _ a len⟩

end Sys2Proof.Machine
end

section
/-! Translation requests, page requests and invalidations, chapter 11 (R362–R369, R371). -/

namespace Sys2Proof.Machine

/-! ### Translation completions -/

section
variable {d e : Dev} {rid page : Nat} {pasid : Option Nat} {size : AtsRange} {r w : Bool} {x : XWait} (hi : d.islandOk 45 = true)
  (hw : d.waitsFor rid pasid page = [x])
include hi hw

theorem translationCompletion_answers (hrw : (r || w) = true)
    (he : e = (d.dropWait x).fillAtc rid pasid (page * 4096) size.log.val size.page.toNat r w) :
    translationCompletion rid pasid page true size r w d = (e.answerWait x true r w).atsGo := by
  simp only [translationCompletion, hi, hw, Bool.true_eq_false, List.cons_ne_nil, or_self, if_false, List.foldl_cons, List.foldl_nil, hrw,
    Bool.and_self, if_true, ← he]

theorem translationCompletion_fails :
    translationCompletion rid pasid page false size r w d = ((d.dropWait x).failAccess x 1).atsGo := by
  simp only [translationCompletion, hi, hw, Bool.true_eq_false, Bool.false_eq_true, List.cons_ne_nil, or_self, if_false, List.foldl_cons,
    List.foldl_nil, Bool.false_and, Dev.answerWait, if_true]

end

section
variable {d : Dev} {x : XWait} {r w : Bool}

theorem answerWait_granted (hg : (if x.write then w else r) = true) : d.answerWait x true r w = d.resumeWant x.want := by
  simp only [Dev.answerWait, hg, Bool.true_eq_false, if_false, if_true]

theorem answerWait_again (hg : (if x.write then w else r) = false) (ha : x.again = true) : d.answerWait x true r w = d.failAccess x 6 := by
  simp only [Dev.answerWait, hg, ha, Bool.true_eq_false, Bool.false_eq_true, if_false, if_true]

variable (hg : (if x.write then w else r) = false) (ha : x.again = false)
include hg ha

theorem answerWait_stopped (hs : d.gb Reg.xltStat (pfOf (fnOfRid x.rid)) = true) : d.answerWait x true r w = d.failAccess x 4 := by
  simp only [Dev.answerWait, hg, ha, hs, Bool.true_eq_false, Bool.false_eq_true, if_false, if_true]

variable (hs : d.gb Reg.xltStat (pfOf (fnOfRid x.rid)) = false)
include hs

theorem answerWait_unpaged (hp : (d.fn (pfOf (fnOfRid x.rid))).pri = false) : d.answerWait x true r w = d.failAccess x 2 := by
  simp only [Dev.answerWait, hg, ha, hs, hp, Bool.true_eq_false, Bool.false_eq_true, if_false, if_true]

theorem answerWait_asks {y : XWait} (hp : (d.fn (pfOf (fnOfRid x.rid))).pri = true) (hy : y = { x with prg := true, sent := false }) :
    d.answerWait x true r w = ((({ d with xlt := { d.xlt with waits := d.xlt.waits ++ [y] } } : Dev).pageRequest y).faultWant x.want) := by
  have hno : ¬ ((if x.write then w else r) = true) := Bool.eq_false_iff.mp hg
  have hno' : ¬ (x.again = true) := Bool.eq_false_iff.mp ha
  simp only [Dev.answerWait, if_neg hno, if_neg hno', hs, hp, Bool.true_eq_false, Bool.false_eq_true, if_false, hy]

end

/-! ### Page responses -/

section
variable {d e : Dev} {rid page : Nat} {pasid : Option Nat} {isP : Prg → Bool} (hi : d.islandOk 45 = true)
  (hp : isP = (fun p => p.sent && p.rid == rid && p.pasid == pasid && p.page == page)) (ha : d.xlt.prgs.any isP = true) (he : e = d.inc Reg.xltPrgCnt)
include hi hp ha he

theorem pageResponse_success : pageResponse rid pasid page 0 d = (e.askAgain rid pasid page).dropPrg isP := by
  simp only [pageResponse, hi, ← hp, ha, ← he, Bool.true_eq_false, if_false]

theorem pageResponse_invalid : pageResponse rid pasid page 1 d = (e.dropPrg isP).failWaits (fun w => w.on rid pasid page) 3 := by
  simp only [pageResponse, hi, ← hp, ha, ← he, Bool.true_eq_false, if_false]

theorem pageResponse_failure : pageResponse rid pasid page 2 d
    = ((e.sb Reg.xltStat (pfOf (fnOfRid rid)) true).dropPrg (fun p => pfOf (fnOfRid p.rid) == pfOf (fnOfRid rid))).failWaits
      (fun w => pfOf (fnOfRid w.rid) == pfOf (fnOfRid rid)) 4 := by
  simp only [pageResponse, hi, ← hp, ha, ← he, Bool.true_eq_false, if_false]

end

/-- Where every wait is for the page, one request is sent for all. -/
theorem askAgain_all {d : Dev} {rid page : Nat} {pasid : Option Nat} {x : XWait} {l : List XWait} (hl : d.xlt.waits = x :: l)
    (hall : ∀ w ∈ d.xlt.waits, w.prg = true ∧ w.on rid pasid page = true) : d.askAgain rid pasid page = ({ d with xlt := { d.xlt with
      waits := d.xlt.waits.map (fun w => { w with prg := false, again := true, sent := false, via := (some w != some x) }) } } : Dev).atsGo := by
  have hx := hall x (hl ▸ List.mem_cons_self)
  have hfirst : d.xlt.waits.find? (fun w => w.prg && w.on rid pasid page) = some x := by
    rw [hl]
    exact List.find?_cons_of_pos (by rw [hx.1, hx.2]; rfl)
  have hmap : d.xlt.waits.map (fun w => if (w.prg && w.on rid pasid page) = true then
        { w with prg := false, again := true, sent := false, via := (some w != some x) } else w)
      = d.xlt.waits.map (fun w => { w with prg := false, again := true, sent := false, via := (some w != some x) }) :=
    List.map_congr_left fun w hw => if_pos (by rw [(hall w hw).1, (hall w hw).2]; rfl)
  rw [Dev.askAgain, hfirst, hmap]

theorem prgTimeout_of_sent {d : Dev} {p : Prg} (hp : d.xlt.prgs.find? (fun q => q.sent) = some p) (hi : d.islandOk 45 = true) :
    prgTimeout d = ((((d.waitUp (p.at_ + d.gf Reg.xltCfg 0 16 * msU)).inc Reg.xltPrgToCnt).dropPrg (fun q => q == p)).failWaits
      (fun w => w.on p.rid p.pasid p.page) 5) := by
  simp only [prgTimeout, hp, hi, Bool.true_eq_false, if_false]

/-- No more than 256 translation requests are under way. -/
theorem atsPump_full {d : Dev} (k : Nat) (h : 256 ≤ (d.xlt.waits.filter (fun x => x.sent)).length) : Dev.atsPump k d = d := by
  cases k with
  | zero => rfl
  | succ k =>
    rw [Dev.atsPump]
    split
    · rfl
    · rw [if_pos h]

/-! ### Invalidations -/

/-- The accesses that an entry `sel` removes grants: those whose translation was used and is now gone. -/
def Dev.goneHit (d : Dev) (sel : AtcEntry → Bool) (r : Nat) (p : Option Nat) (a n : Nat) : Bool :=
  (d.fn (fnOfRid r)).ats && (d.xlt.atc.filter sel).any (fun e => e.rid == r && e.pasid == p && decide (e.base < a + n ∧ a < e.base + e.size))

theorem invalidate_eq (d : Dev) (tag : Option (Nat × Nat)) (sel : AtcEntry → Bool) : d.invalidate tag sel = { d with xlt := { d.xlt with
    atc := d.xlt.atc.filter (fun e => !(sel e)), invs := d.xlt.invs ++ [{ tag := tag, busy := d.busyReads (d.goneHit sel) }] } } := rfl

theorem mem_atc_invalidate {d : Dev} {tag : Option (Nat × Nat)} {sel : AtcEntry → Bool} {e : AtcEntry} :
    e ∈ (d.invalidate tag sel).xlt.atc ↔ e ∈ d.xlt.atc ∧ ¬ sel e = true := by
  rw [invalidate_eq, List.mem_filter, Bool.not_eq_true', Bool.not_eq_true]

theorem goneHit_iff {d : Dev} {tag : Option (Nat × Nat)} {sel : AtcEntry → Bool} {r : Nat} {p : Option Nat} {b k : Nat} : d.goneHit sel r p b k = true ↔
    (d.fn (fnOfRid r)).ats = true ∧ ∃ e ∈ d.xlt.atc, e ∉ (d.invalidate tag sel).xlt.atc ∧ e.rid = r ∧ e.pasid = p ∧ e.base < b + k ∧ b < e.base + e.size := by
  simp only [Dev.goneHit, Bool.and_eq_true, List.any_eq_true, List.mem_filter, beq_iff_eq, decide_eq_true_eq, mem_atc_invalidate]
  refine and_congr_right fun _ => exists_congr fun e => ?_
  constructor
  · rintro ⟨⟨hm, hs⟩, ⟨hr, hp⟩, hb⟩
    exact ⟨hm, fun h => h.2 hs, hr, hp, hb⟩
  · rintro ⟨hm, hs, hr, hp, hb⟩
    exact ⟨⟨hm, by_contra fun h => hs ⟨hm, h⟩⟩, ⟨hr, hp⟩, hb⟩

section
variable {d : Dev}

theorem invalidateRequest_of_room {itag rid addr size n a : Nat} {pasid : Option Nat} (hi : d.islandOk 45 = true)
    (hl : (d.xlt.invs.filter (fun i => i.tag.isSome)).length < 32) (hn : n = 2 ^ max 12 size) (ha : a = addr / n * n) :
    invalidateRequest itag rid pasid addr size d
      = d.invalidate (some (itag, rid)) (fun e => e.rid == rid && e.pasid == pasid && decide (e.base < a + n ∧ a < e.base + e.size)) := by
  have hno : ¬ (d.islandOk 45 = false ∨ 32 ≤ (d.xlt.invs.filter (fun i => i.tag.isSome)).length) :=
    not_or.mpr ⟨by rw [hi]; decide, Nat.not_le.mpr hl⟩
  simp only [invalidateRequest, if_neg hno, ← hn, ← ha]

section
variable {i : Inval} {t : List Inval} {g r : Nat} (hv : d.xlt.invs = i :: t) (hi : d.islandOk 45 = true)
include hv hi

theorem invalidateComplete_sends (ht : i.tag = some (g, r)) (hb : i.busy.any d.stillReads = false) : invalidateComplete d
    = ((({ d with xlt := { d.xlt with invs := t } } : Dev).inc Reg.xltInvCnt).emit (.pcie 5 [r, g])) := by
  simp only [invalidateComplete, hv, hi, hb, ht, Bool.true_eq_false, Bool.false_eq_true, or_self, if_false]

omit hi in
theorem invalidateComplete_waits (hb : i.busy.any d.stillReads = true) : invalidateComplete d = d := by
  simp only [invalidateComplete, hv, hb, or_true, if_true]

end

theorem wrXltCfg_flushes {e : Dev} {v w : Word} (hw : w = setB v 63 true) (hr : inRangeAt Reg.xltCfg w = true) (he : e = d.wrReg Reg.xltCfg w) :
    ∃ l, d.wrXltCfg w = (({ e with xlt := { e.xlt with atc := [], invs := e.xlt.invs ++ [{ tag := none, busy := l }] } } : Dev).sb Reg.xltStat 5 true) := by
  have hgo : getB w 63 = true := by rw [hw, getB_setB_self v true (by decide)]
  refine ⟨e.busyReads (e.goneHit (fun _ => true)), ?_⟩
  simp only [Dev.wrXltCfg, hr, hgo, if_true, ← he, invalidate_eq, Bool.not_true, List.filter_false]

end

/-- Settles O46: how a translation completion answers those that wait, page requests and their responses, and invalidations. -/
theorem translationUnit : Obligations.TranslationUnit := by
  unfold Obligations.TranslationUnit
  refine ⟨?_, ?_, ?_, fun d rid page pasid x l hl hall => askAgain_all hl hall, ?_, fun d k h => atsPump_full k h, ?_, ?_, ?_⟩
  · intro s rid pasid page size r w x d hi hw hrw hd
    refine ⟨?_, ?_⟩
    · rw [← translationCompletion_answers hi hw hrw hd]
      exact onDev_next _ s
    · rw [← translationCompletion_fails (size := size) (r := r) (w := w) hi hw]
      exact onDev_next _ s
  · exact fun d x r w => ⟨answerWait_granted, answerWait_again, answerWait_stopped, answerWait_unpaged, fun y hg ha hs hp hy => answerWait_asks hg ha hs hp hy⟩
  · intro s rid pasid page isP d hi hp ha hd
    refine ⟨?_, ?_, ?_⟩
    · rw [← pageResponse_success hi hp ha hd]
      exact onDev_next _ s
    · rw [← pageResponse_invalid hi hp ha hd]
      exact onDev_next _ s
    · rintro same rfl
      rw [← pageResponse_failure hi hp ha hd]
      exact onDev_next _ s
  · intro s p hp hi
    rw [← prgTimeout_of_sent hp hi]
    exact onDev_next _ s
  · intro s itag rid pasid page size n a hi hl hn ha
    have hex := invalidateRequest_of_room (itag := itag.toNat) (rid := rid.toNat) (pasid := pasid.map (fun y => y.toNat)) hi hl hn ha
    refine ⟨_, _, (onDev_next _ s).trans (congrArg (fun d : Dev => Host.Outcome.next ({ s with dev := d } : State)) hex), fun e => ?_, fun r p b k => goneHit_iff, rfl⟩
    rw [mem_atc_invalidate]
    simp only [Bool.and_eq_true, beq_iff_eq, decide_eq_true_eq, and_assoc]
  · intro s i t g r hv hi ht
    have hex : exec .invalidateComplete s = .next { s with dev := invalidateComplete s.dev } := onDev_next _ s
    rw [hex]
    exact ⟨fun hb => by rw [invalidateComplete_sends hv hi ht hb], fun hb => by rw [invalidateComplete_waits hv hb]⟩
  · intro s r v w d ht hw hr hd
    obtain ⟨l, hl⟩ := wrXltCfg_flushes hw hr hd
    refine ⟨l, ?_⟩
    rw [← hl, hw]
    exact onDev_gate_of_takes (fun d => d.wrXltCfg (setB v 63 true)) ht

end Sys2Proof.Machine
end

section
/-! The clocks that a wait takes reach its end, chapter 2 (R39). -/

namespace Sys2Proof.Machine

/-! ### Rates -/

theorem clampI_bounds {lo hi : Int} (i : Int) (h : lo ≤ hi) : lo ≤ clampI lo hi i ∧ clampI lo hi i ≤ hi := by
  unfold clampI
  split_ifs <;> omega

/-- A clock of the servo's rate moves time by between half and one and a half of its nominal length. -/
theorem rate_clamped (d : Dev) : 140737488356 ≤ ((2 ^ 48 : Nat) : Int) + clampI (-rateLim) rateLim d.rate := by
  have h := (clampI_bounds d.rate (by decide : -rateLim ≤ rateLim)).1
  unfold rateLim at h
  unfold rateLim
  omega

/-- A slew is far slower than time. -/
theorem slewRate_natAbs_le (d : Dev) : d.slewRate.natAbs ≤ 71776119061 := by
  have hf : d.gf Reg.timServoCfg 24 8 < 256 := Nat.mod_lt _ (by decide)
  have hu : d.gf Reg.timServoCfg 24 8 * 2 ^ 48 / 1000000 ≤ 71776119061 := by omega
  generalize hx : d.gf Reg.timServoCfg 24 8 * 2 ^ 48 / 1000000 = u at hu
  simp only [Dev.slewRate, hx]
  split_ifs <;> omega

/-! ### Waiting -/

theorem le_ceil_mul {r : Nat} (x : Nat) (h : 0 < r) : x ≤ (x + r - 1) / r * r := by
  have hd := Nat.div_add_mod (x + r - 1) r
  have hm := Nat.mod_lt (x + r - 1) h
  rw [Nat.mul_comm] at hd
  omega

theorem ceil_le {r x k : Nat} (h : 0 < r) (hx : x ≤ k * r) : (x + r - 1) / r ≤ k := by
  refine Nat.le_of_lt_succ ((Nat.div_lt_iff_lt_mul h).mpr ?_)
  rw [Nat.succ_mul]
  omega

theorem lt_of_lt_ceil {r x k : Nat} (h : 0 < r) (hk : k < (x + r - 1) / r) : k * r < x :=
  Nat.lt_of_not_le fun hx => absurd (ceil_le h hx) (Nat.not_le.mpr hk)

theorem clocks_up (d : Dev) (n : Nat) : (d.clocks n).tim.up
    = d.tim.up + ((n : Int) * (((2 ^ 48 : Nat) : Int) + clampI (-rateLim) rateLim d.rate) + d.slewMove n).toNat := by
  unfold Dev.clocks
  extract_lets base mv adv src t d1
  split <;> rfl

/-- While the slew lasts, `n` clocks move it by `n` times its rate. -/
theorem slewMove_within {d : Dev} {n m : Nat} (hm : d.slewClocks = some m) (hn : n < m) : d.slewMove n = n * d.slewRate := by
  unfold Dev.slewClocks at hm
  split_ifs at hm with hs hr
  · obtain rfl := Option.some.inj hm
    omega
  · obtain rfl := Option.some.inj hm
    rw [Dev.slewMove, if_neg (Nat.not_le.mpr (lt_of_lt_ceil (Int.natAbs_pos.mpr hr) hn))]

/-- Once it has ended, the whole slew has been made. -/
theorem slewMove_beyond {d : Dev} {n m : Nat} (hm : d.slewClocks = some m) (hn : m ≤ n) : d.slewMove n = d.tim.slew := by
  unfold Dev.slewClocks at hm
  split_ifs at hm with hs hr
  · rw [Dev.slewMove, if_pos (by rw [hs]; exact Nat.zero_le _)]
  · obtain rfl := Option.some.inj hm
    exact if_pos ((le_ceil_mul _ (Int.natAbs_pos.mpr hr)).trans (Nat.mul_le_mul_right _ hn))

theorem slewMove_of_no_rate {d : Dev} (hm : d.slewClocks = none) (n : Nat) : d.slewMove n = 0 := by
  unfold Dev.slewClocks at hm
  split_ifs at hm with hs hr
  rw [Dev.slewMove, if_neg (by rw [hr, Int.natAbs_zero, Nat.mul_zero]; omega), hr, Int.mul_zero]

/-- A slew that is as slow takes no more than the time of its clocks. -/
theorem whole_nonneg {d : Dev} {m r : Nat} (hm : d.slewClocks = some m) (hr : d.slewRate.natAbs ≤ r) : 0 ≤ (m : Int) * r + d.tim.slew := by
  have hle : d.tim.slew.natAbs ≤ m * r := by
    unfold Dev.slewClocks at hm
    split_ifs at hm with hs h0
    · rw [hs]; exact Nat.zero_le _
    · obtain rfl := Option.some.inj hm
      exact (le_ceil_mul _ (Int.natAbs_pos.mpr h0)).trans (Nat.mul_le_mul_left _ hr)
  have hcast : ((m * r : Nat) : Int) = m * r := Nat.cast_mul ..
  omega

/-- The clocks counted for a wait of `x` move time by `x` or more: with the slew, without it, or past its end. -/
theorem le_clocksFor (d : Dev) {x : Nat} (hx : 0 < x) :
    (x : Int) ≤ d.clocksFor x * (((2 ^ 48 : Nat) : Int) + clampI (-rateLim) rateLim d.rate) + d.slewMove (d.clocksFor x) := by
  have hrate := rate_clamped d
  have hσ := slewRate_natAbs_le d
  unfold Dev.clocksFor
  generalize ((2 ^ 48 : Nat) : Int) + clampI (-rateLim) rateLim d.rate = R at hrate ⊢
  obtain ⟨r0, rfl⟩ : ∃ r0 : Nat, R = r0 := ⟨R.toNat, by omega⟩
  obtain ⟨r1, hr1⟩ : ∃ r1 : Nat, (r0 : Int) + d.slewRate = r1 := ⟨((r0 : Int) + d.slewRate).toNat, by omega⟩
  have h0 : 0 < r0 := by omega
  have h1 : 0 < r1 := by omega
  simp only [Int.toNat_natCast, hr1]
  cases hm : d.slewClocks with
  | none =>
    have hc := le_ceil_mul x h0
    simp only [slewMove_of_no_rate hm]
    push_cast at hc ⊢
    exact_mod_cast (by omega : (x : Int) ≤ ((x + r0 - 1) / r0 * r0 : Nat) + 0)
  | some m =>
    simp only
    split_ifs with ha hb
    · have hlt : (x + r1 - 1) / r1 < m := by
        have := ceil_le h1 ha
        rcases Nat.eq_zero_or_pos m with rfl | hm0
        · omega
        · omega
      rw [slewMove_within hm hlt, ← Int.mul_add, hr1]
      exact_mod_cast le_ceil_mul x h1
    · rw [slewMove_beyond hm le_rfl]
      exact hb
    · rw [slewMove_beyond hm (Nat.le_add_right _ _)]
      have hwhole : 0 ≤ (m : Int) * r0 + d.tim.slew := whole_nonneg hm (by omega)
      have hc := le_ceil_mul (x - ((m : Int) * r0 + d.tim.slew).toNat) h0
      rw [Nat.cast_add, Int.add_mul]
      generalize (x - ((m : Int) * r0 + d.tim.slew).toNat + r0 - 1) / r0 = k at hc ⊢
      have hk : ((k * r0 : Nat) : Int) = k * r0 := Nat.cast_mul ..
      generalize (k : Int) * r0 = kr at hk ⊢
      generalize (m : Int) * r0 = mr at hwhole hc ⊢
      omega

theorem le_waitUp_up (d : Dev) (t : Nat) : t ≤ (d.waitUp t).tim.up := by
  unfold Dev.waitUp
  split_ifs with h
  · exact h
  · have := le_clocksFor d (x := t - d.tim.up) (by omega)
    rw [clocks_up]
    omega

end Sys2Proof.Machine
end

section
/-! The handshake of the mailboxes, and how a command is judged and ends, chapter 12 (R377–R388, R468, Table MBX-6). -/

namespace Sys2Proof.Machine

/-! ### The handshake -/

theorem mbxGate_owner {d : Dev} {r : Req} {m a : Nat} (f : Dev → Dev) (hu : d.unreachable a = false) (ho : d.mbxOwns r m = true) :
    d.mbxGate r m a f = f d := by
  simp only [Dev.mbxGate, hu, ho, Bool.false_eq_true, if_false, if_true]

theorem mbxGate_other {d : Dev} {r : Req} {m a : Nat} (f : Dev → Dev) (hu : d.unreachable a = false) (ho : d.mbxOwns r m = false) :
    d.mbxGate r m a f = d.inc Reg.mbxOwnErrCnt := by
  simp only [Dev.mbxGate, hu, ho, Bool.false_eq_true, if_false]

theorem wrMbxDb_go (d : Dev) (m : Nat) (v : Word) : d.wrMbxDb m (setB v 63 true)
    = if d.mbxBusy m then d.sb (Reg.mbxStat m) 2 true
      else ({ d with mbx := { d.mbx with go := goPut d.mbx.go m d.tim.up } } : Dev).mbxTake := by
  rw [Dev.wrMbxDb, if_pos (getB_setB_self v true (by decide))]

/-- A doorbell joins the waiting ones behind those rung before, and before those of the same instant and a higher mailbox. -/
theorem goPut_append (l k : List (Nat × Nat)) (m t : Nat) (hl : ∀ e ∈ l, t ≠ e.2 ∨ e.1 ≤ m) (hk : ∀ e ∈ k.head?, t = e.2 ∧ m < e.1) :
    goPut (l ++ k) m t = l ++ (m, t) :: k := by
  induction l with
  | nil =>
    cases k with
    | nil => rfl
    | cons e k => exact if_pos (hk e rfl)
  | cons e l ih =>
    have he : ¬ (t = e.2 ∧ m < e.1) := by
      have := hl e List.mem_cons_self
      omega
    rw [List.cons_append, goPut, if_neg he, ih fun x hx => hl x (List.mem_cons_of_mem _ hx), List.cons_append]

theorem waitUp_mbx (d : Dev) (t : Nat) : (d.waitUp t).mbx = d.mbx := by
  unfold Dev.waitUp
  split
  · rfl
  · obtain ⟨x, h | h⟩ := clocks_cases d (d.clocksFor (t - d.tim.up)) <;> rw [h]
    rw [sb_mbx]

/-! ### The judgement of a command -/

section
variable {d : Dev} {opc m : Nat} {c : Nat → MbxCmd} (hm : d.mbxFront opc = some m)
include hm

theorem mbxRun_judged {r : Resp} (h : d.mbxJudge m (c m) = some r) : d.mbxRun opc c = d.mbxDone m r := by
  simp only [Dev.mbxRun, hm, h]

theorem mbxRun_passed (h : d.mbxJudge m (c m) = none) : d.mbxRun opc c = (c m).run := by
  simp only [Dev.mbxRun, hm, h]

end

section
variable {d : Dev} {m : Nat} {k : MbxCmd}

theorem mbxJudge_length (hl : d.mbxLenOk m k.len = false) : d.mbxJudge m k = some { status := 2 } := if_pos hl

variable (hl : d.mbxLenOk m k.len = true)
include hl

theorem mbxJudge_rights (hy : k.may = false) : d.mbxJudge m k = some { status := 4 } := by
  simp only [Dev.mbxJudge, hl, hy, Bool.true_eq_false, if_false, if_true]

variable (hy : k.may = true)
include hy

theorem mbxJudge_boot (hs : d.fwState = 1) (hh : m ≠ 0 ∨ k.hold = false) : d.mbxJudge m k = some { status := 0x11 } := by
  have hyes : d.fwState = 1 ∧ (m ≠ 0 ∨ k.hold = false) := ⟨hs, hh⟩
  simp only [Dev.mbxJudge, hl, hy, Bool.true_eq_false, if_false, if_pos hyes]

variable (hs : d.fwState ≠ 1 ∨ (m = 0 ∧ k.hold = true))
include hs

theorem mbxJudge_held (hb : ∃ b ∈ k.blks, d.mbxHeld m b = true) : d.mbxJudge m k = some { status := 5 } := by
  have hno : ¬ (d.fwState = 1 ∧ (m ≠ 0 ∨ k.hold = false)) := by
    rcases hs with h | ⟨h0, hh⟩
    · exact fun hc => h hc.1
    · simp [h0, hh]
  simp only [Dev.mbxJudge, hl, hy, Bool.true_eq_false, if_false, if_neg hno, List.any_eq_true.mpr hb, if_true]

theorem mbxJudge_args (hb : ∀ b ∈ k.blks, d.mbxHeld m b = false) : d.mbxJudge m k = k.bad.map (fun n => { status := 3, errWord := n }) := by
  have hno : ¬ (d.fwState = 1 ∧ (m ≠ 0 ∨ k.hold = false)) := by
    rcases hs with h | ⟨h0, hh⟩
    · exact fun hc => h hc.1
    · simp [h0, hh]
  have hnone : k.blks.any (d.mbxHeld m) = false := List.any_eq_false.mpr fun b h => Bool.eq_false_iff.mp (hb b h)
  simp only [Dev.mbxJudge, hl, hy, Bool.true_eq_false, if_false, if_neg hno, hnone, Bool.false_eq_true]

end

/-! ### The response -/

theorem rd_stWs (d : Dev) (a : Nat) (l : List Word) (b : Nat) : (d.stWs a l).rd b = d.rd b := by
  induction l generalizing d a with
  | nil => rfl
  | cons v t ih => rw [Dev.stWs, ih, rd_stW]

/-- With the interrupt off, a response shows DONE and its sequence number in the mailbox's status. -/
theorem mbxRespond_status {d : Dev} {m : Nat} (opc seq : Nat) (r : Resp) (hm : m < 16) (hi : d.gb (Reg.mbxCfg m) 0 = false) :
    (d.mbxRespond m opc seq r).gb (Reg.mbxStat m) 0 = false ∧ (d.mbxRespond m opc seq r).gb (Reg.mbxStat m) 1 = true
      ∧ (d.mbxRespond m opc seq r).gf (Reg.mbxStat m) 16 16 = seq % 2 ^ 16 := by
  have hcs : Reg.mbxCfg m ≠ Reg.mbxStat m := by unfold Reg.mbxCfg Reg.mbxStat; omega
  have hcc : Reg.mbxCfg m ≠ Reg.mbxCmdCnt := by unfold Reg.mbxCfg Reg.mbxCmdCnt; omega
  have hce : Reg.mbxCfg m ≠ Reg.mbxErrCnt := by unfold Reg.mbxCfg Reg.mbxErrCnt; omega
  have hsc : Reg.mbxStat m ≠ Reg.mbxCmdCnt := by unfold Reg.mbxStat Reg.mbxCmdCnt; omega
  have hse : Reg.mbxStat m ≠ Reg.mbxErrCnt := by unfold Reg.mbxStat Reg.mbxErrCnt; omega
  unfold Dev.mbxRespond
  extract_lets w0 w1 d1 d2 a d3
  have hd2 (b : Nat) : d2.rd b = d.rd b := by rw [rd_stWs, rd_stWs]; rfl
  have hstat : d3.rd a = setF (setB (setB (d2.rd a) 0 false) 1 true) 16 16 seq := by
    rw [rd_inc_ne _ hsc, rd_sf_self, rd_sb_self, rd_sb_self]
  have hcfg : d3.rd (Reg.mbxCfg m) = d.rd (Reg.mbxCfg m) := by
    rw [rd_inc_ne _ hcc, rd_sf_ne _ _ _ _ hcs, rd_sb_ne _ _ _ hcs, rd_sb_ne _ _ _ hcs, hd2]
  clear_value d3
  generalize he : (if r.status = 0 then d3 else d3.inc Reg.mbxErrCnt) = e
  have hrd {b : Nat} (h : b ≠ Reg.mbxErrCnt) : e.rd b = d3.rd b := by
    rw [← he, apply_ite (fun x : Dev => x.rd b), rd_inc_ne _ h, ite_self]
  have hes : e.rd a = d3.rd a := hrd hse
  have hec : e.gb (Reg.mbxCfg m) 0 = false := by rw [← hi, Dev.gb, Dev.gb, ← hcfg, hrd hce]
  have hfire : e.mbxFire m = e := by rw [Dev.mbxFire, if_neg (Bool.eq_false_iff.mp hec)]
  rw [hfire, Dev.gb, Dev.gb, Dev.gf, hes, hstat]
  exact ⟨by rw [getB_setF _ _ _ (by decide), if_neg (by decide), getB_setB_ne _ _ (by decide) (by decide), getB_setB_self _ _ (by decide)],
    by rw [getB_setF _ _ _ (by decide), if_neg (by decide), getB_setB_self _ _ (by decide)], getF_setF_self _ _ (by decide)⟩

/-! ### Registers written by a command -/

theorem mbxPut_unreachable {d : Dev} {a : Nat} (n : Nat) (v : Word) (t : List (Nat × Nat × Word)) (h : d.unreachable a = true) :
    d.mbxPut ((n, a, v) :: t) = (some n, d.accFail .joiner false true a 2 (d.islandOf a)) := if_pos h

theorem mbxPut_reachable {d : Dev} {a : Nat} (n : Nat) (v : Word) (t : List (Nat × Nat × Word)) (h : d.unreachable a = false) :
    d.mbxPut ((n, a, v) :: t) = (d.wrAny a v).mbxPut t := if_neg (Bool.eq_false_iff.mp h)

/-- Settles O47: who runs, the checks of a command in their order, and how a command ends. -/
theorem mailboxRequestIsJudged : Obligations.MailboxRequestIsJudged := by
  unfold Obligations.MailboxRequestIsJudged
  refine ⟨?_, goPut_append, ?_, ?_, ?_, fun d m opc seq r hm hi _ => mbxRespond_status opc seq r hm hi,
    fun d n a v t => ⟨mbxPut_unreachable n v t, mbxPut_reachable n v t⟩⟩
  · intro s r m v hu ho
    have hex : exec (.mailboxGo r m v) s = .next { s with dev := s.dev.wrMbxDb m.val (setB v 63 true) } := by
      rw [← mbxGate_owner (fun x => x.wrMbxDb m.val (setB v 63 true)) hu ho]
      exact onDev_next (fun d => d.mbxGate r m.val (Reg.mbxDb m.val) (fun x => x.wrMbxDb m.val (setB v 63 true))) s
    rw [hex, wrMbxDb_go]
    exact ⟨fun h => by rw [if_pos h], fun h => by rw [if_neg (Bool.eq_false_iff.mp h)]⟩
  · intro s r m w v hu
    refine ⟨fun ho => ?_, fun ho => ?_⟩
    · have hex : exec (.mailboxRequestWrite r m w v) s = .next { s with dev := s.dev.wrMbxReq m.val w.toNat v } := by
        rw [← mbxGate_owner (fun x => x.wrMbxReq m.val w.toNat v) hu ho]
        exact onDev_next (fun d => d.mbxGate r m.val (0x4000000 + m.val * 0x1000 + 8 * w.toNat) (fun x => x.wrMbxReq m.val w.toNat v)) s
      rw [hex, Dev.wrMbxReq]
      exact ⟨fun h => by rw [if_pos h], fun h => by rw [if_neg (Bool.eq_false_iff.mp h)]⟩
    · rw [← mbxGate_other (fun x => x.wrMbxReq m.val w.toNat v) hu ho]
      exact onDev_next (fun d => d.mbxGate r m.val (0x4000000 + m.val * 0x1000 + 8 * w.toNat) (fun x => x.wrMbxReq m.val w.toNat v)) s
  · intro s m w hw _
    obtain ⟨e, he⟩ : ∃ e, e = s.dev.waitUp w.due := ⟨_, rfl⟩
    have hmbx : e.mbx = s.dev.mbx := he ▸ waitUp_mbx s.dev w.due
    refine ⟨{ e with mbx := { e.mbx with waits := e.mbx.waits.erase w } }, ?_, ?_, ?_, ?_⟩
    · have hex : exec (.mailboxCommandTimeout m) s = .next { s with dev := mailboxCommandTimeout m.val s.dev } := onDev_next _ s
      simp only [hex, mailboxCommandTimeout, hw, ← he]
    · rw [hmbx]
    · rw [hmbx]
    · exact he ▸ le_waitUp_up s.dev w.due
  · intro d opc m c hm
    refine ⟨fun hl => ?_, fun hl hy => ?_, fun hl hy hs hh => ?_, fun hl hy hs hb => ?_, fun hl hy hs hb => ⟨fun n hn => ?_, fun hn => ?_⟩⟩
    · exact mbxRun_judged hm (mbxJudge_length hl)
    · exact mbxRun_judged hm (mbxJudge_rights hl hy)
    · exact mbxRun_judged hm (mbxJudge_boot hl hy hs hh)
    · exact mbxRun_judged hm (mbxJudge_held hl hy (.inl hs) hb)
    · exact mbxRun_judged hm (by rw [mbxJudge_args hl hy (.inl hs) hb, hn, Option.map_some])
    · exact mbxRun_passed hm (by rw [mbxJudge_args hl hy (.inl hs) hb, hn, Option.map_none])

end Sys2Proof.Machine
end

section
/-! A mailbox command that is asked for and passes its checks, and the commands that write register images, chapter 12 (R380, R389, Table MBX-8). -/

namespace Sys2Proof.Machine

/-! ### A command that is asked for -/

section
variable {s : State} {opc m len : Nat} {hold : Bool} {blks : List Nat} {k : Nat → MbxCmd} (h : s.asks opc m len hold blks)
  (hl : (k m).len = len) (hy : (k m).may = true) (hh : (k m).hold = hold) (hb : (k m).blks = blks)
include h hl hy hh hb

/-- A command that is asked for is judged by its arguments alone. -/
theorem mbxJudge_of_asks : s.dev.mbxJudge m (k m) = (k m).bad.map (fun n => { status := 3, errWord := n }) := by
  obtain ⟨_, hlen, hboot, hheld⟩ := h
  exact mbxJudge_args (by rw [hl]; exact hlen) hy (by rw [hh]; exact hboot) (by rw [hb]; exact hheld)

theorem mbxRun_of_asks (hg : (k m).bad = none) : s.dev.mbxRun opc k = (k m).run :=
  mbxRun_passed h.1 (by rw [mbxJudge_of_asks h hl hy hh hb, hg, Option.map_none])

theorem mbxRun_bad_of_asks {n : Nat} (hg : (k m).bad = some n) : s.dev.mbxRun opc k = s.dev.mbxDone m { status := 3, errWord := n } :=
  mbxRun_judged h.1 (by rw [mbxJudge_of_asks h hl hy hh hb, hg, Option.map_some])

end

/-! ### Arguments -/

theorem firstBad_of_all {l : List (Nat × Bool)} (h : l.all (fun e => e.2) = true) : firstBad l = none := by
  induction l with
  | nil => rfl
  | cons e t ih =>
    obtain ⟨he, ht⟩ := Bool.and_eq_true_iff.mp (List.all_cons ▸ h)
    rw [firstBad, if_pos he, ih ht]

theorem firstBad_of_not_all {l : List (Nat × Bool)} (h : l.all (fun e => e.2) = false) : ∃ n, firstBad l = some n := by
  induction l with
  | nil => exact absurd h (by decide)
  | cons e t ih =>
    by_cases he : e.2 = true
    · rw [List.all_cons, he, Bool.true_and] at h
      rw [firstBad, if_pos he]
      exact ih h
    · exact ⟨e.1, by rw [firstBad, if_neg he]⟩

/-- A command of one block whose arguments are checked word by word: it runs where all are good, and answers BAD_FIELD where one is not. -/
theorem exec_of_words {s : State} {opc m len blk : Nat} {c : Instr} {f : Dev → Dev} {k : Nat → MbxCmd} {l : List (Nat × Bool)} {run : Dev} {ok : Bool}
    (h : s.asks opc m len false [blk]) (hex : exec c s = onDev f s) (hf : f s.dev = s.dev.mbxRun opc k)
    (hk : k m = { len := len, blks := [blk], bad := firstBad l, run := run }) (hok : ok = l.all (fun e => e.2)) :
    (ok = true → exec c s = .next { s with dev := run })
    ∧ (ok = false → ∃ n, exec c s = .next { s with dev := s.dev.mbxDone m { status := 3, errWord := n } }) := by
  rw [hex, onDev_next, hf]
  refine ⟨fun ht => ?_, fun ht => ?_⟩
  · rw [mbxRun_of_asks h (by rw [hk]) (by rw [hk]) (by rw [hk]) (by rw [hk]) (by rw [hk]; exact firstBad_of_all (hok ▸ ht)), hk]
  · obtain ⟨n, hn⟩ := firstBad_of_not_all (hok ▸ ht)
    exact ⟨n, by rw [mbxRun_bad_of_asks h (by rw [hk]) (by rw [hk]) (by rw [hk]) (by rw [hk]) (by rw [hk]; exact hn)]⟩

/-- Settles O48: each of the commands that carry register images writes them and answers OK, or answers BAD_FIELD and writes nothing. -/
theorem mailboxImagesAreWritten : Obligations.MailboxImagesAreWritten := by
  unfold Obligations.MailboxImagesAreWritten
  intro s m opc len blk p i c ok w A img hA hp hi himg hc h
  subst hA
  simp only [List.mem_cons, Prod.mk.injEq, List.not_mem_nil, or_false] at hc
  rcases hc with ⟨rfl, rfl, rfl, rfl, rfl, rfl⟩ | ⟨rfl, rfl, rfl, rfl, rfl, rfl⟩ | ⟨rfl, rfl, rfl, rfl, rfl, rfl⟩ | ⟨rfl, rfl, rfl, rfl, rfl, rfl⟩
    | ⟨rfl, rfl, rfl, rfl, rfl, rfl⟩ | ⟨rfl, rfl, rfl, rfl, rfl, rfl⟩ | ⟨rfl, rfl, rfl, rfl, rfl, rfl⟩ | ⟨rfl, rfl, rfl, rfl, rfl, rfl⟩
    | ⟨rfl, rfl, rfl, rfl, rfl, rfl⟩ | ⟨rfl, rfl, rfl, rfl, rfl, rfl⟩ | ⟨rfl, rfl, rfl, rfl, rfl, rfl⟩ | ⟨rfl, rfl, rfl, rfl, rfl, rfl⟩
  all_goals subst himg
  · exact exec_of_words (f := timeSource) h rfl rfl rfl (by simp [Bool.and_assoc])
  · exact exec_of_words (f := timePins) h rfl rfl rfl (by simp [Bool.and_assoc])
  · rw [hp]
    exact exec_of_words (f := calPortCmd) h rfl rfl rfl (by simp)
  · rw [hp]
    exact exec_of_words (f := prePort) h rfl rfl rfl (by simp [Bool.and_assoc])
  · rw [hp]
    exact exec_of_words (f := streamPort) h rfl rfl rfl (by simp)
  · rw [hp]
    exact exec_of_words (f := portMac) h rfl rfl rfl (by simp [Bool.and_assoc])
  · rw [hp]
    exact exec_of_words (f := portFilter) h rfl rfl rfl (by simp [Bool.and_assoc])
  · rw [hp]
    exact exec_of_words (f := portPause) h rfl rfl rfl (by simp)
  · rw [hi]
    exact exec_of_words (f := vlanSet) h rfl rfl rfl (by simp [Bool.and_assoc])
  · rw [hi]
    exact exec_of_words (f := mcgSet) h rfl rfl rfl (by simp [Bool.and_assoc])
  · rw [hp]
    exact exec_of_words (f := fwdPortCmd) h rfl rfl rfl (by simp [Bool.and_assoc])
  · exact exec_of_words (f := fwdSet) h rfl rfl rfl (by simp [Bool.and_assoc])

end Sys2Proof.Machine
end

section
/-! Further mailbox commands that set registers, tables or state of the firmware, chapter 12 (Tables MBX-5, MBX-8, R244, R262, R377). -/

namespace Sys2Proof.Machine

/-! ### A command that runs -/

/-- A command that is asked for, that the requester may give and whose arguments are good, runs. -/
theorem exec_runs {s : State} {opc m len : Nat} {hold may : Bool} {blks : List Nat} {bad : Option Nat} {c : Instr} {f : Dev → Dev} {k : Nat → MbxCmd}
    {run e : Dev} (h : s.asks opc m len hold blks) (hex : exec c s = onDev f s) (hf : f s.dev = s.dev.mbxRun opc k)
    (hk : k m = { len := len, may := may, hold := hold, blks := blks, bad := bad, run := run }) (hmay : may = true) (hbad : bad = none)
    (hrun : run = e) : exec c s = .next { s with dev := e } := by
  rw [hex, onDev_next, hf, mbxRun_of_asks h (by rw [hk]) (by rw [hk]; exact hmay) (by rw [hk]) (by rw [hk]) (by rw [hk]; exact hbad), hk, hrun]

theorem mbxAt_reachable {d : Dev} {a : Nat} (m n : Nat) (f : Dev → Dev) (h : d.unreachable a = false) : d.mbxAt m n a f = f d :=
  if_neg (Bool.eq_false_iff.mp h)

theorem mbxTable_reachable {d : Dev} {isl : Nat} (m n o : Nat) (write : Bool) (f : Dev → Dev) (h : d.islandOk isl = true) :
    d.mbxTable m n o isl write f = f d := if_pos h

/-! ### PORT_MODE -/

section
variable {s : State} {m : Nat} (h : s.asks 0x0901 m 24 false [7, 8]) (h0 : portArg (s.dev.mbxArg m 0) = true)
include h h0

/-- A 25G port has one mode and one FEC code. -/
theorem portMode_high (hp : 32 ≤ getF (s.dev.mbxArg m 0) 0 6)
    (h1 : imgOk (Reg.sdsMode (getF (s.dev.mbxArg m 0) 0 6)) goBit (setF (s.dev.mbxArg m 1) 0 3 6) = true)
    (h2 : imgOk (Reg.pcsCfg (getF (s.dev.mbxArg m 0) 0 6)) 0 (s.dev.mbxArg m 2) = true)
    (hu : s.dev.unreachable (Reg.sdsMode (getF (s.dev.mbxArg m 0) 0 6)) = false) :
    exec .portMode s = .next { s with dev := s.dev.mbxSet m [(1, Reg.sdsMode (getF (s.dev.mbxArg m 0) 0 6), s.dev.mbxArg m 1),
      (2, Reg.pcsCfg (getF (s.dev.mbxArg m 0) 0 6), s.dev.mbxArg m 2)] (fun y => y.mbxOk m []) } := by
  have hno : ¬ (getF (s.dev.mbxArg m 0) 0 6 < 32) := Nat.not_lt.mpr hp
  have hmode : modeArg (getF (s.dev.mbxArg m 0) 0 6) (s.dev.mbxArg m 1) = 6 := if_neg hno
  refine exec_runs (f := portMode) h rfl rfl rfl rfl (firstBad_of_all ?_) ((mbxAt_reachable _ _ _ hu).trans (if_neg fun hc => hno hc.1))
  simp [h0, hmode, h1, h2, hp, hno, fecOk]

variable (hp : getF (s.dev.mbxArg m 0) 0 6 < 32) (hm : getF (s.dev.mbxArg m 1) 0 3 < 6)
  (h1 : imgOk (Reg.sdsMode (getF (s.dev.mbxArg m 0) 0 6)) goBit (setF (s.dev.mbxArg m 1) 0 3 (getF (s.dev.mbxArg m 1) 0 3)) = true)
  (h2 : imgOk (Reg.pcsCfg (getF (s.dev.mbxArg m 0) 0 6)) 0 (s.dev.mbxArg m 2) = true)
  (hf : fecOk (getF (s.dev.mbxArg m 1) 0 3) (getF (s.dev.mbxArg m 2) 0 2) = true)
  (hu : s.dev.unreachable (Reg.sdsMode (getF (s.dev.mbxArg m 0) 0 6)) = false) (ha : s.dev.mergedAway (getF (s.dev.mbxArg m 0) 0 6) = false)
  (hb : getB (s.dev.mbxArg m 1) 63 = false)
include hp hm h1 h2 hf hu ha hb

/-- A mode that uses one port's lanes, of a port of islands 0 to 31: the check that its MAC is off decides. -/
theorem portMode_low {e : Dev}
    (he : (if s.dev.macOff (getF (s.dev.mbxArg m 0) 0 6) = false then (s.dev.sb (Reg.pcsStat (getF (s.dev.mbxArg m 0) 0 6)) 14 true).mbxRefused m 1
      else s.dev.mbxSet m [(1, Reg.sdsMode (getF (s.dev.mbxArg m 0) 0 6), s.dev.mbxArg m 1),
        (2, Reg.pcsCfg (getF (s.dev.mbxArg m 0) 0 6), s.dev.mbxArg m 2)] (fun y => y.mbxOk m [])) = e) :
    exec .portMode s = .next { s with dev := e } := by
  have hmode : modeArg (getF (s.dev.mbxArg m 0) 0 6) (s.dev.mbxArg m 1) = getF (s.dev.mbxArg m 1) 0 3 := if_pos hp
  have h6 : getF (s.dev.mbxArg m 1) 0 3 ≠ 6 := by omega
  have h7 : getF (s.dev.mbxArg m 1) 0 3 ≠ 7 := by omega
  refine exec_runs (f := portMode) h rfl rfl rfl rfl (firstBad_of_all ?_) ((mbxAt_reachable _ _ _ hu).trans ?_)
  · simp [h0, hmode, h1, h2, hp, h6, h7, hf]
  · simp only [hmode, h6, false_and, if_false, List.all_cons, List.all_nil, Bool.and_true, hp, ha, hb, Bool.false_and, true_and]
    exact he

theorem portMode_off (hoff : s.dev.macOff (getF (s.dev.mbxArg m 0) 0 6) = true) : exec .portMode s
    = .next { s with dev := s.dev.mbxSet m [(1, Reg.sdsMode (getF (s.dev.mbxArg m 0) 0 6), s.dev.mbxArg m 1),
      (2, Reg.pcsCfg (getF (s.dev.mbxArg m 0) 0 6), s.dev.mbxArg m 2)] (fun y => y.mbxOk m []) } :=
  portMode_low h h0 hp hm h1 h2 hf hu ha hb (if_neg (by rw [hoff]; decide))

theorem portMode_on (hon : s.dev.macOff (getF (s.dev.mbxArg m 0) 0 6) = false) : exec .portMode s
    = .next { s with dev := (s.dev.sb (Reg.pcsStat (getF (s.dev.mbxArg m 0) 0 6)) 14 true).mbxRefused m 1 } :=
  portMode_low h h0 hp hm h1 h2 hf hu ha hb (if_pos hon)

end

/-- Settles O49: the commands that set registers, a table entry, the firmware's own state or a mailbox's owner, on good arguments. -/
theorem mailboxCommandsSet : Obligations.MailboxCommandsSet := by
  unfold Obligations.MailboxCommandsSet
  intro s m p A hA hp
  subst hA hp
  refine ⟨?_, ?_, ?_, ?_, ?_, ?_, ?_, ?_, ?_⟩
  · intro h h0 h1
    exact exec_runs (f := portEee) h rfl rfl rfl rfl (firstBad_of_all (by simp [h0, h1])) rfl
  · intro h h0 hp h1
    exact exec_runs (f := portShim) h rfl rfl rfl rfl (firstBad_of_all (by simp [h0, hp, h1])) rfl
  · exact fun h h0 hp h1 h2 hu _ => portMode_high h h0 hp h1 h2 hu
  · exact fun h h0 hp hm h1 h2 hf hu ha hb => ⟨portMode_off h h0 hp hm h1 h2 hf hu ha hb, portMode_on h h0 hp hm h1 h2 hf hu ha hb⟩
  · intro h h0 hp h1 h2
    exact exec_runs (f := ptpPortCmd) h rfl rfl rfl rfl (firstBad_of_all (by simp [h0, hp, h1, h2])) rfl
  · intro h h0 h1 h2
    exact exec_runs (f := ptpInstance) h rfl rfl rfl rfl (firstBad_of_all (by simp [h0, h1, h2])) rfl
  · intro h h0
    exact exec_runs (f := tsqSet) h rfl rfl rfl rfl (firstBad_of_all h0) rfl
  · intro h h0 h1 h2 h3 hi
    exact exec_runs (f := nexthopSet) h rfl rfl rfl rfl (firstBad_of_all (by simp [h0, h1, h2, h3])) (mbxTable_reachable _ _ _ _ _ hi)
  · intro h ho h0 h1
    refine ⟨fun hb => ?_, fun hb => ?_⟩
    · exact exec_runs (f := mbxAssign) h rfl rfl rfl (by simp [Dev.mbxPf0, ho]) (firstBad_of_all (by simp [h0, h1])) (if_neg (Bool.eq_false_iff.mp hb))
    · exact exec_runs (f := mbxAssign) h rfl rfl rfl (by simp [Dev.mbxPf0, ho]) (firstBad_of_all (by simp [h0, h1])) (if_pos hb)

end Sys2Proof.Machine
end

section
/-! The mailbox commands that only read, chapter 12 (R389, Table MBX-8). -/

namespace Sys2Proof.Machine

theorem mbxShow_reachable {d : Dev} {l : List Nat} (m : Nat) (h : l.find? d.unreachable = none) :
    d.mbxShow m l = d.mbxDone m { words := l.map (d.wordAt .joiner) } := by
  rw [Dev.mbxShow, h, Dev.mbxOk]

theorem getF_ofNat {n : Nat} (lo w : Nat) (h : n < 2 ^ 64) : getF (BitVec.ofNat 64 n) lo w = n / 2 ^ lo % 2 ^ w := by
  rw [getF, BitVec.toNat_ofNat, Nat.mod_eq_of_lt h, Nat.shiftRight_eq_div_pow]

/-! ### Answers that hold free values -/

/-- The first word of PTP_STATUS: a state and a 32-bit value. -/
theorem ptpWord_gap {x y : Nat} (hx : x < 2 ^ 4) (hy : y < 2 ^ 32) : getF (BitVec.ofNat 64 (fld 0 4 x + fld 32 32 y)) 4 28 = 0 := by
  rw [fld_of_lt hx, fld_of_lt hy, getF_ofNat _ _ (by omega)]
  omega

theorem ptpTail_gap {x : Nat} (hx : x < 2 ^ 16) : getF (BitVec.ofNat 64 x) 16 48 = 0 := by
  rw [getF_ofNat _ _ (by omega)]
  omega

/-- The word of HOST_LINK: a link state from 1 to 6, two more free fields, and the power state. -/
theorem hostLinkWord_fields {x y z p : Nat} (hx : x < 6) (hy : y < 2 ^ 5) (hz : z < 2 ^ 1) (hp : p < 2 ^ 2) {w : Word}
    (hw : w = BitVec.ofNat 64 (fld 0 4 (1 + x) + fld 4 5 y + fld 9 1 z + fld 16 2 p)) :
    1 ≤ getF w 0 4 ∧ getF w 0 4 ≤ 6 ∧ getF w 16 2 = p ∧ getF w 10 6 = 0 ∧ getF w 18 46 = 0 := by
  rw [fld_of_lt (by omega : 1 + x < 2 ^ 4), fld_of_lt hy, fld_of_lt hz, fld_of_lt hp] at hw
  subst hw
  repeat rw [getF_ofNat _ _ (by omega)]
  omega

/-- Settles O50: each status command answers the registers the table names, or what the firmware counts. -/
theorem mailboxStatusCommands : Obligations.MailboxStatusCommands := by
  unfold Obligations.MailboxStatusCommands
  refine ⟨?_, fun s m => ⟨?_, ?_, ?_, ?_, ?_⟩⟩
  · intro s m opc len p hold ok c l A hA hp hc h hok hl
    subst hA
    rw [← mbxShow_reachable m hl]
    clear hl
    simp only [List.mem_cons, Prod.mk.injEq, List.not_mem_nil, or_false] at hc
    rcases hc with ⟨rfl, rfl, rfl, rfl, rfl, rfl⟩ | ⟨rfl, rfl, rfl, rfl, rfl, rfl⟩ | ⟨rfl, rfl, rfl, rfl, rfl, rfl⟩ | ⟨rfl, rfl, rfl, rfl, rfl, rfl⟩
      | ⟨rfl, rfl, rfl, rfl, rfl, rfl⟩ | ⟨rfl, rfl, rfl, rfl, rfl, rfl⟩ | ⟨rfl, rfl, rfl, rfl, rfl, rfl⟩
    · exact exec_runs (f := getStatus) h rfl rfl rfl rfl rfl rfl
    · exact exec_runs (f := calStatus) h rfl rfl rfl rfl rfl rfl
    · exact exec_runs (f := ringStatus) h rfl rfl rfl rfl (firstBad_of_all (by simp [hok])) rfl
    · exact exec_runs (f := solveStatus) h rfl rfl rfl rfl rfl rfl
    · rw [hp]
      exact exec_runs (f := portStatus) h rfl rfl rfl rfl (firstBad_of_all (by simp [hok])) rfl
    · exact exec_runs (f := tsqStatus) h rfl rfl rfl rfl rfl rfl
    · obtain ⟨ho, hb⟩ := Bool.and_eq_true_iff.mp hok
      exact exec_runs (f := benchStatus) h rfl rfl rfl ho (firstBad_of_all (by simp [hb])) rfl
  · intro h hs
    refine exec_runs (f := getInfo) h rfl rfl rfl rfl rfl ?_
    simp only [Dev.infoWord, if_neg hs, Dev.mbxOk]
  · intro h
    exact exec_runs (f := routeCount_) h rfl rfl rfl rfl rfl rfl
  · intro h hu
    exact exec_runs (f := pwrStatus) h rfl rfl rfl rfl rfl (if_neg (Bool.eq_false_iff.mp hu))
  · intro h h0
    exact ⟨_, _, _, _, ptpWord_gap (Nat.mod_lt _ (by decide)) (Nat.mod_lt _ (by decide)), ptpTail_gap (Nat.mod_lt _ (by decide)),
      exec_runs (f := ptpStatus) h rfl rfl rfl rfl (firstBad_of_all (by simp [h0])) rfl⟩
  · intro h ho
    obtain ⟨h1, h6, h16, h10, h18⟩ := hostLinkWord_fields (x := getF (Config.freeWord s.dev.free) 0 8 % 6)
      (y := getF (Config.freeWord s.dev.free) 8 5) (z := getF (Config.freeWord s.dev.free) 13 1)
      (p := if (s.dev.fn (s.dev.mbxOwner m)).d3 then 3 else 0) (Nat.mod_lt _ (by decide)) (Nat.mod_lt _ (by decide)) (Nat.mod_lt _ (by decide))
      (by split <;> decide) rfl
    exact ⟨_, h1, h6, h16, h10, h18, exec_runs (f := hostLink) h rfl rfl rfl (by simp [ho]) rfl rfl⟩

end Sys2Proof.Machine
end

section
/-! The mailbox commands on the time base, the calendar, the ring and the management buses, chapter 12 (R39–R267, R379, R388). -/

namespace Sys2Proof.Machine

theorem mbxSet_put {d x : Dev} {l : List (Nat × Nat × Word)} (m : Nat) (f : Dev → Dev) (h : d.mbxPut l = (none, x)) : d.mbxSet m l f = f x := by
  rw [Dev.mbxSet, h]

/-! ### Time base and calendar -/

section
variable {s : State} {m : Nat}

theorem timeAdjust_runs (h : s.asks 0x0306 m 8 false [1]) (h0 : imgOk Reg.timAdj goBit (s.dev.mbxArg m 0) = true)
    (hu : s.dev.unreachable Reg.timAdj = false) : exec .timeAdjust s = .next { s with dev := (
      if getB (s.dev.mbxArg m 0) 63 = true ∧ getB (s.dev.mbxArg m 0) 48 = false ∧ s.dev.stepsPermitted = false then s.dev.stepRefused.mbxRefused m 1
      else (s.dev.wrTimAdj (s.dev.mbxArg m 0)).mbxOk m []) } :=
  exec_runs (f := timeAdjust) h rfl rfl rfl rfl (firstBad_of_all (by simp [h0])) (mbxAt_reachable _ _ _ hu)

theorem timeSet_runs (h : s.asks 0x0307 m 16 false [1]) (h0 : imgOk Reg.timSetSec 0 (s.dev.mbxArg m 0) = true)
    (h1 : imgOk Reg.timSetNs goBit (s.dev.mbxArg m 1) = true) (hu : s.dev.unreachable Reg.timSetSec = false) : exec .timeSet s = .next { s with dev := (
      if getB (s.dev.mbxArg m 1) 63 = true ∧ s.dev.stepsPermitted = false then s.dev.stepRefused.mbxRefused m 1
      else s.dev.mbxSet m [(0, Reg.timSetSec, s.dev.mbxArg m 0), (1, Reg.timSetNs, s.dev.mbxArg m 1)] (fun y => y.mbxOk m [])) } :=
  exec_runs (f := timeSet) h rfl rfl rfl rfl (firstBad_of_all (by simp [h0, h1])) (mbxAt_reachable _ _ _ hu)

theorem snapshotArm_runs {x : Dev} (h : s.asks 0x0308 m 24 false [1]) (h0 : imgOk Reg.timSnaptSec 0 (s.dev.mbxArg m 0) = true)
    (h1 : imgOk Reg.timSnaptNs 0 (s.dev.mbxArg m 1) = true) (h2 : imgOk Reg.timSnaptCtl 3 (s.dev.mbxArg m 2) = true)
    (hb : getB (s.dev.mbxArg m 2) 0 = false ∨ getB (s.dev.mbxArg m 2) 1 = false)
    (hx : s.dev.mbxPut [(0, Reg.timSnaptSec, s.dev.mbxArg m 0), (1, Reg.timSnaptNs, s.dev.mbxArg m 1), (2, Reg.timSnaptCtl, s.dev.mbxArg m 2)]
      = (none, x)) : exec .snapshotArm s = .next { s with dev := (
      if getB (s.dev.mbxArg m 2) 0 = true ∧ x.gf Reg.timSnaptStat 16 4 ≠ 0 then
        (s.dev.sf Reg.timSnaptStat 16 4 (x.gf Reg.timSnaptStat 16 4)).mbxRefused m (x.gf Reg.timSnaptStat 16 4)
      else x.mbxOk m [x.rd Reg.timSnaptStat]) } :=
  exec_runs (f := snapshotArm) h rfl rfl rfl rfl (firstBad_of_all (by rcases hb with hb | hb <;> simp [h0, h1, h2, hb])) (mbxSet_put _ _ hx)

/-- The word written to CAL_CTL: EN, and the two fields of the argument behind it. -/
theorem calCtlWord_eq (w : Word) : 1 + fld 1 1 (getF w 2 1) + fld 2 2 (getF w 0 2) = 1 + 2 * getF w 2 1 + 4 * getF w 0 2 := by
  have h1 : getF w 2 1 < 2 ^ 1 := Nat.mod_lt _ (by decide)
  have h2 : getF w 0 2 < 2 ^ 2 := Nat.mod_lt _ (by decide)
  rw [fld_of_lt h1, fld_of_lt h2]
  omega

theorem calStart_runs {x : Dev} {ctl : Nat} (h : s.asks 0x0401 m 24 false [2]) (h0 : onlyBits [(0, 2), (2, 1)] (s.dev.mbxArg m 0) = true)
    (h1 : imgOk Reg.calStartSec 0 (s.dev.mbxArg m 1) = true) (h2 : imgOk Reg.calStartNs 0 (s.dev.mbxArg m 2) = true)
    (hc : ctl = 1 + 2 * getF (s.dev.mbxArg m 0) 2 1 + 4 * getF (s.dev.mbxArg m 0) 0 2)
    (hx : s.dev.mbxPut [(1, Reg.calStartSec, s.dev.mbxArg m 1), (2, Reg.calStartNs, s.dev.mbxArg m 2), (0, Reg.calCtl, BitVec.ofNat 64 ctl)]
      = (none, x)) : exec .calStart s = .next { s with dev := (
      if x.gf Reg.calCtl 0 4 = ctl then x.mbxOk m [] else (s.dev.calRef (x.gf Reg.calStat 4 4)).mbxRefused m (x.gf Reg.calStat 4 4)) } := by
  have hlt : ctl < 2 ^ 64 := by
    have hb1 : getF (s.dev.mbxArg m 0) 2 1 < 2 ^ 1 := Nat.mod_lt _ (by decide)
    have hb2 : getF (s.dev.mbxArg m 0) 0 2 < 2 ^ 2 := Nat.mod_lt _ (by decide)
    omega
  refine exec_runs (f := calStartCmd) h rfl rfl rfl rfl (firstBad_of_all (by simp [h0, h1, h2])) ?_
  rw [calCtlWord_eq, ← hc, mbxSet_put _ _ hx, BitVec.toNat_ofNat, Nat.mod_eq_of_lt hlt]

theorem calStop_runs (h : s.asks 0x0402 m 0 false [2]) (hu : s.dev.unreachable Reg.calCtl = false) : ∃ w : Word, exec .calStop s = .next { s with dev := (
      if s.dev.gb Reg.calCtl 0 = false then s.dev.mbxRefused m 4 else (s.dev.wrCalCtl (setB (s.dev.rd Reg.calCtl) 0 false)).mbxOk m [w]) } :=
  ⟨_, exec_runs (f := calStopCmd) h rfl rfl rfl rfl rfl (mbxAt_reachable _ _ _ hu)⟩

/-! ### Ring -/

theorem ringAttach_runs {a : Nat} (h : s.asks 0x0701 m 48 false [5]) (ha : a = getF (s.dev.mbxArg m 0) 0 1)
    (h0 : onlyBits [(0, 1)] (s.dev.mbxArg m 0) = true) (h1 : imgOk (Reg.rngCtl a) 0 (ringCtlForced (s.dev.mbxArg m 1)) = true)
    (h2 : imgOk (Reg.rngCycCfg a) 0 (s.dev.mbxArg m 2) = true) (h3 : imgOk (Reg.rngBeCfg a) 0 (s.dev.mbxArg m 3) = true)
    (h4 : imgOk (Reg.rngTiming a) 0 (s.dev.mbxArg m 4) = true) (hle : getF (s.dev.mbxArg m 4) 16 16 ≤ getF (s.dev.mbxArg m 4) 0 16)
    (h5 : imgOk (Reg.rngFedCfg a) 0 (s.dev.mbxArg m 5) = true) (hu : s.dev.unreachable (Reg.rngCtl a) = false) :
    exec .ringAttach s = .next { s with dev := (
      if s.dev.attachBad a (ringCtlForced (s.dev.mbxArg m 1)) (s.dev.mbxArg m 2) (s.dev.mbxArg m 3) (s.dev.mbxArg m 5) = true then
        (s.dev.cfgErr (Reg.rngCtl a)).mbxRefused m 1
      else s.dev.mbxSet m [(2, Reg.rngCycCfg a, s.dev.mbxArg m 2), (3, Reg.rngBeCfg a, s.dev.mbxArg m 3), (4, Reg.rngTiming a, s.dev.mbxArg m 4),
        (5, Reg.rngFedCfg a, s.dev.mbxArg m 5), (1, Reg.rngCtl a, ringCtlForced (s.dev.mbxArg m 1))] (fun y => y.mbxOk m [])) } := by
  rw [ha] at h1 h2 h3 h4 h5 hu ⊢
  exact exec_runs (f := ringAttach) h rfl rfl rfl rfl (firstBad_of_all (by simp [h0, h1, h2, h3, h4, h5, hle])) (mbxAt_reachable _ _ _ hu)

theorem ringSwitch_runs {x : Dev} (h : s.asks 0x0703 m 8 false [5]) (h0 : onlyBits [(0, 2)] (s.dev.mbxArg m 0) = true)
    (hx : s.dev.mbxPut [(0, Reg.rngMsCtl, setB (s.dev.mbxArg m 0) 63 true)] = (none, x)) : exec .ringSwitch s = .next { s with dev := (
      if x.gf Reg.rngMsStat 4 4 ≠ 0 then x.mbxRefused m (x.gf Reg.rngMsStat 4 4)
      else x.mbxWait m (x.tim.up + 5 * x.ringC x.mainAtt + msU)) } :=
  exec_runs (f := ringSwitch) h rfl rfl rfl rfl (firstBad_of_all (by simp [h0])) (mbxSet_put _ _ hx)

theorem ringBarrier_runs {x : Dev} (h : s.asks 0x0704 m 8 false [5]) (h0 : onlyBits [(0, 16), (32, 16)] (s.dev.mbxArg m 0) = true)
    (h1 : 1 ≤ getF (s.dev.mbxArg m 0) 32 16)
    (hx : s.dev.mbxPut [(0, Reg.rngBarCtl, BitVec.ofNat 64 (fld 0 16 (getF (s.dev.mbxArg m 0) 0 16) + goBit))] = (none, x)) :
    exec .ringBarrier s = .next { s with dev := x.mbxWait m (x.tim.up + getF (s.dev.mbxArg m 0) 32 16 * msU) } :=
  exec_runs (f := ringBarrier) h rfl rfl rfl rfl (firstBad_of_all (by simp [h0, h1])) (mbxSet_put _ _ hx)

section
variable (h : s.asks 0x0705 m 72 false [5]) (h0 : onlyBits [(0, 1), (8, 7)] (s.dev.mbxArg m 0) = true) (h1 : 1 ≤ getF (s.dev.mbxArg m 0) 8 7)
  (h64 : getF (s.dev.mbxArg m 0) 8 7 ≤ 64)
include h h0 h1 h64

theorem ringBcast_busy (hb : s.dev.gb Reg.rngBcStat 5 = true) : exec .ringBcast s = .next { s with dev := s.dev.mbxDone m { status := 6 } } :=
  exec_runs (f := ringBcast) h rfl rfl rfl rfl (firstBad_of_all (by simp [h0, h1, h64])) (if_pos hb)

theorem ringBcast_runs {x : Dev} (hb : s.dev.gb Reg.rngBcStat 5 = false)
    (hx : s.dev.mbxPut ((List.range 8).map (fun k => (k + 1, Reg.rngBcTx k, s.dev.mbxArg m (k + 1)))
      ++ [(0, Reg.rngBcCtl, BitVec.ofNat 64 (fld 0 7 (getF (s.dev.mbxArg m 0) 8 7) + fld 8 1 (getF (s.dev.mbxArg m 0) 0 1) + goBit))]) = (none, x)) :
    exec .ringBcast s = .next { s with dev := x.mbxWait m (x.tim.up + 3 * x.ringC (getF (s.dev.mbxArg m 0) 0 1)) } :=
  exec_runs (f := ringBcast) h rfl rfl rfl rfl (firstBad_of_all (by simp [h0, h1, h64]))
    ((if_neg (Bool.eq_false_iff.mp hb)).trans (mbxSet_put _ _ hx))

end

/-! ### Management buses -/

section
variable {b : Nat} (h : s.asks 0x0908 m 16 false [9]) (hbus : b = getF (s.dev.mbxArg m 0) 0 2) (h0 : onlyBits [(0, 2)] (s.dev.mbxArg m 0) = true)
  (h1 : imgOk (Reg.macMdioCmd b) 0 (s.dev.mbxArg m 1) = true)
  (hop : getB (s.dev.mbxArg m 1) 28 = true ∨ getF (s.dev.mbxArg m 1) 26 2 = 1 ∨ getF (s.dev.mbxArg m 1) 26 2 = 2)
include h hbus h0 h1 hop

theorem mdioXfer_busy (hb : s.dev.gb (Reg.macMdioStat b) 16 = true) : exec .mdioXfer s = .next { s with dev := s.dev.mbxDone m { status := 6 } } := by
  rw [hbus] at h1 hb
  exact exec_runs (f := mdioXfer) h rfl rfl rfl rfl (firstBad_of_all (by rcases hop with ho | ho | ho <;> simp [h0, h1, ho])) (if_pos hb)

theorem mdioXfer_runs {x : Dev} (hb : s.dev.gb (Reg.macMdioStat b) 16 = false)
    (hx : s.dev.mbxPut [(1, Reg.macMdioCmd b, setB (s.dev.mbxArg m 1) 63 true)] = (none, x)) :
    exec .mdioXfer s = .next { s with dev := x.mbxWait m (x.tim.up + msU) } := by
  rw [hbus] at h1 hb hx
  exact exec_runs (f := mdioXfer) h rfl rfl rfl rfl (firstBad_of_all (by rcases hop with ho | ho | ho <;> simp [h0, h1, ho]))
    ((if_neg (Bool.eq_false_iff.mp hb)).trans (mbxSet_put _ _ hx))

end

section
variable {c : Nat} (h : s.asks 0x0909 m 48 false [9]) (hbus : c = getF (s.dev.mbxArg m 0) 0 1)
  (h0 : onlyBits [(0, 1), (8, 1), (9, 1)] (s.dev.mbxArg m 0) = true) (h1 : imgOk (Reg.macSmbCmd c) 0 (s.dev.mbxArg m 1) = true)
  (hop : getF (s.dev.mbxArg m 1) 22 2 ≠ 3)
include h hbus h0 h1 hop

theorem smbXfer_busy (hb : s.dev.gb (Reg.macSmbStat c) 0 = true) : exec .smbXfer s = .next { s with dev := s.dev.mbxDone m { status := 6 } } := by
  rw [hbus] at h1 hb
  exact exec_runs (f := smbXfer) h rfl rfl rfl rfl (firstBad_of_all (by simp [h0, h1, hop])) (if_pos hb)

theorem smbXfer_runs {x : Dev} (hb : s.dev.gb (Reg.macSmbStat c) 0 = false)
    (hx : s.dev.mbxPut ((0, Reg.macSmbCfg c, BitVec.ofNat 64 (fld 0 1 (getF (s.dev.mbxArg m 0) 8 1) + fld 1 1 (getF (s.dev.mbxArg m 0) 9 1)))
      :: (List.range 4).map (fun k => (k + 2, Reg.macSmbData c k, s.dev.mbxArg m (k + 2)))
      ++ [(1, Reg.macSmbCmd c, setB (s.dev.mbxArg m 1) 63 true)]) = (none, x)) :
    exec .smbXfer s = .next { s with dev := x.mbxWait m (x.tim.up + 100 * msU) } := by
  rw [hbus] at h1 hb hx
  exact exec_runs (f := smbXfer) h rfl rfl rfl rfl (firstBad_of_all (by simp [h0, h1, hop]))
    ((if_neg (Bool.eq_false_iff.mp hb)).trans (mbxSet_put _ _ hx))

end

end

/-- Settles O51: the commands on the time base, the calendar, the ring and the management buses, and those that wait. -/
theorem mailboxTimeRingAndBuses : Obligations.MailboxTimeRingAndBuses := by
  unfold Obligations.MailboxTimeRingAndBuses
  intro s m A d hA hd
  subst hA hd
  refine ⟨?_, ?_, ?_, ?_, ?_, ?_, ?_, ?_, ?_, ?_, ?_⟩
  · intro h h0 hu
    rw [timeAdjust_runs h h0 hu]
    refine ⟨fun hg hs hp => by rw [if_pos ⟨hg, hs, hp⟩], fun hor => by rw [if_neg]; rintro ⟨hg, hs, hp⟩; simp [hg, hs, hp] at hor⟩
  · intro h h0 h1 hu
    rw [timeSet_runs h h0 h1 hu]
    refine ⟨fun hg hp => by rw [if_pos ⟨hg, hp⟩], fun hor => by rw [if_neg]; rintro ⟨hg, hp⟩; simp [hg, hp] at hor⟩
  · intro x h h0 h1 h2 hb hx
    rw [snapshotArm_runs h h0 h1 h2 hb hx]
    refine ⟨fun hg hc => by rw [if_pos ⟨hg, hc⟩], fun hor => by rw [if_neg]; rintro ⟨hg, hc⟩; simp [hg, hc] at hor⟩
  · intro x ctl h h0 h1 h2 hc hx
    rw [calStart_runs h h0 h1 h2 hc hx]
    exact ⟨fun hy => by rw [if_pos hy], fun hn => by rw [if_neg hn]⟩
  · intro h hu
    obtain ⟨w, hw⟩ := calStop_runs h hu
    exact ⟨fun he => by rw [hw, if_pos he], fun he => ⟨w, by rw [hw, if_neg (by rw [he]; decide)]⟩⟩
  · intro a h ha h0 h1 h2 h3 h4 hle h5 hu
    rw [ringAttach_runs h ha h0 h1 h2 h3 h4 hle h5 hu]
    exact ⟨fun hb => by rw [if_pos hb], fun hb => by rw [if_neg (Bool.eq_false_iff.mp hb)]⟩
  · intro x h h0 hx
    rw [ringSwitch_runs h h0 hx]
    exact ⟨fun hn => by rw [if_pos hn], fun hz => by rw [if_neg (not_not.mpr hz)]⟩
  · exact fun x h h0 h1 hx => ringBarrier_runs h h0 h1 hx
  · exact fun x h h0 h1 h64 => ⟨ringBcast_busy h h0 h1 h64, ringBcast_runs h h0 h1 h64⟩
  · exact fun b x h hbus h0 h1 hop => ⟨mdioXfer_busy h hbus h0 h1 hop, mdioXfer_runs h hbus h0 h1 hop⟩
  · exact fun c x h hbus h0 h1 hop => ⟨smbXfer_busy h hbus h0 h1 hop, smbXfer_runs h hbus h0 h1 hop⟩

end Sys2Proof.Machine
end

section
/-! The mailbox commands on streams, the solver, the forwarding tables, the routes and the DMA channels, chapter 12. -/

namespace Sys2Proof.Machine

section
variable {s : State} {m : Nat}

/-! ### Streams -/

section
variable {t : Nat} (h : s.asks 0x0601 m 32 false [4]) (h0 : onlyBits [(0, 18)] (s.dev.mbxArg m 0) = true)
  (hr : ∀ k < 3, recArgOk (s.dev.mbxArg m 1) k (s.dev.mbxArg m (k + 1)) = true) (ht : t = getF (s.dev.mbxArg m 0) 0 18)
include h h0 hr ht

theorem streamWrite_runs : exec .streamWrite s = .next { s with dev := s.dev.mbxRecs m t (s.dev.mbxArg m) [1, 2, 0] } := by
  rw [ht]
  exact exec_runs (f := streamWrite) h rfl rfl rfl rfl
    (firstBad_of_all (by simp [h0, hr 0 (by decide), hr 1 (by decide), hr 2 (by decide)])) rfl

end

theorem mbxRecs_cons {d : Dev} {t k : Nat} (arg : Nat → Word) (l : List Nat) (hi : d.islandOk (halfIsland (halfOf t)) = true) :
    d.mbxRecs m t arg (k :: l) = if d.recLocked t k = true then d.strWrRef.mbxRefused m 1 else (d.writeRec t k (arg (k + 1))).mbxRecs m t arg l := by
  rw [Dev.mbxRecs, mbxTable_reachable _ _ _ _ _ hi]

theorem streamRead_runs {t : Nat} (h : s.asks 0x0602 m 8 false []) (h0 : onlyBits [(0, 18)] (s.dev.mbxArg m 0) = true)
    (ht : t = getF (s.dev.mbxArg m 0) 0 18) (hi : s.dev.islandOk (halfIsland (halfOf t)) = true) : exec .streamRead s
      = .next { s with dev := (s.dev.recWordsShown t [0, 1, 2, 3, 4, 5, 6, 7]).2.mbxOk m (s.dev.recWordsShown t [0, 1, 2, 3, 4, 5, 6, 7]).1 } := by
  rw [ht] at hi ⊢
  exact exec_runs (f := streamRead) h rfl rfl rfl rfl (firstBad_of_all (by simp [h0])) (mbxTable_reachable _ _ _ _ _ hi)

theorem streamCmd_runs (h : s.asks 0x0603 m 8 false [4]) (h0 : imgOk Reg.strCmd 0 (s.dev.mbxArg m 0) = true)
    (hu : s.dev.unreachable Reg.strCmd = false) : exec .streamCmd s = .next { s with dev := (
      if s.dev.recOk (getF (s.dev.mbxArg m 0) 0 18) = true ∧ s.dev.strFenced (getF (s.dev.mbxArg m 0) 0 18) = false then
        (s.dev.wrStrCmd (setB (s.dev.mbxArg m 0) 63 true)).mbxOk m []
      else (s.dev.sb Reg.strStat 3 true).mbxRefused m 1) } :=
  exec_runs (f := streamCmd) h rfl rfl rfl rfl (firstBad_of_all (by simp [h0])) (mbxAt_reachable _ _ _ hu)

theorem streamCounters_runs {t : Nat} (h : s.asks 0x0604 m 8 false []) (h0 : onlyBits [(0, 18), (32, 1)] (s.dev.mbxArg m 0) = true)
    (ht : t = getF (s.dev.mbxArg m 0) 0 18) (hf : s.dev.gb Reg.strStat (halfOf t) = false) (hc : s.dev.gb Reg.strStat 4 = false)
    (hm : s.dev.hbmOk = true) : exec .streamCounters s = .next { s with dev :=
      (if getB (s.dev.mbxArg m 0) 32 then s.dev.stWs (cntAddr t 0) (List.replicate 8 0) else s.dev).mbxOk m (s.dev.ldWs (cntAddr t 0) 8) } := by
  rw [ht] at hf ⊢
  refine exec_runs (f := streamCounters) h rfl rfl rfl rfl (firstBad_of_all (by simp [h0])) (if_neg ?_)
  simp [hf, hc, hm]

/-! ### Solver -/

theorem solveFull_runs (h : s.asks 0x0802 m 80 false [6]) (h8 : imgOk Reg.solFileAddr 0 (s.dev.mbxArg m 8) = true)
    (hal : getF (s.dev.mbxArg m 8) 0 35 % 64 = 0) (hlo : 0x40000000 ≤ getF (s.dev.mbxArg m 8) 0 35) (hhi : getF (s.dev.mbxArg m 8) 0 35 < 0x80000000)
    (h9 : imgOk Reg.solFileLen 0 (s.dev.mbxArg m 9) = true) : exec .solveFull s = .next { s with dev :=
      (((s.dev.wr Reg.solFileAddr (s.dev.mbxArg m 8)).wr Reg.solFileLen (s.dev.mbxArg m 9)).mbxSolve m (getF (s.dev.mbxArg m 8) 0 35)
        (getF (s.dev.mbxArg m 9) 0 32) (fun q => q.op == 3)) } :=
  exec_runs (f := solveFull) h rfl rfl rfl rfl (firstBad_of_all (by simp [h8, h9, hal, hlo, hhi])) rfl

theorem foldl_wr_sol (l : List (Word × Nat)) (a : Nat → Nat) (d : Dev) : (l.foldl (fun (y : Dev) e => y.wr (a e.2) e.1) d).sol = d.sol := by
  induction l generalizing d with
  | nil => rfl
  | cons e t ih => rw [List.foldl_cons, ih, wr_sol]

/-- A request that finds 16 in the queue is refused with code 1. -/
theorem mbxSolve_full {d x : Dev} (addr len : Nat) (ok : SolReq → Bool) (hq : 16 ≤ x.sol.queue.length)
    (hx : x = ((List.range 8).map (d.mbxArg m)).zipIdx.foldl (fun (y : Dev) e => y.wr (Reg.solReq e.2) e.1) d) :
    d.mbxSolve m addr len ok = (x.inc Reg.solRefuseCnt).mbxOk m [1] := by
  simp only [Dev.mbxSolve, ← hx, if_pos hq]
  rfl

theorem solveResult_none (h : s.asks 0x0803 m 0 false [6]) (hr : s.dev.sol.results = []) :
    exec .solveResult s = .next { s with dev := s.dev.mbxDone m { status := 9 } } :=
  exec_runs (f := solveResult) h rfl rfl rfl rfl rfl (by rw [hr, Dev.mbxSt])

theorem solveResult_oldest {x y : Word} {t : List (Word × Word)} (h : s.asks 0x0803 m 0 false [6]) (hr : s.dev.sol.results = (x, y) :: t) :
    exec .solveResult s = .next { s with dev := s.dev.solPop.mbxOk m [x, y] } :=
  exec_runs (f := solveResult) h rfl rfl rfl rfl rfl (by rw [hr])

/-! ### Forwarding tables and routes -/

section
variable {e y : Dev} (h : s.asks 0x0A01 m 24 false [10]) (h0 : onlyBits [(0, 3)] (s.dev.mbxArg m 0) = true) (h1 : 1 ≤ getF (s.dev.mbxArg m 0) 0 3)
  (h4 : getF (s.dev.mbxArg m 0) 0 3 ≤ 4) (hk : imgOk Reg.fwdTblKey 0 (s.dev.mbxArg m 1) = true) (he : e = s.dev.tblSync)
include h h0 h1 h4 hk he

theorem fdbCmd_busy (ht : e.fwd.tbl ≠ none) : exec .fdbCmd s = .next { s with dev := s.dev.mbxDone m { status := 6 } } := by
  subst he
  exact exec_runs (f := fdbCmd) h rfl rfl rfl rfl (firstBad_of_all (by simp [h0, h1, h4, hk])) (if_pos (Option.isSome_iff_ne_none.mpr ht))

theorem fdbCmd_runs (ht : e.fwd.tbl = none) (hu : e.unreachable Reg.fwdTblKey = false)
    (hu2 : (e.wrAny Reg.fwdTblKey (s.dev.mbxArg m 1)).unreachable Reg.fwdTblData = false)
    (hy : y = ((e.wrAny Reg.fwdTblKey (s.dev.mbxArg m 1)).wrAny Reg.fwdTblData (s.dev.mbxArg m 2)).tblMbx (getF (s.dev.mbxArg m 0) 0 3)) :
    exec .fdbCmd s = .next { s with dev := (
      if y.gf Reg.fwdTblStat 4 3 = 0 then y.mbxOk m [y.rd Reg.fwdTblStat, y.rd Reg.fwdTblData] else s.dev.mbxRefused m (y.gf Reg.fwdTblStat 4 3)) } := by
  have hp : e.mbxPut [(1, Reg.fwdTblKey, s.dev.mbxArg m 1), (2, Reg.fwdTblData, s.dev.mbxArg m 2)]
      = (none, (e.wrAny Reg.fwdTblKey (s.dev.mbxArg m 1)).wrAny Reg.fwdTblData (s.dev.mbxArg m 2)) := by
    rw [mbxPut_reachable _ _ _ hu, mbxPut_reachable _ _ _ hu2, Dev.mbxPut]
  subst he
  refine exec_runs (f := fdbCmd) h rfl rfl rfl rfl (firstBad_of_all (by simp [h0, h1, h4, hk])) ((if_neg ?_).trans ((mbxSet_put _ _ hp).trans ?_))
  · rw [ht]
    decide
  · rw [← hy]

end

theorem fdbClear_runs (h : s.asks 0x0A02 m 8 false [10]) (h0 : onlyBits [(0, 1), (1, 1)] (s.dev.mbxArg m 0) = true)
    (hu : s.dev.unreachable Reg.fwdClr = false) : exec .fdbClear s = .next { s with dev := (
      if (getB (s.dev.mbxArg m 0) 0 = true ∧ readyAt s.dev.fwd.passes s.dev.fwd.dynAt = false)
          ∨ (getB (s.dev.mbxArg m 0) 1 = true ∧ readyAt s.dev.fwd.passes s.dev.fwd.statAt = false) then
        (s.dev.sb (Reg.fwdStat 0) 3 true).mbxRefused m 1
      else (s.dev.wrFwdClr (s.dev.mbxArg m 0)).mbxOk m []) } := by
  refine exec_runs (f := fdbClear) h rfl rfl rfl rfl (firstBad_of_all (by simp [h0])) ((mbxAt_reachable _ _ _ hu).trans ?_)
  simp only [Bool.or_eq_true, Bool.and_eq_true, Bool.not_eq_true']

theorem xsReports_runs {n : Nat} (h : s.asks 0x0A03 m 8 false []) (h0 : onlyBits [(0, 7)] (s.dev.mbxArg m 0) = true)
    (hn : n = getF (s.dev.mbxArg m 0) 0 7) (h1 : 1 ≤ n) (h120 : n ≤ 120) : exec .xsReports s = .next { s with dev :=
      (({ s.dev with fwd := { s.dev.fwd with reports := s.dev.fwd.reports.drop n } } : Dev).mbxOk m
        (BitVec.ofNat 64 (s.dev.fwd.reports.take n).length :: (s.dev.fwd.reports.take n).flatMap XsRep.words)) } := by
  rw [hn] at h1 h120 ⊢
  exact exec_runs (f := xsReports) h rfl rfl rfl rfl (firstBad_of_all (by simp [h0, h1, h120])) rfl

/-- The batch of a route command, once its count and every item are good. -/
theorem routeCmd_runs {n opc : Nat} {del : Bool} {f : Dev → Route → Nat × Dev} {c : Instr} (hn : n = getF (s.dev.mbxArg m 0) 0 7)
    (h0 : onlyBits [(0, 7)] (s.dev.mbxArg m 0) = true) (h1 : 1 ≤ n) (h82 : n ≤ 82) (h : s.asks opc m (8 + 24 * n) false [10])
    (hall : ∀ i < n, ∀ e ∈ s.dev.itemChecks m del i, e.2 = true) (hex : exec c s = onDev (fun d => d.routeCmd opc del f) s) :
    exec c s = .next { s with dev := Dev.routeBatch f m n 0 s.dev } := by
  rw [hn] at h1 h82 h hall ⊢
  refine exec_runs h hex rfl rfl rfl (firstBad_of_all ?_) rfl
  rw [List.all_cons, Bool.and_eq_true, List.all_eq_true]
  refine ⟨by simp [h0, h1, h82], fun e he => ?_⟩
  obtain ⟨i, hi, hm⟩ := List.mem_flatMap.mp he
  exact hall i (List.mem_range.mp hi) e hm

theorem routeBatch_succ {d x : Dev} {f : Dev → Route → Nat × Dev} {n i c : Nat} (hi : d.islandOk 2 = true) (hf : f d (d.routeItem m i) = (c, x)) :
    (c = 0 → Dev.routeBatch f m (n + 1) i d = Dev.routeBatch f m n (i + 1) x)
    ∧ (c ≠ 0 → Dev.routeBatch f m (n + 1) i d = d.mbxDone m { status := 0x12, done := i }) := by
  cases c with
  | zero => exact ⟨fun _ => by simp only [Dev.routeBatch, hi, Bool.true_eq_false, if_false, hf], fun hc => absurd rfl hc⟩
  | succ c => exact ⟨fun hc => absurd hc (Nat.succ_ne_zero c), fun _ => by simp only [Dev.routeBatch, hi, Bool.true_eq_false, if_false, hf]⟩

theorem routeDel_absent {d : Dev} {r : Route} (h : d.mbx.routes.any r.same = false) : d.routeDel r = (9, d) :=
  if_neg (Bool.eq_false_iff.mp h)

theorem routeAdd_full {d : Dev} {r : Route} (h : d.mbx.routes.any r.same = false) (h6 : r.v6 = false) (hf : 1048576 ≤ d.mbx.prefixes false) :
    d.routeAdd r = (0x0A, d) := by
  simp only [Dev.routeAdd, h, h6, hf, Bool.false_eq_true, if_false, true_or, decide_true, Bool.true_or, if_true]

/-! ### DMA channels -/

theorem dmaChannel_runs {c p : Nat} {x : Dev} (h : s.asks 0x0C01 m 24 false [12]) (hp : s.dev.mbxOwner m = p) (h4 : p < 4)
    (hc : c = getF (s.dev.mbxArg m 0) 0 6) (h0 : onlyBits [(0, 6), (8, 2)] (s.dev.mbxArg m 0) = true) (hop : getF (s.dev.mbxArg m 0) 8 2 = 1)
    (h1 : imgOk (Reg.dmaShChain c) 0 (s.dev.mbxArg m 1) = true) (h2 : imgOk (Reg.dmaShCfg c) 0 (setF (s.dev.mbxArg m 2) 0 2 p) = true)
    (hx : s.dev.mbxPut [(1, Reg.dmaShChain c, s.dev.mbxArg m 1), (2, Reg.dmaShCfg c, setF (s.dev.mbxArg m 2) 0 2 p)] = (none, x)) {k : Nat} {y : Dev}
    (hy : x.dmaTry c (fun y => y.wrDmaCmd c (BitVec.ofNat 64 (1 + goBit))) = (k, y)) :
    exec .dmaChannel s = .next { s with dev := (if k = 0 then y.mbxOk m [y.rd (Reg.dmaGen c)] else (s.dev.dmaRef c k).mbxRefused m k) } := by
  subst hp
  rw [hc] at h1 h2 hx hy ⊢
  refine exec_runs (f := dmaChannel) h rfl rfl rfl (decide_eq_true h4) (firstBad_of_all (by simp [h0, hop, h1, h2])) ((mbxSet_put _ _ hx).trans ?_)
  have hno : ¬ (getF (s.dev.mbxArg m 0) 8 2 = 2) := by rw [hop]; decide
  simp only [hy, hno, and_false, if_false]

section
variable {r : Nat} (h : s.asks 0x0C02 m 24 false [12]) (h4 : s.dev.mbxOwner m < 4) (hr : r = getF (s.dev.mbxArg m 0) 0 4)
  (h0 : onlyBits [(0, 4)] (s.dev.mbxArg m 0) = true) (h1 : imgOk (Reg.dmaCrBase r) 0 (s.dev.mbxArg m 1) = true)
  (h2 : imgOk (Reg.dmaCrCfg r) 0 (s.dev.mbxArg m 2) = true)
include h h4 hr h0 h1 h2

theorem dmaRing_idle (he : s.dev.gb (Reg.dmaCrCfg r) 20 = false) : exec .dmaRing s = .next { s with dev := (
    s.dev.mbxSet m [(1, Reg.dmaCrBase r, s.dev.mbxArg m 1), (2, Reg.dmaCrCfg r, s.dev.mbxArg m 2)] (fun x => x.mbxOk m [])) } := by
  rw [hr] at h1 h2 he ⊢
  exact exec_runs (f := dmaRing) h rfl rfl rfl (decide_eq_true h4) (firstBad_of_all (by simp [h0, h1, h2]))
    (if_neg fun hc => Bool.eq_false_iff.mp he hc.1)

theorem dmaRing_busy (he : s.dev.gb (Reg.dmaCrCfg r) 20 = true) (hb : s.dev.mbxArg m 1 ≠ s.dev.rd (Reg.dmaCrBase r)) :
    exec .dmaRing s = .next { s with dev := s.dev.mbxDone m { status := 6 } } := by
  rw [hr] at h1 h2 he hb
  exact exec_runs (f := dmaRing) h rfl rfl rfl (decide_eq_true h4) (firstBad_of_all (by simp [h0, h1, h2])) (if_pos ⟨he, .inl hb⟩)

end

theorem dmaControl_runs {c op k : Nat} {x : Dev} (h : s.asks 0x0C03 m 8 false [12]) (h4 : s.dev.mbxOwner m < 4)
    (hc : c = getF (s.dev.mbxArg m 0) 0 6) (ho : op = getF (s.dev.mbxArg m 0) 8 3) (hpf : s.dev.chPf c = s.dev.mbxOwner m)
    (h0 : onlyBits [(0, 6), (8, 3)] (s.dev.mbxArg m 0) = true) (h3 : 3 ≤ op) (h6 : op ≤ 6) (hu : s.dev.unreachable (Reg.dmaChCmd c) = false)
    (hx : s.dev.dmaTry c (fun y => y.wrDmaCmd c (BitVec.ofNat 64 (op + goBit))) = (k, x)) :
    exec .dmaControl s = .next { s with dev := (if k = 0 then x.mbxOk m [x.rd (Reg.dmaChStat c)] else (s.dev.dmaRef c k).mbxRefused m k) } := by
  rw [hc] at hpf hu hx ⊢
  rw [ho] at h3 h6 hx
  refine exec_runs (f := dmaControl) h rfl rfl rfl (by simp [Dev.mbxPf, h4, hpf]) (firstBad_of_all (by simp [h0, h3, h6]))
    ((mbxAt_reachable _ _ _ hu).trans ?_)
  simp only [hx]

theorem dmaRingHead_runs {r : Nat} (h : s.asks 0x0C04 m 8 false [12]) (h4 : s.dev.mbxOwner m < 4) (hr : r = getF (s.dev.mbxArg m 0) 0 4)
    (hpf : s.dev.gf (Reg.dmaCrCfg r) 5 2 = s.dev.mbxOwner m) (h0 : onlyBits [(0, 4), (16, 16)] (s.dev.mbxArg m 0) = true) :
    exec .dmaRingHead s = .next { s with dev := (
      s.dev.mbxSetShow m [(0, Reg.dmaCrHead r, BitVec.ofNat 64 (getF (s.dev.mbxArg m 0) 16 16))] [Reg.dmaCrStat r]) } := by
  rw [hr] at hpf ⊢
  exact exec_runs (f := dmaRingHead) h rfl rfl rfl (by simp [Dev.mbxPf, h4, hpf]) (firstBad_of_all (by simp [h0])) rfl

end

/-- Settles O52: the commands on streams, the solver, the forwarding tables, the routes and the DMA channels. -/
theorem mailboxTablesSolverAndDma : Obligations.MailboxTablesSolverAndDma := by
  unfold Obligations.MailboxTablesSolverAndDma
  intro s m A d hA hd
  subst hA hd
  refine ⟨?_, ?_, ?_, ?_, ?_, ?_, ?_, ?_, ?_, ?_, ?_, ?_, ?_, ?_, ?_, ?_, ?_, ?_, ?_, ?_, ?_⟩
  · intro t h h0 hr ht hi
    rw [streamWrite_runs h h0 hr ht]
    refine ⟨fun hl => by rw [mbxRecs_cons _ _ hi, if_pos hl], fun x y z hx hy hz h1 hix h2 hiy h3 => ?_⟩
    rw [mbxRecs_cons _ _ hi, if_neg (Bool.eq_false_iff.mp h1), ← hx, mbxRecs_cons _ _ hix, if_neg (Bool.eq_false_iff.mp h2), ← hy,
      mbxRecs_cons _ _ hiy, if_neg (Bool.eq_false_iff.mp h3), ← hz, Dev.mbxRecs]
  · exact fun t h h0 ht hi => streamRead_runs h h0 ht hi
  · intro h h0 hu
    rw [streamCmd_runs h h0 hu]
    refine ⟨fun hr hf => by rw [if_pos ⟨hr, hf⟩], fun hor => by rw [if_neg]; rintro ⟨hr, hf⟩; simp [hr, hf] at hor⟩
  · exact fun t h h0 ht hf hc hm => streamCounters_runs h h0 ht hf hc hm
  · exact fun h => exec_runs (f := solveSubmit) h rfl rfl rfl rfl rfl rfl
  · exact fun h h8 hal hlo hhi h9 => solveFull_runs h h8 hal hlo hhi h9
  · intro hq x hx
    have hsol : x.sol = s.dev.sol := hx ▸ foldl_wr_sol ..
    exact ⟨by rw [hsol], mbxSolve_full 0 0 _ (hsol ▸ hq) hx⟩
  · exact fun h => ⟨solveResult_none h, fun x y t => solveResult_oldest h⟩
  · exact fun h => exec_runs (f := solveActivate) h rfl rfl rfl rfl rfl rfl
  · exact fun h => exec_runs (f := solveAbort) h rfl rfl rfl rfl rfl rfl
  · intro e y h h0 h1 h4 hk he hu hu2 hy
    refine ⟨fdbCmd_busy h h0 h1 h4 hk he, fun ht hz => ?_, fun ht hz => ?_⟩
    · rw [fdbCmd_runs h h0 h1 h4 hk he ht hu hu2 hy, if_pos hz]
    · rw [fdbCmd_runs h h0 h1 h4 hk he ht hu hu2 hy, if_neg hz]
  · intro h h0 hu
    rw [fdbClear_runs h h0 hu]
    refine ⟨fun hor => by rw [if_pos hor], fun hd hs => ?_⟩
    rw [if_neg (not_or.mpr ⟨fun hb => absurd (hd hb.1) (by rw [hb.2]; decide), fun hb => absurd (hs hb.1) (by rw [hb.2]; decide)⟩)]
  · exact fun n h h0 hn h1 h120 => xsReports_runs h h0 hn h1 h120
  · exact fun n hn h0 h1 h82 => ⟨fun h hall => routeCmd_runs hn h0 h1 h82 h hall rfl, fun h hall => routeCmd_runs hn h0 h1 h82 h hall rfl⟩
  · exact fun f n i c x hi hf => routeBatch_succ hi hf
  · exact fun r h => routeDel_absent h
  · exact fun r h h6 hf => routeAdd_full h h6 hf
  · intro c p x y h hp h4 hc h0 hop h1 h2 hx
    refine ⟨fun hy => ?_, fun k hk hy => ?_⟩
    · rw [dmaChannel_runs h hp h4 hc h0 hop h1 h2 hx hy, if_pos rfl]
    · rw [dmaChannel_runs h hp h4 hc h0 hop h1 h2 hx hy, if_neg hk]
  · exact fun r h h4 hr h0 h1 h2 => ⟨dmaRing_idle h h4 hr h0 h1 h2, dmaRing_busy h h4 hr h0 h1 h2⟩
  · intro c op k x h h4 hc ho hpf h0 h3 h6 hu hx
    rw [dmaControl_runs h h4 hc ho hpf h0 h3 h6 hu hx]
    exact ⟨fun hz => by rw [if_pos hz], fun hz => by rw [if_neg hz]⟩
  · exact fun r h h4 hr hpf h0 => dmaRingHead_runs h h4 hr hpf h0

end Sys2Proof.Machine
end

section
/-! Firmware update, device reset, expert unlock with its tokens and leases, and test mode, chapter 12 (R375, R376, R382–R386, R441). -/

namespace Sys2Proof.Machine

/-- A command that the requester may not give is answered with DENIED. -/
theorem exec_denied {s : State} {opc m len : Nat} {hold : Bool} {blks : List Nat} {c : Instr} {f : Dev → Dev} {k : Nat → MbxCmd}
    (h : s.asks opc m len hold blks) (hex : exec c s = onDev f s) (hf : f s.dev = s.dev.mbxRun opc k) (hl : (k m).len = len)
    (hmay : (k m).may = false) : exec c s = .next { s with dev := s.dev.mbxDone m { status := 4 } } := by
  obtain ⟨hfront, hlen, -, -⟩ := h
  rw [hex, onDev_next, hf, mbxRun_judged hfront (mbxJudge_rights (by rw [hl]; exact hlen) hmay)]

section
variable {s : State} {m : Nat}

/-! ### Firmware -/

theorem deviceReset_runs (h : s.asks 0x0004 m 8 false []) (ho : s.dev.mbxOwner m = 0) (h0 : s.dev.mbxArg m 0 = 0x7240) : exec .deviceReset s
    = .next { s with dev := ({ s.dev with mbx := { s.dev.mbx with resetAt := some (s.dev.tim.up + msU) } } : Dev).mbxOk m [] } :=
  exec_runs (f := deviceReset) h rfl rfl rfl (beq_iff_eq.mpr ho) (firstBad_of_all (by simp [h0])) rfl

theorem fwWrite_runs {o n : Nat} {x : Dev} (hofs : o = getF (s.dev.mbxArg m 0) 0 23) (hn : n = getF (s.dev.mbxArg m 0) 32 11)
    (h : s.asks 0x0101 m (8 + n) true []) (ho : s.dev.mbxOwner m = 0) (h0 : onlyBits [(0, 23), (32, 11)] (s.dev.mbxArg m 0) = true)
    (hoa : o % 256 = 0) (hna : n % 256 = 0) (h256 : 256 ≤ n) (h1024 : n ≤ 1024) (hend : o + n ≤ 0x700000)
    (hx : x = s.dev.flashPut (slotBase s.dev.otherSlot + o) (s.dev.ldN (mbxBuf m + 0x48) n)) : exec .fwWrite s = .next { s with dev := (
      if s.dev.frozen = true then s.dev.mbxDone m { status := 0x0C } else (({ x with mbx := { x.mbx with
        verified := if x.mbx.verified = some s.dev.otherSlot then none else x.mbx.verified } } : Dev).mbxOk m [])) } := by
  rw [hx]
  rw [hofs] at hoa hend ⊢
  rw [hn] at h hna h256 h1024 hend ⊢
  exact exec_runs (f := fwWrite) h rfl rfl rfl (beq_iff_eq.mpr ho) (firstBad_of_all (by simp [h0, hoa, hna, h256, h1024, hend])) rfl

theorem fwVerify_runs (h : s.asks 0x0102 m 0 true []) (ho : s.dev.mbxOwner m = 0) : exec .fwVerify s = .next { s with dev := (
      if s.dev.slotCause s.dev.otherSlot = 0 then (({ s.dev with mbx := { s.dev.mbx with verified := some s.dev.otherSlot } } : Dev).mbxOk m
        [BitVec.ofNat 64 (s.dev.imgVersion s.dev.otherSlot + fld 32 7 (s.dev.imgSvn s.dev.otherSlot))])
      else ({ s.dev with mbx := { s.dev.mbx with verified := none } } : Dev).mbxDone m { status := 0x0D }) } :=
  exec_runs (f := fwVerify) h rfl rfl rfl (beq_iff_eq.mpr ho) rfl rfl

section
variable (h : s.asks 0x0103 m 0 true []) (ho : s.dev.mbxOwner m = 0)
include h ho

theorem fwActivate_frozen (hf : s.dev.frozen = true) : exec .fwActivate s = .next { s with dev := s.dev.mbxDone m { status := 0x0C } } :=
  exec_runs (f := fwActivate) h rfl rfl rfl (beq_iff_eq.mpr ho) rfl (if_pos hf)

theorem fwActivate_unverified (hf : s.dev.frozen = false) (hv : s.dev.mbx.verified ≠ some s.dev.otherSlot) :
    exec .fwActivate s = .next { s with dev := s.dev.mbxDone m { status := 0x0D } } :=
  exec_runs (f := fwActivate) h rfl rfl rfl (beq_iff_eq.mpr ho) rfl ((if_neg (Bool.eq_false_iff.mp hf)).trans (if_neg hv))

theorem fwActivate_runs {b : Nat} (hf : s.dev.frozen = false) (hv : s.dev.mbx.verified = some s.dev.otherSlot) (hb : s.dev.bootCopy = some b) :
    exec .fwActivate s = .next { s with dev := (s.dev.flashPut s.dev.oldCopy
      (descOctets s.dev.otherSlot (s.dev.flashLe (b + 4) 4 + 1))).mbxOk m [] } :=
  exec_runs (f := fwActivate) h rfl rfl rfl (beq_iff_eq.mpr ho) rfl (((if_neg (Bool.eq_false_iff.mp hf)).trans (if_pos hv)).trans (by rw [hb]))

end

theorem copies_of_lt (x y : Nat) : (x < y → olderCopy (some x) (some y) = 0 ∧ newerCopy (some x) (some y) = some 0x1000)
    ∧ (y < x → olderCopy (some x) (some y) = 0x1000 ∧ newerCopy (some x) (some y) = some 0) := by
  refine ⟨fun h => ?_, fun h => ?_⟩
  · simp only [olderCopy, newerCopy, if_pos h, and_self]
  · simp only [olderCopy, newerCopy, if_neg h.not_gt, and_self]

/-- Of two intact boot descriptors the higher sequence number boots, and the other is the old one. -/
theorem bootCopies {d : Dev} {x y : Nat} (hx : d.bootSeq 0 = some x) (hy : d.bootSeq 0x1000 = some y) :
    (x < y → d.oldCopy = 0 ∧ d.bootCopy = some 0x1000) ∧ (y < x → d.oldCopy = 0x1000 ∧ d.bootCopy = some 0) := by
  rw [Dev.oldCopy, Dev.bootCopy, hx, hy]
  exact copies_of_lt x y

theorem fwCommitSvn_runs {n : Nat} (h : s.asks 0x0105 m 8 false []) (ho : s.dev.mbxOwner m = 0) (h0 : onlyBits [(0, 7)] (s.dev.mbxArg m 0) = true)
    (hn : n = getF (s.dev.mbxArg m 0) 0 7) (h64 : n ≤ 64) (hlo : s.dev.mbx.svn ≤ n) (hhi : n ≤ s.dev.imgSvn (s.dev.gf Reg.mbxFwStat 2 1)) :
    exec .fwCommitSvn s = .next { s with dev := (if s.dev.frozen = true then s.dev.mbxDone m { status := 0x0C }
      else ((({ s.dev with mbx := { s.dev.mbx with svn := n } } : Dev).sf Reg.mbxFwStat 3 7 n).mbxOk m [])) } := by
  rw [hn] at h64 hlo hhi ⊢
  exact exec_runs (f := fwCommitSvn) h rfl rfl rfl (beq_iff_eq.mpr ho) (firstBad_of_all (by simp [h0, h64, hlo, hhi])) rfl

/-! ### Expert unlock -/

theorem expertUnlock_runs {k t : Nat} {x : Dev} (h : s.asks 0x0201 m 16 false []) (h0 : onlyBits [(0, 5), (16, 16)] (s.dev.mbxArg m 0) = true)
    (h1 : onlyBits [(0, 32)] (s.dev.mbxArg m 1) = true) (hk : k = getF (s.dev.mbxArg m 0) 0 5) (ht : t = getF (s.dev.mbxArg m 0) 16 16)
    (h22 : k ≤ 22) (ht1 : 1 ≤ t) (ht2 : t ≤ 3600)
    (hx : x = (((s.dev.sf (Reg.mbxLease k) 0 3 (s.dev.mbxOwner m)).sf (Reg.mbxLease k) 16 12 t).sf (Reg.mbxLease k) 28 2 0).sb Reg.mbxUnlock k true) :
    exec .expertUnlock s = .next { s with dev := (if s.dev.lockedOut k = true then s.dev.mbxDone m { status := 0x0F }
      else if s.dev.mbxHeld m k = true then s.dev.mbxDone m { status := 5 }
      else if s.dev.token k ≠ 0 ∧ s.dev.token k = (s.dev.mbxArg m 1).toNat then
        (({ x with mbx := { x.mbx with leaseEnd := Sparse.put x.mbx.leaseEnd k (x.tim.up + t * secU) } } : Dev).mbxOk m [s.dev.mbxArg m 0])
      else s.dev.wrongToken m k) } := by
  rw [hx]
  rw [hk] at h22 ⊢
  rw [ht] at ht1 ht2 ⊢
  exact exec_runs (f := expertUnlock) h rfl rfl rfl rfl (firstBad_of_all (by simp [h0, h1, h22, ht1, ht2])) rfl

section
variable {k : Nat} (h : s.asks 0x0202 m 8 false []) (hk : (List.range 23).filter (fun k => getB (s.dev.mbxArg m 0) k) = [k])
include h hk

theorem expertLock_runs (h0 : onlyBits [(0, 23)] (s.dev.mbxArg m 0) = true) (hne : s.dev.mbxArg m 0 ≠ 0) (hh : s.dev.mbxHolds m k = true) :
    exec .expertLock s = .next { s with dev := (s.dev.relock k).mbxOk m [] } := by
  have hb : (s.dev.mbxArg m 0 != 0) = true := bne_iff_ne.mpr hne
  exact exec_runs (f := expertLock) h rfl rfl rfl (by rw [hk]; simp [hh])
    (firstBad_of_all (by simp only [h0, hb, List.all_cons, List.all_nil, Bool.and_self])) (by rw [hk]; rfl)

theorem expertLock_denied (hh : s.dev.mbxHolds m k = false) : exec .expertLock s = .next { s with dev := s.dev.mbxDone m { status := 4 } } :=
  exec_denied (f := expertLock) h rfl rfl rfl (by simp only [hk, List.all_cons, hh, Bool.false_and])

end

theorem tokenSet_runs {k old new : Nat} {x : Dev} (h : s.asks 0x0203 m 16 false []) (ho : s.dev.mbxOwner m = 0)
    (h0 : onlyBits [(0, 5)] (s.dev.mbxArg m 0) = true) (hk : k = getF (s.dev.mbxArg m 0) 0 5) (h22 : k ≤ 22)
    (hold : old = getF (s.dev.mbxArg m 1) 0 32) (hnew : new = getF (s.dev.mbxArg m 1) 32 32) (hf : s.dev.frozen = false)
    (hl : s.dev.lockedOut k = false)
    (hx : x = ({ s.dev with mbx := { s.dev.mbx with tokens := Sparse.setD s.dev.mbx.tokens k 0 new } } : Dev).sf (Reg.mbxLease k) 28 2 0) :
    exec .tokenSet s = .next { s with dev := (if old ≠ s.dev.token k then s.dev.wrongToken m k
      else (if new = 0 then x.relock k else x).mbxOk m []) } := by
  rw [hx]
  rw [hk] at h22 hl ⊢
  rw [hold, hnew]
  exact exec_runs (f := tokenSet) h rfl rfl rfl (beq_iff_eq.mpr ho) (firstBad_of_all (by simp [h0, h22]))
    ((if_neg (Bool.eq_false_iff.mp hf)).trans (if_neg (Bool.eq_false_iff.mp hl)))

end

/-! ### Wrong tokens -/

section
variable {d x : Dev} {k n : Nat} (m : Nat) (hk : k ≤ 22) (hn : n = d.gf (Reg.mbxLease k) 28 2)
  (hx : x = (d.waitUp (d.goTime + 100 * msU)).inc Reg.mbxUnlockFailCnt)
include hk hn hx

/-- The count of wrong tokens of a block is read as it was before the wait. -/
theorem wrongToken_count : x.gf (Reg.mbxLease k) 28 2 = n := by
  rw [hn, hx, Dev.gf, rd_inc_ne _ (by unfold Reg.mbxLease Reg.mbxUnlockFailCnt; omega), rd_waitUp _ (by unfold Reg.mbxLease Reg.timStat; omega), Dev.gf]

theorem wrongToken_counted (h2 : n < 2) : d.wrongToken m k = (x.sf (Reg.mbxLease k) 28 2 (n + 1)).mbxDone m { status := 0x0E } := by
  have hmin : min 3 (n + 1) = n + 1 := by omega
  have hne : n + 1 ≠ 3 := by omega
  simp only [Dev.wrongToken, ← hx, wrongToken_count hk hn hx, hmin, if_neg hne, Dev.mbxSt]

theorem wrongToken_locks (h2 : n = 2) : ∃ y : Dev, d.wrongToken m k = (y.sb (Reg.mbxLease k) 30 true).mbxDone m { status := 0x0E }
    ∧ Sparse.find y.mbx.lockEnd k = some (x.tim.up + 60 * secU) := by
  have hmin : min 3 (n + 1) = 3 := by omega
  refine ⟨{ x.sf (Reg.mbxLease k) 28 2 3 with mbx := { (x.sf (Reg.mbxLease k) 28 2 3).mbx with
    lockEnd := Sparse.put (x.sf (Reg.mbxLease k) 28 2 3).mbx.lockEnd k ((x.sf (Reg.mbxLease k) 28 2 3).tim.up + 60 * secU) } }, ?_,
    (find_put_self ..).trans (by rw [sf_tim])⟩
  simp only [Dev.wrongToken, ← hx, wrongToken_count hk hn hx, hmin, if_true, Dev.mbxSt]

end

/-- Settles O53: firmware update, device reset, expert unlock with its tokens and leases, and test mode. -/
theorem firmwareAndExpertCommands : Obligations.FirmwareAndExpertCommands := by
  unfold Obligations.FirmwareAndExpertCommands
  intro s m A d hA hd
  subst hA hd
  refine ⟨?_, ?_, ?_, ?_, ?_, ?_, ?_, ?_, ?_, ?_, ?_, ?_⟩
  · exact fun h ho h0 => deviceReset_runs h ho h0
  · intro o n x hofs hn h ho h0 hoa hna h256 h1024 hend hx
    rw [fwWrite_runs hofs hn h ho h0 hoa hna h256 h1024 hend hx]
    exact ⟨fun hf => by rw [if_pos hf], fun hf => by rw [if_neg (Bool.eq_false_iff.mp hf)]⟩
  · intro h ho
    rw [fwVerify_runs h ho]
    exact ⟨fun hc => by rw [if_pos hc], fun hc => by rw [if_neg hc]⟩
  · exact fun h ho => ⟨fwActivate_frozen h ho, fwActivate_unverified h ho, fun b => fwActivate_runs h ho⟩
  · exact fun x y hx hy => bootCopies hx hy
  · exact fun h ho => exec_runs (f := fwRestart) h rfl rfl rfl (beq_iff_eq.mpr ho) rfl rfl
  · intro n h ho h0 hn h64 hlo hhi
    rw [fwCommitSvn_runs h ho h0 hn h64 hlo hhi]
    exact ⟨fun hf => by rw [if_pos hf], fun hf => by rw [if_neg (Bool.eq_false_iff.mp hf)]⟩
  · intro k t x h h0 h1 hk ht h22 ht1 ht2
    rw [expertUnlock_runs h h0 h1 hk ht h22 ht1 ht2 rfl]
    refine ⟨fun hl => by rw [if_pos hl], fun hl hh => ?_, fun hl hh hw => ?_, fun hl hh hz hw hx => ?_⟩
    · rw [if_neg (Bool.eq_false_iff.mp hl), if_pos hh]
    · rw [if_neg (Bool.eq_false_iff.mp hl), if_neg (Bool.eq_false_iff.mp hh), if_neg fun hc => hw.elim hc.1 fun hne => hne hc.2]
    · rw [if_neg (Bool.eq_false_iff.mp hl), if_neg (Bool.eq_false_iff.mp hh), if_pos ⟨hz, hw⟩, hx]
  · exact fun k h h0 hne hk => ⟨expertLock_runs h hk h0 hne, expertLock_denied h hk⟩
  · intro k old new x h ho h0 hk h22 hold hnew hf hl
    rw [tokenSet_runs h ho h0 hk h22 hold hnew hf hl rfl]
    exact ⟨fun hne => by rw [if_pos hne], fun heq hx => by rw [if_neg (not_not.mpr heq), hx]⟩
  · intro h h0
    refine ⟨fun hh => ?_, fun hh => exec_denied (f := testMode) h rfl rfl rfl hh⟩
    exact exec_runs (f := testMode) h rfl rfl rfl hh (firstBad_of_all (by simp [h0])) rfl
  · exact fun k n x hk hn hx => ⟨wrongToken_counted m hk hn hx, wrongToken_locks m hk hn hx⟩

end Sys2Proof.Machine
end

section
/-! The Bench groups and their timer, severities, the fault queue by mailbox, and the power state by mailbox, chapters 12 to 15. -/

namespace Sys2Proof.Machine

section
variable {s : State} {m : Nat}

/-! ### Bench groups -/

section
variable {g n a : Nat} (h : s.asks 0x0D01 m 32 false [15]) (ho : s.dev.mbxOwner m = 0) (h0 : onlyBits [(0, 3)] (s.dev.mbxArg m 0) = true)
  (hg : g = getF (s.dev.mbxArg m 0) 0 3) (h1 : getF (s.dev.mbxArg m 1) 0 3 = 0) (hn : n = (s.dev.mbxArg m 2).toNat) (h8 : n % 8 = 0) (hmin : 8 ≤ n)
  (hmax : n ≤ 268435456) (ha : a = (s.dev.mbxArg m 3).toNat) (hlo : 0x80000000 ≤ a) (hhi : a + n ≤ 0x600000000)
include h ho h0 h1 hn h8 hmin hmax ha hlo hhi

theorem benchLoad_none : exec (.benchLoad none) s = .next { s with dev := s.dev.mbxDone m { status := 0x0B } } := by
  rw [hn] at h8 hmin hmax hhi
  rw [ha] at hlo hhi
  exact exec_runs (f := benchLoad none) h rfl rfl rfl (beq_iff_eq.mpr ho)
    (firstBad_of_all (by simp only [List.all_cons, List.all_nil, h0, h1, h8, hmin, hmax, hlo, hhi, beq_self_eq_true, and_self, decide_true, Bool.and_self])) rfl

include hg in
theorem benchLoad_some {l : List Byte} (hl : l.length = n) (hs : ¬ (g = 0 ∧ s.dev.gb Reg.solCtl 0 = true)) : exec (.benchLoad (some l)) s
    = .next { s with dev := (if s.dev.grp g ≠ 1 ∨ s.dev.hbmOk = false then s.dev.mbxDone m { status := 6 }
      else ((({ s.dev.stN a l with bad := (s.dev.stN a l).bad.filter (fun b => decide (b + 8 ≤ a ∨ a + n ≤ b)) } : Dev).wr (Reg.benEntry g)
        (BitVec.ofNat 64 (a / 4 * 4))).mbxOk m [])) } := by
  rw [hn] at h8 hmin hmax hhi hl ⊢
  rw [ha] at hlo hhi ⊢
  rw [hg] at hs ⊢
  refine exec_runs (f := benchLoad (some l)) h rfl rfl rfl (beq_iff_eq.mpr ho) (firstBad_of_all ?_) ((if_neg (not_not.mpr hl)).trans (if_neg hs))
  simp only [List.all_cons, List.all_nil, h0, h1, h8, hmin, hmax, hlo, hhi, beq_self_eq_true, and_self, decide_true, Bool.and_self]

end

/-- BENCH_START and BENCH_STOP move a group from one of the states they take it from. -/
theorem benchMove_runs {g opc to_ : Nat} {c : Instr} {from_ : List Nat} (h : s.asks opc m 8 false [15]) (ho : s.dev.mbxOwner m = 0)
    (h0 : onlyBits [(0, 3)] (s.dev.mbxArg m 0) = true) (hg : g = getF (s.dev.mbxArg m 0) 0 3)
    (hex : exec c s = onDev (fun d => d.benchMove opc from_ to_) s) : exec c s = .next { s with dev := (
      if g = 0 ∧ s.dev.gb Reg.solCtl 0 = true then s.dev.benRefused m
      else if s.dev.grp g ∈ from_ then (s.dev.setGrp g to_).mbxOk m [] else s.dev.mbxDone m { status := 6 }) } := by
  rw [hg]
  refine exec_runs h hex rfl rfl (beq_iff_eq.mpr ho) (firstBad_of_all (by simp [h0])) ?_
  simp only [List.contains_iff_mem, Dev.mbxSt]

/-! ### Severities -/

section
variable {b : Nat × Nat} {k a : Nat} (h : s.asks 0x0E01 m 8 false [16]) (h0 : onlyBits [(0, 12), (12, 8), (20, 4)] (s.dev.mbxArg m 0) = true)
  (h3 : getF (s.dev.mbxArg m 0) 20 4 ≤ 3) (hb : b = srcBlock (getF (s.dev.mbxArg m 0) 0 12)) (hk : k = getF (s.dev.mbxArg m 0) 12 8)
include h h0 h3 hb hk

theorem fltSeverity_fixed {c : Nat} (hc : fixedClass b.1 b.2 k = some c) : exec .fltSeverity s
    = .next { s with dev := (if c = getF (s.dev.mbxArg m 0) 20 4 then s.dev.mbxOk m [] else s.dev.mbxRefused m 1) } := by
  rw [hb, hk] at hc
  exact exec_runs (f := fltSeverity) h rfl rfl rfl rfl (firstBad_of_all (by simp [h0, h3])) (by rw [hc])

theorem fltSeverity_free (ha : a = Reg.fltSev b.1 (k / 16)) (hc : fixedClass b.1 b.2 k = none) (hu : s.dev.unreachable a = false) :
    exec .fltSeverity s = .next { s with dev :=
      (s.dev.wrAny a (setF (s.dev.rd a) (4 * (k % 16)) 4 (getF (s.dev.mbxArg m 0) 20 4))).mbxOk m [] } := by
  rw [ha] at hu ⊢
  rw [hb, hk] at hc hu ⊢
  refine exec_runs (f := fltSeverity) h rfl rfl rfl rfl (firstBad_of_all (by simp [h0, h3])) ?_
  rw [hc]
  exact mbxSet_put _ _ (by rw [mbxPut_reachable _ _ _ hu, Dev.mbxPut])

end

/-! ### The fault queue and the power state -/

theorem fltRead_runs {n : Nat} (h : s.asks 0x0E02 m 8 false []) (h0 : onlyBits [(0, 8)] (s.dev.mbxArg m 0) = true)
    (h1 : 1 ≤ getF (s.dev.mbxArg m 0) 0 8) (h240 : getF (s.dev.mbxArg m 0) 0 8 ≤ 240) (hn : n = min (getF (s.dev.mbxArg m 0) 0 8) s.fq.length) :
    fltRead s = { s.fqTake n with dev := (s.fqTake n).dev.mbxOk m (BitVec.ofNat 64 n :: (s.fq.take n).map (fun e => e.1)) } := by
  obtain ⟨hfront, hlen, hboot, hheld⟩ := h
  have hj : s.dev.mbxJudge m { len := 8, bad := firstBad [(0, onlyBits [(0, 8)] (s.dev.mbxArg m 0)
      && decide (1 ≤ getF (s.dev.mbxArg m 0) 0 8 ∧ getF (s.dev.mbxArg m 0) 0 8 ≤ 240))], run := s.dev } = none := by
    rw [mbxJudge_args hlen rfl hboot hheld, firstBad_of_all (by simp [h0, h1, h240]), Option.map_none]
  simp only [fltRead, hfront, hj, ← hn]

theorem fqTake_fq (s : State) (n : Nat) : (s.fqTake n).fq = s.fq.drop n := rfl

section
variable (h : s.asks 0x0F01 m 8 false [18]) (ho : s.dev.mbxOwner m = 0) (h0 : onlyBits [(0, 2)] (s.dev.mbxArg m 0) = true)
  (h2 : getF (s.dev.mbxArg m 0) 0 2 ≤ 2)
include h ho h0 h2

theorem pwrState_accepted (hr : s.dev.pwrRefuse (getF (s.dev.mbxArg m 0) 0 2) = 0) : exec .pwrState s
    = .next { s with dev := (s.dev.wrPwrCtl (setB (s.dev.mbxArg m 0) 63 true)).mbxOk m [] } :=
  exec_runs (f := pwrStateCmd) h rfl rfl rfl (beq_iff_eq.mpr ho) (firstBad_of_all (by simp [h0, h2])) (by simp only [hr])

theorem pwrState_refused {c : Nat} (hc : c ≠ 0) (hr : s.dev.pwrRefuse (getF (s.dev.mbxArg m 0) 0 2) = c) : exec .pwrState s
    = .next { s with dev := (s.dev.pwrRef c).mbxRefused m c } := by
  obtain ⟨c, rfl⟩ := Nat.exists_eq_succ_of_ne_zero hc
  exact exec_runs (f := pwrStateCmd) h rfl rfl rfl (beq_iff_eq.mpr ho) (firstBad_of_all (by simp [h0, h2])) (by simp only [hr])

end

end

/-- Settles O54: Bench groups and their timer, severities, the fault queue read by mailbox, and the power state asked for by mailbox. -/
theorem benchFaultAndPowerCommands : Obligations.BenchFaultAndPowerCommands := by
  unfold Obligations.BenchFaultAndPowerCommands
  refine ⟨fun s m A d hA hd => ?_, fun s h => ⟨fun ht => ?_, fun ht => ?_⟩⟩
  · subst hA hd
    refine ⟨?_, ?_, ?_, ?_, ?_⟩
    · intro g n a l x h ho h0 hg h1 hn h8 hmin hmax ha hlo hhi
      refine ⟨benchLoad_none h ho h0 h1 hn h8 hmin hmax ha hlo hhi, fun hl hs => ?_⟩
      rw [benchLoad_some h ho h0 hg h1 hn h8 hmin hmax ha hlo hhi hl hs]
      refine ⟨fun hor => by rw [if_pos hor], fun hgr hm hx => ?_⟩
      rw [if_neg (not_or.mpr ⟨not_not.mpr hgr, by rw [hm]; decide⟩), hx]
    · intro g opc to_ c from_ h ho h0 hg hc
      have hex : exec c s = onDev (fun d => d.benchMove opc from_ to_) s := by
        simp only [Prod.mk.injEq] at hc
        rcases hc with ⟨rfl, rfl, rfl, rfl⟩ | ⟨rfl, rfl, rfl, rfl⟩ <;> rfl
      rw [benchMove_runs h ho h0 hg hex]
      refine ⟨fun hs => ⟨_, by rw [if_pos hs]; rfl⟩, fun hs hm => by rw [if_neg hs, if_pos hm], fun hs hm => by rw [if_neg hs, if_neg hm]⟩
    · intro b k a h h0 h3 hb hk ha
      refine ⟨fun c hc heq => ?_, fun c hc hne => ?_, fltSeverity_free h h0 h3 hb hk ha⟩
      · rw [fltSeverity_fixed h h0 h3 hb hk hc, if_pos heq]
      · rw [fltSeverity_fixed h h0 h3 hb hk hc, if_neg hne]
    · intro n h h0 h1 h240 hn
      refine ⟨?_, fqTake_fq s n⟩
      rw [← fltRead_runs h h0 h1 h240 hn]
      rfl
    · exact fun h ho h0 h2 => ⟨pwrState_accepted h ho h0 h2, fun c => pwrState_refused h ho h0 h2⟩
  · have hex : exec (.benchTimerInterrupt h) s = .next { s with dev := benchTimerInterrupt h.val s.dev } := onDev_next _ s
    rw [hex, benchTimerInterrupt, if_pos ht]
  · have hex : exec (.benchTimerInterrupt h) s = .next { s with dev := benchTimerInterrupt h.val s.dev } := onDev_next _ s
    rw [hex, benchTimerInterrupt, if_neg (Bool.eq_false_iff.mp ht), Dev.time]

end Sys2Proof.Machine
end

section
/-! A fault message is classed, counted, shown and queued; POP; injection, chapter 14 (R411–R413, R421, R423, R426). -/

namespace Sys2Proof.Machine

/-! ### The way to the collector -/

section
variable {s : State}

theorem nextMsg_one {d : Dev} {m : WireMsg} (h : d.flt.wire = [m]) : d.nextMsg = some m := by
  rw [Dev.nextMsg, h, List.foldl_cons, List.foldl_nil]

/-- The only message on its way, once it has arrived, is handled. -/
theorem handleNext_one {m : WireMsg} (h : s.dev.flt.wire = [m]) (hm : m.at_ ≤ s.dev.tim.up) : s.handleNext
    = ({ s with dev := { s.dev with flt := { s.dev.flt with wire := [] } } } : State).collect m := by
  have hw (d : Dev) (hd : m.at_ ≤ d.tim.up) : d.waitUp m.at_ = d := if_pos hd
  simp only [State.handleNext, nextMsg_one h, h, List.erase_cons_head, hw { s.dev with flt := { s.dev.flt with wire := [] } } hm]

/-- A message submitted while none is on its way is handled at once. -/
theorem submit_alone {src kind addr : Nat} {inj : Bool} (hc : s.dev.collectorUp = true) (hw : s.dev.flt.wire = []) :
    s.submit src kind addr inj = s.collect ⟨s.dev.tim.up, src, kind, addr, inj⟩ := by
  obtain ⟨m, hm⟩ : ∃ m : WireMsg, m = ⟨s.dev.tim.up, src, kind, addr, inj⟩ := ⟨_, rfl⟩
  obtain ⟨t, ht⟩ : ∃ t : State, t = { s with dev := { s.dev with flt := { s.dev.flt with wire := [m] } } } := ⟨_, rfl⟩
  have hup : t.dev.collectorUp = true := by rw [ht]; exact hc
  have hone : t.handleNext = ({ t with dev := { t.dev with flt := { t.dev.flt with wire := [] } } } : State).collect m :=
    handleNext_one (by rw [ht]) (by rw [ht, hm])
  have hback : ({ t with dev := { t.dev with flt := { t.dev.flt with wire := [] } } } : State) = s := by
    rw [ht]
    simp only [← hw]
  rw [State.submit, hw, List.nil_append, ← hm, ← ht, List.length_nil, State.handleAll, if_pos hup, State.handleAll, hone, hback]

theorem faultMessage_next {m : WireMsg} (hc : s.dev.collectorUp = true) (hw : s.dev.flt.wire = [m]) (hm : m.at_ ≤ s.dev.tim.up) :
    faultMessage none s = ({ s with dev := { s.dev with flt := { s.dev.flt with wire := [] } } } : State).collect m := by
  simp only [faultMessage, hc, Bool.true_eq_false, if_false, handleNext_one hw hm]

section
variable {src : BitVec 12} {kind : BitVec 8} {addr : BitVec 40} (hc : s.dev.collectorUp = true)
include hc

theorem faultMessage_listed (hw : s.dev.flt.wire = []) (hl : faultListed src.toNat kind.toNat = true) :
    faultMessage (some (src, kind, addr)) s = s.collect ⟨s.dev.tim.up, src.toNat, kind.toNat, addr.toNat, false⟩ := by
  simp only [faultMessage, hc, Bool.true_eq_false, if_false, hl, if_true, submit_alone hc hw]

theorem faultMessage_unlisted (hl : faultListed src.toNat kind.toNat = false) : faultMessage (some (src, kind, addr)) s = s := by
  simp only [faultMessage, hc, Bool.true_eq_false, Bool.false_eq_true, if_false, hl]

end

end

/-! ### Classes -/

section
variable {d : Dev} {w : WireMsg} {k u : Nat} (hb : srcBlock w.src = (k, u))
include hb

/-- The class of a message that is not injected: the fixed one of its kind, or the one its severity field gives. -/
theorem classOf_own (hi : w.inj = false) : d.classOf w = (fixedClass k u w.kind).getD (d.sevClass k w.kind) := by
  simp only [Dev.classOf, hb, hi, Bool.false_eq_true, false_and, if_false]

theorem classOf_sched (hk : k = 0) (hl : w.kind < 0x10) (hu : schedIsland u = true) (hi : w.inj = false) : d.classOf w = 2 := by
  rw [classOf_own hb hi, fixedClass, if_pos ⟨hk, hl⟩, if_pos hu, Option.getD_some]

theorem classOf_unfenced (hk : k = 0) (hl : w.kind < 0x10) (hu : schedIsland u = false) (hn : neverFenced u = true) (hi : w.inj = false) :
    d.classOf w = 1 := by
  rw [classOf_own hb hi, fixedClass, if_pos ⟨hk, hl⟩, if_neg (Bool.eq_false_iff.mp hu), if_pos hn, Option.getD_some]

theorem classOf_severity (hf : fixedClass k u w.kind = none) (hi : w.inj = false) (hs : d.flt.sevAt ≠ d.tim.up) :
    d.classOf w = d.gf (Reg.fltSev k (w.kind / 16)) (4 * (w.kind % 16)) 4 := by
  rw [classOf_own hb hi, hf, Option.getD_none, Dev.sevClass, Dev.sevWord, if_neg hs, Dev.gf]

theorem classOf_severity_was {x : Word} (hf : fixedClass k u w.kind = none) (hi : w.inj = false) (hs : d.flt.sevAt = d.tim.up)
    (hx : Sparse.find d.flt.sevWas (Reg.fltSev k (w.kind / 16)) = some x) : d.classOf w = getF x (4 * (w.kind % 16)) 4 := by
  rw [classOf_own hb hi, hf, Option.getD_none, Dev.sevClass, Dev.sevWord, if_pos hs, Sparse.getD, hx, Option.getD_some]

end

/-- An injected message is of class 3 only where the Jig permits it. -/
theorem classOf_injected_ne_halt {d : Dev} {w : WireMsg} (hi : w.inj = true) (hj : d.gb Reg.jigCtl 1 = false) : d.classOf w ≠ 3 := by
  simp only [Dev.classOf, hi, hj, true_and, and_true]
  split
  · decide
  · assumption

/-! ### The status register -/

theorem gb_foldl_sb {a c : Nat} (l : List Nat) (d : Dev) (hl : ∀ i ∈ l, i < 64) (h : c ∈ l ∨ d.gb a c = true) :
    (l.foldl (fun (x : Dev) i => x.sb a i true) d).gb a c = true := by
  induction l generalizing d with
  | nil => exact h.resolve_left List.not_mem_nil
  | cons i t ih =>
    obtain ⟨hi, ht⟩ := List.forall_mem_cons.mp hl
    refine ih _ ht ?_
    by_cases hc : c = i
    · exact .inr (by rw [hc, gb_sb_self _ _ _ hi])
    · exact h.imp (fun hm => (List.mem_cons.mp hm).resolve_left hc) fun hd => by rw [gb_sb_bit _ _ _ hi hc, hd]

theorem gb_pinSync {d : Dev} {c : Nat} (h : c ≠ 4) : d.pinSync.gb Reg.fltStat c = d.gb Reg.fltStat c := by
  rw [Dev.pinSync, gb_sb_bit _ _ _ (by decide) h]

/-- A bit written 1 by software in the instant that sets it stays set. -/
theorem wrFltStat_keeps {d : Dev} (v : Word) {c : Nat} (hc : c < 4) (h : Sparse.find d.flt.classAt c = some d.tim.up) :
    (d.wrFltStat v).gb Reg.fltStat c = true := by
  rw [Dev.wrFltStat, gb_pinSync (by omega)]
  refine gb_foldl_sb _ _ (fun i hi => ?_) (.inl (List.mem_filter.mpr ⟨List.mem_range.mpr hc, beq_iff_eq.mpr h⟩))
  have := List.mem_range.mp (List.mem_filter.mp hi).1
  omega

/-! ### POP and injection -/

theorem stateGate_open {s : State} {r : Req} {a : Nat} (f : State → State) (h : s.takes r a) : s.gate r a f = f s := by
  rw [State.gate, if_neg (Bool.eq_false_iff.mp h.1), if_pos h.2]

theorem wrQStat_pop (s : State) (v : Word) : s.wrQStat (setB v 63 true) = ({ s with fq := s.fq.drop 1 } : State).fqSync :=
  if_pos (getB_setB_self v true (by decide))

section
variable {s : State} {v : Word}

theorem wrJigInj_inactive (h : s.dev.jigActive = false) : s.wrJigInj v = { s with dev := s.dev.sb Reg.jigStat 1 true } := if_pos (.inl h)

theorem wrJigInj_injects (h : s.dev.jigActive = true) (hl : faultListed (getF v 52 12) (getF v 44 8) = true)
    (hb : (srcBlock (getF v 52 12)).1 ≠ 4) (hc : (s.dev.inc Reg.jigInjCnt).collectorUp = true) (hw : s.dev.flt.wire = []) :
    s.wrJigInj v = ({ s with dev := s.dev.inc Reg.jigInjCnt } : State).collect ⟨s.dev.tim.up, getF v 52 12, getF v 44 8, getF v 0 40, true⟩ := by
  have hno : ¬ (s.dev.jigActive = false ∨ faultListed (getF v 52 12) (getF v 44 8) = false
      ∨ ((srcBlock (getF v 52 12)).1 = 4 ∧ getF v 44 8 = 0x10 ∧ 262143 < getF v 0 40)) := by simp [h, hl, hb]
  have hsub : ({ s with dev := s.dev.inc Reg.jigInjCnt } : State).submit (getF v 52 12) (getF v 44 8) (getF v 0 40) true
      = ({ s with dev := s.dev.inc Reg.jigInjCnt } : State).collect ⟨(s.dev.inc Reg.jigInjCnt).tim.up, getF v 52 12, getF v 44 8, getF v 0 40, true⟩ :=
    submit_alone hc (by rw [inc_flt]; exact hw)
  simp only [State.wrJigInj, if_neg hno, hsub, inc_tim]

end

/-- Settles O56: a message is classed, counted, shown and queued, and POP and injection. -/
theorem faultMessagesAreCollected : Obligations.FaultMessagesAreCollected := by
  unfold Obligations.FaultMessagesAreCollected
  refine ⟨?_, ?_, ?_, fun d w => ⟨?_, ?_, ?_, ?_, classOf_injected_ne_halt⟩, fun d v c hc h => wrFltStat_keeps v hc h, ?_, ?_⟩
  · intro s src kind addr m hc hw hm
    have hex : exec (.faultMessage (some (src, kind, addr))) s = .next (faultMessage (some (src, kind, addr)) s) := rfl
    rw [hex, hm]
    exact ⟨fun hl => by rw [faultMessage_listed hc hw hl], fun hl => by rw [faultMessage_unlisted hc hl]⟩
  · intro s m hc hw hm
    rw [← faultMessage_next hc hw hm]
    rfl
  · intro s m c d0 d s1 hc h3 hd0 hd hs1
    simp only [State.collect, ← hc, ← hd0, ← hd, ← hs1, if_neg h3]
  · exact fun u hb hl hu hi => classOf_sched hb rfl hl hu hi
  · exact fun u hb hl hu hn hi => classOf_unfenced hb rfl hl hu hn hi
  · exact fun k u hb hf hi hs => classOf_severity hb hf hi hs
  · exact fun k u x hb hf hi hs hx => classOf_severity_was hb hf hi hs hx
  · intro s r v ht
    rw [← wrQStat_pop s v, ← stateGate_open (fun x => x.wrQStat (setB v 63 true)) ht]
    rfl
  · intro s r v m ht hc hw hm
    have hex : exec (.jigInject r v) s = .next (s.wrJigInj v) := by
      rw [← stateGate_open (fun x => x.wrJigInj v) ht]
      rfl
    rw [hex, hm]
    exact ⟨fun hj => by rw [wrJigInj_inactive hj], fun hj hl hb hc1 => by rw [wrJigInj_injects hj hl hb hc1 hw]⟩

end Sys2Proof.Machine
end

section
/-! Fences, their escalation and release, the reset of an island, and Halt, chapter 14 (R413–R415, R417, R427). -/

namespace Sys2Proof.Machine

/-! ### Automatic release -/

/-- An automatic release is scheduled, and shown in the island's status, or nothing changes. -/
theorem autoSchedule_cases (d : Dev) (i : Nat) : ∃ x, d.autoSchedule i = d
    ∨ d.autoSchedule i = ({ d with flt := { d.flt with autoAt := x } } : Dev).sb (Reg.fltIslStat i) 1 true := by
  by_cases h : d.gf Reg.fltFenceCfg 0 16 ≠ 0 ∧ d.gf (Reg.fltIslStat i) 2 4 < d.gf Reg.fltFenceCfg 16 4
  · exact ⟨_, .inr (if_pos h)⟩
  · exact ⟨d.flt.autoAt, .inl (if_neg h)⟩

theorem autoSchedule_off {d : Dev} (i : Nat) (h : d.gf Reg.fltFenceCfg 0 16 = 0) : d.autoSchedule i = d := if_neg fun hc => hc.1 h

section
variable (d : Dev) (i : Nat)

theorem rd_autoSchedule_ne {b : Nat} (h : b ≠ Reg.fltIslStat i) : (d.autoSchedule i).rd b = d.rd b := by
  obtain ⟨x, hx | hx⟩ := autoSchedule_cases d i <;> rw [hx]
  rw [rd_sb_ne _ _ _ h]
  rfl

theorem gb_autoSchedule_bit {j : Nat} (h : j ≠ 1) : (d.autoSchedule i).gb (Reg.fltIslStat i) j = d.gb (Reg.fltIslStat i) j := by
  obtain ⟨x, hx | hx⟩ := autoSchedule_cases d i <;> rw [hx]
  rw [gb_sb_bit _ _ _ (by decide) h]
  rfl

theorem gf_autoSchedule_above {lo w : Nat} (h : 2 ≤ lo) : (d.autoSchedule i).gf (Reg.fltIslStat i) lo w = d.gf (Reg.fltIslStat i) lo w := by
  obtain ⟨x, hx | hx⟩ := autoSchedule_cases d i <;> rw [hx]
  rw [Dev.gf, rd_sb_self, getF_setB_ne _ _ (by decide) (.inr (by omega))]
  rfl

theorem autoSchedule_flt : ∃ x, (d.autoSchedule i).flt = { d.flt with autoAt := x } := by
  obtain ⟨x, hx | hx⟩ := autoSchedule_cases d i
  · exact ⟨_, by rw [hx]⟩
  · exact ⟨x, by rw [hx]; rfl⟩

end

/-! ### Fences -/

/-- The registers of a fenced island: its bit, the count of fences, and its status with the kind and the count of its own. -/
def Dev.fenceRegs (d : Dev) (i kind : Nat) : Dev :=
  let d1 := (d.sb Reg.glbIslandFenced i true).inc Reg.fltFenceCnt
  ((d1.sb (Reg.fltIslStat i) 0 true).sf (Reg.fltIslStat i) 8 8 kind).sf (Reg.fltIslStat i) 16 16 (min 65535 (d1.gf (Reg.fltIslStat i) 16 16 + 1))

/-- A fenced island, as the registers and the collector show it. -/
def Dev.fenceMarks (d : Dev) (i kind : Nat) (msg : Word) : Dev :=
  { d.fenceRegs i kind with flt := { d.flt with
    struckAt := Sparse.put d.flt.struckAt i d.tim.up, fencedAt := Sparse.put d.flt.fencedAt i d.tim.up, fencedBy := Sparse.put d.flt.fencedBy i msg
    freeSince := Sparse.del d.flt.freeSince i } }

section
variable {d : Dev} {i kind : Nat} {msg : Word}

theorem fence_never (h : neverFenced i = true) : d.fence i kind msg = d := if_pos h

theorem fence_again (h : neverFenced i = false) (hf : d.fenced i = true) (hr : Sparse.find d.flt.resetting i = none) :
    d.fence i kind msg = { d with flt := { d.flt with struckAt := Sparse.put d.flt.struckAt i d.tim.up } } := by
  have hf' (m : Sparse Nat) : ({ d with flt := { d.flt with struckAt := m } } : Dev).fenced i = true := hf
  simp only [Dev.fence, h, hf', hr, Option.isSome_none, Bool.false_eq_true, if_false, if_true]

theorem fence_first (h : neverFenced i = false) (hf : d.fenced i = false) : d.fence i kind msg
    = ((((d.fenceMarks i kind msg).autoSchedule i).fenceEffect i).islandSync d.joined d.holder).pinSync := by
  have hf' (m : Sparse Nat) : ¬ (({ d with flt := { d.flt with struckAt := m } } : Dev).fenced i = true) := Bool.eq_false_iff.mp hf
  rw [Dev.fence, if_neg (Bool.eq_false_iff.mp h)]
  exact if_neg (hf' _)

theorem fltIslStat_ne_fenced (i : Nat) : Reg.glbIslandFenced ≠ Reg.fltIslStat i := by
  unfold Reg.glbIslandFenced Reg.fltIslStat; omega

theorem rd_fenceMarks (a : Nat) : (d.fenceMarks i kind msg).rd a = (d.fenceRegs i kind).rd a := by
  have h (e : Dev) (f : Flt) : ({ e with flt := f } : Dev).rd a = e.rd a := rfl
  rw [Dev.fenceMarks, h]

theorem fenceMarks_gb (a j : Nat) : (d.fenceMarks i kind msg).gb a j = (d.fenceRegs i kind).gb a j := by
  rw [Dev.gb, rd_fenceMarks, Dev.gb]

theorem fenceMarks_gf (a lo w : Nat) : (d.fenceMarks i kind msg).gf a lo w = (d.fenceRegs i kind).gf a lo w := by
  rw [Dev.gf, rd_fenceMarks, Dev.gf]

theorem fenceMarks_fenced (hi : i < 64) : (d.fenceMarks i kind msg).gb Reg.glbIslandFenced i = true := by
  have hne := fltIslStat_ne_fenced i
  rw [fenceMarks_gb, Dev.fenceRegs, gb_sf_ne _ _ _ _ _ hne, gb_sf_ne _ _ _ _ _ hne, gb_sb_ne _ _ _ _ hne, Dev.gb, rd_inc_ne _ (by decide)]
  exact gb_sb_self d _ true hi

theorem fenceMarks_status : (d.fenceMarks i kind msg).gb (Reg.fltIslStat i) 0 = true ∧ (d.fenceMarks i kind msg).gf (Reg.fltIslStat i) 8 8 = kind % 256 := by
  rw [fenceMarks_gb, fenceMarks_gf, Dev.fenceRegs]
  refine ⟨?_, ?_⟩
  · rw [Dev.gb, rd_sf_self, getB_setF _ _ _ (by decide), if_neg (by decide), rd_sf_self, getB_setF _ _ _ (by decide), if_neg (by decide)]
    exact gb_sb_self _ _ true (by decide)
  · rw [gf_sf_field _ _ _ (by decide) (.inl (by decide)), gf_sf_self _ _ _ (by decide)]
    norm_num

/-- The marks of the first fence of an island, once its automatic release is scheduled or not. -/
theorem autoSchedule_fenceMarks (hi : i < 48) :
    ((d.fenceMarks i kind msg).autoSchedule i).gb Reg.glbIslandFenced i = true
    ∧ ((d.fenceMarks i kind msg).autoSchedule i).gb (Reg.fltIslStat i) 0 = true
    ∧ ((d.fenceMarks i kind msg).autoSchedule i).gf (Reg.fltIslStat i) 8 8 = kind % 256
    ∧ Sparse.find ((d.fenceMarks i kind msg).autoSchedule i).flt.fencedAt i = some d.tim.up
    ∧ Sparse.find ((d.fenceMarks i kind msg).autoSchedule i).flt.fencedBy i = some msg := by
  obtain ⟨h0, h8⟩ := fenceMarks_status (d := d) (i := i) (kind := kind) (msg := msg)
  obtain ⟨x, hx⟩ := autoSchedule_flt (d.fenceMarks i kind msg) i
  refine ⟨?_, ?_, ?_, ?_, ?_⟩
  · rw [Dev.gb, rd_autoSchedule_ne _ _ (fltIslStat_ne_fenced i)]
    exact fenceMarks_fenced (by omega)
  · rw [gb_autoSchedule_bit _ _ (by decide), h0]
  · rw [gf_autoSchedule_above _ _ (by decide), h8]
  · rw [hx]; exact find_put_self ..
  · rw [hx]; exact find_put_self ..

theorem autoSchedule_fenceMarks_off (h : d.gf Reg.fltFenceCfg 0 16 = 0) :
    ((d.fenceMarks i kind msg).autoSchedule i).flt.autoAt = d.flt.autoAt := by
  have h1 : Reg.fltFenceCfg ≠ Reg.fltIslStat i := by unfold Reg.fltFenceCfg Reg.fltIslStat; omega
  rw [autoSchedule_off]
  · rfl
  · rw [fenceMarks_gf, Dev.fenceRegs, gf_sf_ne _ _ _ _ _ _ h1, gf_sf_ne _ _ _ _ _ _ h1, gf_sb_ne _ _ _ _ _ h1, Dev.gf, rd_inc_ne _ (by decide),
      rd_sb_ne _ _ _ (by decide)]
    exact h

end

/-! ### Escalation and release -/

section
variable {d e : Dev} {i t : Nat}

theorem fenceEscalation_halts (ht : Sparse.find d.flt.fencedAt i = some t) (hf : d.fenced i = true) (hc : d.collectorUp = true) : fenceEscalation i d
    = ((d.waitUp (t + 10 * usU)).inc Reg.fltEscCnt).halt (Sparse.getD d.flt.fencedBy i 0) := by
  simp only [fenceEscalation, ht, hf, hc, and_self, if_true]

theorem wrFenceRel_go (d : Dev) (v : Word) : d.wrFenceRel (setB v 63 true)
    = if neverFenced (getF v 0 6) = true ∨ 48 ≤ getF v 0 6 ∨ d.fenced (getF v 0 6) = false then d.sb Reg.fltStat 6 true
      else ((d.wrReg Reg.fltFenceRel (setB v 63 true)).sf (Reg.fltIslStat (getF v 0 6)) 2 4 0).release (getF v 0 6) := by
  simp only [Dev.wrFenceRel, getB_setB_self v true (by decide : 63 < 64), getF_setB_above v true (by decide : 63 < 64) (by decide : 0 + 6 ≤ 63),
    if_true]

theorem autoRelease_releases (ht : Sparse.find d.flt.autoAt i = some t) (hf : d.fenced i = true) (hc : d.collectorUp = true) (he : e = d.waitUp t) :
    autoRelease i d = (e.sf (Reg.fltIslStat i) 2 4 (e.gf (Reg.fltIslStat i) 2 4 + 1)).release i := by
  simp only [autoRelease, ht, hf, hc, and_self, if_true, ← he]

theorem release_resets (hs : Sparse.find d.flt.struckAt i ≠ some d.tim.up) (hr : Sparse.find d.flt.resetting i = none) :
    Sparse.find (d.release i).flt.resetting i = some d.tim.up ∧ Sparse.find (d.release i).flt.autoAt i = none
      ∧ (d.release i).gb (Reg.fltIslStat i) 1 = false := by
  obtain ⟨x, hx⟩ : ∃ x : Dev, x = ({ d with flt := { d.flt with autoAt := Sparse.del d.flt.autoAt i } } : Dev).sb (Reg.fltIslStat i) 1 false := ⟨_, rfl⟩
  have hgb : x.gb (Reg.fltIslStat i) 1 = false := by rw [hx]; exact gb_sb_self _ _ false (by decide)
  have hauto : x.flt.autoAt = Sparse.del d.flt.autoAt i := by rw [hx]; rfl
  simp only [Dev.release, ← hx, if_neg hs, hr, Option.isSome_none, Bool.false_eq_true, if_false]
  exact ⟨find_put_self .., by rw [hauto]; exact find_del_self .., hgb⟩

/-- An island struck in the instant of its release stays as it is. -/
theorem release_struck (hs : Sparse.find d.flt.struckAt i = some d.tim.up) : (d.release i).flt.resetting = d.flt.resetting
    ∧ (d.release i).fenced i = d.fenced i := by
  obtain ⟨x, hx⟩ : ∃ x : Dev, x = ({ d with flt := { d.flt with autoAt := Sparse.del d.flt.autoAt i } } : Dev).sb (Reg.fltIslStat i) 1 false := ⟨_, rfl⟩
  have hflt : x.flt.resetting = d.flt.resetting := by rw [hx]; rfl
  have hrd : x.rd Reg.glbIslandFenced = d.rd Reg.glbIslandFenced := by
    rw [hx, rd_sb_ne _ _ _ (fltIslStat_ne_fenced i)]
    rfl
  obtain ⟨y, hy⟩ := autoSchedule_flt x i
  simp only [Dev.release, ← hx, if_pos hs]
  exact ⟨by rw [hy, ← hflt], by rw [Dev.fenced, rd_autoSchedule_ne _ _ (fltIslStat_ne_fenced i), hrd, Dev.fenced]⟩

theorem islandResetDone_returns (hi : i < 48) (ht : Sparse.find d.flt.resetting i = some t) (hc : d.collectorUp = true)
    (he : e = d.waitUp (t + 20 * usU)) : ∃ x : Dev, islandResetDone i d = ((x.backEffect i).islandSync e.joined e.holder).pinSync
      ∧ x.gb Reg.glbIslandFenced i = false ∧ x.gb (Reg.fltIslStat i) 0 = false ∧ Sparse.find x.flt.resetting i = none
      ∧ Sparse.find x.flt.freeSince i = some e.tim.up := by
  have he' : d.waitUp (t + resetMin) = e := he.symm
  obtain ⟨y, hy⟩ : ∃ y : Dev, y = (e.sb Reg.glbIslandFenced i false).sb (Reg.fltIslStat i) 0 false := ⟨_, rfl⟩
  have hup : y.tim.up = e.tim.up := by rw [hy]; rfl
  have hfen : y.gb Reg.glbIslandFenced i = false := by
    rw [hy, gb_sb_ne _ _ _ _ (fltIslStat_ne_fenced i)]
    exact gb_sb_self _ _ false (by omega)
  have hstat : y.gb (Reg.fltIslStat i) 0 = false := by rw [hy]; exact gb_sb_self _ _ false (by decide)
  refine ⟨{ y with flt := { y.flt with resetting := Sparse.del y.flt.resetting i, fencedAt := Sparse.del y.flt.fencedAt i
                                       freeSince := Sparse.put y.flt.freeSince i y.tim.up } }, ?_, hfen, hstat, find_del_self .., ?_⟩
  · simp only [islandResetDone, ht, hc, Bool.true_eq_false, if_false, he', ← hy]
  · rw [← hup]
    exact find_put_self ..

theorem attemptsClear_of_free (ht : Sparse.find d.flt.freeSince i = some t) (hc : d.collectorUp = true) :
    attemptsClear i d = (d.waitUp (t + 3600 * secU)).sf (Reg.fltIslStat i) 2 4 0 := by
  simp only [attemptsClear, ht, hc, if_true]

end

/-! ### Halt -/

theorem wrHaltCmd_go (d : Dev) (v : Word) : d.wrHaltCmd (setB v 63 true)
    = if getF v 0 32 = 0x7240 then (d.wrReg Reg.fltHaltCmd (setB v 63 true)).halt (faultWord (srcCode 16 0) 0 3 0)
      else d.wrReg Reg.fltHaltCmd (setB v 63 true) := by
  simp only [Dev.wrHaltCmd, getB_setB_self v true (by decide : 63 < 64), getF_setB_above v true (by decide : 63 < 64) (by decide : 0 + 32 ≤ 63),
    true_and]

/-- The rings' registers set at the end of a Halt leave the rest as it is. -/
theorem ringsHalted_frame (d : Dev) (l : List Nat) :
    ∃ r h, l.foldl (fun (x : Dev) k => (x.sf (Reg.rngStat k) 0 3 6).sb (Reg.rngStat k) 4 false) d = { d with regs := r, hold := h } := by
  induction l generalizing d with
  | nil => exact ⟨d.regs, d.hold, rfl⟩
  | cons k t ih =>
    obtain ⟨r, h, he⟩ := ih ((d.sf (Reg.rngStat k) 0 3 6).sb (Reg.rngStat k) 4 false)
    exact ⟨r, h, he⟩

/-- What Halt leaves: no transition, the time outputs low, the calendar and the solver cleared, no frame. -/
theorem halt_stops {d : Dev} (msg : Word) (h : d.halted = false) : (d.halt msg).pwr.goal = none ∧ (d.halt msg).tim.ppsOut = false
    ∧ (d.halt msg).tim.clk10 = false ∧ (d.halt msg).cal = {} ∧ (d.halt msg).sol = {} ∧ (d.halt msg).frames = [] := by
  rw [Dev.halt, if_neg (Bool.eq_false_iff.mp h)]
  extract_lets d1 t a d2 d3 d4 wiped tim pwr d5
  clear_value d4
  obtain ⟨r, k, hr⟩ := ringsHalted_frame d5 [0, 1]
  rw [hr]
  exact ⟨rfl, rfl, rfl, rfl, rfl, rfl⟩

/-- Settles O57: fences, their escalation and release, the reset of an island, and Halt. -/
theorem fencesReleasesAndHalt : Obligations.FencesReleasesAndHalt := by
  unfold Obligations.FencesReleasesAndHalt
  refine ⟨fun d i kind msg => ⟨fence_never, fence_again, fun hn hf hi => ?_⟩, ?_, ?_, ?_, fun d i => release_resets, fun d i => release_struck,
    ?_, ?_, ?_, fun d msg => ⟨fun h => if_pos h, halt_stops msg⟩⟩
  · obtain ⟨h1, h2, h3, h4, h5⟩ := autoSchedule_fenceMarks (d := d) (kind := kind) (msg := msg) hi
    exact ⟨_, fence_first hn hf, h1, h2, h3, h4, h5, autoSchedule_fenceMarks_off⟩
  · intro s i t ht hf hc
    rw [← fenceEscalation_halts ht hf hc]
    exact onDev_next _ s
  · intro s r v i ht hi
    have hex : exec (.fenceRelease r v) s = .next { s with dev := s.dev.wrFenceRel (setB v 63 true) } :=
      onDev_gate_of_takes (fun d => d.wrFenceRel (setB v 63 true)) ht
    rw [hex, wrFenceRel_go, ← hi]
    exact ⟨fun hno => by rw [if_pos hno], fun hn hi hf => by rw [if_neg (by simp [hn, hi, hf])]⟩
  · intro s i t d ht hf hc hd
    rw [← autoRelease_releases ht hf hc hd]
    exact onDev_next _ s
  · intro s i t d ht hc hd
    obtain ⟨x, hx, h⟩ := islandResetDone_returns i.isLt ht hc hd
    refine ⟨x, ?_, h⟩
    rw [← hx]
    exact onDev_next _ s
  · intro s i t ht hc
    rw [← attemptsClear_of_free ht hc]
    exact onDev_next _ s
  · intro s r v d ht hd
    have hex : exec (.haltCommand r v) s = .next { s with dev := s.dev.wrHaltCmd (setB v 63 true) } :=
      onDev_gate_of_takes (fun d => d.wrHaltCmd (setB v 63 true)) ht
    rw [hex, wrHaltCmd_go, ← hd]
    exact ⟨fun hk => by rw [if_pos hk], fun hk => by rw [if_neg hk]⟩

end Sys2Proof.Machine
end

section
/-! ### The boot of the Joiner, its resets, leases and lockouts, and the Jig's held frames (O58) -/

namespace Sys2Proof.Machine

section
variable {d : Dev} {found : Bool} {k p q t : Nat}

/-! ### Boot -/

/-- A boot of an empty Joiner that looks for both slots. -/
theorem bootNow_first (hs : d.fwState = 0) (hi : d.islandOk 44 = true) (ho : d.mbx.bootOther = false) (hp : p = d.prefSlot) :
    d.bootNow false = d.bootHold 4
      ∧ (d.slotCause p = 0 → d.bootNow true = d.runSlot p)
      ∧ (d.slotCause p ≠ 0 → d.slotCause (1 - p) = 0 → d.bootNow true = d.runSlot (1 - p))
      ∧ (d.slotCause p ≠ 0 → d.slotCause (1 - p) = d.slotCause p → d.bootNow true = d.bootHold (d.slotCause p)) := by
  have hno : ¬ (d.fwState ≠ 0 ∨ d.islandOk 44 = false) := by simp [hs, hi]
  have hoff : ¬ d.mbx.bootOther = true := by simp [ho]
  simp only [Dev.bootNow, if_neg hno, if_neg hoff, if_true, Bool.true_eq_false, if_false, ← hp, true_and]
  refine ⟨fun h0 => if_pos h0, fun h0 h1 => ?_, fun h0 h1 => ?_⟩
  · rw [if_neg h0, if_pos h1]
  · rw [if_neg h0, if_neg (by rw [h1]; exact h0), if_pos h1.symm]

/-- A boot after the third watchdog reset tries the other slot alone. -/
theorem bootNow_other (hs : d.fwState = 0) (hi : d.islandOk 44 = true) (ho : d.mbx.bootOther = true) (hq : q = 1 - d.gf Reg.mbxFwStat 2 1) :
    (d.slotCause q = 0 → d.bootNow true = d.runSlot q) ∧ (d.slotCause q ≠ 0 → d.bootNow found = d.bootHold 5) := by
  have hno : ¬ (d.fwState ≠ 0 ∨ d.islandOk 44 = false) := by simp [hs, hi]
  simp only [Dev.bootNow, if_neg hno, ho, if_true, ← hq, true_and]
  exact ⟨fun h => if_pos h, fun h => if_neg fun hc => h hc.2⟩

/-! ### The resets -/

/-- A solver that holds no job shows its state, and holds what it held. -/
theorem solSync_idle (h : d.sol.job = none) : d.solSync.mbx = d.mbx ∧ d.solSync.sol = d.sol := by
  have he : ((d.sf Reg.solStat 0 2 3).raise 6 0 0x10 0).sol.job = none := h
  simp only [Dev.solSync, he, h, Option.any_none, Bool.false_eq_true, if_false]
  by_cases hc : d.solCause = true
  · by_cases h3 : d.gf Reg.solStat 0 2 = 3
    · simp only [hc, h3, if_true]
      exact ⟨rfl, rfl⟩
    · simp only [hc, h3, if_true, if_false]
      exact ⟨rfl, rfl⟩
  · by_cases hr : d.gb Reg.solCtl 0 = true ∧ d.sol.taken = true
    · simp only [hc, hr, and_self, if_true, Bool.false_eq_true, if_false]
      exact ⟨rfl, rfl⟩
    · simp only [if_neg hc, if_neg hr]
      exact ⟨rfl, rfl⟩

/-- The reset of the Joiner leaves an idle solver and a mailbox that holds no request. -/
theorem joinerReset_idle (d : Dev) : d.joinerReset.sol = {} ∧ d.joinerReset.mbx.go = [] ∧ d.joinerReset.mbx.waits = [] := by
  obtain ⟨x, hx, hs, hg, hw⟩ : ∃ x : Dev, d.joinerReset = x.solSync ∧ x.sol = {} ∧ x.mbx.go = [] ∧ x.mbx.waits = [] :=
    ⟨_, rfl, rfl, rfl, rfl⟩
  obtain ⟨hm, hsol⟩ := solSync_idle (d := x) (by rw [hs])
  rw [hx, hm, hsol]
  exact ⟨hs, hg, hw⟩

/-- What a watchdog reset leaves: the marks of the minute, the count, and an idle mailbox and solver. -/
theorem watchdogReset_leaves (d : Dev) :
    d.watchdogReset.mbx.bootOther = decide (2 ≤ (d.mbx.wdogAt.filter (fun t => decide (d.tim.up < t + 60 * secU))).length)
      ∧ d.watchdogReset.gf Reg.mbxFwStat 16 8 = min 255 (d.gf Reg.mbxFwStat 16 8 + 1) ∧ d.watchdogReset.mbx.go = []
      ∧ d.watchdogReset.mbx.waits = [] ∧ d.watchdogReset.sol.queue = [] := by
  obtain ⟨hs, hg, hw⟩ := joinerReset_idle d
  refine ⟨?_, ?_, hg, hw, by rw [show d.watchdogReset.sol = d.joinerReset.sol from rfl, hs]⟩
  · obtain ⟨l, hl⟩ : ∃ l, l = d.mbx.wdogAt.filter (fun t => decide (d.tim.up < t + 60 * secU)) := ⟨_, rfl⟩
    rw [← hl]
    refine (show d.watchdogReset.mbx.bootOther = decide (3 ≤ ((d.tim.up :: l).take 3).length) by rw [hl]; rfl).trans ?_
    rw [List.length_take, List.length_cons]
    exact decide_eq_decide.mpr (by omega)
  · rw [Dev.watchdogReset, gf_sf_self _ _ _ (by decide)]
    exact Nat.mod_eq_of_lt (by omega)

theorem joinerWatchdogReset_acts {s : State} (hf : 2 ≤ s.dev.fwState) (hi : s.dev.islandOk 44 = true) :
    exec .joinerWatchdogReset s = .next { s with dev := s.dev.watchdogReset } :=
  (onDev_next _ s).trans (by simp only [joinerWatchdogReset, hf, hi, and_self, if_true])

theorem deviceResetStart_holds {s : State} {x : State} (ht : s.dev.mbx.resetAt = some t) (h44 : s.dev.islandOk 44 = true)
    (h46 : s.dev.islandOk 46 = true) (hx : x = ({ s with dev := s.dev.waitUp t } : State).coreReset false false false 4) :
    ∃ u : Nat, x.dev.tim.up + 25 * msU ≤ u ∧ u ≤ x.dev.tim.up + 45 * msU
      ∧ deviceResetStart s = { x with dev := { x.dev.useFree with pwr := { x.dev.pwr with resetUntil := u, resetAll := true } } } := by
  have hp := Nat.mod_lt (Config.pick x.dev.free (45 * msU - 25 * msU + 1)) (by decide : 0 < 45 * msU - 25 * msU + 1)
  have hms : 45 * msU - 25 * msU + 25 * msU = 45 * msU := by decide
  refine ⟨x.dev.tim.up + 25 * msU + Config.pick x.dev.free (45 * msU - 25 * msU + 1) % (45 * msU - 25 * msU + 1), by omega, by omega, ?_⟩
  simp only [deviceResetStart, ht, h44, h46, if_true, ← hx, Dev.holdReset]

/-! ### Leases and lockouts -/

theorem unlock_ne_lease (k : Nat) : Reg.mbxUnlock ≠ Reg.mbxLease k := by
  simp only [Reg.mbxUnlock, Reg.mbxLease]
  omega

theorem lockoutEnd_frees (ht : Sparse.find d.mbx.lockEnd k = some t) : (lockoutEnd k d).gb (Reg.mbxLease k) 30 = false
    ∧ (lockoutEnd k d).gf (Reg.mbxLease k) 28 2 = 0 ∧ Sparse.find (lockoutEnd k d).mbx.lockEnd k = none := by
  obtain ⟨x, hx⟩ : ∃ x : Dev, x = (d.waitUp t).sb (Reg.mbxLease k) 30 false := ⟨_, rfl⟩
  obtain ⟨y, hy⟩ : ∃ y : Dev, y = x.sf (Reg.mbxLease k) 28 2 0 := ⟨_, rfl⟩
  have hl : lockoutEnd k d = { y with mbx := { y.mbx with lockEnd := Sparse.del y.mbx.lockEnd k } } := by
    simp only [lockoutEnd, ht, ← hx, ← hy]
  have hb : y.gb (Reg.mbxLease k) 30 = false := by
    rw [hy, hx, Dev.gb, rd_sf_self, rd_sb_self, getB_setF _ _ _ (by decide), if_neg (by decide), getB_setB_self _ _ (by decide)]
  have hf : y.gf (Reg.mbxLease k) 28 2 = 0 := by rw [hy, gf_sf_self _ _ _ (by decide), Nat.zero_mod]
  rw [hl]
  exact ⟨hb, hf, find_del_self ..⟩

/-- What the end of a lease or RELOCK leaves of a feature but test mode. -/
theorem relock_locks (hk : k < 23) (h17 : k ≠ 17) : (d.relock k).gb Reg.mbxUnlock k = false ∧ Sparse.find (d.relock k).mbx.leaseEnd k = none
    ∧ ∀ j, j ≠ k → (d.relock k).gb Reg.mbxUnlock j = d.gb Reg.mbxUnlock j := by
  obtain ⟨x, hx⟩ : ∃ x : Dev, x = (d.sb Reg.mbxUnlock k false).sf (Reg.mbxLease k) 16 12 0 := ⟨_, rfl⟩
  have hr : d.relock k = { x with mbx := { x.mbx with leaseEnd := Sparse.del x.mbx.leaseEnd k } } := by
    simp only [Dev.relock, ← hx, if_neg h17]
  have hg : ∀ j, x.gb Reg.mbxUnlock j = (d.sb Reg.mbxUnlock k false).gb Reg.mbxUnlock j := fun j => by
    rw [hx, gb_sf_ne _ _ _ _ _ (unlock_ne_lease k)]
  rw [hr]
  exact ⟨(hg k).trans (gb_sb_self _ _ false (by omega)), find_del_self .., fun j hj => (hg j).trans (gb_sb_bit _ _ false (by omega) hj)⟩

/-! ### The Jig's held frames -/

theorem jigSync_off (h : d.gb Reg.jigCtl 0 = false ∨ d.gb Reg.mbxUnlock 17 = false ∨ d.gb Reg.mbxUnlock 32 = false) :
    (d.jigActive = true → d.jigSync = (d.sb Reg.jigStat 0 false).jigReleaseAll) ∧ (d.jigActive = false → d.jigSync = d.sb Reg.jigStat 0 false) := by
  have hon : (d.gb Reg.jigCtl 0 && d.gb Reg.mbxUnlock 17 && d.gb Reg.mbxUnlock 32) = false := by
    rcases h with h | h | h <;> simp [h]
  simp only [Dev.jigSync, hon, Bool.not_false, Bool.and_true]
  exact ⟨fun ha => if_pos ha, fun ha => if_neg (by simp [ha])⟩

end

/-- Settles O58: the boot of the Joiner, its resets, the ends of leases and lockouts, and the Jig's held frames. -/
theorem bootJoinerAndJig : Obligations.BootJoinerAndJig := by
  unfold Obligations.BootJoinerAndJig
  refine ⟨fun s found p hs hi hall hp => ?_, fun s found hall => ?_, fun s x hf hi hx => ?_, fun s hf hi => ?_, fun s t ht hi => ?_,
    fun s t ht h44 h46 => ?_, fun s k t x hx => ⟨fun ht => ?_, fun ht => ⟨_, onDev_next _ s, lockoutEnd_frees ht⟩⟩,
    fun d k hk h17 => relock_locks hk h17, fun d h => jigSync_off h, fun s n h => ⟨fun hh => ?_, fun hh d hd => ?_⟩⟩
  · have hex : ∀ b, exec (.firmwareBoot b) s = .next { s with dev := s.dev.bootNow b } := fun b => by
      rw [show exec (.firmwareBoot b) s = .next { s with dev := firmwareBoot b s.dev } from onDev_next _ s, firmwareBoot, if_neg (by simp [hall])]
    simp only [hex]
    refine ⟨fun ho => ?_, fun q ho hq => ?_⟩
    · obtain ⟨h4, h0, h1, h2⟩ := bootNow_first hs hi ho hp
      exact ⟨by rw [h4], fun g => by rw [h0 g], fun g g' => by rw [h1 g g'], fun g g' => by rw [h2 g g']⟩
    · obtain ⟨h0, h1⟩ := bootNow_other (found := found) hs hi ho hq
      exact ⟨fun g => by rw [h0 g], fun g => by rw [h1 g]⟩
  · rw [show exec (.firmwareBoot found) s = .next { s with dev := firmwareBoot found s.dev } from onDev_next _ s, firmwareBoot, if_pos hall]
  · have hex : exec .joinerWatchdogReset s = .next { s with dev := s.dev.watchdogReset } := joinerWatchdogReset_acts hf hi
    have he := hex.symm.trans hx
    injection he with he
    injection he with he
    rw [← he]
    exact watchdogReset_leaves s.dev
  · exact joinerWatchdogReset_acts hf hi
  · exact (onDev_next _ s).trans (by simp only [joinerRestart, ht, hi, if_true])
  · obtain ⟨u, hlo, hhi, he⟩ := deviceResetStart_holds ht h44 h46 rfl
    exact ⟨_, u, rfl, hlo, hhi, congrArg Host.Outcome.next he⟩
  · exact (onDev_next _ s).trans (by simp only [leaseExpiry, ht, hx])
  · exact (onDev_next _ s).trans (by simp only [jigReorderRelease, hh])
  · exact (onDev_next _ s).trans (by simp only [jigDelayRelease, hh, hd])

end Sys2Proof.Machine
end

section
/-! ### Power states, PERST# and hot reset (O59) -/

namespace Sys2Proof.Machine

section
variable {d e : Dev} {s : State} {t k : Nat}

/-! ### Requests -/

theorem wrPwrCtl_request (ht : t < 3) : d.wrPwrCtl (pwrWord t) = (d.sf Reg.pwrCtl 0 2 t).pwrRequest t := by
  have hf : ∀ n : Fin 3, getF (pwrWord n.val) 0 2 = n.val ∧ getB (pwrWord n.val) 63 = true := by decide
  obtain ⟨hf2, hb⟩ := hf ⟨t, ht⟩
  simp only [Dev.wrPwrCtl, hf2, hb, if_true, if_neg (Nat.ne_of_lt ht)]

theorem pwrRequest_refused (hk : k ≠ 0) (hr : d.pwrRefuse t = k) : d.pwrRequest t = d.pwrRef k := by
  cases k with
  | zero => exact absurd rfl hk
  | succ n => simp only [Dev.pwrRequest, hr]

theorem pwrRequest_accepted (hr : d.pwrRefuse t = 0) : d.pwrRequest t
    = if t = 2 then d.sb Reg.pwrStat 3 true else if d.pwrState = t then d.sb Reg.pwrStat 3 false else d.towards t := by
  simp only [Dev.pwrRequest, hr]

/-- The first reason of Table PWR-3 that applies to a request. -/
theorem pwrRefuse_order (d : Dev) : d.pwrRefuse 3 = 5
    ∧ (d.gf Reg.solStat 0 2 = 2 → d.pwrRefuse 1 = 1)
    ∧ (∀ t, t < 3 → (t ≠ 1 ∨ d.gf Reg.solStat 0 2 ≠ 2) → d.gb Reg.pwrStat 2 = true → d.pwrRefuse t = 2)
    ∧ (d.gb Reg.pwrStat 2 = false → d.gb Reg.smonStat 0 = true → d.pwrRefuse 2 = 3)
    ∧ (d.gb Reg.pwrStat 2 = false → d.gb Reg.smonStat 0 = false → d.hq.l12En = false → d.pwrRefuse 2 = 4)
    ∧ (d.gb Reg.pwrStat 2 = false → d.pwrRefuse 0 = 0) := by
  refine ⟨rfl, fun h => ?_, fun t ht hs h => ?_, fun h h0 => ?_, fun h h0 hl => ?_, fun h => ?_⟩
  · simp [Dev.pwrRefuse, h]
  · have hno : ¬ (t = 1 ∧ d.gf Reg.solStat 0 2 = 2) := fun ⟨a, b⟩ => hs.elim (· a) (· b)
    simp only [Dev.pwrRefuse, if_neg (Nat.ne_of_lt ht), if_neg hno, h, if_true]
  · simp [Dev.pwrRefuse, h, h0]
  · simp [Dev.pwrRefuse, h, h0, hl]
  · simp [Dev.pwrRefuse, h]

/-! ### Transitions -/

theorem standbyEntry_idle (h : d.gb Reg.pwrStat 3 = false ∨ d.standbyReady = false) : standbyEntry d = d :=
  if_neg fun ⟨h3, hr, _⟩ => by rcases h with h | h <;> simp [h] at h3 hr

theorem coreReset_leave (d : Dev) (tim hbm cfg : Bool) : (d.coreReset tim hbm cfg).pwr.leave = d.pwr.leave := by
  simp only [Dev.coreReset, sf_pwr, sb_pwr]

theorem reached_pwr (d : Dev) (t : Nat) : (d.reached t).pwr = { d.pwr with goal := none } := rfl

theorem reached_hq (d : Dev) (t : Nat) : (d.reached t).hq = d.hq := rfl

theorem setUp_pwr (d : Dev) (w : Nat) : (d.setUp w).pwr = d.pwr := rfl

theorem setUp_hq (d : Dev) (w : Nat) : (d.setUp w).hq = d.hq := rfl

/-- The device in standby, over what the reset leaves. -/
theorem toStandby_dev {c : Nat} (hd : d = s.dev.ptmStop.coreReset false true false) (he : e = { d with hq := { d.hq with
    link := if c = 1 then s.dev.hq.link else .down } }) :
    ∃ w, (s.toStandby c).dev = ((e.sf Reg.pwrStat 8 2 c).reached 2).setUp w := by
  subst he hd
  exact ⟨_, rfl⟩

theorem toStandby_leave (s : State) : (s.toStandby 1).dev.pwr.leave = s.dev.pwr.leave := by
  obtain ⟨d, hd⟩ : ∃ d, d = s.dev.ptmStop.coreReset false true false := ⟨_, rfl⟩
  obtain ⟨w, hw⟩ := toStandby_dev (c := 1) hd rfl
  rw [hw, setUp_pwr, reached_pwr, sf_pwr]
  simp only [hd, coreReset_leave, Dev.ptmStop, sb_pwr]

theorem toStandby_link (s : State) :
    (s.toStandby 1).fq = [] ∧ (s.toStandby 1).dev.hq.link = s.dev.hq.link ∧ (s.toStandby 2).dev.hq.link = .down := by
  obtain ⟨d, hd⟩ : ∃ d, d = s.dev.ptmStop.coreReset false true false := ⟨_, rfl⟩
  obtain ⟨w, hw⟩ := toStandby_dev (c := 1) hd rfl
  obtain ⟨v, hv⟩ := toStandby_dev (c := 2) hd rfl
  rw [hw, hv, setUp_hq, setUp_hq, reached_hq, reached_hq, sf_hq, sf_hq]
  exact ⟨rfl, rfl, rfl⟩

/-- How a transition ends, by the state it goes to. -/
theorem powerTransitionDone_goals (s : State) : (s.dev.pwr.goal = some 1 → powerTransitionDone s = { s with dev := s.dev.toQuiet })
    ∧ (s.dev.pwr.goal = some 0 → s.dev.fwState ≠ 0 → powerTransitionDone s = { s with dev := s.dev.toFull })
    ∧ (s.dev.pwr.goal = some 2 → s.dev.running = false → (s.toStandby 1).dev.pwr.leave = false → powerTransitionDone s = s.toStandby 1)
    ∧ (s.dev.pwr.goal = some 2 → s.dev.running = false → (s.toStandby 1).dev.pwr.leave = true →
        powerTransitionDone s = (s.toStandby 1).fromStandby)
    ∧ (s.dev.pwr.goal = some 2 → s.dev.running = true → powerTransitionDone s = s)
    ∧ (s.dev.pwr.goal = none → powerTransitionDone s = s) := by
  refine ⟨fun h => ?_, fun h hf => ?_, fun h hr hl => ?_, fun h hr hl => ?_, fun h hr => ?_, fun h => ?_⟩
  · simp only [powerTransitionDone, h]
  · simp only [powerTransitionDone, h, if_neg hf]
  · simp only [powerTransitionDone, h, hr, hl, Bool.false_eq_true, if_false]
  · simp only [powerTransitionDone, h, hr, hl, Bool.false_eq_true, if_false, if_true]
  · simp only [powerTransitionDone, h, hr, if_true]
  · simp only [powerTransitionDone, h]

/-- Exit from standby by the host, and by the supply. -/
theorem standbyExit_wakes (h2 : s.dev.pwrState = 2) (hk : s.dev.pwr.keep = false) (hb : s.dev.gb Reg.pwrStat 2 = false) :
    (s.dev.gf Reg.pwrStat 8 2 = 1 → standbyExit 0 s = s.fromStandby)
      ∧ (s.dev.gf Reg.pwrStat 8 2 = 2 → s.dev.gb Reg.smonStat 0 = false →
          standbyExit 2 s = ({ s with dev := s.dev.waitUp (s.dev.pwr.okSince + 10 * msU) } : State).fromStandby)
      ∧ (s.dev.gf Reg.pwrStat 8 2 = 2 → standbyExit 0 s = s) := by
  have hno : ¬ (s.dev.pwrState ≠ 2 ∨ s.dev.pwr.keep = true ∨ s.dev.gb Reg.pwrStat 2 = true) := by simp [h2, hk, hb]
  simp only [standbyExit, if_neg hno, if_true, OfNat.zero_ne_ofNat, if_false, zero_ne_one]
  refine ⟨fun h => if_pos h, fun h hs => if_pos ⟨h, hs⟩, fun h => if_neg (by omega)⟩

/-! ### PERST# and the link -/

theorem perstAssert_eq {h : State} (hh : h = { s with dev := { s.dev with pwr := { s.dev.pwr with perst := true } } })
    (hd : d = h.dev.hostReset.sb Reg.pwrStat 3 false) :
    perstAssert s = if s.dev.pwr.perst then s else if s.dev.pwr.keep then h else if s.dev.pwrState = 2 then standbyExit 1 h
      else if s.dev.halted then h
      else if s.dev.gb Reg.rstCfg 0 ∧ s.dev.pwr.goal ≠ some 2 then ({ h with dev := h.dev.ptmStop } : State).coreReset false false true 3
      else { h with dev := { d with pwr := { d.pwr with leave := decide (s.dev.pwr.goal = some 2) } } } := by
  subst hd hh
  rfl

/-- PERST# outside Keep, standby and Halt: the whole device, or the host side. -/
theorem perstAssert_resets {h : State} (hh : h = { s with dev := { s.dev with pwr := { s.dev.pwr with perst := true } } })
    (hp : s.dev.pwr.perst = false) (hk : s.dev.pwr.keep = false) (h2 : s.dev.pwrState ≠ 2) (hn : s.dev.halted = false) :
    (s.dev.gb Reg.rstCfg 0 = true → s.dev.pwr.goal ≠ some 2 → perstAssert s = ({ h with dev := h.dev.ptmStop } : State).coreReset false false true 3)
      ∧ (∀ d : Dev, s.dev.gb Reg.rstCfg 0 = false ∨ s.dev.pwr.goal = some 2 → d = h.dev.hostReset.sb Reg.pwrStat 3 false →
          perstAssert s = { h with dev := { d with pwr := { d.pwr with leave := decide (s.dev.pwr.goal = some 2) } } }) := by
  refine ⟨fun hc hg => ?_, fun d hc hd => ?_⟩
  · rw [perstAssert_eq hh rfl, if_neg (by simp [hp]), if_neg (by simp [hk]), if_neg h2, if_neg (by simp [hn]), if_pos ⟨hc, hg⟩]
  · rw [perstAssert_eq hh hd, if_neg (by simp [hp]), if_neg (by simp [hk]), if_neg h2, if_neg (by simp [hn]),
      if_neg fun ⟨ha, hb⟩ => hc.elim (fun hf => by simp [hf] at ha) hb]

theorem pcieLinkL0Entry_enters (hd : e = d.waitUp d.pwr.resetUntil) :
    (e.islandOk 32 = true → e.islandOk 33 = true → e.gb Reg.clkStat 0 = true → e.pwrState ≠ 2 → pcieLinkL0Entry d = e.linkEnter)
      ∧ (e.islandOk 32 = false ∨ e.islandOk 33 = false ∨ e.gb Reg.clkStat 0 = false ∨ e.pwrState = 2 → pcieLinkL0Entry d = d) := by
  simp only [pcieLinkL0Entry, ← hd]
  refine ⟨fun h1 h2 h3 h4 => if_pos ⟨h1, h2, h3, h4⟩, fun h => if_neg fun ⟨h1, h2, h3, h4⟩ => ?_⟩
  rcases h with h | h | h | h
  · simp [h] at h1
  · simp [h] at h2
  · simp [h] at h3
  · exact h4 h

/-- A configuration write of a function whose island runs. -/
theorem pcieConfigWrite_acts {f : Nat} {ptm pri ats pme l12 msix : Bool} {rest : CfgRest} (hf : f < 1024) (hi : d.islandOk 33 = true)
    (he : e = (d.modFn f (fun x => x.configured pri ats pme msix rest)).sendPba f) :
    (0 < f → (4 ≤ f ∨ pri = true) → pcieConfigWrite f ptm pri ats pme l12 msix rest d = (e.pmeCheck f).prgGo)
      ∧ (0 < f → f < 4 → pri = false → pcieConfigWrite f ptm pri ats pme l12 msix rest d = ((e.sb Reg.xltStat f false).pmeCheck f).prgGo)
      ∧ (∀ x : Dev, f = 0 → x = ((if pri then e else e.sb Reg.xltStat 0 false).pmeCheck 0).prgGo →
          ∀ y : Dev, y = { x with hq := { x.hq with ptmEn := ptm, l12En := l12 } } →
          pcieConfigWrite f ptm pri ats pme l12 msix rest d = (if ptm then y else y.ptmStop)) := by
  have hno : ¬ (1024 ≤ f ∨ d.islandOk 33 = false) := by simp [hi]; omega
  refine ⟨fun h0 hp => ?_, fun h0 h4 hp => ?_, fun x h0 hx y hy => ?_⟩
  · have hn : ¬ (f < 4 ∧ pri = false) := fun ⟨a, b⟩ => hp.elim (by omega) (by simp [b])
    simp only [pcieConfigWrite, if_neg hno, ← he, if_neg hn, if_neg (Nat.ne_of_gt h0)]
  · have hy : f < 4 ∧ pri = false := ⟨h4, hp⟩
    simp only [pcieConfigWrite, if_neg hno, ← he, if_pos hy, if_neg (Nat.ne_of_gt h0)]
  · subst h0
    have hx' : x = ((if 0 < 4 ∧ pri = false then e.sb Reg.xltStat 0 false else e).pmeCheck 0).prgGo := by
      rw [hx]
      cases pri <;> rfl
    simp only [pcieConfigWrite, if_neg hno, ← he, if_true, ← hx', ← hy]

end

/-- Settles O59: power requests and their refusals, the transitions, PERST# and hot reset. -/
theorem powerStatesAndHostResets : Obligations.PowerStatesAndHostResets := by
  unfold Obligations.PowerStatesAndHostResets
  refine ⟨fun s r v t c d ht hc hd => ?_, pwrRefuse_order, fun s h3 hr hb => ?_, fun s h => ?_, fun s => ?_, toStandby_link, fun s h2 hk hb => ?_,
    fun s h hh hp hk h2 hn => ?_, fun s => onDev_next _ s, fun s hi hp => ?_, fun s d hd => ?_,
    fun s f ptm pri ats pme l12 msix rest d hf hi hd => ?_, fun x pri ats pme msix rest => ⟨rfl, rfl, rfl, rfl, rfl, rfl, rfl⟩⟩
  · have hex : exec c s = .next { s with dev := d.pwrRequest t } := by
      simp only [List.mem_cons, Prod.mk.injEq, List.not_mem_nil, or_false] at hc
      rcases hc with ⟨rfl, rfl⟩ | ⟨rfl, rfl⟩ | ⟨rfl, rfl⟩ <;> rw [hd, ← wrPwrCtl_request (by decide)]
      · exact onDev_gate_of_takes (fun x => x.wrPwrCtl (pwrWord 0)) ht
      · exact onDev_gate_of_takes (fun x => x.wrPwrCtl (pwrWord 1)) ht
      · exact onDev_gate_of_takes (fun x => x.wrPwrCtl (pwrWord 2)) ht
    rw [hex]
    refine ⟨fun k hk hr => by rw [pwrRequest_refused hk hr], fun hr h2 => ?_, fun hr h2 hs => ?_, fun hr h2 hs => ?_⟩
    · rw [pwrRequest_accepted hr, if_pos h2]
    · rw [pwrRequest_accepted hr, if_neg h2, if_pos hs]
    · rw [pwrRequest_accepted hr, if_neg h2, if_neg hs]
  · exact (onDev_next _ s).trans (by rw [standbyEntry, if_pos ⟨h3, hr, hb⟩])
  · exact (onDev_next _ s).trans (by rw [standbyEntry_idle h])
  · obtain ⟨h1, h0, h2, h3, h4, h5⟩ := powerTransitionDone_goals s
    exact ⟨fun g => congrArg _ (h1 g), fun g hf => congrArg _ (h0 g hf), fun g hr hl => congrArg _ (h2 g hr hl),
      fun g hr hl => congrArg _ (h3 g hr hl), fun g hr => congrArg _ (h4 g hr), toStandby_leave s, fun g => congrArg _ (h5 g)⟩
  · obtain ⟨h1, h3, h4⟩ := standbyExit_wakes h2 hk hb
    exact ⟨fun g => congrArg _ (h1 g), fun g hs => congrArg _ (h3 g hs), fun g => congrArg _ (h4 g)⟩
  · obtain ⟨h1, h3⟩ := perstAssert_resets hh hp hk h2 hn
    exact ⟨fun hc hg => congrArg _ (h1 hc hg), fun d hc hd => congrArg _ (h3 d hc hd)⟩
  · obtain ⟨t, hlo, hhi, he⟩ := hotResetEvent_holds hi hp rfl
    exact ⟨_, t, rfl, hlo, hhi, (onDev_next _ s).trans (by rw [he]; rfl)⟩
  · obtain ⟨h1, h2⟩ := pcieLinkL0Entry_enters hd
    exact ⟨fun a b c g => (onDev_next _ s).trans (by rw [h1 a b c g]), fun g => (onDev_next _ s).trans (by rw [h2 g])⟩
  · obtain ⟨h1, h2, h3⟩ := pcieConfigWrite_acts (ptm := ptm) (l12 := l12) hf hi hd
    exact ⟨fun a b => (onDev_next _ s).trans (by rw [h1 a b]), fun a b c => (onDev_next _ s).trans (by rw [h2 a b c]),
      fun x a hx y hy => (onDev_next _ s).trans (by rw [h3 x a hx y hy])⟩

end Sys2Proof.Machine
end

section
/-! ### Supply, references, power-on reset and pins (O60) -/

namespace Sys2Proof.Machine

section
variable {d e x y : Dev} {s : State} {r mv t k : Nat}

/-! A change of the supply's state or of the fault collector's moves no register. -/

theorem rd_setPwr (d : Dev) (p : Pwr) (a : Nat) : ({ d with pwr := p } : Dev).rd a = d.rd a := rfl

theorem gb_setPwr (d : Dev) (p : Pwr) (a i : Nat) : ({ d with pwr := p } : Dev).gb a i = d.gb a i := rfl

theorem gf_setPwr (d : Dev) (p : Pwr) (a lo w : Nat) : ({ d with pwr := p } : Dev).gf a lo w = d.gf a lo w := rfl

theorem gf_setFlt (d : Dev) (f : Flt) (a lo w : Nat) : ({ d with flt := f } : Dev).gf a lo w = d.gf a lo w := rfl

theorem rail_ne_smonStat (r : Nat) : Reg.smonStat ≠ Reg.smonRail r := by
  simp only [Reg.smonStat, Reg.smonRail]
  omega

/-! ### A supply warning -/

theorem supplyWarning_above (h : d.gf (Reg.smonRail r) 16 16 ≤ mv) : supplyWarning r mv d = d := if_pos h

/-- What the first warning shows, over the device that shows its rail. -/
def Dev.dipShown (x : Dev) (n r mv : Nat) : Dev :=
  (((x.sb Reg.smonStat 0 true).sf Reg.smonStat 16 16 (min 65535 (n + 1))).sf Reg.smonStat 2 4 r).sf Reg.smonStat 32 16 mv

theorem islandOk_dipAt (d : Dev) (p : Option Nat) (i : Nat) : ({ d with pwr := { d.pwr with dipAt := p } } : Dev).islandOk i = d.islandOk i := rfl

theorem islandOk_dipShown (x : Dev) (n r mv i : Nat) : (x.dipShown n r mv).islandOk i = x.islandOk i := by
  rw [Dev.dipShown, islandOk_sf _ _ _ _ _ (by decide) (by decide) (by decide), islandOk_sf _ _ _ _ _ (by decide) (by decide) (by decide),
    islandOk_sf _ _ _ _ _ (by decide) (by decide) (by decide), islandOk_sb _ _ _ _ (by decide) (by decide) (by decide)]

theorem islandOk_rail (d : Dev) (r j i : Nat) (b : Bool) : (d.sb (Reg.smonRail r) j b).islandOk i = d.islandOk i := by
  refine islandOk_sb _ _ _ _ ?_ ?_ ?_ <;> simp only [Reg.smonRail, Reg.glbIslandUp, Reg.glbIslandFenced, Reg.rstHaltStat] <;> omega

/-- The first warning of a dip. -/
theorem supplyWarning_first (hlo : mv < d.gf (Reg.smonRail r) 16 16) (h0 : d.gb Reg.smonStat 0 = false)
    (hx : x = d.sb (Reg.smonRail r) 48 true) (hy : y = x.dipShown (d.gf Reg.smonStat 16 16) r mv) (he : e = { y with pwr := { y.pwr with
      dipAt := some y.tim.up } }) :
    supplyWarning r mv d = if d.islandOk 44 then (e.raise 22 0 0x10 r).sb Reg.fwdTsqStat 1 true else e := by
  have hok : e.islandOk 44 = d.islandOk 44 := by rw [he, islandOk_dipAt, hy, islandOk_dipShown, hx, islandOk_rail]
  rw [Dev.dipShown] at hy
  simp only [supplyWarning, if_neg (Nat.not_le.mpr hlo), h0, Bool.false_eq_true, if_false, ← hx, ← hy, ← he, hok]

/-- What `SMON_STAT` shows of the first warning. -/
theorem dipShown_fields (n : Nat) (hr : r < 16) (hmv : mv < 65536) : (x.dipShown n r mv).gb Reg.smonStat 0 = true
    ∧ (x.dipShown n r mv).gf Reg.smonStat 2 4 = r ∧ (x.dipShown n r mv).gf Reg.smonStat 32 16 = mv
    ∧ (x.dipShown n r mv).gf Reg.smonStat 16 16 = min 65535 (n + 1) := by
  simp only [Dev.dipShown]
  refine ⟨?_, ?_, ?_, ?_⟩
  · rw [Dev.gb, rd_sf_self, rd_sf_self, rd_sf_self, rd_sb_self, getB_setF _ _ _ (by decide), if_neg (by decide), getB_setF _ _ _ (by decide),
      if_neg (by decide), getB_setF _ _ _ (by decide), if_neg (by decide), getB_setB_self _ _ (by decide)]
  · rw [gf_sf_field _ _ _ (by decide) (by decide), gf_sf_self _ _ _ (by decide)]
    exact Nat.mod_eq_of_lt hr
  · rw [gf_sf_self _ _ _ (by decide)]
    exact Nat.mod_eq_of_lt hmv
  · rw [gf_sf_field _ _ _ (by decide) (by decide), gf_sf_field _ _ _ (by decide) (by decide), gf_sf_self _ _ _ (by decide)]
    exact Nat.mod_eq_of_lt (by omega)

theorem dipShown_tim (x : Dev) (n r mv : Nat) : (x.dipShown n r mv).tim = x.tim := by
  rw [Dev.dipShown, sf_tim, sf_tim, sf_tim, sb_tim]

/-- A further rail below WARN during a dip. -/
theorem supplyWarning_again (hlo : mv < d.gf (Reg.smonRail r) 16 16) (h0 : d.gb Reg.smonStat 0 = true)
    (hx : x = d.sb (Reg.smonRail r) 48 true) :
    (d.pwr.dipAt = some d.tim.up → r < d.gf Reg.smonStat 2 4 → supplyWarning r mv d = x.dipRail r mv)
      ∧ (d.pwr.dipAt ≠ some d.tim.up ∨ d.gf Reg.smonStat 2 4 ≤ r →
          supplyWarning r mv d = if d.gf Reg.smonStat 2 4 = r ∧ mv < d.gf Reg.smonStat 32 16 then x.sf Reg.smonStat 32 16 mv else x) := by
  simp only [supplyWarning, if_neg (Nat.not_le.mpr hlo), h0, if_true, ← hx]
  exact ⟨fun ht hr => if_pos ⟨ht, hr⟩, fun h => if_neg fun ⟨ht, hr⟩ => h.elim (· ht) (by omega)⟩

theorem dipRail_fields (d : Dev) (hr : r < 16) (hmv : mv < 65536) : (d.dipRail r mv).gf Reg.smonStat 2 4 = r
    ∧ (d.dipRail r mv).gf Reg.smonStat 32 16 = mv ∧ (d.dipRail r mv).gf Reg.smonStat 16 16 = d.gf Reg.smonStat 16 16 := by
  obtain ⟨y, hy⟩ : ∃ y : Dev, y = (d.sf Reg.smonStat 2 4 r).sf Reg.smonStat 32 16 mv := ⟨_, rfl⟩
  have hg : ∀ lo w, (d.dipRail r mv).gf Reg.smonStat lo w = y.gf Reg.smonStat lo w := fun lo w => by
    rw [hy]
    exact gf_setFlt ..
  rw [hg, hg, hg, hy]
  refine ⟨?_, ?_, ?_⟩
  · rw [gf_sf_field _ _ _ (by decide) (by decide), gf_sf_self _ _ _ (by decide)]
    exact Nat.mod_eq_of_lt hr
  · rw [gf_sf_self _ _ _ (by decide)]
    exact Nat.mod_eq_of_lt hmv
  · rw [gf_sf_field _ _ _ (by decide) (by decide), gf_sf_field _ _ _ (by decide) (by decide)]

/-! ### The supply's return -/

theorem supplyRecover_returns (h : d.gb (Reg.smonRail r) 48 = true)
    (hx : x = (d.sb (Reg.smonRail r) 48 false).sb (Reg.smonRail r) 49 false) :
    (x.lowRails ≠ [] → supplyRecover r d = x)
      ∧ (x.lowRails = [] → (supplyRecover r d).gb Reg.smonStat 0 = false ∧ (supplyRecover r d).gb Reg.fwdTsqStat 1 = false
          ∧ (supplyRecover r d).pwr.dipAt = none ∧ (supplyRecover r d).pwr.okSince = d.tim.up) := by
  have hno : ¬ d.gb (Reg.smonRail r) 48 = false := by simp [h]
  simp only [supplyRecover, if_neg hno, ← hx]
  refine ⟨fun hl => if_neg hl, fun hl => ?_⟩
  obtain ⟨y, hy⟩ : ∃ y : Dev, y = (x.sb Reg.smonStat 0 false).sb Reg.fwdTsqStat 1 false := ⟨_, rfl⟩
  rw [if_pos hl, ← hy]
  refine ⟨?_, ?_, rfl, ?_⟩
  · rw [gb_setPwr, hy, gb_sb_ne _ _ _ _ (by decide), gb_sb_self _ _ false (by decide)]
  · rw [gb_setPwr, hy, gb_sb_self _ _ false (by decide)]
  · rw [hy, hx, sb_tim, sb_tim, sb_tim, sb_tim]

theorem dipTimerExpiry_eq (ht : s.dev.pwr.dipAt = some t) {u : Nat} (hu : u = t + 50 * usU) (he : e = s.dev.waitUp u)
    (hx : x = { e with pwr := { e.pwr with dipAt := none } }) {z : State} (hz : z = ({ s with dev := x.stopAll.inc Reg.smonLongCnt } : State).toStandby 2) :
    dipTimerExpiry s = if (x.pwrState = 2 ∧ x.gb Reg.pwrStat 2 = false) ∨ x.pwr.keep ∨ x.halted then { s with dev := x } else z := by
  rw [dipTimerExpiry, ht]
  subst hz hx he hu
  rfl

/-- A dip that lasts 50 µs takes the device to standby, unless it is there, in Keep or halted. -/
theorem dipTimerExpiry_ends (ht : s.dev.pwr.dipAt = some t) (he : e = s.dev.waitUp (t + 50 * usU))
    (hx : x = { e with pwr := { e.pwr with dipAt := none } }) :
    (x.pwrState ≠ 2 → x.pwr.keep = false → x.halted = false →
        dipTimerExpiry s = ({ s with dev := x.stopAll.inc Reg.smonLongCnt } : State).toStandby 2)
      ∧ (x.halted = true ∨ x.pwr.keep = true ∨ (x.pwrState = 2 ∧ x.gb Reg.pwrStat 2 = false) → dipTimerExpiry s = { s with dev := x }) := by
  rw [dipTimerExpiry_eq ht rfl he hx rfl]
  refine ⟨fun h2 hk hh => if_neg (by simp [h2, hk, hh]), fun h => if_pos ?_⟩
  rcases h with h | h | h
  · exact .inr (.inr h)
  · exact .inr (.inl h)
  · exact .inl h

/-! ### Keep -/

/-- What Keep leaves: the link down, the time outputs low, the time kept. -/
theorem toKeep_leaves (d : Dev) : d.toKeep.pwr.keep = true ∧ d.toKeep.hq.link = .down ∧ d.toKeep.tim.ppsOut = false ∧ d.toKeep.tim.clk10 = false
    ∧ (∀ t, d.tim.keepTime = some t → d.toKeep.tim.keepTime = some t) ∧ d.toKeep.tim.keepTime.isSome = true := by
  obtain ⟨e, he⟩ : ∃ e : Dev, e = if d.tim.keepTime.isSome then d else d.keepStore := ⟨_, rfl⟩
  have hkeep : (∀ t, d.tim.keepTime = some t → e.tim.keepTime = some t) ∧ e.tim.keepTime.isSome = true := by
    by_cases h : d.tim.keepTime.isSome = true
    · rw [he, if_pos h]
      exact ⟨fun t ht => ht, h⟩
    · rw [he, if_neg h]
      exact ⟨fun t ht => absurd (by rw [ht]; rfl) h, rfl⟩
  simp only [Dev.toKeep, ← he, List.foldl_cons, List.foldl_nil, sf_pwr, sb_pwr, sf_hq, sb_hq, sf_tim, sb_tim, Dev.wipeEngines, true_and]
  exact hkeep

/-- A rail below its reset threshold: the device is in Keep, or stays in it. -/
theorem keepEntry_keeps (r : Nat) (d : Dev) : (keepEntry r d).pwr.crossed = true ∧ (keepEntry r d).pwr.keep = true
    ∧ (d.pwr.keep = false → (keepEntry r d).hq.link = .down ∧ (keepEntry r d).tim.ppsOut = false ∧ (keepEntry r d).tim.clk10 = false
      ∧ (∀ t, d.tim.keepTime = some t → (keepEntry r d).tim.keepTime = some t) ∧ (keepEntry r d).tim.keepTime.isSome = true) := by
  obtain ⟨e, he⟩ : ∃ e : Dev, e = (((d.sb (Reg.smonRail r) 48 true).sb (Reg.smonRail r) 49 true).sb Reg.smonStat 0 true).inc Reg.smonRstCnt := ⟨_, rfl⟩
  have htim : e.tim = d.tim := by rw [he, inc_tim, sb_tim, sb_tim, sb_tim]
  have hpwr : e.pwr = d.pwr := by rw [he, inc_pwr, sb_pwr, sb_pwr, sb_pwr]
  obtain ⟨h1, h2, h3, h4, h5, h6⟩ := toKeep_leaves e
  rw [htim] at h5
  simp only [keepEntry, ← he, true_and]
  by_cases h : d.pwr.keep = true
  · rw [if_pos h]
    exact ⟨by rw [hpwr]; exact h, fun hn => absurd h (by simp [hn])⟩
  · rw [if_neg h]
    exact ⟨h1, fun _ => ⟨h2, h3, h4, h5, h6⟩⟩

theorem keepEntry_crossed (r : Nat) (d : Dev) : ∃ e : Dev, keepEntry r d = { e with pwr := { e.pwr with crossed := true } } := ⟨_, rfl⟩

theorem rails_frame (l : List (Nat × Nat)) (d : Dev) :
    (l.foldl (fun (x : Dev) e => x.sf (Reg.smonRail e.1) 48 2 e.2) d).pwr = d.pwr
      ∧ (l.foldl (fun (x : Dev) e => x.sf (Reg.smonRail e.1) 48 2 e.2) d).hq = d.hq := by
  induction l generalizing d with
  | nil => exact ⟨rfl, rfl⟩
  | cons c t ih =>
    obtain ⟨hp, hh⟩ := ih (d.sf (Reg.smonRail c.1) 48 2 c.2)
    exact ⟨hp.trans (sf_pwr ..), hh.trans (sf_hq ..)⟩

theorem clearRegs_frame (d : Dev) (lo hi : Nat) : (d.clearRegs lo hi).pwr = d.pwr ∧ (d.clearRegs lo hi).hq = d.hq := ⟨rfl, rfl⟩

/-- The device after the loss of the Keep supply, over one that kept the power and the link as Keep leaves them. -/
theorem keepSupplyReset_eq (hx : x = d.toKeep) : ∃ y z : Dev, y.pwr = x.pwr ∧ z.hq = x.hq
    ∧ keepSupplyReset d = { z with pwr := { y.pwr with keepLost := true }, tim := { y.tim with keepTime := none } } := by
  obtain ⟨e, he⟩ : ∃ e : Dev, e = ((x.clearRegs Reg.rstHaltMsg (Reg.rstHaltStat + 8)).clearRegs 0x7400000 0x7500000).sf Reg.pwrStat 8 2 0 := ⟨_, rfl⟩
  obtain ⟨f, hf⟩ : ∃ f : Dev, f = ((List.range 9).map (fun r => (r, d.gf (Reg.smonRail r) 48 2))).foldl
      (fun (x : Dev) e => x.sf (Reg.smonRail e.1) 48 2 e.2) e := ⟨_, rfl⟩
  obtain ⟨y, hy⟩ : ∃ y : Dev, y = ((f.sb Reg.smonStat 0 (!f.lowRails.isEmpty)).sb Reg.smonStat 1 true).sf (Reg.smonRail 9) 48 2 3 := ⟨_, rfl⟩
  obtain ⟨hp, hh⟩ := rails_frame ((List.range 9).map (fun r => (r, d.gf (Reg.smonRail r) 48 2))) e
  rw [← hf] at hp hh
  refine ⟨y, y.sf Reg.rstCause 0 4 0, ?_, ?_, ?_⟩
  · rw [hy, sf_pwr, sb_pwr, sb_pwr, hp, he, sf_pwr, (clearRegs_frame ..).1, (clearRegs_frame ..).1]
  · rw [hy, sf_hq, sf_hq, sb_hq, sb_hq, hh, he, sf_hq, (clearRegs_frame ..).2, (clearRegs_frame ..).2]
  · rw [keepSupplyReset, hy, hf, he, hx]

/-- The loss of the Keep supply: nothing is kept. -/
theorem keepSupplyReset_loses (d : Dev) : (keepSupplyReset d).pwr.keepLost = true ∧ (keepSupplyReset d).pwr.keep = true
    ∧ (keepSupplyReset d).tim.keepTime = none ∧ (keepSupplyReset d).hq.link = .down := by
  obtain ⟨hk, hl, _⟩ := toKeep_leaves d
  obtain ⟨l, f, hp, hh, he⟩ := keepSupplyReset_eq (d := d) rfl
  rw [he]
  exact ⟨rfl, (congrArg Pwr.keep hp).trans hk, rfl, (congrArg Hq.link hh).trans hl⟩

theorem keepSupplyWarning_shows (d : Dev) : keepSupplyWarning true d = (d.sb Reg.smonStat 1 true).sb (Reg.smonRail 9) 48 true
    ∧ keepSupplyWarning false d = ((d.sb Reg.smonStat 1 false).sb (Reg.smonRail 9) 48 false).sb (Reg.smonRail 9) 49 false := by
  simp only [keepSupplyWarning, if_true, Bool.false_eq_true, if_false, and_self]

theorem wrSmonClr_go (v : Word) : d.wrSmonClr (setB v 63 true) = if d.pwr.dipAt = some d.tim.up then d.sf Reg.smonStat 16 16 1
    else (d.sf Reg.smonStat 16 16 0).sf Reg.smonStat 32 16 0 := by
  simp only [Dev.wrSmonClr, getB_setB_self v true (by decide : 63 < 64), Bool.true_eq_false, if_false]

end

end Sys2Proof.Machine
end

section
/-! ### Power-on reset, references and pins (O60) -/

namespace Sys2Proof.Machine

section
variable {d e x y : Dev} {s : State} {t k : Nat}

/-! ### The power-on reset -/

/-- What the loading of the fuses leaves as it is. -/
def Dev.fusesKeep (d e : Dev) : Prop := e.pwr = d.pwr ∧ e.rd Reg.calbStat = d.rd Reg.calbStat

theorem Dev.fusesKeep.sf (h : d.fusesKeep e) {a : Nat} (ha : Reg.calbStat ≠ a) (lo w v : Nat) : d.fusesKeep (e.sf a lo w v) :=
  ⟨(sf_pwr ..).trans h.1, (rd_sf_ne _ _ _ _ ha).trans h.2⟩

theorem Dev.fusesKeep.loadTsFuse (h : d.fusesKeep e) {p : Nat} (hp : p < 36) : d.fusesKeep (e.loadTsFuse p) :=
  h.sf (by simp only [Reg.calbStat, Reg.timTsFuse]; omega) ..

theorem lanes_lt (d : Dev) (p l : Nat) (h : l ∈ d.lanes p) : l < 4 := by
  unfold Dev.lanes at h
  split at h <;> simp at h <;> omega

theorem Dev.fusesKeep.loadEqFuse (h : d.fusesKeep e) (p : Nat) : d.fusesKeep (e.loadEqFuse p) :=
  List.foldlRecOn _ _ h fun x hx l hl => by
    have h4 := lanes_lt e p l hl
    exact hx.sf (by simp only [Reg.calbStat, Reg.sdsEqFuse]; omega) ..

theorem loadFuses_keeps (d : Dev) : d.fusesKeep d.loadFuses :=
  List.foldlRecOn _ _ ⟨rfl, rfl⟩ fun _ hx _ hp => (hx.loadTsFuse (List.mem_range.mp hp)).loadEqFuse _

/-- The field above bit 0 of an octet written at 0. -/
theorem getF_setF_low (w : Word) {n : Nat} (hn : n < 128) : getF (setF w 0 8 (1 + 2 * n)) 1 7 = n := by
  have h8 : getF (setF w 0 8 (1 + 2 * n)) 0 8 = 1 + 2 * n := (getF_setF_self w _ (by decide)).trans (Nat.mod_eq_of_lt (by omega))
  simp only [getF, Nat.shiftRight_eq_div_pow] at h8 ⊢
  omega

/-- A power-on reset, step by step. -/
theorem powerOnReset_eq {bad u c : Nat} {z : State} (hu : u = s.dev.pwr.okSince + 10 * msU) (hx : x = s.dev.waitUp u)
    (hc : c = if s.dev.pwr.keepLost ∨ s.dev.pwr.keep = false then 0 else if s.dev.pwr.crossed then 2 else 1)
    (hz : z = ({ s with dev := x } : State).coreReset true true true c) (hy : y = z.dev.timeRestore.sb Reg.rstHaltStat 1 false)
    (hd : d = y.sf Reg.calbStat 0 8 (1 + 2 * bad)) (he : e = { d with pwr := { d.pwr with keep := false, keepLost := false, crossed := false } }) :
    powerOnReset bad s = if s.dev.awaitsPower = false ∨ s.dev.lowRails ≠ [] ∨ s.dev.gb (Reg.smonRail 9) 49 then s
      else { z with dev := (if bad.testBit 0 then e.sf Reg.glbId 32 16 0xFF00 else e).loadFuses } := by
  subst he hd hy hz hc hx hu
  rfl

theorem coreReset_fq (s : State) (tim hbm cfg : Bool) (c : Nat) : (s.coreReset tim hbm cfg c).fq = [] := rfl

theorem coreReset_pending (s : State) (tim hbm cfg : Bool) (c : Nat) : (s.coreReset tim hbm cfg c).pending = s.pending := rfl

/-- What a power-on reset leaves of Keep and of the calibration block. -/
theorem powerOnReset_leaves {bad : Nat} (hb : bad < 128) (ha : s.dev.awaitsPower = true) (hl : s.dev.lowRails = [])
    (h9 : s.dev.gb (Reg.smonRail 9) 49 = false) :
    ∃ x : Dev, powerOnReset bad s = { s with dev := x, fq := [] } ∧ x.pwr.keep = false ∧ x.gf Reg.calbStat 1 7 = bad ∧ x.gb Reg.calbStat 0 = true := by
  obtain ⟨z, hz⟩ : ∃ z : State, z = ({ s with dev := s.dev.waitUp (s.dev.pwr.okSince + 10 * msU) } : State).coreReset true true true
    (if s.dev.pwr.keepLost ∨ s.dev.pwr.keep = false then 0 else if s.dev.pwr.crossed then 2 else 1) := ⟨_, rfl⟩
  obtain ⟨y, hy⟩ : ∃ y : Dev, y = z.dev.timeRestore.sb Reg.rstHaltStat 1 false := ⟨_, rfl⟩
  obtain ⟨d, hd⟩ : ∃ d : Dev, d = y.sf Reg.calbStat 0 8 (1 + 2 * bad) := ⟨_, rfl⟩
  obtain ⟨e, he⟩ : ∃ e : Dev, e = { d with pwr := { d.pwr with keep := false, keepLost := false, crossed := false } } := ⟨_, rfl⟩
  obtain ⟨f, hf⟩ : ∃ f : Dev, f = if bad.testBit 0 then e.sf Reg.glbId 32 16 0xFF00 else e := ⟨_, rfl⟩
  have hno : ¬ (s.dev.awaitsPower = false ∨ s.dev.lowRails ≠ [] ∨ s.dev.gb (Reg.smonRail 9) 49 = true) := by simp [ha, hl, h9]
  have hq : z.fq = [] ∧ z.pending = s.pending := by
    rw [hz]
    exact ⟨coreReset_fq .., coreReset_pending ..⟩
  have hfe : e.fusesKeep f := by
    rw [hf]
    split
    · exact (show e.fusesKeep e from ⟨rfl, rfl⟩).sf (by decide) ..
    · exact ⟨rfl, rfl⟩
  obtain ⟨hp, hr⟩ := loadFuses_keeps f
  have hcal : f.loadFuses.rd Reg.calbStat = setF (y.rd Reg.calbStat) 0 8 (1 + 2 * bad) := by
    rw [hr, hfe.2, he, rd_setPwr, hd, rd_sf_self]
  refine ⟨f.loadFuses, ?_, ?_, ?_, ?_⟩
  · rw [powerOnReset_eq rfl rfl rfl hz hy hd he, if_neg hno, ← hf, ← hq.1, ← hq.2]
  · rw [hp, hfe.1, he]
  · rw [Dev.gf, hcal]
    exact getF_setF_low _ hb
  · rw [Dev.gb, hcal, getB_setF _ _ _ (by decide), if_pos (by decide)]
    simp
/-! ### The reference clocks -/

/-- The loss of a reference, by the reference. -/
theorem referenceLoss_acts {k : Nat} (hi : d.islandOk 44 = true) (hs : d.gb Reg.clkStat k = true)
    (hx : x = (d.sb Reg.clkStat k false).inc (Reg.clkLossCnt k)) :
    (k = 0 → referenceLoss k d = (x.raise 19 0 0x10 0).hotReset.sb Reg.clkStat 4 true)
      ∧ (k = 1 → referenceLoss k d = (List.range 36).foldl (fun (x : Dev) p => x.forceDown p) ((x.raise 19 0 0x10 1).clockLost 1 0))
      ∧ (k = 2 → referenceLoss k d = ((x.raise 19 0 0x10 2).clockLost 2 (10 * usU)).sb Reg.clkStat 5 true)
      ∧ (k = 3 → referenceLoss k d = x.sb Reg.clkStat 6 true) := by
  have hno : ¬ (d.islandOk 44 = false ∨ d.gb Reg.clkStat k = false) := by simp [hi, hs]
  refine ⟨?_, ?_, ?_, ?_⟩ <;> (rintro rfl; simp only [referenceLoss, if_neg hno, ← hx])

theorem referenceReturn_acts {k : Nat} (hk : k < 4) (hi : d.islandOk 44 = true) (hs : d.gb Reg.clkStat k = false)
    (hx : x = d.sb Reg.clkStat k true) : referenceReturn k d = if k = 0 then x.sb Reg.clkStat 4 false else if k = 1 then x
      else if k = 2 then x.sb Reg.clkStat 5 false else x.sb Reg.clkStat 6 false := by
  have hno : ¬ (d.islandOk 44 = false ∨ d.gb Reg.clkStat k = true) := by simp [hi, hs]
  rw [hx, referenceReturn, if_neg hno]
  obtain rfl | rfl | rfl | rfl : k = 0 ∨ k = 1 ∨ k = 2 ∨ k = 3 := by omega
  all_goals rfl

/-! ### The pins -/

theorem haltPin_low (hk : d.pwr.keepLost = false) (hh : d.halted = true) : d.haltPin = .low := by
  simp [Dev.haltPin, Dev.keepPin, hk, hh]

theorem emits_frame (l : List Nat) (d : Dev) : (l.foldl (fun (x : Dev) f => x.emit (.pcie 1 [f])) d).regs = d.regs :=
  List.foldlRecOn (motive := fun x : Dev => x.regs = d.regs) _ _ rfl fun _ hx _ _ => hx

theorem gb_of_regs (h : e.regs = d.regs) (a i : Nat) : e.gb a i = d.gb a i := by rw [Dev.gb, Dev.rd, h, ← Dev.rd, ← Dev.gb]

/-- Halt, step by step. -/
theorem halt_eq {msg w : Word} {a b c : Dev} (ha : a = d.stopAll.keepStore) (hw : w = compact (a.tim.keepTime.getD 0))
    (hb : b = (((a.wr Reg.rstHaltMsg msg).wr Reg.rstHaltTime w).sb Reg.rstHaltStat 0 true).sb Reg.rstHaltStat 1 true)
    (hc : c = b.sf Reg.rstHaltStat 16 16 (min 65535 (b.gf Reg.rstHaltStat 16 16 + 1)))
    (he : e = (List.range 1024).foldl (fun (x : Dev) f => x.emit (.pcie 1 [f])) c)
    (hx : x = { e.wipeEngines with pwr := { e.pwr with goal := none }, tim := { e.tim with ppsOut := false, clk10 := false } }) :
    d.halt msg = if d.halted then d else [0, 1].foldl (fun (x : Dev) k => (x.sf (Reg.rngStat k) 0 3 6).sb (Reg.rngStat k) 4 false) x := by
  rw [Dev.halt, hx, he, hc, hb, hw, ha]

/-- Halt leaves the device halted. -/
theorem halt_halted (d : Dev) (msg : Word) : (d.halt msg).halted = true := by
  obtain ⟨a, ha⟩ : ∃ a : Dev, a = d.stopAll.keepStore := ⟨_, rfl⟩
  obtain ⟨w, hw⟩ : ∃ w : Word, w = compact (a.tim.keepTime.getD 0) := ⟨_, rfl⟩
  obtain ⟨b, hb⟩ : ∃ b : Dev, b = (((a.wr Reg.rstHaltMsg msg).wr Reg.rstHaltTime w).sb Reg.rstHaltStat 0 true).sb Reg.rstHaltStat 1 true := ⟨_, rfl⟩
  obtain ⟨c, hc⟩ : ∃ c : Dev, c = b.sf Reg.rstHaltStat 16 16 (min 65535 (b.gf Reg.rstHaltStat 16 16 + 1)) := ⟨_, rfl⟩
  obtain ⟨e, he⟩ : ∃ e : Dev, e = (List.range 1024).foldl (fun (x : Dev) f => x.emit (.pcie 1 [f])) c := ⟨_, rfl⟩
  obtain ⟨x, hx⟩ : ∃ x : Dev, x = { e.wipeEngines with pwr := { e.pwr with goal := none }, tim := { e.tim with ppsOut := false, clk10 := false } } :=
    ⟨_, rfl⟩
  have hc1 : c.gb Reg.rstHaltStat 1 = true := by
    rw [hc, hb, Dev.gb, rd_sf_self, getB_setF _ _ _ (by decide), if_neg (by decide), rd_sb_self, getB_setB_self _ _ (by decide)]
  have hx1 : x.gb Reg.rstHaltStat 1 = true := by
    rw [gb_of_regs (d := e) (by rw [hx]; rfl), gb_of_regs (d := c) (by rw [he]; exact emits_frame ..), hc1]
  rw [halt_eq ha hw hb hc he hx]
  split
  · assumption
  · rw [List.foldl_cons, List.foldl_cons, List.foldl_nil, Dev.halted, gb_sb_ne _ _ _ _ (by decide), gb_sf_ne _ _ _ _ _ (by decide),
      gb_sb_ne _ _ _ _ (by decide), gb_sf_ne _ _ _ _ _ (by decide), hx1]

theorem keep_pins (h : d.pwr.keep = true) : d.faultPin = .z ∧ (∀ a, d.bypassPin a = .low ∨ d.bypassPin a = .z) ∧ ∀ b, d.timePin b = .low := by
  refine ⟨by simp [Dev.faultPin, h], fun a => ?_, fun b => by simp [Dev.timePin, h]⟩
  cases hk : d.pwr.keepLost
  · simp [Dev.bypassPin, Dev.keepPin, h, hk]
  · simp [Dev.bypassPin, Dev.keepPin, hk]

theorem keepLost_pins (hk : d.pwr.keep = true) (h : d.pwr.keepLost = true) : d.haltPin = .z ∧ (∀ a, d.bypassPin a = .z) ∧ d.faultPin = .z :=
  ⟨if_pos h, fun _ => if_pos h, (keep_pins hk).1⟩

theorem getF_ne_zero_of_bit {w : Word} {i n : Nat} (hi : i < n) (h : getB w i = true) : getF w 0 n ≠ 0 := fun h0 => by
  have hb : (getF w 0 n).testBit i = true := by
    rw [getF, Nat.testBit_mod_two_pow, Nat.shiftRight_zero]
    exact Bool.and_eq_true_iff.mpr ⟨decide_eq_true hi, h⟩
  rw [h0] at hb
  simp at hb

/-- A fenced island drives FAULT_N. -/
theorem pinSync_low {i : Nat} (hi : i < 48) (hf : d.gb Reg.glbIslandFenced i = true) (h62 : d.gb Reg.pwrDomStat 62 = true)
    (hk : d.pwr.keep = false) : d.pinSync.faultPin = .low := by
  have h4 : d.pinSync.gb Reg.fltStat 4 = true := by
    rw [Dev.pinSync, gb_sb_self _ _ _ (by decide), Bool.or_eq_true, bne_iff_ne]
    exact .inr (getF_ne_zero_of_bit hi hf)
  have hp : d.pinSync.gb Reg.pwrDomStat 62 = true := by rw [Dev.pinSync, gb_sb_ne _ _ _ _ (by decide), h62]
  have hkk : d.pinSync.pwr.keep = false := by rw [Dev.pinSync, sb_pwr, hk]
  simp [Dev.faultPin, h4, hp, hkk]

end

end Sys2Proof.Machine
end

section
/-! ### The supply monitor, the references and the pins are settled (O60) -/

namespace Sys2Proof.Machine

theorem dev_of_next {f : Dev → Dev} {s : State} {e : Dev} (h : onDev f s = .next { s with dev := e }) : f s.dev = e := by
  rw [onDev_next] at h
  exact congrArg State.dev (Host.Outcome.next.inj h)

theorem supply_warnings (s : State) (r : Fin 9) (mv : BitVec 16) (x : Dev) (hlo : mv.toNat < s.dev.gf (Reg.smonRail r.val) 16 16)
    (hx : x = s.dev.sb (Reg.smonRail r.val) 48 true) :
    (s.dev.gb Reg.smonStat 0 = false → s.dev.islandOk 44 = false → ∃ e : Dev, exec (.supplyWarning r mv) s = .next { s with dev := e }
      ∧ e.gb Reg.smonStat 0 = true ∧ e.gf Reg.smonStat 2 4 = r.val ∧ e.gf Reg.smonStat 32 16 = mv.toNat
      ∧ e.gf Reg.smonStat 16 16 = min 65535 (s.dev.gf Reg.smonStat 16 16 + 1) ∧ e.pwr.dipAt = some s.dev.tim.up)
    ∧ (∀ y : Dev, s.dev.gb Reg.smonStat 0 = false → s.dev.islandOk 44 = true → y = x.dipShown (s.dev.gf Reg.smonStat 16 16) r.val mv.toNat →
        exec (.supplyWarning r mv) s = .next { s with dev :=
          (({ y with pwr := { y.pwr with dipAt := some y.tim.up } } : Dev).raise 22 0 0x10 r.val).sb Reg.fwdTsqStat 1 true }) := by
  have hr : r.val < 16 := by omega
  refine ⟨fun h0 hi => ?_, fun y h0 hi hy => ?_⟩
  · obtain ⟨y, hy⟩ : ∃ y : Dev, y = x.dipShown (s.dev.gf Reg.smonStat 16 16) r.val mv.toNat := ⟨_, rfl⟩
    have he := supplyWarning_first hlo h0 hx hy rfl
    have hup : y.tim.up = s.dev.tim.up := by rw [hy, dipShown_tim, hx, sb_tim]
    rw [if_neg (by simp [hi])] at he
    obtain ⟨h1, h2, h3, h4⟩ := dipShown_fields (x := x) (s.dev.gf Reg.smonStat 16 16) hr mv.isLt
    rw [← hy] at h1 h2 h3 h4
    refine ⟨_, (onDev_next _ s).trans (by rw [he]), ?_, ?_, ?_, ?_, ?_⟩
    · rw [gb_setPwr, h1]
    · rw [gf_setPwr, h2]
    · rw [gf_setPwr, h3]
    · rw [gf_setPwr, h4]
    · rw [hup]
  · exact (onDev_next _ s).trans (by rw [supplyWarning_first hlo h0 hx hy rfl, if_pos hi])

/-- Settles O60: the supply monitor, Keep, the references, the power-on reset and the pins. -/
theorem supplyClocksAndPowerOn : Obligations.SupplyClocksAndPowerOn := by
  unfold Obligations.SupplyClocksAndPowerOn
  refine ⟨⟨fun s r mv x hlo hx => ?_, fun s r mv h => ?_, fun d r mv hr hm => dipRail_fields d hr hm, fun s r x h hx => ?_, fun s t x ht _ hx => ?_,
    fun s r e h => ?_, fun s r => ?_, fun s => ?_, fun s => ⟨_, onDev_next _ s, keepSupplyReset_loses s.dev⟩, fun s r v ht => ?_,
    fun s bad x ha hl h9 hex => ?_, fun s bad ha hl h9 => ?_, fun s bad ha => ?_, fun s k x hi hs hx => ?_, fun s k x hi hs hx => ?_⟩,
    fun d msg hk => haltPin_low hk (halt_halted d msg), fun s r e h => ?_, fun s e h => ?_, fun d i hi hf h62 hk => pinSync_low hi hf h62 hk,
    fun d h => by simp [Dev.faultPin, h]⟩
  · obtain ⟨h1, h2⟩ := supply_warnings s r mv x hlo hx
    refine ⟨h1, fun y h0 hi hy => h2 y h0 hi hy, fun h0 ht hr => ?_, fun h0 ht => ?_⟩
    · exact (onDev_next _ s).trans (by rw [(supplyWarning_again hlo h0 hx).1 ht hr])
    · exact (onDev_next _ s).trans (by rw [(supplyWarning_again hlo h0 hx).2 ht])
  · exact (onDev_next _ s).trans (by rw [supplyWarning_above h])
  · obtain ⟨h1, h2⟩ := supplyRecover_returns h hx
    exact ⟨fun hl => (onDev_next _ s).trans (by rw [h1 hl]), fun hl => ⟨_, onDev_next _ s, h2 hl⟩⟩
  · obtain ⟨h1, h2⟩ := dipTimerExpiry_ends ht rfl hx
    exact ⟨fun a b c => congrArg _ (h1 a b c), fun a => congrArg _ (h2 a)⟩
  · have he : keepEntry r.val s.dev = e := dev_of_next h
    obtain ⟨hc, hk, h2⟩ := keepEntry_keeps r.val s.dev
    rw [← he]
    exact ⟨hc, fun hn => ⟨hk, h2 hn⟩⟩
  · obtain ⟨e, he⟩ := keepEntry_crossed r.val s.dev
    exact ⟨e, (onDev_next _ s).trans (by rw [he])⟩
  · obtain ⟨h1, h2⟩ := keepSupplyWarning_shows s.dev
    exact ⟨(onDev_next _ s).trans (by rw [h1]), (onDev_next _ s).trans (by rw [h2])⟩
  · have hex : exec (.smonClear r v) s = .next { s with dev := s.dev.wrSmonClr (setB v 63 true) } :=
      onDev_gate_of_takes (fun d => d.wrSmonClr (setB v 63 true)) ht
    rw [hex, wrSmonClr_go]
    exact ⟨fun hn => by rw [if_neg hn], fun hn => by rw [if_pos hn]⟩
  · obtain ⟨y, hy, h1, h2, h3⟩ := powerOnReset_leaves bad.isLt ha hl h9
    have hxy : x = y := by
      have h : powerOnReset bad.toNat s = { s with dev := x, fq := [] } := Host.Outcome.next.inj hex
      exact congrArg State.dev (h.symm.trans hy)
    rw [hxy]
    exact ⟨h1, h2, h3⟩
  · obtain ⟨y, hy, _⟩ := powerOnReset_leaves bad.isLt ha hl h9
    exact ⟨y, congrArg _ hy⟩
  · exact congrArg _ (if_pos (.inl ha))
  · obtain ⟨h0, h1, h2, h3⟩ := referenceLoss_acts hi hs hx
    exact ⟨fun h => (onDev_next _ s).trans (by rw [h0 (congrArg Fin.val h)]), fun h => (onDev_next _ s).trans (by rw [h1 (congrArg Fin.val h)]),
      fun h => (onDev_next _ s).trans (by rw [h2 (congrArg Fin.val h)]), fun h => (onDev_next _ s).trans (by rw [h3 (congrArg Fin.val h)])⟩
  · refine (onDev_next _ s).trans ?_
    rw [referenceReturn_acts k.isLt hi hs hx]
    simp only [Fin.ext_iff]
    rfl
  · have he : keepEntry r.val s.dev = e := dev_of_next h
    rw [← he]
    exact keep_pins (keepEntry_keeps r.val s.dev).2.1
  · have he : keepSupplyReset s.dev = e := dev_of_next h
    obtain ⟨hl, hk, _⟩ := keepSupplyReset_loses s.dev
    rw [← he]
    exact keepLost_pins hk hl

end Sys2Proof.Machine
end

section
/-! ### Memory in canonical form: what every operation keeps (O5)

Memory changes by the five stores of the first list alone. A lemma for each function of the model, in the order of the definitions, says that the
function keeps memory canonical; its proof cites the lemmas of the functions it calls, as a chain from the inside out. A function that is no
operation of `Dev` or `State` by its name has its lemma under its name with `Cmd` behind it. -/

namespace Sys2Proof.Machine

/-- The device's memory is a canonical list of octets. -/
def Dev.MemOk (d : Dev) : Prop := Memory.wf d.mem = true

/-- The machine's memory is a canonical list of octets. -/
def State.MemOk (s : State) : Prop := s.dev.MemOk

section
variable {α : Type} {d e : Dev} {s t : State}

/-! The operations that write memory. -/

theorem Dev.MemOk.stB {a : Nat} {b : Byte} (h : d.MemOk) : (d.stB a b).MemOk := stB_wf d a b h

theorem Dev.MemOk.stN {a : Nat} {l : List Byte} (h : d.MemOk) : (d.stN a l).MemOk := stN_wf l d a h

theorem Dev.MemOk.stW {a : Nat} {v : Word} (h : d.MemOk) : (d.stW a v).MemOk := stW_wf d a v h

theorem Dev.MemOk.stWs {a : Nat} {l : List Word} (h : d.MemOk) : (d.stWs a l).MemOk := stWs_wf l d a h

theorem Dev.MemOk.clearMem {lo hi : Nat} (h : d.MemOk) : (d.clearMem lo hi).MemOk := clearMem_wf d lo hi h

/-! What leaves memory as it is, branches and loops. -/

/-- A change of any field but memory. -/
theorem Dev.MemOk.upd {regs hold : Sparse Word} {bad soft : List Nat} {rdata : Word} {out : List Out} {free : Nat} {snap : Option (Nat × Nat)}
    {tim : Tim} {flt : Flt} {hq : Hq} {xlt : Xlt} {cal : Cal} {rng : Ring} {str : Strm} {mgmt : Mgmt} {rxb : Rxb} {fwd : Fwd} {dma : Dma} {sol : Sol}
    {mbx : Mbx} {pwr : Pwr} {ports : Sparse PortSt} {frames : Sparse Frame} {nextFrame : Nat} (h : d.MemOk) :
    (Dev.mk regs hold d.mem bad soft rdata out free snap tim flt hq xlt cal rng str mgmt rxb fwd dma sol mbx pwr ports frames nextFrame).MemOk := h

theorem Dev.MemOk.ite {c : Prop} {i : Decidable c} (hd : d.MemOk) (he : e.MemOk) : (if c then d else e).MemOk := by
  split
  · exact hd
  · exact he

theorem Dev.MemOk.foldl {f : Dev → α → Dev} {l : List α} (h : d.MemOk) (hf : ∀ x a, x.MemOk → (f x a).MemOk) : (l.foldl f d).MemOk :=
  List.foldlRecOn l f h fun x hx a _ => hf x a hx

theorem Dev.MemOk.of2 {p : α × Dev} {a : α} (h : p.2.MemOk) (he : p = (a, d)) : d.MemOk := by
  rw [he] at h
  exact h

theorem Dev.MemOk.snd {a : α} (h : d.MemOk) : (a, d).2.MemOk := h

theorem Dev.MemOk.state {q : List (Word × Word)} {p : List Instr} (h : d.MemOk) : ({ dev := d, fq := q, pending := p } : State).MemOk := h

theorem State.MemOk.dev (h : s.MemOk) : s.dev.MemOk := h

theorem State.MemOk.ite {c : Prop} {i : Decidable c} (hs : s.MemOk) (ht : t.MemOk) : (if c then s else t).MemOk := by
  split
  · exact hs
  · exact ht

end

end Sys2Proof.Machine
end

section
/-! ### Memory in canonical form: shared operations, snapshots and streams (O5) -/

namespace Sys2Proof.Machine

/-! The register file. -/

theorem Dev.MemOk.wr {d : Dev} {a : Nat} {v : Word} (h : d.MemOk) : (d.wr a v).MemOk := h.upd

theorem Dev.MemOk.sf {d : Dev} {a lo w v : Nat} (h : d.MemOk) : (d.sf a lo w v).MemOk := h.wr

theorem Dev.MemOk.sb {d : Dev} {a i : Nat} {b : Bool} (h : d.MemOk) : (d.sb a i b).MemOk := h.wr

theorem Dev.MemOk.clearRegs {d : Dev} {lo hi : Nat} (h : d.MemOk) : (d.clearRegs lo hi).MemOk := h.upd

theorem Dev.MemOk.addCnt {d : Dev} {a n : Nat} (h : d.MemOk) : (d.addCnt a n).MemOk := h.wr

theorem Dev.MemOk.inc {d : Dev} {a : Nat} (h : d.MemOk) : (d.inc a).MemOk := h.addCnt

/-! Outputs, free values, fault messages, time and failed accesses. -/

theorem Dev.MemOk.emit {d : Dev} {o : Out} (h : d.MemOk) : (d.emit o).MemOk := h.upd

theorem Dev.MemOk.useFree {d : Dev} (h : d.MemOk) : d.useFree.MemOk := h.upd

theorem Dev.MemOk.raise {d : Dev} {k u kind addr : Nat} (h : d.MemOk) : (d.raise k u kind addr).MemOk := h.upd

theorem Dev.MemOk.clocks {d : Dev} {n : Nat} (h : d.MemOk) : (d.clocks n).MemOk := .ite h.upd.sb h.upd

theorem Dev.MemOk.waitUp {d : Dev} {t : Nat} (h : d.MemOk) : (d.waitUp t).MemOk := .ite h h.clocks

theorem Dev.MemOk.waitLocal {d : Dev} {x : Nat} (h : d.MemOk) : (d.waitLocal x).MemOk := .ite h h.clocks

theorem Dev.MemOk.accFail {d : Dev} {r : Req} {bar4 write : Bool} {off kind isl : Nat} (h : d.MemOk) :
    (d.accFail r bar4 write off kind isl).MemOk := .raise (.inc (.ite h h.wr))

theorem Dev.MemOk.lockRefuse {d : Dev} {off isl : Nat} (h : d.MemOk) : (d.lockRefuse off isl).MemOk := h.inc.raise

theorem Dev.MemOk.gate {d : Dev} {r : Req} {a : Nat} {f : Dev → Dev} (h : d.MemOk) (hf : ∀ x, x.MemOk → (f x).MemOk) : (d.gate r a f).MemOk :=
  .ite h.accFail (.ite (hf _ h) h.lockRefuse)

/-! Register writes by field tables. -/

theorem Dev.MemOk.cfgErr {d : Dev} {a : Nat} (h : d.MemOk) : (d.cfgErr a).MemOk := by
  unfold Dev.cfgErr
  split
  · exact h.sb
  · exact h

theorem Dev.MemOk.calRef {d : Dev} {code : Nat} (h : d.MemOk) : (d.calRef code).MemOk := h.sb.sf

theorem Dev.MemOk.dmaRef {d : Dev} {c code : Nat} (h : d.MemOk) : (d.dmaRef c code).MemOk := h.sb.sf

theorem Dev.MemOk.pwrRef {d : Dev} {code : Nat} (h : d.MemOk) : (d.pwrRef code).MemOk := h.sb.sf

theorem Dev.MemOk.outOfRange {d : Dev} {a : Nat} (h : d.MemOk) : (d.outOfRange a).MemOk := by
  unfold Dev.outOfRange
  split
  · exact h.calRef
  · exact .ite h.dmaRef h
  · exact h.pwrRef
  · exact h.cfgErr

theorem Dev.MemOk.wrReg {d : Dev} {a : Nat} {v : Word} (h : d.MemOk) : (d.wrReg a v).MemOk := by
  unfold Dev.wrReg
  split
  · exact h
  · exact .ite h.wr h.outOfRange

/-! The packet buffer and the ports. -/

theorem Dev.MemOk.newFrame {d : Dev} {f : Frame} (h : d.MemOk) : (d.newFrame f).2.MemOk := h.upd

theorem Dev.MemOk.setFrame {d : Dev} {i : Nat} {f : Frame} (h : d.MemOk) : (d.setFrame i f).MemOk := h.upd

theorem Dev.MemOk.setPort {d : Dev} {p : Nat} {x : PortSt} (h : d.MemOk) : (d.setPort p x).MemOk := h.upd

theorem Dev.MemOk.pauseCheck {d : Dev} {p : Nat} (h : d.MemOk) : (d.pauseCheck p).MemOk := .ite h (.ite h.sb.setPort (.ite h.sb.setPort h))

theorem Dev.MemOk.dropFrame {d : Dev} {i : Nat} (h : d.MemOk) : (d.dropFrame i).MemOk := by
  unfold Dev.dropFrame
  extract_lets src e
  have he : e.MemOk := h.upd
  split
  · exact he.pauseCheck
  · exact he

theorem Dev.MemOk.reap {d : Dev} {i : Nat} (h : d.MemOk) : (d.reap i).MemOk := by
  unfold Dev.reap
  split
  · exact .ite h.dropFrame h
  · exact h

/-! Scheduled counter snapshots (chapter 2). -/

theorem Dev.MemOk.clearScope {d : Dev} {scope : Nat} (h : d.MemOk) : (d.clearScope scope).MemOk := .ite h.upd.clearMem h.upd

theorem Dev.MemOk.snapCapture {d : Dev} {stepped : Bool} (h : d.MemOk) : (d.snapCapture stepped).MemOk :=
  .sb (.sf (.ite h.upd.clearScope h.upd))

theorem Dev.MemOk.emptyImage {d : Dev} {scope : Nat} (h : d.MemOk) : (d.emptyImage scope).MemOk := by
  unfold Dev.emptyImage
  extract_lets d1 d2
  have hd1 : d1.MemOk := .ite h.clearMem h
  have hd2 : d2.MemOk := .ite hd1.clearMem hd1
  exact .ite hd2.clearMem hd2

theorem Dev.MemOk.writeImage {d : Dev} (h : d.MemOk) : d.writeImage.MemOk :=
  .stW (.stW (.foldl (.foldl h.emptyImage fun _ _ h1 => h1.stW) fun _ _ h2 => h2.stB))

theorem Dev.MemOk.skipRing {d : Dev} (h : d.MemOk) : d.skipRing.MemOk := h.upd

theorem Dev.MemOk.skipScan {d : Dev} (h : d.MemOk) : d.skipScan.MemOk := h.upd

theorem Dev.MemOk.afterStep {d : Dev} (h : d.MemOk) : d.afterStep.MemOk := .ite h.skipRing.skipScan.snapCapture h.skipRing.skipScan

theorem Dev.MemOk.snaptCaptureCmd {d : Dev} (h : d.MemOk) : (snaptCapture d).MemOk := .ite h.waitLocal.snapCapture h

theorem Dev.MemOk.snaptImageDoneCmd {d : Dev} (h : d.MemOk) : (snaptImageDone d).MemOk := .ite (.sf (.upd (.ite h h.writeImage))) h

/-! Streams and redundancy (chapter 5). -/

theorem Dev.MemOk.setSw {d : Dev} {s k : Nat} {v : Word} (h : d.MemOk) : (d.setSw s k v).MemOk := h.stW

theorem Dev.MemOk.ss {d : Dev} {s k lo w v : Nat} (h : d.MemOk) : (d.ss s k lo w v).MemOk := h.setSw

theorem Dev.MemOk.cntAdd {d : Dev} {s k n : Nat} (h : d.MemOk) : (d.cntAdd s k n).MemOk := h.stW

theorem Dev.MemOk.strCount {d : Dev} {s k n : Nat} (h : d.MemOk) : (d.strCount s k n).MemOk := .ite h (.ite h.cntAdd (.ite h.upd h.inc))

theorem Dev.MemOk.flushStalled {d : Dev} (h : d.MemOk) : d.flushStalled.MemOk := .sb (.foldl h.upd fun _ _ h1 => h1.cntAdd)

theorem Dev.MemOk.setFence {d : Dev} {s : Nat} (h : d.MemOk) : (d.setFence s).MemOk := .ite h (.foldl h.upd fun _ _ h1 => h1.dropFrame.inc)

theorem Dev.MemOk.fenceStream {d : Dev} {s : Nat} (h : d.MemOk) : (d.fenceStream s).MemOk := .ite h h.setFence.raise

theorem Dev.MemOk.scrub {d : Dev} {a cnt : Nat} (h : d.MemOk) : (d.scrub a cnt).MemOk := .ite h.upd.inc h

theorem Dev.MemOk.readRec {d : Dev} {s : Nat} (h : d.MemOk) : (d.readRec s).MemOk :=
  .ite h (.ite (.fenceStream (.foldl h fun _ _ h1 => h1.scrub)) (.foldl h fun _ _ h2 => h2.scrub))

theorem Dev.MemOk.countBar {d : Dev} {a1 : Bar} (h : d.MemOk) : (d.countBar a1).MemOk := by
  unfold Dev.countBar
  split
  · exact h
  · exact h.inc
  · exact h.inc
  · exact h.inc

theorem Dev.MemOk.setHist {d : Dev} {s n : Nat} (h : d.MemOk) : (d.setHist s n).MemOk :=
  .ite h.setSw (.foldl h.setSw fun _ _ h1 => .ite (.foldl h1 fun _ _ h2 => h2.setSw) h1)

theorem Dev.MemOk.recoveryReset {d : Dev} {s : Nat} (h : d.MemOk) : (d.recoveryReset s).MemOk := h.ss.setHist.strCount

theorem Dev.MemOk.rcvPass {d : Dev} {s : Nat} (h : d.MemOk) : (d.rcvPass s).MemOk := h.strCount.ss.ss

theorem Dev.MemOk.rcvDup {d : Dev} {s : Nat} (h : d.MemOk) : (d.rcvDup s).MemOk := h.strCount.ss

theorem Dev.MemOk.vectorRcv {d : Dev} {s q : Nat} (h : d.MemOk) : (d.vectorRcv s q).2.MemOk := by
  simp only [Dev.vectorRcv, apply_ite Prod.snd]
  exact .ite h.ss.ss.setHist.rcvPass (.ite h.strCount (.ite (.ite h.rcvDup h.setHist.strCount.rcvPass)
    (.rcvPass (.ss (.setHist (.strCount (.ite h.strCount h)))))))

theorem Dev.MemOk.matchRcv {d : Dev} {s q : Nat} (h : d.MemOk) : (d.matchRcv s q).2.MemOk := by
  unfold Dev.matchRcv
  extract_lets cur d1
  have hd1 : d1.MemOk := .ite h.strCount h
  split
  · exact h.ss.ss.rcvPass
  · split
    · exact h.rcvDup
    · exact hd1.ss.rcvPass

theorem Dev.MemOk.recover {d : Dev} {s : Nat} {q : Option Nat} (h : d.MemOk) : (d.recover s q).2.MemOk := by
  cases q with
  | none =>
    simp only [Dev.recover, apply_ite Prod.snd]
    exact .ite h.strCount.rcvPass h.strCount
  | some n =>
    simp only [Dev.recover, apply_ite Prod.snd]
    exact .ite h.vectorRcv h.matchRcv

theorem Dev.MemOk.assignSeq {d : Dev} {s : Nat} {carried : Option Nat} {counted : Bool} (h : d.MemOk) :
    (d.assignSeq s carried counted).2.MemOk := by
  unfold Dev.assignSeq
  extract_lets d1
  have hd1 : d1.MemOk := .ite h h.strCount
  split
  · exact hd1.ss
  · exact hd1

theorem Dev.MemOk.initStream {d : Dev} {s : Nat} (h : d.MemOk) : (d.initStream s).MemOk :=
  .foldl h.upd.setSw.setSw.setSw.setSw.setHist fun _ _ h1 => h1.stW

theorem Dev.MemOk.endStream {d : Dev} {s : Nat} (h : d.MemOk) : (d.endStream s).MemOk := .foldl h fun _ _ h1 => h1.dropFrame.inc

theorem Dev.MemOk.strWrRef {d : Dev} (h : d.MemOk) : d.strWrRef.MemOk := h.sb.inc

theorem Dev.MemOk.writeRec {d : Dev} {s k : Nat} {v : Word} (h : d.MemOk) : (d.writeRec s k v).MemOk := by
  unfold Dev.writeRec
  extract_lets t d1
  have hd1 : d1.MemOk := h.setSw
  exact .ite h.strWrRef (.ite (.ite hd1.initStream (.ite hd1.endStream (.ite hd1.recoveryReset hd1))) hd1)

theorem Dev.MemOk.recShow {d : Dev} {s k : Nat} (h : d.MemOk) : (d.recShow s k).2.MemOk := by
  unfold Dev.recShow
  extract_lets v
  split
  · exact h.useFree
  · split
    · exact h.useFree
    · exact h

theorem Dev.MemOk.gate4 {d : Dev} {r : Req} {off isl k : Nat} {f : Dev → Dev} (h : d.MemOk) (hf : ∀ x, x.MemOk → (f x).MemOk) :
    (d.gate4 r off isl k f).MemOk := .ite h.accFail (.ite (hf _ h) h.lockRefuse)

theorem Dev.MemOk.recWrite4 {d : Dev} {r : Req} {s k : Nat} {v : Word} (h : d.MemOk) : (d.recWrite4 r s k v).MemOk :=
  h.gate4 (fun _ h1 => h1.writeRec)

theorem Dev.MemOk.scanVisitRec {d : Dev} {s : Nat} {act : Dev → Dev} (h : d.MemOk) (hf : ∀ x, x.MemOk → (act x).MemOk) :
    (d.scanVisitRec s act).MemOk := .ite h.readRec (hf _ h.readRec)

theorem Dev.MemOk.recoveryVisit {d : Dev} {s : Nat} (h : d.MemOk) : (d.recoveryVisit s).MemOk :=
  h.scanVisitRec (fun _ h1 => .ite h1 (.ite h1.ss.recoveryReset h1.ss))

theorem Dev.MemOk.recoveryScanCmd {d : Dev} (h : d.MemOk) : (recoveryScan d).MemOk := .foldl h.waitLocal.upd fun _ _ h1 => h1.recoveryVisit

theorem Dev.MemOk.latentVisit {d : Dev} {s : Nat} (h : d.MemOk) : (d.latentVisit s).MemOk :=
  h.scanVisitRec (fun _ h1 => .ite h1.ss.raise.inc h1)

theorem Dev.MemOk.latentRun {d : Dev} {k t : Nat} (h : d.MemOk) : (d.latentRun k t).MemOk := .foldl h.upd fun _ _ h1 => h1.latentVisit

theorem Dev.MemOk.latentTestCmd {k : Nat} {d : Dev} (h : d.MemOk) : (latentTest k d).MemOk := h.waitLocal.latentRun

theorem Dev.MemOk.latentClear {d : Dev} {s : Nat} (h : d.MemOk) : (d.latentClear s).MemOk := h.ss.ss

theorem Dev.MemOk.latentProfileResetCmd {k : Nat} {d : Dev} (h : d.MemOk) : (latentProfileReset k d).MemOk :=
  .ite h (.foldl (.upd (.ite h.waitLocal.latentRun h.waitLocal)) fun _ _ h1 => h1.latentClear.inc)

theorem Dev.MemOk.wrStrCmd {d : Dev} {v : Word} (h : d.MemOk) : (d.wrStrCmd v).MemOk :=
  .ite (.ite (.ite (.ite h.wrReg.recoveryReset h.wrReg.latentClear) h.wrReg.sb) h.wrReg) h.outOfRange

theorem Dev.MemOk.wrCntSel {d : Dev} {v : Word} (h : d.MemOk) : (d.wrCntSel v).MemOk :=
  .ite (.ite h.sb (.ite h.wrReg.sb (.sb (.sb (.sb (.upd (.ite h.wrReg.stWs h.wrReg))))))) h.wrReg

theorem Dev.MemOk.wrs {d : Dev} {a : Nat} {l : List Word} (h : d.MemOk) : (d.wrs a l).MemOk := by
  induction l generalizing d a with
  | nil => exact h
  | cons v t ih => exact ih h.wr

theorem Dev.MemOk.streamCaptureDoneCmd {d : Dev} (h : d.MemOk) : (streamCaptureDone d).MemOk := by
  unfold streamCaptureDone
  split
  · exact h
  · extract_lets src src' d1
    have hsrc : src.MemOk := h.wrs
    have hd1 : d1.MemOk := hsrc.upd
    exact hd1.sb.sb.sf

end Sys2Proof.Machine
end

section
/-! ### Memory in canonical form: queues, translation and the Jig (O5) -/

namespace Sys2Proof.Machine

/-! Banks and intervals (chapter 3). -/

theorem Dev.MemOk.setBank {d : Dev} {b : Nat} {x : CalBank} (h : d.MemOk) : (d.setBank b x).MemOk := h.upd

theorem Dev.MemOk.setBankSt {d : Dev} {b st : Nat} (h : d.MemOk) : (d.setBankSt b st).MemOk := h.sf

/-! Functions, queues and translation (chapters 10 and 11). -/

theorem Dev.MemOk.modFn {d : Dev} {f : Nat} {g : Fn → Fn} (h : d.MemOk) : (d.modFn f g).MemOk := h.upd

theorem Dev.MemOk.hostRead {d : Dev} {f : Nat} {pasid : Option Nat} {a len : Nat} (h : d.MemOk) : (d.hostRead f pasid a len).MemOk := h.emit

theorem Dev.MemOk.hostWrite {d : Dev} {f : Nat} {pasid : Option Nat} {a : Nat} {data : List Byte} (h : d.MemOk) :
    (d.hostWrite f pasid a data).MemOk := h.emit

theorem Dev.MemOk.hostReads {d : Dev} {f : Nat} {pasid : Option Nat} {a len : Nat} (h : d.MemOk) : (d.hostReads f pasid a len).MemOk :=
  .foldl h fun _ _ h1 => h1.hostRead

theorem Dev.MemOk.hostWrites {d : Dev} {f : Nat} {pasid : Option Nat} {a : Nat} {data : List Byte} (h : d.MemOk) :
    (d.hostWrites f pasid a data).MemOk := .foldl h fun _ _ h1 => h1.hostWrite

theorem Dev.MemOk.memWrite {d : Dev} {f : Nat} {pasid : Option Nat} {a : Nat} {data : List Byte} (h : d.MemOk) :
    (d.memWrite f pasid a data).MemOk := .ite h.stN h.hostWrite

theorem Dev.MemOk.fire {d : Dev} {f v : Nat} (h : d.MemOk) : (d.fire f v).MemOk := .ite h.sb (.ite h.emit h.modFn)

theorem Dev.MemOk.sendPba {d : Dev} {f : Nat} (h : d.MemOk) : (d.sendPba f).MemOk := .foldl h.modFn fun _ _ h1 => h1.emit

theorem Dev.MemOk.atsPump {n : Nat} {d : Dev} (h : d.MemOk) : (Dev.atsPump n d).MemOk := by
  induction n generalizing d with
  | zero => exact h
  | succ n ih =>
    rw [Dev.atsPump]
    split
    · exact h
    · exact .ite h (ih h.upd.inc.emit)

theorem Dev.MemOk.atsGo {d : Dev} (h : d.MemOk) : d.atsGo.MemOk := h.atsPump

theorem Dev.MemOk.prgPump {n : Nat} {d : Dev} (h : d.MemOk) : (Dev.prgPump n d).MemOk := by
  induction n generalizing d with
  | zero => exact h
  | succ n ih =>
    rw [Dev.prgPump]
    split
    · exact h
    · exact ih h.upd.inc.emit

theorem Dev.MemOk.prgGo {d : Dev} (h : d.MemOk) : d.prgGo.MemOk := h.prgPump

theorem Dev.MemOk.xlatePage {d : Dev} {f : Nat} {w : XWait} (h : d.MemOk) : (d.xlatePage f w).2.MemOk := by
  unfold Dev.xlatePage
  split
  · exact h
  · split
    · exact h.upd
    · extract_lets src
      exact h.upd.inc.atsGo

theorem Dev.MemOk.xlatePages {d : Dev} {f : Nat} {w : XWait} {l : List Nat} (h : d.MemOk) : (d.xlatePages f w l).2.MemOk := by
  induction l generalizing d with
  | nil => exact h
  | cons p t ih =>
    have hp : (d.xlatePage f { w with addr := p }).2.MemOk := h.xlatePage
    rw [Dev.xlatePages]
    split
    · rename_i d1 he
      exact ih (.of2 hp he)
    · rename_i d1 he
      exact .of2 hp he

theorem Dev.MemOk.xlate {d : Dev} {f : Nat} {want : Want} {pasid : Option Nat} {a len : Nat} {write : Bool} (h : d.MemOk) :
    (d.xlate f want pasid a len write).2.MemOk := by
  unfold Dev.xlate
  split
  · exact h
  · split
    · exact h
    · exact h.xlatePages

theorem Dev.MemOk.syncQ {d : Dev} {q : Nat} (h : d.MemOk) : (d.syncQ q).MemOk := h.wr

theorem Dev.MemOk.syncC {d : Dev} {c : Nat} (h : d.MemOk) : (d.syncC c).MemOk := .syncQ (.foldl h fun _ _ h1 => h1.syncQ)

theorem Dev.MemOk.modSq {d : Dev} {q : Nat} {g : Sq → Sq} (h : d.MemOk) : (d.modSq q g).MemOk := by
  unfold Dev.modSq
  split
  · extract_lets src
    exact h.upd.syncQ
  · exact h

theorem Dev.MemOk.modCq {d : Dev} {q : Nat} {g : Cq → Cq} (h : d.MemOk) : (d.modCq q g).MemOk := by
  unfold Dev.modCq
  split
  · extract_lets src
    exact h.upd.syncC
  · exact h

theorem Dev.MemOk.modSqe {d : Dev} {q n : Nat} {g : Sqe → Sqe} (h : d.MemOk) : (d.modSqe q n g).MemOk := h.modSq

theorem Dev.MemOk.qCount {d : Dev} {q k n : Nat} (h : d.MemOk) : (d.qCount q k n).MemOk := .ite h (.ite h.stW (.ite h.upd h.inc))

theorem Dev.MemOk.flushQ {d : Dev} (h : d.MemOk) : d.flushQ.MemOk := .foldl h.upd fun _ _ h1 => h1.qCount

theorem Dev.MemOk.fireAfter {d : Dev} {q : Nat} {l : List Nat} (h : d.MemOk) : (d.fireAfter q l).MemOk := .foldl h fun _ _ h1 => h1.modSq

theorem Dev.MemOk.fireCq {d : Dev} {q : Nat} {sq : Option Nat} (h : d.MemOk) : (d.fireCq q sq).MemOk := by
  unfold Dev.fireCq
  split
  · exact h
  · split
    · exact .ite h.fire h.fireAfter
    · exact .ite h.fire h.fireAfter

theorem Dev.MemOk.firePast {d : Dev} {q : Nat} (h : d.MemOk) : (d.firePast q).MemOk := by
  unfold Dev.firePast
  split
  · exact .ite h h.fire
  · exact h

theorem Dev.MemOk.unrep {d : Dev} {q : Nat} {sq : Option Nat} (h : d.MemOk) : (d.unrep q sq).MemOk := by
  unfold Dev.unrep
  split
  · exact h
  · extract_lets n
    exact .ite h.modCq.fireCq h.modCq

theorem Dev.MemOk.putCqe {d : Dev} {q : Nat} {sq : Option Nat} {w0 w1 w2 w3 : Nat} (h : d.MemOk) : (d.putCqe q sq w0 w1 w2 w3).MemOk := by
  unfold Dev.putCqe
  split
  · exact h
  · extract_lets ws d1
    have hd1 : d1.MemOk := h.memWrite
    exact hd1.modCq.inc.qCount.unrep

theorem Dev.MemOk.overflow {d : Dev} {q : Nat} (h : d.MemOk) : (d.overflow q).MemOk := by
  unfold Dev.overflow
  split
  · exact h
  · extract_lets d1
    have hd1 : d1.MemOk := h.modCq.inc.qCount
    exact .ite h hd1.modCq.fire

theorem Dev.MemOk.waitCq {d : Dev} {c who : Nat} (h : d.MemOk) : (d.waitCq c who).MemOk := h.modCq

theorem Dev.MemOk.pmeCheck {d : Dev} {f : Nat} (h : d.MemOk) : (d.pmeCheck f).MemOk := .ite h.modFn.emit h

theorem Dev.MemOk.postSqe {d : Dev} {q : Nat} {s : Sq} {e : Sqe} (h : d.MemOk) : (d.postSqe q s e).MemOk :=
  .ite h.putCqe (.ite h.putCqe.qCount h.putCqe.qCount)

theorem Dev.MemOk.dropHead {d : Dev} {q : Nat} {e : Sqe} (h : d.MemOk) : (d.dropHead q e).MemOk := h.modSq.inc.qCount

theorem Dev.MemOk.cqFail {d : Dev} {q : Nat} (h : d.MemOk) : (d.cqFail q).MemOk := h.modCq.raise

theorem Dev.MemOk.retire {d : Dev} {q : Nat} (h : d.MemOk) : (d.retire q).MemOk := by
  unfold Dev.retire
  split
  · exact h
  · split
    · exact h
    · split
      · exact h
      · split
        · exact h
        · split
          · exact h.waitCq.syncQ.pmeCheck
          · split
            · exact h.waitCq
            · split
              · split
                · exact h.overflow.waitCq
                · split
                  · exact h.cqFail
                  · split
                    · rename_i _ h1
                      have h2 := Dev.MemOk.of2 h.xlate h1
                      exact h2.postSqe.dropHead
                    · rename_i _ h3
                      have h4 := Dev.MemOk.of2 h.xlate h3
                      exact h4.waitCq
              · exact h.dropHead

theorem Dev.MemOk.endSqe {d : Dev} {q n st cause : Nat} {ts : Word} (h : d.MemOk) : (d.endSqe q n st cause ts).MemOk := by
  unfold Dev.endSqe
  split
  · exact h
  · extract_lets d0 src d1
    have hd0 : d0.MemOk := h.modSqe
    have hd1 : d1.MemOk := hd0.upd
    exact .ite h (.ite hd1.inc (.ite hd1.inc hd1))

theorem Dev.MemOk.copyEnd {d : Dev} {en : Option (Nat × Nat)} {port st cause : Nat} {stamp : Word} (h : d.MemOk) :
    (d.copyEnd en port st cause stamp).MemOk := by
  unfold Dev.copyEnd
  split
  · exact h
  · split
    · exact h
    · extract_lets res d1 ts
      have hd1 : d1.MemOk := h.modSqe
      split
      · exact hd1
      · split
        · exact hd1.endSqe
        · exact hd1.endSqe

theorem Dev.MemOk.rxDrop {d : Dev} {id q : Nat} (h : d.MemOk) : (d.rxDrop id q).MemOk := by
  unfold Dev.rxDrop
  extract_lets d1 d2
  have hd1 : d1.MemOk := h.inc
  have hd2 : d2.MemOk := .ite hd1.qCount hd1
  split
  · exact hd2.setFrame.reap
  · exact hd2

theorem Dev.MemOk.rxStore {d : Dev} {id q n : Nat} (h : d.MemOk) : (d.rxStore id q n).MemOk := by
  unfold Dev.rxStore
  split
  · extract_lets d1 d2
    have hd1 : d1.MemOk := .modSqe (.ite h.stN h.hostWrites)
    have hd2 : d2.MemOk := hd1.endSqe
    exact hd2.setFrame.reap
  · exact h

theorem Dev.MemOk.rxWrite {d : Dev} {id q n : Nat} (h : d.MemOk) : (d.rxWrite id q n).MemOk := by
  unfold Dev.rxWrite
  extract_lets wait
  split
  · split
    · exact h.upd
    · split
      · rename_i _ h1
        have h2 := Dev.MemOk.of2 h.xlate h1
        exact h2.rxStore
      · rename_i _ h3
        have h4 := Dev.MemOk.of2 h.xlate h3
        exact h4.upd
  · exact h

theorem Dev.MemOk.rxRetry {d : Dev} (h : d.MemOk) : d.rxRetry.MemOk := .foldl h.upd fun _ _ h1 => h1.rxWrite

theorem Dev.MemOk.deliver {d : Dev} {id q : Nat} (h : d.MemOk) : (d.deliver id q).MemOk := by
  unfold Dev.deliver
  split
  · exact h
  · extract_lets d0
    have hd0 : d0.MemOk := h.setFrame
    split
    · exact hd0.rxDrop
    · split
      · exact hd0.rxDrop
      · split
        · exact hd0.rxDrop
        · exact .ite hd0.rxDrop hd0.modSqe.rxWrite

/-! The Jig (chapter 14). -/

theorem Dev.MemOk.jigRule {d : Dev} {p : Nat} {tx : Bool} {octets : List Byte} {stream : Option Nat} {first : Bool} (h : d.MemOk) :
    (d.jigRule p tx octets stream first).2.MemOk := by
  unfold Dev.jigRule
  split
  · exact h
  · split
    · exact h
    · extract_lets m src d1 a src' d2 lim
      have hd1 : d1.MemOk := h.upd
      have hd2 : d2.MemOk := hd1.upd.inc
      split
      · exact .ite hd2.sb hd2
      · exact hd1

end Sys2Proof.Machine
end

section
/-! ### Memory in canonical form: transmission (O5) -/

namespace Sys2Proof.Machine

/-! The transmitter of a port (chapters 3, 4 and 8). -/

theorem Dev.MemOk.syncPre {d : Dev} {p : Nat} (h : d.MemOk) : (d.syncPre p).MemOk := h.sb.sf.sb.sb

theorem Dev.MemOk.modPort {d : Dev} {p : Nat} {g : PortSt → PortSt} (h : d.MemOk) : (d.modPort p g).MemOk := h.setPort.syncPre

theorem Dev.MemOk.jigStart {d : Dev} {p : Nat} {t : Tx} {stream : Option Nat} (h : d.MemOk) : (d.jigStart p t stream).1.MemOk := by
  unfold Dev.jigStart
  extract_lets first
  split
  · rename_i _ h1
    have h2 := Dev.MemOk.of2 h.jigRule h1
    exact h2
  · rename_i _ h3
    have h4 := Dev.MemOk.of2 h.jigRule h3
    extract_lets dl
    split
    · exact h4
    · exact h4

theorem Dev.MemOk.go {d : Dev} {p : Nat} {t : Tx} {stream : Option Nat} (h : d.MemOk) : (d.go p t stream).MemOk := by
  unfold Dev.go
  extract_lets r
  have hr : r.1.MemOk := h.jigStart
  exact hr.modPort

theorem Dev.MemOk.goStamped {d : Dev} {p : Nat} {t : Tx} {stream : Option Nat} {oct : Nat → List Byte} (h : d.MemOk) :
    (d.goStamped p t stream oct).MemOk := by
  unfold Dev.goStamped
  extract_lets r src
  have hr : r.1.MemOk := h.jigStart
  exact hr.modPort

theorem Dev.MemOk.noteEgress {d : Dev} {p s : Nat} (h : d.MemOk) : (d.noteEgress p s).MemOk := h.upd

theorem Dev.MemOk.noteTx {d : Dev} {p : Nat} (h : d.MemOk) : (d.noteTx p).MemOk := by
  unfold Dev.noteTx
  split
  · exact h.noteEgress
  · exact h

theorem Dev.MemOk.startCtl {d : Dev} {p u x : Nat} (h : d.MemOk) : (d.startCtl p u x).MemOk := by
  unfold Dev.startCtl
  split
  · exact h
  · extract_lets d1 s lim d2 cyc old src
    have hd1 : d1.MemOk := h.modPort
    have hd2 : d2.MemOk := hd1.goStamped.noteTx
    exact .ite hd1.inc (.ite hd2.upd hd2)

theorem Dev.MemOk.newTx {d : Dev} {p id : Nat} {f : Frame} {c : Nat} {sched : Bool} {u x stamp : Nat} {limit : Option Nat} (h : d.MemOk) :
    (d.newTx p id f c sched u x stamp limit).MemOk :=
  .ite (.noteTx (.goStamped (.modPort (.ite h.inc h)))) (.goStamped (.modPort (.ite h.inc h)))

theorem Dev.MemOk.startItem {d : Dev} {p u x : Nat} {a4 : Item} (h : d.MemOk) : (d.startItem p u x a4).MemOk := by
  unfold Dev.startItem
  split
  · exact h.startCtl
  · extract_lets q
    exact h.useFree.modPort.go
  · exact h.modPort.go
  · exact h.modPort.sf.go
  · exact h.modPort.go
  · exact h.modPort.go
  · split
    · exact h
    · extract_lets bad t1
      exact h.modPort.go
  · split
    · exact h.modPort
    · exact h.modPort.newTx

theorem Dev.MemOk.destDone {d : Dev} {p id st cause stamp : Nat} (h : d.MemOk) : (d.destDone p id st cause stamp).MemOk := by
  unfold Dev.destDone
  split
  · exact h
  · extract_lets ts d1
    have hd1 : d1.MemOk := h.setFrame.copyEnd
    exact hd1.reap

theorem Dev.MemOk.fenceDrop {d : Dev} {id : Nat} (h : d.MemOk) : (d.fenceDrop id).MemOk :=
  .foldl h.inc fun _ _ h1 => .ite h1.modPort.destDone h1

theorem Dev.MemOk.purgeFenced {d : Dev} {p : Nat} (h : d.MemOk) : (d.purgeFenced p).MemOk := .foldl h fun _ _ h1 => h1.fenceDrop

theorem Dev.MemOk.purge {d : Dev} {p : Nat} (h : d.MemOk) : (d.purge p).MemOk :=
  .ite (.foldl h.modPort fun _ _ h1 => h1.destDone) (.foldl h.purgeFenced.modPort fun _ _ h2 => h2.inc.destDone)

theorem Dev.MemOk.askCut {d : Dev} {p c : Nat} (h : d.MemOk) : (d.askCut p c).MemOk := by
  unfold Dev.askCut
  split
  · exact .ite h.modPort h
  · exact h

theorem Dev.MemOk.checkCut {d : Dev} {p : Nat} (h : d.MemOk) : (d.checkCut p).MemOk := by
  unfold Dev.checkCut
  split
  · exact h
  · split
    · split
      · exact h.askCut
      · exact h
    · exact h

theorem Dev.MemOk.chooseOf {d : Dev} {p : Nat} {f : Item → Bool} (h : d.MemOk) : (d.chooseOf p f).MemOk := by
  unfold Dev.chooseOf
  extract_lets d0 y u x
  have hd0 : d0.MemOk := h.pauseCheck.purge
  split
  · exact hd0
  · split
    · split
      · exact hd0.startItem
      · exact hd0
    · exact hd0

theorem Dev.MemOk.choose {d : Dev} {p : Nat} (h : d.MemOk) : (d.choose p).MemOk := .ite h.chooseOf.checkCut h.chooseOf

theorem Dev.MemOk.enqueue {d : Dev} {p id : Nat} (h : d.MemOk) : (d.enqueue p id).MemOk := by
  unfold Dev.enqueue
  split
  · exact h
  · exact h.modPort.checkCut

theorem Dev.MemOk.countSent {d : Dev} {p : Nat} {l : List Byte} (h : d.MemOk) : (d.countSent p l).MemOk :=
  .ite h.inc.addCnt.inc.inc (.ite h.inc.addCnt.inc.inc h.inc.addCnt.inc.inc)

theorem Dev.MemOk.emitTx {d : Dev} {p : Nat} {t : Tx} (h : d.MemOk) : (d.emitTx p t).MemOk := .ite h.emit (.ite h h.emit)

theorem Dev.MemOk.instDone {d : Dev} {id : Nat} (h : d.MemOk) : (d.instDone id).MemOk := by
  unfold Dev.instDone
  split
  · exact h
  · extract_lets src
    exact .ite h.upd h.upd.dropFrame

theorem Dev.MemOk.txDone {d : Dev} {p : Nat} {t : Tx} {st cause : Nat} (h : d.MemOk) : (d.txDone p t st cause).MemOk := by
  unfold Dev.txDone
  split
  · split
    · exact h
    · extract_lets ts
      exact .ite h.copyEnd.instDone h.destDone
  · exact h

theorem Dev.MemOk.wireFree {d : Dev} {p u : Nat} (h : d.MemOk) : (d.wireFree p u).MemOk := h.modPort

theorem Dev.MemOk.endTx {d : Dev} {p : Nat} {t : Tx} (h : d.MemOk) : (d.endTx p t).MemOk := by
  unfold Dev.endTx
  extract_lets d0 d1 s
  have hd0 : d0.MemOk := h.emitTx.wireFree
  have hd1 : d1.MemOk := .ite hd0.inc hd0
  split
  · exact hd1.modPort
  · exact hd1.modPort
  · exact hd1
  · exact hd1
  · exact hd1.inc
  · exact hd1.countSent
  · exact .ite hd1.inc.txDone (.ite hd1.modPort hd1.countSent.txDone)

/-! Transmission: cuts, holds, verification (chapter 4). -/

theorem Dev.MemOk.guardianCutCmd {p : Nat} {d : Dev} (h : d.MemOk) : (guardianCut p d).MemOk := by
  unfold guardianCut
  split
  · exact h
  · split
    · exact h
    · extract_lets d0 k t1 d1 addr
      have hd0 : d0.MemOk := h.waitLocal
      have hd1 : d1.MemOk := hd0.emitTx.wireFree.inc
      exact .ite hd1.inc.txDone.raise h

theorem Dev.MemOk.transmissionEndCmd {p : Nat} {d : Dev} (h : d.MemOk) : (transmissionEnd p d).MemOk := by
  unfold transmissionEnd
  split
  · exact h
  · exact .ite h (.ite h.guardianCutCmd.choose h.waitUp.endTx.choose)

theorem Dev.MemOk.nonschedFrameStartCmd {p : Nat} {d : Dev} (h : d.MemOk) : (nonschedFrameStart p d).MemOk := by
  unfold nonschedFrameStart
  extract_lets d1
  have hd1 : d1.MemOk := h.choose
  split
  · exact h
  · split
    · exact hd1
    · split
      · exact .ite hd1 hd1.waitLocal.choose
      · split
        · extract_lets d2
          have hd2 : d2.MemOk := hd1.waitLocal.choose
          exact .ite hd2 hd1
        · exact hd1

theorem Dev.MemOk.preemptCutCmd {p k : Nat} {d : Dev} (h : d.MemOk) : (preemptCut p k d).MemOk := by
  unfold preemptCut
  split
  · exact h
  · split
    · exact h
    · extract_lets k0 kk d1
      have hd1 : d1.MemOk := h.modPort
      exact .ite h (.ite h.modPort (.ite (.ite hd1.inc hd1) (.ite h.modPort.inc h)))

theorem Dev.MemOk.dropTx {d : Dev} {p : Nat} {counted : Bool} {a3 : Option Tx} (h : d.MemOk) : (d.dropTx p counted a3).MemOk := by
  unfold Dev.dropTx
  split
  · exact h
  · extract_lets isFrame
    exact .txDone (.ite h.inc h)

theorem Dev.MemOk.portStop {d : Dev} {p : Nat} {counted : Bool} (h : d.MemOk) : (d.portStop p counted).MemOk := h.modPort.dropTx.dropTx.dropTx

theorem Dev.MemOk.preemptHoldRaiseCmd {p : Nat} {d : Dev} (h : d.MemOk) : (preemptHoldRaise p d).MemOk := by
  unfold preemptHoldRaise
  split
  · split
    · exact h
    · extract_lets d1 d2
      have hd1 : d1.MemOk := h.waitLocal
      have hd2 : d2.MemOk := hd1.modPort.inc
      exact hd2.askCut
  · exact h

theorem Dev.MemOk.preemptHoldReleaseCmd {p : Nat} {d : Dev} (h : d.MemOk) : (preemptHoldRelease p d).MemOk := by
  unfold preemptHoldRelease
  extract_lets due first
  clear_value first
  split
  · exact h
  · exact h.waitLocal.modPort.choose

theorem Dev.MemOk.verifyOff {d : Dev} {p : Nat} (h : d.MemOk) : (d.verifyOff p).MemOk := h.modPort.sf

theorem Dev.MemOk.nestSync {d : Dev} {p : Nat} (h : d.MemOk) : (d.nestSync p).MemOk := h.modPort

theorem Dev.MemOk.nestEval {d : Dev} {p : Nat} (h : d.MemOk) : (d.nestEval p).MemOk := .ite h.modPort.sf.sb (.ite h.modPort.sf.sb h)

theorem Dev.MemOk.preEval {d : Dev} {p : Nat} (h : d.MemOk) : (d.preEval p).MemOk :=
  .nestSync (.nestEval (.sb (.ite h.verifyOff (.ite (.ite h.sf h.modPort.sf) h))))

theorem Dev.MemOk.wrPreCfg {d : Dev} {p : Nat} {v : Word} (h : d.MemOk) : (d.wrPreCfg p v).MemOk := by
  unfold Dev.wrPreCfg
  extract_lets a held d1 off d2 d3
  have hd1 : d1.MemOk := h.wrReg
  have hd2 : d2.MemOk := .ite hd1.verifyOff.sb hd1
  have hd3 : d3.MemOk := .ite hd2.nestEval (.ite hd2.sf hd2)
  exact .ite h (.ite hd3.preEval h.outOfRange)

theorem Dev.MemOk.wrClassMap {d : Dev} {p : Nat} {v : Word} (h : d.MemOk) : (d.wrClassMap p v).MemOk := .ite h (.ite h.outOfRange h.wrReg)

theorem Dev.MemOk.verifyTimeoutCmd {p : Nat} {d : Dev} (h : d.MemOk) : (verifyTimeout p d).MemOk := by
  unfold verifyTimeout
  split
  · exact h
  · extract_lets d1
    have hd1 : d1.MemOk := h.waitUp.modPort
    exact .ite (.ite hd1.sf hd1.sf.inc.raise.preEval) h

theorem Dev.MemOk.announceTimeoutCmd {p : Nat} {d : Dev} (h : d.MemOk) : (announceTimeout p d).MemOk := by
  unfold announceTimeout
  split
  · exact h
  · extract_lets seen d1
    have hd1 : d1.MemOk := h.waitUp.modPort
    exact .ite (.ite (.ite hd1.sf.raise hd1) (.ite h.waitUp.modPort h)) h

theorem Dev.MemOk.reasmTimeoutCmd {p : Nat} {express : Bool} {d : Dev} (h : d.MemOk) : (reasmTimeout p express d).MemOk := by
  unfold reasmTimeout
  split
  · exact h
  · exact h.waitUp.modPort.inc

theorem Dev.MemOk.pauseExpiryCmd {p : Nat} {d : Dev} (h : d.MemOk) : (pauseExpiry p d).MemOk := by
  unfold pauseExpiry
  split
  · exact h
  · exact h.waitUp.modPort.sb.choose

theorem Dev.MemOk.pauseRepeatCmd {p : Nat} {d : Dev} (h : d.MemOk) : (pauseRepeat p d).MemOk := .ite h.waitUp.modPort.chooseOf h

theorem Dev.MemOk.lpiEntryCmd {p : Nat} {d : Dev} (h : d.MemOk) : (lpiEntry p d).MemOk := .ite h.waitUp.modPort.sb.inc h

theorem Dev.MemOk.lpiWakeCmd {p : Nat} {d : Dev} (h : d.MemOk) : (lpiWake p d).MemOk := by
  unfold lpiWake
  split
  · exact h
  · extract_lets tw d0 d1
    have hd0 : d0.MemOk := by
      unfold d0
      split
      · split
        · exact .ite h.waitLocal h
        · exact h
      · exact h
    have hd1 : d1.MemOk := hd0.modPort
    exact hd1.sb.addCnt

theorem Dev.MemOk.rxLpiCmd {p : Nat} {enter : Bool} {d : Dev} (h : d.MemOk) : (rxLpi p enter d).MemOk := .ite h (.ite h.sb.inc h.sb)

/-! Instances of launches (chapter 3). -/

theorem Dev.MemOk.modInst {d : Dev} {i : Inst} {g : Inst → Inst} (h : d.MemOk) : (d.modInst i g).MemOk := h.upd

theorem Dev.MemOk.dropLaunch {d : Dev} {l : Launch} (h : d.MemOk) : (d.dropLaunch l).MemOk := h.upd

theorem Dev.MemOk.copyLost {d : Dev} {l : Launch} {st cause : Nat} (h : d.MemOk) : (d.copyLost l st cause).MemOk := by
  unfold Dev.copyLost
  split
  · exact h
  · extract_lets unread i1 d1 src d2
    have hd1 : d1.MemOk := h.modInst.copyEnd
    split
    · exact hd1
    · have hd2 : d2.MemOk := hd1.upd
      split
      · exact hd2.dropFrame
      · exact hd2

theorem Dev.MemOk.releaseAt {d : Dev} {p l : Nat} (h : d.MemOk) : (d.releaseAt p l).MemOk := h.modPort

theorem Dev.MemOk.lateDiscard {d : Dev} {l : Launch} {cause : Nat} (h : d.MemOk) : (d.lateDiscard l cause).MemOk :=
  .dropLaunch (.copyLost (.releaseAt (.ite h.inc.strCount h.inc.strCount.wr)))

theorem Dev.MemOk.noFrame {d : Dev} {l : Launch} {st : Nat} (h : d.MemOk) : (d.noFrame l st).MemOk := h.releaseAt.copyLost.dropLaunch

theorem Dev.MemOk.dropSliceLaunches {d : Dev} {s : Nat} (h : d.MemOk) : (d.dropSliceLaunches s).MemOk :=
  .foldl h fun _ _ h1 => h1.copyLost.dropLaunch

theorem Dev.MemOk.dropStopped {d : Dev} {bs : Nat} (h : d.MemOk) : (d.dropStopped bs).MemOk := by
  unfold Dev.dropStopped
  refine .foldl h fun _ _ h1 => ?_
  split
  · exact .ite h1.lateDiscard h1.noFrame
  · exact h1.noFrame

/-! Submission entries read (chapter 10). -/

theorem Dev.MemOk.pumpSq {d : Dev} {q : Nat} (h : d.MemOk) : (d.pumpSq q).MemOk := by
  unfold Dev.pumpSq
  split
  · exact h
  · split
    · split
      · exact .ite h h.modSq.sb.inc
      · split
        · rename_i _ h1
          have h2 := Dev.MemOk.of2 h.xlate h1
          extract_lets d2
          have hd2 : d2.MemOk := h2.modSq
          exact .ite hd2 hd2.hostRead
        · rename_i _ h3
          have h4 := Dev.MemOk.of2 h.xlate h3
          exact h4.modSq
    · exact h

theorem Dev.MemOk.pumpTrackers {d : Dev} (h : d.MemOk) : d.pumpTrackers.MemOk := .ite (.sb (.foldl h fun _ _ h1 => h1.pumpSq)) h

theorem Dev.MemOk.pumpAll {d : Dev} (h : d.MemOk) : d.pumpAll.MemOk := .foldl h fun _ _ h1 => h1.pumpSq

theorem Dev.MemOk.takeEntry {d : Dev} {q : Nat} {e : Sqe} (h : d.MemOk) : (d.takeEntry q e).MemOk := h.modSq

theorem Dev.MemOk.endAbandoned {d : Dev} {q n : Nat} (h : d.MemOk) : (d.endAbandoned q n).MemOk := by
  unfold Dev.endAbandoned
  split
  · extract_lets d1 src
    have hd1 : d1.MemOk := by
      unfold d1
      split
      · exact h.endSqe
      · exact h.endSqe
    exact .ite h hd1.upd
  · exact h

theorem Dev.MemOk.entryUnread {d : Dev} {q st : Nat} (h : d.MemOk) : (d.entryUnread q st).MemOk := by
  unfold Dev.entryUnread
  split
  · exact h
  · extract_lets e
    exact h.takeEntry.modSq.endSqe

theorem Dev.MemOk.sqEntryFetchedCmd {q : Nat} {ws : List Word} {d : Dev} (h : d.MemOk) : (sqEntryFetched q ws d).MemOk := by
  unfold sqEntryFetched
  split
  · exact h
  · extract_lets e0 e d1 d2
    have hd1 : d1.MemOk := h.takeEntry
    have hd2 : d2.MemOk := .ite hd1.inc.endSqe (.ite hd1.endSqe (.ite hd1.endAbandoned hd1))
    exact .ite h.entryUnread (.ite hd2.pumpSq h)

end Sys2Proof.Machine
end

section
/-! ### Memory in canonical form: the DMA engine and time (O5) -/

namespace Sys2Proof.Machine

/-! The DMA engine (chapter 11). -/

theorem Dev.MemOk.modChan {d : Dev} {c : Nat} {g : Chan → Chan} (h : d.MemOk) : (d.modChan c g).MemOk := h.upd

theorem Dev.MemOk.setCh {d : Dev} {c st : Nat} (h : d.MemOk) : (d.setCh c st).MemOk := h.sf

theorem Dev.MemOk.modRing {d : Dev} {r : Nat} {g : DmaRing → DmaRing} (h : d.MemOk) : (d.modRing r g).MemOk := h.upd.sf.sb

theorem Dev.MemOk.xlateRun {d : Dev} {f : Nat} {want : Want} {pasid : Option Nat} {write : Bool} {fuel a left acc : Nat} (h : d.MemOk) :
    (d.xlateRun f want pasid write fuel a left acc).2.MemOk := by
  induction fuel generalizing d a left acc with
  | zero => exact h
  | succ fuel ih =>
    have hx : ∀ n, (d.xlate f want pasid a n write).2.MemOk := fun n => h.xlate
    rw [Dev.xlateRun]
    by_cases h0 : left = 0
    · rw [if_pos h0]
      exact h
    · rw [if_neg h0]
      extract_lets n
      split
      · rename_i d1 he
        exact ih (.of2 (hx _) he)
      · rename_i d1 he
        exact .of2 (hx _) he

theorem Dev.MemOk.dmaReads {d : Dev} {c k a n : Nat} (h : d.MemOk) : (d.dmaReads c k a n).MemOk :=
  .ite (.foldl h fun _ _ h1 => h1.hostRead) h.hostReads

theorem Dev.MemOk.dmaWrites {d : Dev} {c a : Nat} {data : List Byte} (h : d.MemOk) : (d.dmaWrites c a data).MemOk :=
  .ite (.foldl h fun _ _ h1 => h1.hostWrite) h.hostWrites

theorem Dev.MemOk.dmaSend {d : Dev} {c k a n : Nat} (h : d.MemOk) : (d.dmaSend c k a n).MemOk :=
  .ite h.modChan.modChan (.ite h.modChan.modChan.dmaReads h.modChan.dmaWrites.modChan)

theorem Dev.MemOk.dmaIssueRun {d : Dev} {c k n : Nat} (h : d.MemOk) : (d.dmaIssueRun c k n).MemOk := by
  unfold Dev.dmaIssueRun
  extract_lets x a write
  split
  · exact h
  · split
    · exact h.dmaSend
    · split
      · exact h
      · split
        · split
          · rename_i _ h1
            have h2 := Dev.MemOk.of2 h.xlate h1
            exact h2.dmaSend
          · rename_i _ h3
            have h4 := Dev.MemOk.of2 h.xlate h3
            exact h4
        · split
          · rename_i _ h5
            have h6 := Dev.MemOk.of2 h.xlateRun h5
            exact .ite h6 h6.dmaSend

theorem Dev.MemOk.dmaIssueGather {d : Dev} {c n : Nat} (h : d.MemOk) : (d.dmaIssueGather c n).MemOk := by
  induction n generalizing d with
  | zero => exact h
  | succ n ih => exact ih h.dmaIssueRun

theorem Dev.MemOk.dmaIssue {d : Dev} {c k : Nat} (h : d.MemOk) : (d.dmaIssue c k).MemOk := .ite h.dmaIssueGather h.dmaIssueRun

theorem Dev.MemOk.dmaIssueDesc {d : Dev} {c : Nat} (h : d.MemOk) : (d.dmaIssueDesc c).MemOk := by
  unfold Dev.dmaIssueDesc
  extract_lets x a
  split
  · exact h
  · split
    · exact h.modChan
    · split
      · exact h
      · split
        · rename_i _ h1
          have h2 := Dev.MemOk.of2 h.xlate h1
          exact h2.modChan.hostRead
        · rename_i _ h3
          have h4 := Dev.MemOk.of2 h.xlate h3
          exact h4

theorem Dev.MemOk.dmaPump {d : Dev} {c : Nat} (h : d.MemOk) : (d.dmaPump c).MemOk :=
  .ite h (.ite h.dmaIssueDesc.dmaIssue.dmaIssue.dmaIssue.dmaIssue (.ite h.dmaIssue.dmaIssue.dmaIssue h))

theorem Dev.MemOk.dmaUnit {d : Dev} {c : Nat} (h : d.MemOk) : (d.dmaUnit c).MemOk := by
  unfold Dev.dmaUnit
  extract_lets x
  split
  · exact h
  · extract_lets n
    exact .ite h.dmaIssueGather h.dmaIssueRun

theorem Dev.MemOk.dmaTurn {d : Dev} {c : Nat} (h : d.MemOk) : (d.dmaTurn c).MemOk := .ite (.foldl h fun _ _ h1 => h1.dmaUnit) h

theorem Dev.MemOk.dmaShare {n : Nat} {l : List Nat} {d : Dev} (h : d.MemOk) : (Dev.dmaShare n l d).MemOk := by
  induction n generalizing d with
  | zero => exact h
  | succ n ih =>
    have h1 : (l.foldl (fun (x : Dev) c => x.dmaTurn c) d).MemOk := .foldl h fun _ _ hx => hx.dmaTurn
    rw [Dev.dmaShare]
    exact .ite h1 (ih h1)

theorem Dev.MemOk.ringWrite {d : Dev} {c r : Nat} {ws : List Word} (h : d.MemOk) : (d.ringWrite c r ws).2.MemOk := by
  unfold Dev.ringWrite
  extract_lets x log a pf pasid
  split
  · exact h
  · split
    · split
      · exact h.stWs
      · exact h.sb
    · split
      · split
        · rename_i _ h1
          have h2 := Dev.MemOk.of2 h.xlate h1
          exact h2.hostWrite
        · rename_i _ h3
          have h4 := Dev.MemOk.of2 h.xlate h3
          exact h4
      · exact h

theorem Dev.MemOk.ringFire {d : Dev} {r : Nat} (h : d.MemOk) : (d.ringFire r).MemOk := .ite h.fire h

theorem Dev.MemOk.postRing {d : Dev} {c r : Nat} {q : DmaRec} (h : d.MemOk) : (d.postRing c r q).2.MemOk := by
  have hw : ∀ w, (d.ringWrite c r w).2.MemOk := fun w => h.ringWrite
  unfold Dev.postRing
  extract_lets x wait
  split
  · exact h
  · split
    · exact .snd (.modRing (.ite h.sb.modRing h.sb.modRing.ringFire))
    · split
      · rename_i d1 he
        have h1 := Dev.MemOk.of2 (hw _) he
        exact .snd (.ite h1.modRing.ringFire h1.modRing)
      · rename_i d1 he
        exact .snd (.modRing (.of2 (hw _) he))

theorem Dev.MemOk.postDmaCq {d : Dev} {c q : Nat} {r : DmaRec} {turn : Bool} (h : d.MemOk) : (d.postDmaCq c q r turn).2.MemOk := by
  unfold Dev.postDmaCq
  split
  · exact h
  · split
    · exact h
    · split
      · exact h.waitCq.pmeCheck
      · split
        · exact h.overflow.waitCq
        · split
          · exact h.waitCq
          · split
            · rename_i _ h1
              have h2 := Dev.MemOk.of2 h.xlate h1
              exact h2.putCqe
            · rename_i _ h3
              have h4 := Dev.MemOk.of2 h.xlate h3
              exact h4.waitCq

theorem Dev.MemOk.postRec {d : Dev} {c : Nat} {r : DmaRec} {turn : Bool} (h : d.MemOk) : (d.postRec c r turn).2.MemOk := by
  unfold Dev.postRec
  extract_lets t
  split
  · exact h
  · split
    · exact h.postRing
    · exact h.postDmaCq

theorem Dev.MemOk.dmaDropWaits {d : Dev} {c : Nat} {all : Bool} (h : d.MemOk) : (d.dmaDropWaits c all).MemOk := h.upd

theorem Dev.MemOk.dmaFail {d : Dev} {c k o addr kind : Nat} (h : d.MemOk) : (d.dmaFail c k o addr kind).MemOk := h.modChan.dmaDropWaits.atsGo

theorem Dev.MemOk.blur {d : Dev} {a n : Nat} (h : d.MemOk) : (d.blur a n).MemOk := h.upd.stN

theorem Dev.MemOk.dmaBlur {d : Dev} {c : Nat} {e : DmaErr} (h : d.MemOk) : (d.dmaBlur c e).MemOk := .ite h.blur h

theorem Dev.MemOk.dmaLatch {d : Dev} {c : Nat} {e : DmaErr} (h : d.MemOk) : (d.dmaLatch c e).MemOk := h.dmaBlur.wr.wr.modChan.inc.raise

theorem Dev.MemOk.dmaHandover {d : Dev} {c : Nat} (h : d.MemOk) : (d.dmaHandover c).MemOk :=
  h.wr.wr.sf.sb.sf.sb.setCh.dmaDropWaits.atsGo.modChan

theorem Dev.MemOk.dmaIdle {d : Dev} {c : Nat} (h : d.MemOk) : (d.dmaIdle c).MemOk := h.dmaDropWaits.atsGo.modChan.setCh

theorem Dev.MemOk.dmaSettled {d : Dev} {c : Nat} (h : d.MemOk) : (d.dmaSettled c).MemOk := h.dmaDropWaits.atsGo

theorem Dev.MemOk.dmaBoundary {d : Dev} {c : Nat} (h : d.MemOk) : (d.dmaBoundary c).MemOk :=
  .ite h.dmaHandover (.ite (.ite h.dmaHandover h.dmaIdle) h.dmaSettled.sf.modChan.setCh)

theorem Dev.MemOk.dmaLoad {d : Dev} {c : Nat} (h : d.MemOk) : (d.dmaLoad c).MemOk := .ite h.modChan.dmaFail h.modChan

theorem Dev.MemOk.dmaSync {d : Dev} {c : Nat} (h : d.MemOk) : (d.dmaSync c).MemOk := .ite h.setCh.inc (.ite h.setCh h)

theorem Dev.MemOk.afterRec {d : Dev} {c : Nat} {halt : Bool} (h : d.MemOk) : (d.afterRec c halt).MemOk := .ite h.setCh h.dmaBoundary

theorem Dev.MemOk.dmaRecord {d : Dev} {c : Nat} {r : DmaRec} (h : d.MemOk) : (d.dmaRecord c r).MemOk := by
  unfold Dev.dmaRecord
  split
  · rename_i _ h1
    have h2 := Dev.MemOk.of2 h.postRec h1
    exact h2.afterRec
  · rename_i _ h3
    have h4 := Dev.MemOk.of2 h.postRec h3
    exact h4.modChan.setCh

theorem Dev.MemOk.dmaFinish {d : Dev} {c : Nat} (h : d.MemOk) : (d.dmaFinish c).MemOk := .ite h.inc.addCnt.dmaRecord h.inc.addCnt.dmaBoundary

theorem Dev.MemOk.dmaUnwait {d : Dev} {c : Nat} (h : d.MemOk) : (d.dmaUnwait c).MemOk := h.upd

theorem Dev.MemOk.abortDrop {d : Dev} {c : Nat} (h : d.MemOk) : (d.abortDrop c).MemOk := h.dmaUnwait.inc.modChan

theorem Dev.MemOk.dmaStopped {d : Dev} {c : Nat} (h : d.MemOk) : (d.dmaStopped c).MemOk := by
  unfold Dev.dmaStopped
  extract_lets x
  split
  · exact h.dmaIdle
  · split
    · exact h.abortDrop.dmaIdle
    · split
      · rename_i _ h1
        have h2 := Dev.MemOk.of2 h.postRec h1
        exact h2.dmaIdle
      · rename_i _ h3
        have h4 := Dev.MemOk.of2 h.postRec h3
        exact .ite h4 h4.abortDrop.dmaIdle

theorem Dev.MemOk.dmaGo {n : Nat} {d : Dev} {c : Nat} (h : d.MemOk) : (Dev.dmaGo n d c).MemOk := by
  induction n generalizing d with
  | zero => exact h
  | succ n ih =>
    rw [Dev.dmaGo]
    refine .ite h (.ite (.ite h h.dmaStopped) (.ite h ?_))
    extract_lets d1 x
    clear_value x
    have h1 : d1.MemOk := h.dmaPump.dmaSync
    split
    · exact .ite h1 h1.dmaLatch.dmaRecord
    · exact .ite (.ite (ih h1.dmaLoad) (.ite (ih h1.modChan.dmaFail) h1)) (.ite (ih h1.dmaFinish) h1)

theorem Dev.MemOk.dmaRun {d : Dev} {c : Nat} (h : d.MemOk) : (d.dmaRun c).MemOk := h.dmaGo

theorem Dev.MemOk.dmaRelease {d : Dev} {c : Nat} {pop : Dev → Dev} (h : d.MemOk) (hf : ∀ x, x.MemOk → (pop x).MemOk) :
    (d.dmaRelease c pop).2.MemOk := by
  unfold Dev.dmaRelease
  split
  · extract_lets d1
    have hd1 : d1.MemOk := (hf _ h).dmaRun
    split
    · exact hd1
    · exact hd1
  · split
    · exact hf _ h
    · split
      · rename_i _ h1
        have h2 := Dev.MemOk.of2 h.postRec h1
        exact (((hf _ h2).modChan).afterRec).dmaRun
      · rename_i _ h3
        have h4 := Dev.MemOk.of2 h.postRec h3
        exact h4

theorem Dev.MemOk.dmaTargetLost {d : Dev} {q : Nat} (h : d.MemOk) : (d.dmaTargetLost q).MemOk := .foldl h fun _ _ h1 => .ite h1.sb.modChan h1

theorem Dev.MemOk.dmaRunAll {d : Dev} (h : d.MemOk) : d.dmaRunAll.MemOk := .foldl h.dmaShare fun _ _ h1 => h1.dmaRun

/-! The servo, steps, PTM and time pins (chapter 2). -/

theorem Dev.MemOk.squelch {d : Dev} (h : d.MemOk) : d.squelch.MemOk := h.upd

theorem Dev.MemOk.setTimState {d : Dev} {st : Nat} (h : d.MemOk) : (d.setTimState st).MemOk := .squelch (.ite h.sf.sb h.sf)

theorem Dev.MemOk.enterAcquire {d : Dev} (h : d.MemOk) : d.enterAcquire.MemOk := h.setTimState.upd

theorem Dev.MemOk.restamp {d : Dev} {x : Int} (h : d.MemOk) : (d.restamp x).MemOk := .ite h.upd.wr h.upd

theorem Dev.MemOk.setLocal {d : Dev} {x : Nat} (h : d.MemOk) : (d.setLocal x).MemOk := h.upd.restamp.afterStep

theorem Dev.MemOk.stepBy {d : Dev} {x : Int} (h : d.MemOk) : (d.stepBy x).MemOk := h.setLocal

theorem Dev.MemOk.slewBy {d : Dev} {x : Int} (h : d.MemOk) : (d.slewBy x).MemOk := h.upd.sb

theorem Dev.MemOk.undoCorrection {d : Dev} (h : d.MemOk) : d.undoCorrection.MemOk := .ite h.upd.sb h

theorem Dev.MemOk.stepAccepted {d : Dev} (h : d.MemOk) : d.stepAccepted.MemOk :=
  .ite h.undoCorrection.sb.upd.enterAcquire h.undoCorrection.sb.upd

theorem Dev.MemOk.stepRefused {d : Dev} (h : d.MemOk) : d.stepRefused.MemOk := h.sb.inc

theorem Dev.MemOk.freeDiv {d : Dev} {a b : Int} (h : d.MemOk) : (d.freeDiv a b).2.MemOk := by
  unfold Dev.freeDiv
  split
  · exact h
  · exact h.useFree

theorem Dev.MemOk.theta48 {d : Dev} {x : Int} (h : d.MemOk) : (d.theta48 x).2.MemOk := by
  unfold Dev.theta48
  split
  · exact h
  · exact h.useFree

theorem Dev.MemOk.correctPhase {d : Dev} {theta : Int} (h : d.MemOk) : (d.correctPhase theta).MemOk :=
  .ite h.upd (.upd (.ite (.stepBy (.ite h.upd h)) (.slewBy (.ite h.upd h))))

theorem Dev.MemOk.rateUpdate {d : Dev} {theta : Int} (h : d.MemOk) : (d.rateUpdate theta).MemOk := h.freeDiv.freeDiv.sf.sf.upd

theorem Dev.MemOk.applySample {d : Dev} {theta : Int} (h : d.MemOk) : (d.applySample theta).MemOk := .ite h.correctPhase h.rateUpdate

theorem Dev.MemOk.acquireSample {d : Dev} {theta : Int} (h : d.MemOk) : (d.acquireSample theta).MemOk :=
  .ite h.applySample.upd.upd.setTimState h.applySample.upd

theorem Dev.MemOk.servoSample {d : Dev} {theta : Int} (h : d.MemOk) : (d.servoSample theta).MemOk := by
  unfold Dev.servoSample
  split
  · exact h.enterAcquire.acquireSample
  · exact h.acquireSample
  · extract_lets d1 src src'
    have hd1 : d1.MemOk := h.applySample
    exact .ite hd1.upd (.ite h.upd.inc h.enterAcquire.acquireSample)
  · extract_lets d1 src src'
    have hd1 : d1.MemOk := h.sb
    have hsrc : src.MemOk := hd1.applySample
    exact .ite hsrc.upd.setTimState hd1.enterAcquire.acquireSample

theorem Dev.MemOk.rejectSample {d : Dev} (h : d.MemOk) : d.rejectSample.MemOk := h.sb.inc

theorem Dev.MemOk.acceptSample {d : Dev} {theta : Int} (h : d.MemOk) : (d.acceptSample theta).MemOk := h.sf.sf.upd.servoSample

theorem Dev.MemOk.sampleIn {d : Dev} {theta : Int} (h : d.MemOk) : (d.sampleIn theta).MemOk := by
  unfold Dev.sampleIn
  split
  · exact .ite h.rejectSample h.acceptSample
  · exact h.acceptSample

theorem Dev.MemOk.sourceSample {d : Dev} {src : Nat} {theta : Int} (h : d.MemOk) : (d.sourceSample src theta).MemOk := .ite h.sampleIn h

theorem Dev.MemOk.wrServoIn {d : Dev} {v : Word} (h : d.MemOk) : (d.wrServoIn v).MemOk := .ite h.sampleIn h.rejectSample

theorem Dev.MemOk.wrTimCtl {d : Dev} {v : Word} (h : d.MemOk) : (d.wrTimCtl v).MemOk :=
  .ite h.outOfRange (.ite h.sf.setTimState (.ite h.sf.enterAcquire h.sf))

theorem Dev.MemOk.wrTimAdj {d : Dev} {v : Word} (h : d.MemOk) : (d.wrTimAdj v).MemOk :=
  .ite (.ite h.wrReg.slewBy (.ite h.wrReg.stepAccepted.stepBy h.wrReg.stepRefused)) h.wrReg

theorem Dev.MemOk.wrTimSetNs {d : Dev} {v : Word} (h : d.MemOk) : (d.wrTimSetNs v).MemOk :=
  .ite (.ite (.ite h.wrReg.stepAccepted.setLocal h.wrReg.stepRefused) h.wrReg) h.outOfRange

theorem Dev.MemOk.wrPinCfg {d : Dev} {a : Nat} {v : Word} (h : d.MemOk) : (d.wrPinCfg a v).MemOk := h.wrReg.squelch

theorem Dev.MemOk.wrTsShim {d : Dev} {p : Nat} {v : Word} (h : d.MemOk) : (d.wrTsShim p v).MemOk := h.wrReg.sb.sb

theorem Dev.MemOk.sourceTimeoutCmd {d : Dev} (h : d.MemOk) : (sourceTimeout d).MemOk :=
  .ite (.ite h.waitUp.sb.raise.setTimState h.waitUp.sb.raise.sf.inc.upd.setTimState) h

theorem Dev.MemOk.holdoverExpiryCmd {d : Dev} (h : d.MemOk) : (holdoverExpiry d).MemOk := .ite h.waitUp.sb.raise.squelch h

theorem Dev.MemOk.slewCompleteCmd {d : Dev} (h : d.MemOk) : (slewComplete d).MemOk := by
  unfold slewComplete
  split
  · exact .ite h h.clocks
  · exact h

theorem Dev.MemOk.ptmIssue {d : Dev} (h : d.MemOk) : d.ptmIssue.MemOk := .ite h.upd.emit h

theorem Dev.MemOk.ptmStop {d : Dev} (h : d.MemOk) : d.ptmStop.MemOk := h.upd.sb

theorem Dev.MemOk.wrPtmCtl {d : Dev} {v : Word} (h : d.MemOk) : (d.wrPtmCtl v).MemOk :=
  .ite (.ite (.ptmIssue (.ite h.wrReg.upd h.wrReg)) (.ite h.wrReg.upd h.wrReg)) h.outOfRange

theorem Dev.MemOk.ptmPeriodTimerCmd {d : Dev} (h : d.MemOk) : (ptmPeriodTimer d).MemOk := .ite h.waitUp.upd.ptmIssue h

theorem Dev.MemOk.ptmResponseCmd {tm : Word} {delay : BitVec 32} {d : Dev} (h : d.MemOk) : (ptmResponse tm delay d).MemOk := by
  unfold ptmResponse
  split
  · exact h
  · extract_lets d1 d2 src d3 th
    have hd1 : d1.MemOk := h.wr.wr
    have hd2 : d2.MemOk := hd1.sf.sf
    have hd3 : d3.MemOk := hd2.upd.sb
    have hth : th.2.MemOk := hd3.theta48
    exact hth.sourceSample

theorem Dev.MemOk.ptmTimeoutCmd {d : Dev} (h : d.MemOk) : (ptmTimeout d).MemOk := by
  unfold ptmTimeout
  split
  · exact h
  · extract_lets d0 src d1
    have hd0 : d0.MemOk := h.waitUp
    have hd1 : d1.MemOk := hd0.upd.inc
    exact .ite hd1.sb hd1

theorem Dev.MemOk.ppsInEdgeCmd {rising : Bool} {heldNs : Nat} {d : Dev} (h : d.MemOk) : (ppsInEdge rising heldNs d).MemOk :=
  .ite (.ite h.inc h.wr.upd.sourceSample) h

theorem Dev.MemOk.ppsOutEdgeCmd {clk rise : Bool} {d : Dev} (h : d.MemOk) : (ppsOutEdge clk rise d).MemOk := by
  unfold ppsOutEdge
  extract_lets x d1 src d1' src' d1'2 src'2 d1'3 src'3
  have hd1 : d1.MemOk := h.waitLocal
  have hd1' : d1'.MemOk := h.waitUp
  have hd1'2 : d1'2.MemOk := h.waitLocal
  have hd1'3 : d1'3.MemOk := h.waitUp
  exact .ite (.ite (.squelch (.ite h.waitUp h)) (.ite (.ite h hd1.upd) (.ite hd1'.upd h)))
    (.ite h.squelch (.ite (.ite h hd1'2.upd) (.ite hd1'3.upd h)))

end Sys2Proof.Machine
end

section
/-! ### Memory in canonical form: host queues and admin queues (O5) -/

namespace Sys2Proof.Machine

/-! Doorbells, entry commands, interrupts, link states (chapter 10). -/

theorem Dev.MemOk.doorbellBad {d : Dev} {f slot : Nat} (h : d.MemOk) : (d.doorbellBad f slot).MemOk := .inc (.ite h.upd.syncQ h)

theorem Dev.MemOk.sqDoorbellCmd {f slot v : Nat} {d : Dev} (h : d.MemOk) : (sqDoorbell f slot v d).MemOk := by
  unfold sqDoorbell
  split
  · exact h
  · split
    · exact h.doorbellBad
    · extract_lets h'
      exact .ite h.doorbellBad h.modSq.pumpSq

theorem Dev.MemOk.writeHead {d : Dev} {q : Nat} (h : d.MemOk) : (d.writeHead q).2.MemOk := by
  unfold Dev.writeHead
  split
  · exact h
  · split
    · split
      · exact h
      · split
        · split
          · exact h.cqFail
          · split
            · rename_i _ h1
              have h2 := Dev.MemOk.of2 h.xlate h1
              exact h2.postSqe.dropHead
            · rename_i _ h3
              have h4 := Dev.MemOk.of2 h.xlate h3
              exact h4
        · exact h.dropHead
    · exact h

theorem Dev.MemOk.popOrder {d : Dev} {c : Nat} (h : d.MemOk) : (d.popOrder c).MemOk := h.modCq

theorem Dev.MemOk.pumpFeeders {d : Dev} {c : Nat} (h : d.MemOk) : (d.pumpFeeders c).MemOk := .foldl h fun _ _ h1 => h1.pumpSq

theorem Dev.MemOk.drainGo {n : Nat} {d : Dev} {c : Nat} (h : d.MemOk) : (Dev.drainGo n d c).MemOk := by
  induction n generalizing d with
  | zero => exact h
  | succ n ih =>
    rw [Dev.drainGo]
    split
    · exact h
    · split
      · exact .ite h.modCq.pumpFeeders h
      · rename_i who t ho
        have hr : (d.dmaRelease (who - 65536) (fun y => y.popOrder c)).2.MemOk := h.dmaRelease fun _ hy => hy.popOrder
        have hw : (d.writeHead who).2.MemOk := h.writeHead
        refine .ite h (.ite ?_ (.ite (ih h.popOrder) ?_))
        · split
          · rename_i d1 he
            exact ih (.of2 hr he)
          · rename_i d1 he
            exact .of2 hr he
        · split
          · rename_i d1 he
            have h1 : d1.MemOk := .of2 hw he
            exact ih (.ite h1.popOrder.waitCq h1.popOrder)
          · rename_i d1 he
            exact .of2 hw he

theorem Dev.MemOk.drainCq {d : Dev} {c : Nat} (h : d.MemOk) : (d.drainCq c).MemOk := h.drainGo

theorem Dev.MemOk.cqDoorbellCmd {f slot v : Nat} {d : Dev} (h : d.MemOk) : (cqDoorbell f slot v d).MemOk := by
  unfold cqDoorbell
  split
  · exact h
  · split
    · exact h.doorbellBad
    · extract_lets rel
      exact .ite h.doorbellBad h.modCq.drainCq.pumpTrackers

theorem Dev.MemOk.runNopCmd {q : Nat} {d : Dev} (h : d.MemOk) : (runNop q d).MemOk := by
  unfold runNop
  split
  · exact h.endSqe
  · exact h

theorem Dev.MemOk.runRxBufCmd {q : Nat} {d : Dev} (h : d.MemOk) : (runRxBuf q d).MemOk := by
  unfold runRxBuf
  split
  · exact h.modSqe
  · exact h

theorem Dev.MemOk.entrySeq {d : Dev} {e : Sqe} {f : Frame} (h : d.MemOk) : (d.entrySeq e f).2.MemOk := by
  unfold Dev.entrySeq
  split
  · exact h
  · exact h.assignSeq
  · exact h

theorem Dev.MemOk.placeFrame {d : Dev} {q : Nat} {e : Sqe} {f : Frame} (h : d.MemOk) : (d.placeFrame q e f).MemOk := by
  unfold Dev.placeFrame
  extract_lets r
  split
  · rename_i _ h1
    have h2 := Dev.MemOk.of2 (h.entrySeq.newFrame) h1
    extract_lets d2 src
    have hd2 : d2.MemOk := h2.modSqe
    exact .ite hd2.upd hd2.enqueue.purge

theorem Dev.MemOk.readFrame {d : Dev} {q n : Nat} {head : List Byte} (h : d.MemOk) : (d.readFrame q n head).MemOk := by
  unfold Dev.readFrame
  split
  · extract_lets cut
    split
    · exact h
    · split
      · exact h.endSqe
      · split
        · rename_i _ h1
          have h2 := Dev.MemOk.of2 h.xlate h1
          exact h2
        · rename_i _ h3
          have h4 := Dev.MemOk.of2 h.xlate h3
          extract_lets d2 l
          have hd2 : d2.MemOk := .modSqe (.ite h4 h4.hostReads)
          exact .ite hd2.placeFrame hd2
  · exact h

theorem Dev.MemOk.runSendCmd {q opc : Nat} {head : List Byte} {d : Dev} (h : d.MemOk) : (runSend q opc head d).MemOk := by
  unfold runSend
  split
  · exact h
  · extract_lets d1 d2 bar
    have hd1 : d1.MemOk := h.modSqe
    have hd2 : d2.MemOk := .ite hd1.readRec hd1
    exact .ite hd2.readFrame hd2.countBar.endSqe

theorem Dev.MemOk.runSendSchedCmd {q : Nat} {d : Dev} (h : d.MemOk) : (runSendSched q d).MemOk := by
  unfold runSendSched
  split
  · exact h
  · exact h.modSqe.readFrame

theorem Dev.MemOk.mapTx {d : Dev} {id : Nat} {g : Nat → Bool → Tx → Tx} (h : d.MemOk) : (d.mapTx id g).MemOk :=
  .foldl h fun _ _ h1 => .ite h1.modPort h1

theorem Dev.MemOk.faultFrame {d : Dev} {id : Nat} (h : d.MemOk) : (d.faultFrame id).MemOk := by
  unfold Dev.faultFrame
  split
  · exact h
  · extract_lets d1 started hand d2 d3 src
    have hd1 : d1.MemOk := h.setFrame
    have hd2 : d2.MemOk := hd1.mapTx
    have hd3 : d3.MemOk := by
      unfold d3
      refine .foldl hd2 fun _ _ h1 => .ite h1 ?_
      extract_lets y
      have hy : y.MemOk := h1.modPort
      split
      · exact hy.setFrame
      · exact hy
    exact hd3.upd.reap

theorem Dev.MemOk.hostFrameFetchedCmd {q n : Nat} {octets : List Byte} {d : Dev} (h : d.MemOk) : (hostFrameFetched q n octets d).MemOk := by
  unfold hostFrameFetched
  split
  · extract_lets l d1 src
    have hd1 : d1.MemOk := h.modSqe
    split
    · exact h
    · split
      · split
        · split
          · rename_i _ h1
            have h2 := Dev.MemOk.of2 h.xlate h1
            extract_lets f1
            exact h2.setFrame.mapTx.modSqe
          · rename_i _ h3
            have h4 := Dev.MemOk.of2 h.xlate h3
            exact h4
        · exact h
      · split
        · split
          · extract_lets r
            split
            · rename_i _ h5
              have h6 := Dev.MemOk.of2 (hd1.assignSeq.newFrame) h5
              exact h6.modInst.modSqe
          · exact hd1
        · exact hd1.placeFrame
  · exact h

theorem Dev.MemOk.dataFailed {d : Dev} {q n st : Nat} (h : d.MemOk) : (d.dataFailed q n st).MemOk := by
  unfold Dev.dataFailed
  split
  · exact h
  · extract_lets d1
    split
    · exact h
    · have hd1 : d1.MemOk := h.endSqe
      split
      · exact hd1.faultFrame
      · exact hd1

theorem Dev.MemOk.cutFault {d : Dev} {q n : Nat} (h : d.MemOk) : (d.cutFault q n).MemOk := by
  unfold Dev.cutFault
  split
  · exact h
  · split
    · extract_lets d1
      have hd1 : d1.MemOk := h.setFrame.faultFrame
      exact hd1.modSqe
    · exact h

theorem Dev.MemOk.frameResume {d : Dev} {q n : Nat} (h : d.MemOk) : (d.frameResume q n).MemOk := by
  unfold Dev.frameResume
  split
  · exact h
  · exact .ite h.modSqe.inc.readFrame h.readFrame

theorem Dev.MemOk.readAgain {d : Dev} (h : d.MemOk) : d.readAgain.MemOk := .foldl h fun _ _ h1 => h1.readFrame

theorem Dev.MemOk.hostGo {d : Dev} (h : d.MemOk) : d.hostGo.MemOk := h.pumpAll.readAgain.rxRetry

theorem Dev.MemOk.entryRetireCmd {q : Nat} {d : Dev} (h : d.MemOk) : (entryRetire q d).MemOk := h.retire.pumpSq.pumpTrackers

theorem Dev.MemOk.putWback {d : Dev} {q : Nat} {s : Sq} (h : d.MemOk) : (d.putWback q s).MemOk :=
  .foldl h.memWrite.modSq fun _ _ h1 => h1.firePast

theorem Dev.MemOk.writebackUpdateCmd {q : Nat} {d : Dev} (h : d.MemOk) : (writebackUpdate q d).MemOk := by
  unfold writebackUpdate
  split
  · exact h
  · extract_lets d0
    have hd0 : d0.MemOk := by
      unfold d0
      split
      · exact h.waitUp
      · exact h
    split
    · exact h
    · split
      · exact hd0.cqFail
      · split
        · rename_i _ h1
          have h2 := Dev.MemOk.of2 (hd0.xlate) h1
          exact h2
        · rename_i _ h3
          have h4 := Dev.MemOk.of2 (hd0.xlate) h3
          exact h4.putWback

theorem Dev.MemOk.cqTimerExpiryCmd {q : Nat} {d : Dev} (h : d.MemOk) : (cqTimerExpiry q d).MemOk := by
  unfold cqTimerExpiry
  split
  · exact h
  · split
    · exact h
    · extract_lets d1
      have hd1 : d1.MemOk := h.waitUp.modCq
      exact .ite hd1.modCq.fireCq hd1

theorem Dev.MemOk.msixUnmaskCmd {f : Nat} {v : Option Nat} {d : Dev} (h : d.MemOk) : (msixUnmask f v d).MemOk := by
  unfold msixUnmask
  refine .sendPba ?_
  split
  · exact h.modFn
  · exact h.modFn

theorem Dev.MemOk.fireAll {d : Dev} (h : d.MemOk) : d.fireAll.MemOk := .foldl h fun _ _ h1 => h1.modCq.fireCq

theorem Dev.MemOk.flushMsi {d : Dev} (h : d.MemOk) : d.flushMsi.MemOk := .foldl h fun _ _ h1 => h1.writebackUpdateCmd

theorem Dev.MemOk.l1RequestCmd {aspm : Bool} {d : Dev} (h : d.MemOk) : (l1Request aspm d).MemOk :=
  .ite h (.ite h.fireAll.flushMsi h.fireAll.flushMsi.ptmStop.upd)

theorem Dev.MemOk.syncFn {d : Dev} {f : Nat} (h : d.MemOk) : (d.syncFn f).MemOk :=
  .foldl (.foldl h fun _ _ h1 => h1.syncQ) fun _ _ h2 => h2.syncC

theorem Dev.MemOk.d3hotEntryCmd {f : Nat} {d : Dev} (h : d.MemOk) : (d3hotEntry f d).MemOk :=
  .ite h (.ite h.modFn.syncFn.pmeCheck.ptmStop h.modFn.syncFn.pmeCheck)

theorem Dev.MemOk.d3hotExitCmd {f : Nat} {d : Dev} (h : d.MemOk) : (d3hotExit f d).MemOk :=
  .ite h (.foldl (.foldl h.modFn.syncFn.sendPba fun _ _ h1 => h1.drainCq) fun _ _ h2 => h2.pumpSq)

/-! The admin queues (chapter 10). -/

theorem Dev.MemOk.modAq {d : Dev} {f : Nat} {g : Aq → Aq} (h : d.MemOk) : (d.modAq f g).MemOk := h.upd

theorem Dev.MemOk.aqWr {d : Dev} {f k : Nat} {v : Word} (h : d.MemOk) : (d.aqWr f k v).MemOk := .ite h.wr h.modAq

theorem Dev.MemOk.aqFlag {d : Dev} {f i : Nat} {b : Bool} (h : d.MemOk) : (d.aqFlag f i b).MemOk := h.aqWr

theorem Dev.MemOk.aqSync {d : Dev} {f : Nat} (h : d.MemOk) : (d.aqSync f).MemOk := h.aqWr

theorem Dev.MemOk.aqStop {d : Dev} {f : Nat} (h : d.MemOk) : (d.aqStop f).MemOk := h.modAq.aqSync

theorem Dev.MemOk.aqDisable {d : Dev} {f : Nat} {v : Word} (h : d.MemOk) : (d.aqDisable f v).MemOk :=
  .ite (.modAq (.aqWr (.ite h.aqFlag h))) (.aqStop (.aqWr (.ite h.aqFlag h)))

theorem Dev.MemOk.wrAqCfg {d : Dev} {f : Nat} {v : Word} (h : d.MemOk) : (d.wrAqCfg f v).MemOk :=
  .ite h.aqDisable (.ite h.aqFlag (.ite (.ite h.aqFlag h.aqWr) (.ite h.aqWr.modAq.aqSync h.aqWr)))

theorem Dev.MemOk.wrAqBase {d : Dev} {f k : Nat} {v : Word} (h : d.MemOk) : (d.wrAqBase f k v).MemOk := .ite h.aqFlag h.aqWr

theorem Dev.MemOk.aqDbBad {d : Dev} {f : Nat} (h : d.MemOk) : (d.aqDbBad f).MemOk := h.aqFlag.inc

theorem Dev.MemOk.aqTail {d : Dev} {f v : Nat} (h : d.MemOk) : (d.aqTail f v).MemOk := .ite h.aqDbBad h.modAq

theorem Dev.MemOk.aqHead {d : Dev} {f v : Nat} (h : d.MemOk) : (d.aqHead f v).MemOk := .ite h.aqDbBad h.modAq

theorem Dev.MemOk.aqDoorbell {d : Dev} {f : Nat} {lo hi : Bool} {v : Word} (h : d.MemOk) : (d.aqDoorbell f lo hi v).MemOk :=
  .ite (.aqHead (.ite h.aqTail h)) (.ite h.aqTail h)

theorem Dev.MemOk.aqGate {d : Dev} {r : Req} {f k : Nat} {g : Dev → Dev} (h : d.MemOk) (hf : ∀ x, x.MemOk → (g x).MemOk) :
    (d.aqGate r f k g).MemOk := .ite (h.gate hf) (.ite (.ite (h.gate hf) h.lockRefuse) (.ite (hf _ h) h))

/-- What an admin command answers, and the device it leaves, keep memory canonical. -/
def AdminMemOk (p : Option AdminRes × Dev) : Prop := (∀ r, p.1 = some r → r.2.2.MemOk) ∧ p.2.MemOk

theorem AdminMemOk.answered {d e : Dev} {st res : Nat} (he : e.MemOk) (hd : d.MemOk) : AdminMemOk (some (st, res, e), d) :=
  ⟨fun _ hr => Option.some.inj hr ▸ he, hd⟩

theorem AdminMemOk.waits {d : Dev} (hd : d.MemOk) : AdminMemOk (none, d) := ⟨fun r hr => absurd hr.symm (Option.some_ne_none r), hd⟩

theorem AdminMemOk.now {g : List Word → Dev → AdminRes} {ws : List Word} {d : Dev} (hg : (g ws d).2.2.MemOk) (h : d.MemOk) :
    AdminMemOk (now_ g ws d) := ⟨fun _ hr => Option.some.inj hr ▸ hg, h⟩

theorem Dev.MemOk.aqFail {d : Dev} {f : Nat} (h : d.MemOk) : (d.aqFail f).MemOk := h.modAq.aqSync.aqFlag

theorem Dev.MemOk.aqComplete {d : Dev} {f n opc tag st res : Nat} (h : d.MemOk) : (d.aqComplete f n opc tag st res).MemOk :=
  .ite (.ite h.memWrite.modAq.aqSync.sb h.memWrite.modAq.aqSync.fire) h.memWrite.modAq.aqSync

theorem Dev.MemOk.aqReach {d : Dev} {f : Nat} (h : d.MemOk) : (d.aqReach f).2.MemOk := by
  unfold Dev.aqReach
  extract_lets a
  split
  · exact h.aqFail
  · split
    · rename_i _ h1
      have h2 := Dev.MemOk.of2 h.xlate h1
      exact h2
    · rename_i _ h3
      have h4 := Dev.MemOk.of2 h.xlate h3
      split
      · rename_i _ h5
        have h6 := Dev.MemOk.of2 (h4.xlate) h5
        exact h6
      · rename_i _ h7
        have h8 := Dev.MemOk.of2 (h4.xlate) h7
        exact .ite h8 h8.hostRead

theorem Dev.MemOk.aqHalt {d : Dev} {f : Nat} (h : d.MemOk) : (d.aqHalt f).MemOk := .ite h.aqStop h

theorem Dev.MemOk.adminRun {d : Dev} {f opc : Nat} {ws : List Word} {eff : List Word → Dev → Option AdminRes × Dev} (h : d.MemOk)
    (heff : ∀ l x, x.MemOk → AdminMemOk (eff l x)) : (adminRun f opc ws eff d).MemOk := by
  have hr : (d.aqReach f).2.MemOk := h.aqReach
  unfold Machine.adminRun
  split
  · exact h
  · extract_lets l w0 o n wrong
    split
    · exact h
    · split
      · rename_i d1 he
        exact .of2 hr he
      · rename_i d1 he
        have h1 : d1.MemOk := .of2 hr he
        obtain ⟨hres, hdev⟩ := heff l d1 h1
        refine .ite h1.inc.aqComplete (.ite h1.aqComplete (.ite h1.aqComplete ?_))
        split
        · rename_i st res d2 d3 hs
          have h2 : d2.MemOk := hres (st, res, d2) (by rw [hs])
          exact h2.modAq.aqComplete.aqHalt
        · rename_i d2 hs
          exact .of2 hdev hs

theorem Dev.MemOk.createCqCmd {f : Nat} {ws : List Word} {d : Dev} (h : d.MemOk) : (createCq f ws d).2.2.MemOk := by
  unfold createCq
  extract_lets w2 base log c src
  split
  · exact h
  · split
    · exact h
    · split
      · exact h
      · split
        · exact h
        · exact h.upd.syncC

theorem Dev.MemOk.createSqCmd {f : Nat} {ws : List Word} {d : Dev} (h : d.MemOk) : (createSq f ws d).2.2.MemOk := by
  unfold createSq
  extract_lets w2 base wb log kind src
  split
  · exact h
  · split
    · exact h
    · split
      · exact h
      · split
        · exact h
        · split
          · exact h
          · extract_lets s
            split
            · exact h
            · exact h.upd.syncQ

theorem Dev.MemOk.orphan {d : Dev} {q : Nat} {gone : Nat → Bool} (h : d.MemOk) : (d.orphan q gone).MemOk := h.upd

theorem Dev.MemOk.destroySq {d : Dev} {f : Nat} {ws : List Word} (h : d.MemOk) : AdminMemOk (destroySq f ws d) := by
  unfold Machine.destroySq
  extract_lets w2
  split
  · exact .answered h h
  · split
    · exact .answered h h
    · split
      · exact .answered h h
      · split
        · exact .answered h h
        · exact .waits h.orphan.modSq.modAq

theorem Dev.MemOk.drainSq {n : Nat} {d : Dev} {q k : Nat} (h : d.MemOk) : (Dev.drainSq n d q k).2.MemOk := by
  induction n generalizing d k with
  | zero => exact .snd h
  | succ n ih =>
    have hw : ∀ (c : Prop) (i : Decidable c), (if c then d.writeHead q else (false, d)).2.MemOk := fun c i => by
      split
      · exact h.writeHead
      · exact h
    rw [Dev.drainSq]
    split
    · exact .snd h
    · split
      · extract_lets room
        split
        · rename_i d1 he
          exact ih (.of2 (hw _ _) he)
        · rename_i d1 he
          exact ih (Dev.MemOk.of2 (hw _ _) he).dropHead
      · exact .snd h

theorem Dev.MemOk.removeSq {d : Dev} {q : Nat} (h : d.MemOk) : (d.removeSq q).MemOk := by
  unfold Dev.removeSq
  split
  · exact h
  · extract_lets d2 d3 src d4
    have hd2 : d2.MemOk := h.modCq
    have hd3 : d3.MemOk := hd2.orphan
    have hd4 : d4.MemOk := hd3.upd
    exact hd4.syncQ

theorem Dev.MemOk.lastWback {d : Dev} {q : Nat} (h : d.MemOk) : (d.lastWback q).MemOk := by
  unfold Dev.lastWback
  split
  · split
    · refine .putWback ?_
      split
      · exact h.waitUp
      · exact h
    · exact h
  · exact h

theorem Dev.MemOk.wbackReady {d : Dev} {q : Nat} {s : Sq} (h : d.MemOk) : (d.wbackReady q s).2.MemOk := by
  unfold Dev.wbackReady
  split
  · exact h
  · exact h.xlate

theorem Dev.MemOk.destroySqDoneCmd {f : Nat} {d : Dev} (h : d.MemOk) : (destroySqDone f d).MemOk := by
  unfold destroySqDone
  split
  · exact h
  · split
    · exact h
    · split
      · exact h
      · split
        · rename_i _ h1
          have h2 := Dev.MemOk.of2 h.xlate h1
          exact h2
        · rename_i _ h3
          have h4 := Dev.MemOk.of2 h.xlate h3
          split
          · rename_i _ h5
            have h6 := Dev.MemOk.of2 (h4.wbackReady) h5
            exact h6
          · rename_i _ h7
            have h8 := Dev.MemOk.of2 (h4.wbackReady) h7
            extract_lets r d3
            have hr : r.2.MemOk := h8.drainSq
            have hd3 : d3.MemOk := hr.lastWback.removeSq.drainCq.modAq
            exact hd3.aqComplete.aqHalt.pumpTrackers

theorem Dev.MemOk.removeCq {d : Dev} {q : Nat} (h : d.MemOk) : (d.removeCq q).MemOk := h.upd.syncC.dmaTargetLost

theorem Dev.MemOk.destroyCqCmd {f : Nat} {ws : List Word} {d : Dev} (h : d.MemOk) : (destroyCq f ws d).2.2.MemOk := by
  unfold destroyCq
  extract_lets w2
  split
  · exact h
  · split
    · exact h
    · split
      · exact h
      · split
        · exact h.removeCq
        · exact h

theorem Dev.MemOk.modifyCqCmd {f : Nat} {ws : List Word} {d : Dev} (h : d.MemOk) : (modifyCq f ws d).2.2.MemOk := by
  unfold modifyCq
  extract_lets w2
  split
  · exact h
  · split
    · exact h
    · split
      · exact h
      · split
        · exact h
        · exact h.modCq

theorem Dev.MemOk.aqOut {d : Dev} {f a : Nat} {ws : List Word} {after : Dev → Dev} (h : d.MemOk) (hf : ∀ x, x.MemOk → (after x).MemOk) :
    AdminMemOk (d.aqOut f a ws after) := by
  unfold Dev.aqOut
  have hx : (d.xlate f (.aqOut f) (d.aqPasid f) a 64 true).2.MemOk := h.xlate
  split
  · exact .answered h.modAq h
  · split
    · rename_i d1 he
      exact .waits (Dev.MemOk.of2 hx he).modAq
    · rename_i d1 he
      have h1 : d1.MemOk := .of2 hx he
      exact .answered (hf _ h1.memWrite) h1

theorem Dev.MemOk.queryQp {d : Dev} {f : Nat} {ws : List Word} (h : d.MemOk) : AdminMemOk (queryQp f ws d) := by
  unfold Machine.queryQp
  extract_lets w2 a
  split
  · exact .answered h h
  · split
    · exact .answered h h
    · split
      · exact .answered h h
      · exact h.aqOut fun _ hx => .ite hx.stWs hx

theorem Dev.MemOk.setVfQuotaCmd {f : Nat} {ws : List Word} {d : Dev} (h : d.MemOk) : (setVfQuota f ws d).2.2.MemOk := by
  unfold setVfQuota
  extract_lets w2 vf cnt first g hit
  split
  · exact h
  · split
    · exact h
    · split
      · exact h
      · split
        · exact h
        · exact h.modFn

theorem Dev.MemOk.adminGetInfo {d : Dev} {f : Nat} {ws : List Word} (h : d.MemOk) : AdminMemOk (adminGetInfo f ws d) := by
  unfold Machine.adminGetInfo
  extract_lets a p w
  split
  · exact .answered h h
  · exact h.aqOut fun _ hx => hx

theorem Dev.MemOk.destroyQueues {d : Dev} {f : Nat} (h : d.MemOk) : (d.destroyQueues f).MemOk := by
  unfold Dev.destroyQueues
  extract_lets qs cs cutIds d1 rx src d2 d3 d4 src'
  have hd1 : d1.MemOk := .foldl h fun _ _ h1 => h1.faultFrame
  have hd2 : d2.MemOk := .foldl hd1.upd fun _ _ h2 => h2.rxDrop
  have hd3 : d3.MemOk := .foldl hd2 fun _ _ h3 => h3.modSq.removeSq
  have hd4 : d4.MemOk := .foldl hd3 fun _ _ h4 => h4.removeCq
  exact hd4.upd

theorem Dev.MemOk.forgetRid {d : Dev} {rid : Nat} (h : d.MemOk) : (d.forgetRid rid).MemOk := h.upd.atsGo.prgGo

theorem Dev.MemOk.resetFn {d : Dev} {f : Nat} (h : d.MemOk) : (d.resetFn f).MemOk := by
  unfold Dev.resetFn
  extract_lets d1 d2 d3 d4
  have hd1 : d1.MemOk := h.destroyQueues.forgetRid
  have hd2 : d2.MemOk := hd1.aqStop.aqWr
  have hd3 : d3.MemOk := hd2.aqWr.aqWr.aqWr
  have hd4 : d4.MemOk := .ite hd3.sb hd3
  exact hd4.modFn

theorem Dev.MemOk.flrQueues {d : Dev} {f : Nat} (h : d.MemOk) : (d.flrQueues f).MemOk :=
  .ite h (.ite (.pumpTrackers (.resetFn (.foldl h fun _ _ h1 => h1.resetFn.modFn))) h.resetFn.pumpTrackers)

theorem Dev.MemOk.logErr {d : Dev} {f : Nat} {why : HostErr} (h : d.MemOk) : (d.logErr f why).MemOk := by
  unfold Dev.logErr
  extract_lets bad
  split
  · exact h
  · split
    · exact h.modFn
    · exact h.modFn
    · exact .ite h.modFn.emit h.modFn
    · exact .ite h.modFn.emit h.modFn

theorem Dev.MemOk.hostReadErrorCmd {o : ReadOf} {e : ReadErr} {d : Dev} (h : d.MemOk) : (hostReadError o e d).MemOk := by
  unfold hostReadError
  split
  · split
    · exact h
    · split
      · rename_i _ h1
        have h2 := Dev.MemOk.of2 h.aqReach h1
        exact h2.logErr.aqFail
      · rename_i _ h3
        have h4 := Dev.MemOk.of2 h.aqReach h3
        exact h4
  · extract_lets q
    split
    · exact .ite h.logErr.entryUnread h
    · split
      · exact .ite h.logErr.dataFailed h
      · exact h
    · exact h

theorem Dev.MemOk.wrQcntSel {d : Dev} {v : Word} (h : d.MemOk) : (d.wrQcntSel v).MemOk :=
  .ite (.ite h.sb (.ite h.wrReg.sb (.sb (.sb (.sb (.upd (.ite h.wrReg.stWs h.wrReg))))))) h.wrReg

theorem Dev.MemOk.queueCaptureDoneCmd {d : Dev} (h : d.MemOk) : (queueCaptureDone d).MemOk := by
  unfold queueCaptureDone
  split
  · exact h
  · extract_lets src src' d1
    have hsrc : src.MemOk := h.wrs
    have hd1 : d1.MemOk := hsrc.upd
    exact hd1.sb.sb

theorem Dev.MemOk.wrBenQpCfg {d : Dev} {v : Word} (h : d.MemOk) : (d.wrBenQpCfg v).MemOk := .ite h.sb h.wr

end Sys2Proof.Machine
end

section
/-! ### Memory in canonical form: mailbox buffers and the calendar (O5) -/

namespace Sys2Proof.Machine

/-! Mailbox buffers and responses (chapter 12). -/

theorem Dev.MemOk.mbxFire {d : Dev} {m : Nat} (h : d.MemOk) : (d.mbxFire m).MemOk := .ite (.ite (.ite h.sb h) h.fire) h

theorem Dev.MemOk.mbxRespond {d : Dev} {m opc seq : Nat} {r : Resp} (h : d.MemOk) : (d.mbxRespond m opc seq r).MemOk :=
  .mbxFire (.ite h.clearMem.stWs.stWs.sb.sb.sf.inc h.clearMem.stWs.stWs.sb.sb.sf.inc.inc)

theorem Dev.MemOk.mbxSkip {d : Dev} {n : Nat} (h : d.MemOk) : (d.mbxSkip n).MemOk := by
  induction n generalizing d with
  | zero => exact h
  | succ n ih =>
    rw [Dev.mbxSkip]
    split
    · exact h
    · exact .ite h (ih h.upd.mbxRespond)

theorem Dev.MemOk.mbxTake {d : Dev} (h : d.MemOk) : d.mbxTake.MemOk := .ite (.mbxSkip (.foldl h fun _ _ h1 => h1.sb)) h

theorem Dev.MemOk.mbxDone {d : Dev} {m : Nat} {r : Resp} (h : d.MemOk) : (d.mbxDone m r).MemOk := h.upd.mbxRespond.mbxTake

theorem Dev.MemOk.mbxWait {d : Dev} {m due : Nat} (h : d.MemOk) : (d.mbxWait m due).MemOk := h.upd.mbxTake

theorem Dev.MemOk.mbxWake {d : Dev} {opc : Nat} {hit : Dev → Nat → Bool} {f : Dev → Nat → Resp} (h : d.MemOk) : (d.mbxWake opc hit f).MemOk :=
  .foldl h fun _ _ h1 => h1.upd.mbxRespond

theorem Dev.MemOk.wakeSwitch {d : Dev} (h : d.MemOk) : d.wakeSwitch.MemOk := h.mbxWake

theorem Dev.MemOk.wakeBarrier {d : Dev} (h : d.MemOk) : d.wakeBarrier.MemOk := h.mbxWake

theorem Dev.MemOk.wakeBcast {d : Dev} (h : d.MemOk) : d.wakeBcast.MemOk := h.mbxWake

theorem Dev.MemOk.wakeMdio {d : Dev} {b : Nat} (h : d.MemOk) : (d.wakeMdio b).MemOk := h.mbxWake

theorem Dev.MemOk.wakeSmb {d : Dev} {c : Nat} (h : d.MemOk) : (d.wakeSmb c).MemOk := h.mbxWake

theorem Dev.MemOk.mailboxCommandTimeoutCmd {m : Nat} {d : Dev} (h : d.MemOk) : (mailboxCommandTimeout m d).MemOk := by
  unfold mailboxCommandTimeout
  split
  · exact h
  · extract_lets d1 src
    have hd1 : d1.MemOk := h.waitUp
    exact hd1.upd.mbxRespond

theorem Dev.MemOk.wrMbxDb {d : Dev} {m : Nat} {v : Word} (h : d.MemOk) : (d.wrMbxDb m v).MemOk := .ite (.ite h.sb h.upd.mbxTake) h

theorem Dev.MemOk.wrMbxReq {d : Dev} {m k : Nat} {v : Word} (h : d.MemOk) : (d.wrMbxReq m k v).MemOk := .ite h.sb h.stW

theorem Dev.MemOk.mbxGate {d : Dev} {r : Req} {m a : Nat} {f : Dev → Dev} (h : d.MemOk) (hf : ∀ x, x.MemOk → (f x).MemOk) :
    (d.mbxGate r m a f).MemOk := .ite h.accFail (.ite (hf _ h) h.inc)

/-! What the calendar and the ring tell the solver (chapter 7). -/

theorem Dev.MemOk.solForeign {d : Dev} (h : d.MemOk) : d.solForeign.MemOk := h.sb.inc

theorem Dev.MemOk.solActEnd {d : Dev} {b res : Nat} (h : d.MemOk) : (d.solActEnd b res).MemOk := .ite h.sf h

theorem Dev.MemOk.solActive {d : Dev} {b : Nat} (h : d.MemOk) : (d.solActive b).MemOk := by
  unfold Dev.solActive
  extract_lets d1 src
  have hd1 : d1.MemOk := h.solActEnd
  split
  · exact .ite hd1 hd1.upd
  · exact hd1

theorem Dev.MemOk.solTouch {d : Dev} {b : Nat} (h : d.MemOk) : (d.solTouch b).MemOk := .ite (.ite h.upd.sf.sb h.upd) h

/-! Bank commands, validation, hand-over, start and stop (chapter 3). -/

theorem Dev.MemOk.actStat {d : Dev} {st b cyc : Nat} (h : d.MemOk) : (d.actStat st b cyc).MemOk := h.wr

theorem Dev.MemOk.readEntries {d : Dev} {b : Nat} {c : CalPar} {ports : List Nat} (h : d.MemOk) : (d.readEntries b c ports).MemOk :=
  .foldl h fun _ _ h1 => .foldl h1 fun _ _ h2 => .ite h2.scrub.readRec h2.scrub

theorem Dev.MemOk.calCopy {d : Dev} {b src : Nat} (h : d.MemOk) : (d.calCopy b src).MemOk := .ite h.calRef h.setBank.setBankSt

theorem Dev.MemOk.calCommit {d : Dev} {b : Nat} (h : d.MemOk) : (d.calCommit b).MemOk := .ite h.calRef h.setBank.setBankSt

theorem Dev.MemOk.calUnstage {d : Dev} {b : Nat} (h : d.MemOk) : (d.calUnstage b).MemOk := .ite h.calRef h.setBankSt

theorem Dev.MemOk.wrCalCmd {d : Dev} {v : Word} (h : d.MemOk) : (d.wrCalCmd v).MemOk := by
  unfold Dev.wrCalCmd
  extract_lets b d1 d2
  have hd1 : d1.MemOk := h.wrReg
  have hd2 : d2.MemOk := by
    unfold d2
    split
    · exact hd1.calCopy
    · exact hd1.calCommit
    · exact hd1.calUnstage
  exact .ite h.calRef.solForeign (.ite h.calRef (.ite (.ite hd2 hd2.solTouch) hd1))

theorem Dev.MemOk.wrShadow {d : Dev} {b a : Nat} {v : Word} (h : d.MemOk) : (d.wrShadow b a v).MemOk := .ite h.solForeign h.wrReg

theorem Dev.MemOk.calCopyDoneCmd {b : Nat} {d : Dev} (h : d.MemOk) : (calCopyDone b d).MemOk := by
  unfold calCopyDone
  split
  · exact h
  · extract_lets d0 lo hi dst moved hurt fixed d1 d2 d3 par d4 d5 d6 src
    have hd0 : d0.MemOk := h.waitUp
    have hd1 : d1.MemOk := hd0.upd
    have hd2 : d2.MemOk := .foldl hd1.addCnt.clearMem fun _ _ h1 => h1.stB
    have hd3 : d3.MemOk := hd2.upd
    have hd4 : d4.MemOk := hd3.sf.sf
    have hd5 : d5.MemOk := .foldl hd4 fun _ _ h2 => h2.wr
    have hd6 : d6.MemOk := hd5.sf
    exact .ite hd6.setBank.setBankSt h

theorem Dev.MemOk.calValidationDoneCmd {b : Nat} {d : Dev} (h : d.MemOk) : (calValidationDone b d).MemOk := by
  unfold calValidationDone
  extract_lets par d0 d1 r a d2 src d3
  have hd0 : d0.MemOk := h.waitUp
  have hd1 : d1.MemOk := hd0.readEntries
  have hd2 : d2.MemOk := hd1.sf.sf.sf
  have hd3 : d3.MemOk := hd2.inc.setBankSt
  exact .ite (.ite hd2.sf.setBank.setBankSt (.ite hd3.raise hd3)) h

theorem Dev.MemOk.writeEntry {d : Dev} {b s i : Nat} {v : Word} (h : d.MemOk) : (d.writeEntry b s i v).MemOk :=
  .ite h.solForeign (.ite h.stW.upd h.sb.inc)

theorem Dev.MemOk.schedule {d : Dev} {q : CalPend} (h : d.MemOk) : (d.schedule q).MemOk := h.upd.setBankSt.actStat

theorem Dev.MemOk.unschedule {d : Dev} (h : d.MemOk) : d.unschedule.MemOk := by
  unfold Dev.unschedule
  split
  · extract_lets src
    exact h.upd.setBankSt.sf.solActEnd
  · exact h

theorem Dev.MemOk.calActivate {d : Dev} {b cyc : Nat} (h : d.MemOk) : (d.calActivate b cyc).MemOk := by
  unfold Dev.calActivate
  split
  · exact h.calRef
  · split
    · exact h.calRef
    · split
      · exact h.calRef
      · split
        · extract_lets ahead bb
          exact .ite h.schedule (.ite h.calRef h.schedule)
        · exact h.calRef

theorem Dev.MemOk.calCancel {d : Dev} (h : d.MemOk) : d.calCancel.MemOk := by
  unfold Dev.calCancel
  split
  · exact h.calRef
  · split
    · exact .ite h.calRef (.ite h.calRef h.unschedule)
    · exact h.calRef

theorem Dev.MemOk.wrCalAct {d : Dev} {v : Word} (h : d.MemOk) : (d.wrCalAct v).MemOk :=
  .ite h.calRef.solForeign (.ite h.calRef (.ite h.wrReg.calCancel (.ite h.wrReg.calActivate h.wrReg)))

theorem Dev.MemOk.offer {d : Dev} {b at_ cyc : Nat} (h : d.MemOk) : (d.offer b at_ cyc).2.MemOk := by
  unfold Dev.offer
  split
  · exact h
  · exact h.schedule

theorem Dev.MemOk.abandonOffer {d : Dev} (h : d.MemOk) : d.abandonOffer.MemOk := by
  unfold Dev.abandonOffer
  split
  · exact .ite h h.unschedule
  · exact h

theorem Dev.MemOk.calStart {d : Dev} {v : Word} (h : d.MemOk) : (d.calStart v).MemOk :=
  .ite h.calRef (.ite h.calRef (.ite h.wrReg.schedule h.wrReg.schedule))

theorem Dev.MemOk.calStop {d : Dev} {v : Word} (h : d.MemOk) : (d.calStop v).MemOk := by
  unfold Dev.calStop
  extract_lets d1 src
  have hd1 : d1.MemOk := h.wrReg
  split
  · split
    · exact hd1.unschedule
    · split
      · exact hd1.upd.sb.dropStopped
      · exact hd1
  · split
    · exact hd1.upd.sb.dropStopped
    · exact hd1

theorem Dev.MemOk.wrCalCtl {d : Dev} {v : Word} (h : d.MemOk) : (d.wrCalCtl v).MemOk := .ite h.calRef (.ite h.calStart (.ite h.calStop h.wrReg))

theorem Dev.MemOk.wrFetchLead {d : Dev} {v : Word} (h : d.MemOk) : (d.wrFetchLead v).MemOk := .ite h.calRef h.wrReg

theorem Dev.MemOk.calHandOverCmd {d : Dev} (h : d.MemOk) : (calHandOver d).MemOk := by
  unfold calHandOver
  split
  · exact h
  · extract_lets d0 q1 src g
    have hd0 : d0.MemOk := h.waitLocal
    exact .ite (.ite hd0.upd.actStat hd0.sf.sb.setBankSt.sf) h

theorem Dev.MemOk.takeCfg {d : Dev} {x : Nat} (h : d.MemOk) : (d.takeCfg x).MemOk := h.upd

theorem Dev.MemOk.takeResume {d : Dev} {x : Nat} (h : d.MemOk) : (d.takeResume x).MemOk := .foldl h.upd fun _ _ h1 => h1.sb

theorem Dev.MemOk.takePorts {d : Dev} {x : Nat} (h : d.MemOk) : (d.takePorts x).MemOk := .foldl h fun _ _ h1 => h1.setPort

theorem Dev.MemOk.stopNow {d : Dev} {bs : Nat} (h : d.MemOk) : (d.stopNow bs).MemOk := by
  unfold Dev.stopNow
  extract_lets d1 d2 prev src d3 d4
  have hd2 : d2.MemOk := by
    unfold d2
    have hd1 : d1.MemOk := h.unschedule
    split
    · exact hd1.setBankSt
    · exact hd1
  have hd3 : d3.MemOk := hd2.upd
  have hd4 : d4.MemOk := hd3.sb.sb
  exact .foldl hd4 fun _ _ h1 => h1.sb

theorem Dev.MemOk.beginCycle {d : Dev} {b n : Nat} (h : d.MemOk) : (d.beginCycle b n).MemOk := by
  unfold Dev.beginCycle
  split
  · extract_lets d1 src prev src' d2 src'2
    have hd1 : d1.MemOk := by
      unfold d1
      split
      · exact h.setBankSt
      · exact h
    have hd2 : d2.MemOk := hd1.upd
    exact .ite hd2.setBankSt.sb.sf.solActive h.upd
  · extract_lets src
    exact h.upd

theorem Dev.MemOk.syncMode {d : Dev} (h : d.MemOk) : d.syncMode.MemOk := h.sb

theorem Dev.MemOk.cycleBoundaryCmd {d : Dev} (h : d.MemOk) : (cycleBoundary d).MemOk := by
  unfold cycleBoundary
  split
  · exact h
  · extract_lets d1
    have hd1 : d1.MemOk := h.waitLocal.takeCfg.takeResume.takePorts
    exact .ite h (.syncMode (.ite hd1.stopNow hd1.beginCycle))

theorem Dev.MemOk.wrCalPort {d : Dev} {p : Nat} {v : Word} (h : d.MemOk) : (d.wrCalPort p v).MemOk := by
  unfold Dev.wrCalPort
  extract_lets a old d1 src
  split
  · split
    · extract_lets kept
      have hd1 : d1.MemOk := h.wrReg
      exact hd1.upd
    · exact h.wrReg
  · exact h.wrReg

theorem Dev.MemOk.revalidate {d : Dev} {s : Nat} (h : d.MemOk) : (d.revalidate s).MemOk := by
  unfold Dev.revalidate
  split
  · extract_lets src
    exact h.upd
  · exact h.sb

theorem Dev.MemOk.calRevalidationEndCmd {s : Nat} {d : Dev} (h : d.MemOk) : (calRevalidationEnd s d).MemOk := by
  unfold calRevalidationEnd
  split
  · extract_lets d0 src d1 d2 r src'
    have hd0 : d0.MemOk := h.waitUp
    have hd1 : d1.MemOk := hd0.upd
    have hd2 : d2.MemOk := hd1.readEntries
    split
    · split
      · exact hd2.upd
      · exact hd2.sb
    · exact hd2.raise
  · extract_lets src
    exact h.upd.sb
  · exact h

end Sys2Proof.Machine
end

section
/-! ### Memory in canonical form: the ring, the solver and the Bench (O5) -/

namespace Sys2Proof.Machine

/-! Memberships, bypass pins and control frames of the ring (chapter 6). -/

theorem Dev.MemOk.modAtt {d : Dev} {a : Nat} {g : RAtt → RAtt} (h : d.MemOk) : (d.modAtt a g).MemOk := .ite h.upd h.upd

theorem Dev.MemOk.moveMem {d : Dev} {x y : Nat} (h : d.MemOk) : (d.moveMem x y).MemOk := .modAtt (.sb (.sf (.foldl h fun _ _ h1 => h1.wr)))

theorem Dev.MemOk.rebase {d : Dev} {j : Bool} {h' : Nat} (h : d.MemOk) : (d.rebase j h').MemOk :=
  .ite (.ite (.ite h h.moveMem) (.ite h.moveMem h)) (.ite h.moveMem h)

theorem Dev.MemOk.setMembers {d : Dev} {a m : Nat} (h : d.MemOk) : (d.setMembers a m).MemOk := h.wr.sf

theorem Dev.MemOk.dropSwitch {d : Dev} {a : Nat} (h : d.MemOk) : (d.dropSwitch a).MemOk := by
  unfold Dev.dropSwitch
  split
  · exact .modAtt (.ite h.abandonOffer h)
  · exact h

theorem Dev.MemOk.rngTo {d : Dev} {a st : Nat} (h : d.MemOk) : (d.rngTo a st).MemOk := by
  unfold Dev.rngTo
  extract_lets old d0 d1 d2 d1'
  have hd0 : d0.MemOk := h.sf.modAtt
  have hd1 : d1.MemOk := hd0.dropSwitch.modAtt
  have hd2 : d2.MemOk := hd1.sb.sf
  have hd1' : d1'.MemOk := hd0.modAtt
  exact .ite (.ite (.foldl hd2 fun _ _ h1 => h1.sb) hd2)
    (.ite (.ite hd1'.raise hd1') (.ite hd0.modAtt.inc (.ite hd0.modAtt (.ite hd0.inc.raise hd0))))

theorem Dev.MemOk.ringEvalAt {d : Dev} {a : Nat} (h : d.MemOk) : (d.ringEvalAt a).MemOk :=
  .ite h (.ite (.ite h h.rngTo) (.ite h.modAtt.rngTo h))

theorem Dev.MemOk.ringEval {d : Dev} (h : d.MemOk) : d.ringEval.MemOk := .ite h.ringEvalAt h.ringEvalAt.ringEvalAt

theorem Dev.MemOk.pinFall {d : Dev} {a : Nat} (h : d.MemOk) : (d.pinFall a).MemOk := .ite (.foldl h.sb fun _ _ h1 => h1.portStop) h

theorem Dev.MemOk.ringSync {d : Dev} (h : d.MemOk) : d.ringSync.MemOk := h.pinFall.pinFall.ringEval

theorem Dev.MemOk.pinRise {d : Dev} {a : Nat} (h : d.MemOk) : (d.pinRise a).MemOk := h.upd.sb

theorem Dev.MemOk.bypassInsertCmd {a : Nat} {d : Dev} (h : d.MemOk) : (bypassInsert a d).MemOk :=
  .ite h (.ite (.ite h (.ite h.pinRise.ringEval h.waitUp.pinRise.ringEval)) h.pinRise.ringEval)

theorem Dev.MemOk.ringSend {d : Dev} {a ty c : Nat} (h : d.MemOk) : (d.ringSend a ty c).MemOk :=
  .ite (.modAtt (.foldl h fun _ _ h1 => h1.modPort.choose)) (.foldl h fun _ _ h2 => h2.modPort.choose)

theorem Dev.MemOk.controlFrameForwardCmd {p : Nat} {d : Dev} (h : d.MemOk) : (controlFrameForward p d).MemOk := by
  unfold controlFrameForward
  split
  · exact h
  · extract_lets d0 src d1 ty
    have hd0 : d0.MemOk := h.waitLocal
    have hd1 : d1.MemOk := hd0.upd
    exact hd1.modPort.choose

/-! Ring registers, proposals, barriers, broadcasts (chapter 6). -/

theorem Dev.MemOk.wrRngCtl {d : Dev} {a : Nat} {v : Word} (h : d.MemOk) : (d.wrRngCtl a v).MemOk := by
  unfold Dev.wrRngCtl
  extract_lets ra held j h' d1 d2 d3 m st d4
  have hd1 : d1.MemOk := h.wrReg.rebase
  have hd2 : d2.MemOk := hd1.sb.sb
  have hd3 : d3.MemOk := .ite hd2.sb hd2
  have hd4 : d4.MemOk := .ite (.ite hd3 hd3.rngTo) (.ite hd3.rngTo hd3)
  exact .ite h.outOfRange hd4.ringSync

theorem Dev.MemOk.wrRngCyc {d : Dev} {a : Nat} {v : Word} (h : d.MemOk) : (d.wrRngCyc a v).MemOk := .ite h.outOfRange h.wrReg

theorem Dev.MemOk.wrRngBe {d : Dev} {a : Nat} {v : Word} (h : d.MemOk) : (d.wrRngBe a v).MemOk := .ite h.outOfRange h.upd.wrReg

theorem Dev.MemOk.wrRngTiming {d : Dev} {a : Nat} {v : Word} (h : d.MemOk) : (d.wrRngTiming a v).MemOk := .ite h.outOfRange h.wrReg

theorem Dev.MemOk.wrRngFed {d : Dev} {a : Nat} {v : Word} (h : d.MemOk) : (d.wrRngFed a v).MemOk := .ite h.outOfRange h.wrReg

theorem Dev.MemOk.msStat {d : Dev} {st result : Nat} {w : Switch} {miss : Nat} (h : d.MemOk) : (d.msStat st result w miss).MemOk := h.wr

theorem Dev.MemOk.msPropose {d : Dev} {bank : Nat} (h : d.MemOk) : (d.msPropose bank).MemOk := by
  unfold Dev.msPropose
  extract_lets a r k w
  split
  · exact h.sf
  · split
    · exact h.sf
    · split
      · rename_i _ h1
        have h2 := Dev.MemOk.of2 h.offer h1
        exact h2.sf
      · rename_i _ h3
        have h4 := Dev.MemOk.of2 h.offer h3
        exact h4.modAtt.msStat

theorem Dev.MemOk.wrMsCtl {d : Dev} {v : Word} (h : d.MemOk) : (d.wrMsCtl v).MemOk := .ite h.wrReg.msPropose h.wrReg

theorem Dev.MemOk.wrBarCtl {d : Dev} {v : Word} (h : d.MemOk) : (d.wrBarCtl v).MemOk := .ite (.sb (.sf (.ite h.wrReg h.wrReg.modAtt))) h.wrReg

theorem Dev.MemOk.syncBc {d : Dev} (h : d.MemOk) : d.syncBc.MemOk := .foldl h.sf.sf.sf.sf fun _ _ h1 => h1.wr

theorem Dev.MemOk.wrBcCtl {d : Dev} {v : Word} (h : d.MemOk) : (d.wrBcCtl v).MemOk := .ite (.ite h.wrReg.upd.sb h.wrReg) h.outOfRange

theorem Dev.MemOk.wrBcStat {d : Dev} {v : Word} (h : d.MemOk) : (d.wrBcStat v).MemOk := .ite h.upd.syncBc h

theorem Dev.MemOk.bcSend {d : Dev} {relay : Bool} (h : d.MemOk) : (d.bcSend relay).MemOk := by
  unfold Dev.bcSend
  obtain ⟨bs, hbs⟩ : ∃ bs, Dev.bcStart d = bs := ⟨_, rfl⟩
  rw [hbs]
  split
  · exact h
  · split
    · exact h
    · extract_lets d0 a ring src d1 d2
      have h0 : d0.MemOk := h.waitLocal
      have h1 : d1.MemOk := h0.upd
      have h2 : d2.MemOk := .foldl h1 fun _ _ h1 => h1.modPort.choose
      exact .ite h2 h2.sb.wakeBcast

theorem Dev.MemOk.snapArm {d : Dev} {id scope : Nat} {clear ring : Bool} {t : Nat} (h : d.MemOk) : (d.snapArm id scope clear ring t).MemOk :=
  h.upd.sf.sf.sf.sb

theorem Dev.MemOk.snapTryArm {d : Dev} (h : d.MemOk) : d.snapTryArm.MemOk := by
  unfold Dev.snapTryArm
  extract_lets t scope ring clear id fail d1
  have hd1 : d1.MemOk := h.snapArm
  exact .ite h.sf (.ite h.sf (.ite h.sf (.ite h.sf (.ite h.sf (.ite (.foldl hd1 fun _ _ h1 => .ite h1.modAtt h1) hd1)))))

theorem Dev.MemOk.wrSnaptCtl {d : Dev} {v : Word} (h : d.MemOk) : (d.wrSnaptCtl v).MemOk :=
  .ite h.cfgErr (.ite (.ite h.wrReg.sf h.wrReg) (.ite h.wrReg.snapTryArm h.wrReg))

/-! The solver (chapter 7). -/

theorem Dev.MemOk.setJob {d : Dev} {j : SolJob} (h : d.MemOk) : (d.setJob j).MemOk := h.upd

theorem Dev.MemOk.solSync {d : Dev} (h : d.MemOk) : d.solSync.MemOk := by
  unfold Dev.solSync
  extract_lets s e d1 h'
  have hd1 : d1.MemOk := by
    unfold d1
    split
    · split
      · exact h
      · have he : e.MemOk := h.sf.raise
        split
        · exact .ite he he.setJob
        · exact he
    · exact .ite h.sf (.ite h.sf h.sf)
  exact hd1.sf.sf.wr.wr

theorem Dev.MemOk.orFree {d : Dev} {w : Nat} {x : Option Nat} (h : d.MemOk) : (d.orFree w x).2.MemOk := by
  unfold Dev.orFree
  split
  · exact h
  · exact h.useFree

theorem Dev.MemOk.solPost {d : Dev} {q : SolReq} {code val : Nat} {bank base : Option Nat} {moved : Bool} {gen index psel ofs : Option Nat}
    (h : d.MemOk) :
    (d.solPost q code val bank base moved gen index psel ofs).MemOk := h.orFree.orFree.orFree.orFree.orFree.orFree.upd

theorem Dev.MemOk.postAborted {d : Dev} {n : Nat} (h : d.MemOk) : (d.postAborted n).MemOk := by
  induction n generalizing d with
  | zero => exact h
  | succ n ih =>
    rw [Dev.postAborted]
    split
    · exact .ite (ih h.upd.inc.solPost) h
    · exact h

theorem Dev.MemOk.solTidy {d : Dev} (h : d.MemOk) : d.solTidy.MemOk := h.postAborted.solSync

theorem Dev.MemOk.solQueue {d : Dev} {words : List Word} {addr len : Nat} (h : d.MemOk) : (d.solQueue words addr len).2.MemOk := by
  unfold Dev.solQueue
  extract_lets q src
  split
  · exact h.inc
  · exact h.upd.solSync

theorem Dev.MemOk.solSubmit {d : Dev} (h : d.MemOk) : d.solSubmit.MemOk := .ite h.solQueue h.solQueue.sb

theorem Dev.MemOk.solAbort {d : Dev} (h : d.MemOk) : d.solAbort.MemOk := by
  unfold Dev.solAbort
  split
  · exact .ite h.setJob h
  · exact h

theorem Dev.MemOk.solActivate {d : Dev} (h : d.MemOk) : d.solActivate.MemOk := by
  unfold Dev.solActivate
  extract_lets b res d1 d1'
  have hd1' : d1'.MemOk := h.sf.sf.calActivate
  split
  · exact h.wr
  · split
    · have hd1 : d1.MemOk := h.sf.msPropose
      split
      · exact hd1.wr
      · exact hd1.wr
      · exact hd1.wr
    · exact .ite hd1'.wr hd1'.wr

theorem Dev.MemOk.wrSolCmd {d : Dev} {v : Word} (h : d.MemOk) : (d.wrSolCmd v).MemOk :=
  .ite h.cfgErr (.ite h.solSubmit (.ite h.solAbort (.ite h.solActivate h)))

theorem Dev.MemOk.solPop {d : Dev} (h : d.MemOk) : d.solPop.MemOk := h.upd.solTidy

theorem Dev.MemOk.wrSolRes {d : Dev} {v : Word} (h : d.MemOk) : (d.wrSolRes v).MemOk := .ite h.solPop h

theorem Dev.MemOk.wrSolFile {d : Dev} {v : Word} (h : d.MemOk) : (d.wrSolFile v).MemOk := .ite h.wrReg h.outOfRange

theorem Dev.MemOk.wrSolCtl {d : Dev} {v : Word} (h : d.MemOk) : (d.wrSolCtl v).MemOk := by
  unfold Dev.wrSolCtl
  extract_lets was d1 d2 src d3
  have hd1 : d1.MemOk := h.wrReg
  have hd2 : d2.MemOk := .ite hd1.sf hd1
  have hd3 : d3.MemOk := hd2.upd
  exact .ite (.ite hd1.sf.solSync (.ite hd3.solAbort.solTidy hd1)) h.outOfRange

theorem Dev.MemOk.solverReadyCmd {d : Dev} (h : d.MemOk) : (solverReady d).MemOk := .ite h.upd.sf.solSync h

theorem Dev.MemOk.solRec {d : Dev} {s k : Nat} {v : Word} (h : d.MemOk) : (d.solRec s k v).MemOk := h.gate4 (fun _ h1 => h1.writeRec)

theorem Dev.MemOk.joinRec {d : Dev} {q : SolReq} (h : d.MemOk) : (d.joinRec q).MemOk := h.solRec.solRec.solRec

theorem Dev.MemOk.endRec {d : Dev} {s : Nat} (h : d.MemOk) : (d.endRec s).MemOk := h.solRec

theorem Dev.MemOk.solverJobStartCmd {d : Dev} (h : d.MemOk) : (solverJobStart d).MemOk := by
  unfold solverJobStart
  split
  · exact h
  · extract_lets tgt head j src d1 d2 par ents c d3 wrote p src'
    have hd1 : d1.MemOk := h.upd
    have hd2 : d2.MemOk := hd1.sf.sb
    have hd3 : d3.MemOk := .ite hd2.joinRec hd2
    exact .ite h (.ite hd2.setJob.solSync (.ite hd2.setJob.solSync (.ite hd3.setJob.solSync hd3.calCopy.setJob.solSync)))

theorem Dev.MemOk.writePlan {d : Dev} {b : Nat} {p : SolPlan} (h : d.MemOk) : (d.writePlan b p).MemOk :=
  .sf (.sf (.foldl h fun _ _ h1 => h1.stWs.wr))

theorem Dev.MemOk.solverPlacementCmd {d : Dev} (h : d.MemOk) : (solverPlacement d).MemOk := by
  unfold solverPlacement
  split
  · exact h
  · extract_lets b l new d1 head gone d2 par
    split
    · exact h
    · split
      · exact h.setJob
      · split
        · split
          · have hd1 : d1.MemOk := .foldl h fun _ _ h1 => h1.joinRec
            have hd2 : d2.MemOk := .ite hd1.calUnstage hd1
            exact .ite h.setJob hd2.writePlan.calCommit.setJob
          · exact h.setJob
        · split
          · exact h.writePlan.calCommit.setJob
          · exact h.setJob

theorem Dev.MemOk.solDropTarget {d : Dev} {j : SolJob} {code : Nat} (h : d.MemOk) : (d.solDropTarget j code).MemOk :=
  .ite h.calUnstage.upd (.ite h.upd h)

theorem Dev.MemOk.solverResultPostCmd {d : Dev} (h : d.MemOk) : (solverResultPost d).MemOk := by
  unfold solverResultPost
  split
  · exact h
  · extract_lets b code val n gen e src e' d1 d2 src' d3 d4
    have he : e.MemOk := h.sf.inc
    have he' : e'.MemOk := h.inc
    have hd1 : d1.MemOk := .ite he.upd (.foldl he'.solDropTarget fun _ _ h1 => h1.endRec)
    have hd2 : d2.MemOk := hd1.solPost
    have hd3 : d3.MemOk := hd2.upd.sb
    have hd4 : d4.MemOk := .ite hd3.solActivate hd3
    exact .ite h hd4.solTidy

theorem Dev.MemOk.pendingEndWriteCmd {d : Dev} (h : d.MemOk) : (pendingEndWrite d).MemOk := by
  unfold pendingEndWrite
  split
  · extract_lets due src
    exact .ite (.foldl h.upd fun _ _ h1 => h1.endRec) h
  · exact h

/-! The Bench (chapter 13). -/

theorem Dev.MemOk.benchTimerInterruptCmd {h' : Nat} {d : Dev} (h : d.MemOk) : (benchTimerInterrupt h' d).MemOk := .ite h h.waitLocal

theorem Dev.MemOk.setGrp {d : Dev} {g st : Nat} (h : d.MemOk) : (d.setGrp g st).MemOk := h.sf

theorem Dev.MemOk.grpUp {d : Dev} {g : Nat} (h : d.MemOk) : (d.grpUp g).MemOk := .ite h.setGrp (.ite h.upd.setGrp h.setGrp)

theorem Dev.MemOk.benchOn {d : Dev} (h : d.MemOk) : d.benchOn.MemOk := .solSync (.foldl h fun _ _ h1 => h1.grpUp)

theorem Dev.MemOk.benchOff {d : Dev} (h : d.MemOk) : d.benchOff.MemOk := h.upd.aqStop.clearRegs.solSync

theorem Dev.MemOk.benchFault {d : Dev} {g : Nat} (h : d.MemOk) : (d.benchFault g).MemOk := .ite (.ite h.upd h) (.setGrp (.ite h.upd h))

theorem Dev.MemOk.benchBack {d : Dev} {g : Nat} (h : d.MemOk) : (d.benchBack g).MemOk := .ite h h.grpUp

end Sys2Proof.Machine
end

section
/-! ### Memory in canonical form: translation and MAC entries (O5) -/

namespace Sys2Proof.Machine

/-! DMA commands, device rings and the translation unit (chapter 11). -/

theorem Dev.MemOk.dmaCommit {d : Dev} {c : Nat} (h : d.MemOk) : (d.dmaCommit c).MemOk := .ite h.modChan.sf h.dmaRef

theorem Dev.MemOk.dmaHandoverCmd {d : Dev} {c : Nat} (h : d.MemOk) : (d.dmaHandoverCmd c).MemOk :=
  .ite h.dmaRef (.ite h.dmaRef (.ite (.ite h.dmaRef h.dmaHandover.dmaRun) h.sb))

theorem Dev.MemOk.dmaCont {d : Dev} {c : Nat} (h : d.MemOk) : (d.dmaCont c).MemOk :=
  .ite (.dmaRun (.ite h.setCh.modChan.dmaFail h.setCh.modChan)) h.dmaRef

theorem Dev.MemOk.dmaSkip {d : Dev} {c : Nat} (h : d.MemOk) : (d.dmaSkip c).MemOk := .ite h.dmaBoundary.dmaRun h.dmaRef

theorem Dev.MemOk.dmaAbort {d : Dev} {c : Nat} (h : d.MemOk) : (d.dmaAbort c).MemOk :=
  .ite h.dmaRef (.atsGo (.dmaRun (.setCh (.sb (.modChan (.dmaDropWaits (.ite h.dmaUnwait.inc h)))))))

theorem Dev.MemOk.wrDmaCmd {d : Dev} {c : Nat} {v : Word} (h : d.MemOk) : (d.wrDmaCmd c v).MemOk := by
  unfold Dev.wrDmaCmd
  extract_lets op d1
  have h1 : d1.MemOk := h.sf
  refine .ite h.dmaRef (.ite ?_ h1)
  clear_value op
  split
  · exact h1.dmaCommit
  · exact h1.dmaHandoverCmd
  · exact h1.dmaCont
  · exact h1.dmaSkip
  · exact h1.dmaAbort
  · exact h1.sb

theorem Dev.MemOk.dmaDescriptorReadCmd {c : Nat} {bad : Bool} {ws : List Word} {d : Dev} (h : d.MemOk) : (dmaDescriptorRead c bad ws d).MemOk :=
  .ite h h.modChan.dmaRun

theorem Dev.MemOk.drainRing {n : Nat} {d : Dev} {r : Nat} (h : d.MemOk) : (Dev.drainRing n d r).MemOk := by
  induction n generalizing d with
  | zero => exact h
  | succ n ih =>
    rw [Dev.drainRing]
    split
    · exact h
    · rename_i c t hc
      have hr : (d.dmaRelease c (fun y => y.modRing r (fun z => { z with order := z.order.drop 1, ovf := false }))).2.MemOk :=
        h.dmaRelease fun _ hy => hy.modRing
      refine .ite h ?_
      split
      · rename_i d1 he
        exact ih (.of2 hr he)
      · rename_i d1 he
        exact .of2 hr he

theorem Dev.MemOk.wrCrCfg {d : Dev} {r : Nat} {v : Word} (h : d.MemOk) : (d.wrCrCfg r v).MemOk :=
  .ite h (.ite h (.ite h.wrReg.modRing.wr.sb h.wrReg))

theorem Dev.MemOk.wrCrBase {d : Dev} {r : Nat} {v : Word} (h : d.MemOk) : (d.wrCrBase r v).MemOk := .ite h h.wrReg

theorem Dev.MemOk.wrCrHead {d : Dev} {r : Nat} {v : Word} (h : d.MemOk) : (d.wrCrHead r v).MemOk := .ite h h.sf.modRing.drainRing

theorem Dev.MemOk.dmaWait {d : Dev} {c k : Nat} (h : d.MemOk) : (d.dmaWait c k).MemOk := h.modChan.dmaSync.dmaRun

theorem Dev.MemOk.dmaWake {d : Dev} {c k : Nat} (h : d.MemOk) : (d.dmaWake c k).MemOk := h.modChan.dmaSync.dmaRun

theorem Dev.MemOk.cqStall {d : Dev} {q : Nat} (h : d.MemOk) : (d.cqStall q).MemOk := h.modCq.overflow

theorem Dev.MemOk.faultWant {d : Dev} {a1 : Want} (h : d.MemOk) : (d.faultWant a1).MemOk := by
  unfold Dev.faultWant
  split
  · exact h.cutFault
  · exact h.cqStall
  · split
    · exact h.cqStall
    · exact h
  · exact h.modSq
  · exact h.dmaWait
  · exact h.dmaWait
  · exact h.dmaWait
  · exact h.dmaWait
  · exact h

theorem Dev.MemOk.rxUnwait {d : Dev} {q n : Nat} (h : d.MemOk) : (d.rxUnwait q n).MemOk := h.upd.modSq

theorem Dev.MemOk.resumeWant {d : Dev} {a1 : Want} (h : d.MemOk) : (d.resumeWant a1).MemOk := by
  unfold Dev.resumeWant
  split
  · exact h.pumpSq
  · exact h.frameResume
  · exact h.modCq.drainCq
  · split
    · exact h.modCq.drainCq
    · exact h
  · split
    · exact h.rxUnwait.rxWrite
    · exact h
  · exact h.dmaWake
  · exact h.dmaWake
  · exact h.dmaWake
  · exact h.dmaWake
  · exact h.drainRing
  · exact h
  · exact h
  · exact h
  · exact h

theorem Dev.MemOk.dmaXfail {d : Dev} {c k : Nat} (h : d.MemOk) : (d.dmaXfail c k).MemOk := h.dmaFail.dmaRun

theorem Dev.MemOk.tsqFail {d : Dev} (h : d.MemOk) : d.tsqFail.MemOk := h.upd.sb.sb

theorem Dev.MemOk.failWant {d : Dev} {a1 : Want} (h : d.MemOk) : (d.failWant a1).MemOk := by
  unfold Dev.failWant
  split
  · exact h.entryUnread
  · exact h.dataFailed
  · exact .foldl h.cqFail fun _ _ h1 => h1.dmaRun
  · split
    · exact h.cqFail
    · exact h
  · split
    · exact h.rxUnwait.rxDrop.endSqe
    · exact h
  · exact h.aqFail
  · exact h.aqFail
  · exact h.modAq
  · exact h.modChan.dmaRun
  · exact h.dmaXfail
  · exact h.dmaXfail
  · exact h.dmaXfail
  · extract_lets d1
    have hd1 : d1.MemOk := h.sb
    exact .ite hd1.dmaRun hd1
  · exact h.tsqFail

theorem Dev.MemOk.failAccess {d : Dev} {w : XWait} {cause : Nat} (h : d.MemOk) : (d.failAccess w cause).MemOk :=
  .failWant (.raise (.ite h.inc h.inc.wr.wr))

theorem Dev.MemOk.dropWait {d : Dev} {w : XWait} (h : d.MemOk) : (d.dropWait w).MemOk := h.upd

theorem Dev.MemOk.fillAtc {d : Dev} {rid : Nat} {pasid : Option Nat} {addr size to_ : Nat} {r w : Bool} (h : d.MemOk) :
    (d.fillAtc rid pasid addr size to_ r w).MemOk := h.upd

theorem Dev.MemOk.pageRequest {d : Dev} {w : XWait} (h : d.MemOk) : (d.pageRequest w).MemOk := .ite h h.upd.prgGo

theorem Dev.MemOk.answerWait {d : Dev} {x : XWait} {ok r w : Bool} (h : d.MemOk) : (d.answerWait x ok r w).MemOk := by
  unfold Dev.answerWait
  extract_lets pf y src d3
  have hd3 : d3.MemOk := h.upd
  exact .ite h.failAccess (.ite h.resumeWant (.ite h.failAccess (.ite h.failAccess (.ite h.failAccess hd3.pageRequest.faultWant))))

theorem Dev.MemOk.translationCompletionCmd {rid : Nat} {pasid : Option Nat} {page : Nat} {ok : Bool} {size : AtsRange} {r w : Bool} {d : Dev}
    (h : d.MemOk) :
    (translationCompletion rid pasid page ok size r w d).MemOk := by
  unfold translationCompletion
  extract_lets l d1 d2
  have hd1 : d1.MemOk := .foldl h fun _ _ h1 => h1.dropWait
  have hd2 : d2.MemOk := .ite hd1.fillAtc hd1
  exact .ite h (.atsGo (.foldl hd2 fun _ _ h2 => h2.answerWait))

theorem Dev.MemOk.failWaits {d : Dev} {sel : XWait → Bool} {cause : Nat} (h : d.MemOk) : (d.failWaits sel cause).MemOk :=
  .foldl h.upd fun _ _ h1 => h1.failAccess

theorem Dev.MemOk.dropPrg {d : Dev} {sel : Prg → Bool} (h : d.MemOk) : (d.dropPrg sel).MemOk := h.upd.prgGo

theorem Dev.MemOk.askAgain {d : Dev} {rid : Nat} {pasid : Option Nat} {page : Nat} (h : d.MemOk) : (d.askAgain rid pasid page).MemOk :=
  h.upd.atsGo

theorem Dev.MemOk.pageResponseCmd {rid : Nat} {pasid : Option Nat} {page code : Nat} {d : Dev} (h : d.MemOk) :
    (pageResponse rid pasid page code d).MemOk := by
  unfold pageResponse
  extract_lets d0 isP pf same
  have hd0 : d0.MemOk := h.inc
  split
  · exact h
  · split
    · exact hd0
    · split
      · exact hd0.askAgain.dropPrg
      · exact hd0.dropPrg.failWaits
      · exact hd0.sb.dropPrg.failWaits

theorem Dev.MemOk.prgTimeoutCmd {d : Dev} (h : d.MemOk) : (prgTimeout d).MemOk := by
  unfold prgTimeout
  split
  · exact h
  · extract_lets d1
    have hd1 : d1.MemOk := h.waitUp.inc
    exact .ite h hd1.dropPrg.failWaits

theorem Dev.MemOk.invalidate {d : Dev} {tag : Option (Nat × Nat)} {sel : AtcEntry → Bool} (h : d.MemOk) : (d.invalidate tag sel).MemOk := h.upd

theorem Dev.MemOk.invalidateRequestCmd {itag rid : Nat} {pasid : Option Nat} {addr size : Nat} {d : Dev} (h : d.MemOk) :
    (invalidateRequest itag rid pasid addr size d).MemOk := .ite h h.invalidate

theorem Dev.MemOk.invalidateCompleteCmd {d : Dev} (h : d.MemOk) : (invalidateComplete d).MemOk := by
  unfold invalidateComplete
  split
  · exact h
  · extract_lets src d1
    split
    · exact h
    · have hd1 : d1.MemOk := h.upd
      split
      · exact hd1.inc.emit
      · exact .ite hd1 hd1.sb

theorem Dev.MemOk.wrXltCfg {d : Dev} {v : Word} (h : d.MemOk) : (d.wrXltCfg v).MemOk := .ite (.ite h.wrReg.invalidate.sb h.wrReg) h.outOfRange

/-! MAC entries, learning and lookups (chapter 9). -/

theorem Dev.MemOk.setCache {d : Dev} {s i : Nat} {w0 w1 : Word} (h : d.MemOk) : (d.setCache s i w0 w1).MemOk := h.stWs

theorem Dev.MemOk.setMain {d : Dev} {i : Nat} {w0 w1 : Word} (h : d.MemOk) : (d.setMain i w0 w1).MemOk := h.stWs

theorem Dev.MemOk.sweepRoll {d : Dev} {s : Nat} (h : d.MemOk) : (d.sweepRoll s).MemOk := h.upd

theorem Dev.MemOk.scanRoll {d : Dev} (h : d.MemOk) : d.scanRoll.MemOk := .ite h h.upd

theorem Dev.MemOk.fwdEccBad {d : Dev} {s a : Nat} (h : d.MemOk) : (d.fwdEccBad s a).MemOk := h.inc.raise

theorem Dev.MemOk.fwdReadWords {d : Dev} {s : Nat} {l : List Nat} (h : d.MemOk) : (d.fwdReadWords s l).2.MemOk :=
  .foldl h fun _ _ h1 => h1.scrub

theorem Dev.MemOk.cacheWayRead {d : Dev} {s i : Nat} (h : d.MemOk) : (d.cacheWayRead s i).MemOk := by
  unfold Dev.cacheWayRead
  split
  · rename_i _ h1
    have h2 := Dev.MemOk.of2 h.fwdReadWords h1
    exact h2.fwdEccBad.setCache
  · rename_i _ h3
    have h4 := Dev.MemOk.of2 h.fwdReadWords h3
    exact h4

theorem Dev.MemOk.mainFind {d : Dev} {s key : Nat} (h : d.MemOk) : (d.mainFind s key).2.MemOk := by
  unfold Dev.mainFind
  split
  · rename_i _ h1
    have h2 := Dev.MemOk.of2 h.fwdReadWords h1
    exact h2.fwdEccBad
  · rename_i _ h3
    have h4 := Dev.MemOk.of2 h.fwdReadWords h3
    exact h4

theorem Dev.MemOk.cacheTouch {d : Dev} {s i : Nat} (h : d.MemOk) : (d.cacheTouch s i).MemOk := .ite h.setCache h

theorem Dev.MemOk.cacheSearch {d : Dev} {s key : Nat} (h : d.MemOk) : (d.cacheSearch s key).2.MemOk := by
  unfold Dev.cacheSearch
  extract_lets d1
  have h1 : d1.MemOk := .foldl h fun _ _ hx => hx.cacheWayRead
  split
  · exact .snd h1.cacheTouch
  · exact .snd h1

theorem Dev.MemOk.cacheInstall {d : Dev} {s key : Nat} {w1 : Word} {static hit : Bool} (h : d.MemOk) :
    (d.cacheInstall s key w1 static hit).2.MemOk := by
  unfold Dev.cacheInstall
  split
  · exact h
  · extract_lets d0 d1
    have hd0 : d0.MemOk := h.sweepRoll
    have hd1 : d1.MemOk := .ite hd0.inc hd0
    exact hd1.setCache

theorem Dev.MemOk.cacheInvalid {d : Dev} {s i : Nat} (h : d.MemOk) : (d.cacheInvalid s i).MemOk := h.setCache

theorem Dev.MemOk.mainInvalid {d : Dev} {i : Nat} (h : d.MemOk) : (d.mainInvalid i).MemOk := h.setMain

theorem Dev.MemOk.cacheEvict {d : Dev} {key : Nat} {l : List Nat} (h : d.MemOk) : (d.cacheEvict key l).MemOk := by
  unfold Dev.cacheEvict
  refine .foldl h fun _ _ h1 => ?_
  extract_lets y
  have hy : y.MemOk := .foldl h1 fun _ _ h2 => h2.cacheWayRead
  split
  · exact hy.cacheInvalid
  · exact hy

theorem Dev.MemOk.xsReport {d : Dev} {s key port mainPort : Nat} (h : d.MemOk) : (d.xsReport s key port mainPort).MemOk :=
  .ite h.inc.inc.sb.raise h.inc.upd

theorem Dev.MemOk.mainWrite {d : Dev} {s key port : Nat} {learn : Bool} {a5 : Option Nat} (h : d.MemOk) :
    (d.mainWrite s key port learn a5).MemOk := by
  unfold Dev.mainWrite
  split
  · extract_lets w0 w1
    exact .ite h (.ite (.ite h.xsReport h) h.setMain)
  · split
    · split
      · exact h.inc
      · exact h.scanRoll.setMain
    · exact h

theorem Dev.MemOk.mainLearn {d : Dev} {s key port : Nat} {learn : Bool} (h : d.MemOk) : (d.mainLearn s key port learn).MemOk :=
  .ite h.inc h.mainFind.mainWrite

theorem Dev.MemOk.mainRefresh {d : Dev} {s key port : Nat} (h : d.MemOk) : (d.mainRefresh s key port).MemOk := by
  unfold Dev.mainRefresh
  extract_lets r
  split
  · exact h.inc
  · have hr : r.2.MemOk := h.mainFind
    split
    · exact .ite hr hr.setMain
    · exact hr.mainWrite

theorem Dev.MemOk.mainRead {d : Dev} {s key : Nat} (h : d.MemOk) : (d.mainRead s key).2.MemOk := by
  unfold Dev.mainRead
  extract_lets r
  have hr : r.2.MemOk := h.mainFind
  split
  · exact h
  · exact hr

theorem Dev.MemOk.mainReturn {d : Dev} {s key : Nat} {src : Bool} (h : d.MemOk) : (d.mainReturn s key src).2.MemOk := by
  unfold Dev.mainReturn
  split
  · rename_i _ h1
    have h2 := Dev.MemOk.of2 h.mainRead h1
    exact h2
  · rename_i _ h3
    have h4 := Dev.MemOk.of2 h.mainRead h3
    extract_lets d2
    have hd2 : d2.MemOk := .ite h4.mainRefresh h4
    exact .ite hd2 hd2.cacheInstall

theorem Dev.MemOk.cacheMove {d : Dev} {s i port : Nat} (h : d.MemOk) : (d.cacheMove s i port).MemOk :=
  .ite h.inc (.ite h.setCache.inc.raise h.setCache.inc.mainLearn)

theorem Dev.MemOk.sourceHit {d : Dev} {s i port : Nat} {ok : Bool} (h : d.MemOk) : (d.sourceHit s i port ok).MemOk := by
  unfold Dev.sourceHit
  extract_lets w0 w1
  exact .ite h.setCache (.ite h.inc (.ite h.cacheMove h))

theorem Dev.MemOk.learnQueue {d : Dev} {s key port : Nat} (h : d.MemOk) : (d.learnQueue s key port).MemOk := .ite h.inc h.upd

theorem Dev.MemOk.commitKey {d : Dev} {s key port : Nat} (h : d.MemOk) : (d.commitKey s key port).MemOk := by
  unfold Dev.commitKey
  split
  · rename_i _ h1
    have h2 := Dev.MemOk.of2 h.cacheInstall h1
    exact h2.inc.mainLearn
  · rename_i _ h3
    have h4 := Dev.MemOk.of2 h.cacheInstall h3
    extract_lets d2
    have hd2 : d2.MemOk := h4.mainLearn
    exact .ite hd2.inc hd2

theorem Dev.MemOk.learnKey {d : Dev} {s key port : Nat} (h : d.MemOk) : (d.learnKey s key port).MemOk := by
  unfold Dev.learnKey
  split
  · rename_i _ h1
    have h2 := Dev.MemOk.of2 h.cacheSearch h1
    exact h2.sourceHit
  · rename_i _ h3
    have h4 := Dev.MemOk.of2 h.cacheSearch h3
    split
    · rename_i _ h5
      have h6 := Dev.MemOk.of2 (h4.mainRead) h5
      exact .ite h6 h6.inc
    · rename_i _ _ h7
      have h8 := Dev.MemOk.of2 (h4.mainRead) h7
      exact h8.commitKey

end Sys2Proof.Machine
end

section
/-! ### Memory in canonical form: ring cycles and the forwarding pass (O5) -/

namespace Sys2Proof.Machine

/-! Cycle boundaries and the control segment of the ring (chapter 6). -/

theorem Dev.MemOk.thetaOf {d : Dev} {l : List RSync} (h : d.MemOk) : (d.thetaOf l).2.MemOk := by
  have hr : ∀ a b, (d.freeDiv a b).2.MemOk := fun _ _ => h.freeDiv
  unfold Dev.thetaOf
  obtain ⟨f, hf⟩ : ∃ f, Dev.freeDiv d = f := ⟨_, rfl⟩
  rw [hf] at hr ⊢
  extract_lets best used kept r
  split
  · exact h
  · exact .snd (hr _ _)

theorem Dev.MemOk.msBoundary {d : Dev} {a c : Nat} (h : d.MemOk) : (d.msBoundary a c).MemOk := by
  unfold Dev.msBoundary
  split
  · exact h
  · extract_lets m acks d1
    split
    · exact .ite h.modAtt h
    · split
      · exact .ite h.sf.modAtt h
      · split
        · split
          · exact h.modAtt.msStat
          · have hd1 : d1.MemOk := .modAtt (.ite h.abandonOffer h)
            exact hd1.inc.raise.msStat
        · exact .ite h.sf h

theorem Dev.MemOk.barBoundary {d : Dev} {a : Nat} (h : d.MemOk) : (d.barBoundary a).MemOk := .ite h.modAtt.sb.sb.wakeBarrier h

theorem Dev.MemOk.listenBoundary {d : Dev} {a k : Nat} (h : d.MemOk) : (d.listenBoundary a k).MemOk :=
  .ite (.ite (.ite h.modAtt.rngTo h.modAtt.modAtt) h.modAtt) h

theorem Dev.MemOk.sendBoundary {d : Dev} {a c : Nat} (h : d.MemOk) : (d.sendBoundary a c).MemOk :=
  .ite h.ringSend (.ite h.modAtt.modAtt.ringSend h.modAtt)

theorem Dev.MemOk.ringCycleBoundaryCmd {a0 : Nat} {d : Dev} (h : d.MemOk) : (ringCycleBoundary a0 d).MemOk :=
  .ite h h.waitLocal.modAtt.upd.msBoundary.wakeSwitch.barBoundary.listenBoundary.sendBoundary

theorem Dev.MemOk.segMode {d : Dev} {a k : Nat} (h : d.MemOk) : (d.segMode a k).MemOk := by
  unfold Dev.segMode
  split
  · exact h.sb
  · extract_lets r m mis seen d1 ahead
    clear_value seen m
    have h1 : d1.MemOk := h.sb.modAtt
    refine .ite ?_ h1
    split
    · refine .ite h1.offer ?_
      split
      · exact h1.offer
      · exact h1
    · exact h1.offer
    · exact h1

theorem Dev.MemOk.segProposal {d : Dev} {a k : Nat} (h : d.MemOk) : (d.segProposal a k).MemOk := by
  unfold Dev.segProposal
  extract_lets r c best
  clear_value best
  split
  · exact h
  · extract_lets w take
    have ht : ∀ x lost, x.MemOk → (take x lost).MemOk := fun x lost hx => hx.offer.modAtt.msStat
    refine .ite h.modAtt ?_
    split
    · exact ht _ _ h
    · exact .ite (ht _ _ h.solActEnd.abandonOffer) h

theorem Dev.MemOk.segAcks {d : Dev} {a c : Nat} (h : d.MemOk) : (d.segAcks a c).MemOk := by
  unfold Dev.segAcks
  split
  · exact h
  · extract_lets l
    exact .ite h.modAtt h

theorem Dev.MemOk.segBarrier {d : Dev} {a : Nat} (h : d.MemOk) : (d.segBarrier a).MemOk := .ite h.modAtt h

theorem Dev.MemOk.segRules {d : Dev} {a : Nat} {full small : Bool} (h : d.MemOk) : (d.segRules a full small).MemOk := by
  unfold Dev.segRules
  extract_lets st r act live losses noAct clique d1 mis
  have hd1 : d1.MemOk := .ite h.modAtt h
  exact .ite hd1.inc.rngTo (.ite hd1.rngTo (.ite hd1.rngTo (.ite hd1.rngTo
    (.ite hd1.inc.raise.rngTo (.ite hd1.rngTo (.ite hd1.rngTo (.ite hd1.rngTo (.ite hd1.rngTo hd1))))))))

theorem Dev.MemOk.segMembers {d : Dev} {a : Nat} (h : d.MemOk) : (d.segMembers a).MemOk := h.setMembers.modAtt

theorem Dev.MemOk.segPorts {d : Dev} {a : Nat} (h : d.MemOk) : (d.segPorts a).MemOk := .foldl h fun _ _ h1 => h1.upd

theorem Dev.MemOk.segTheta {d : Dev} {a : Nat} (h : d.MemOk) : (d.segTheta a).2.MemOk := by
  unfold Dev.segTheta
  split
  · exact h
  · split
    · rename_i _ h1
      have h2 := Dev.MemOk.of2 h.thetaOf h1
      exact h2
    · rename_i _ h3
      have h4 := Dev.MemOk.of2 h.thetaOf h3
      extract_lets d2 run d3
      have hd2 : d2.MemOk := h4.sf.sf
      have hd3 : d3.MemOk := hd2.sf
      exact .ite hd3.sourceSample hd3

theorem Dev.MemOk.controlSegmentEndCmd {a0 : Nat} {d : Dev} (h : d.MemOk) : (controlSegmentEnd a0 d).MemOk := by
  unfold controlSegmentEnd
  extract_lets a cy done k d0 c seg th d1 inside x near old before beforeNear keep was d2 d3 d4
  have hd0 : d0.MemOk := h.waitLocal.modAtt
  have hth : th.2.MemOk := hd0.segPorts.segTheta
  have hd1 : d1.MemOk := hth
  have hd2 : d2.MemOk := hd1.modAtt.segMode
  have hd3 : d3.MemOk := .segAcks (.wakeSwitch (.ite hd2.segProposal hd2))
  have hd4 : d4.MemOk := hd3.segRules.segMembers.segBarrier
  exact .ite h (.ite hd0.segPorts.modAtt.setMembers hd4.modAtt)

theorem Dev.MemOk.collectionWindowEndCmd {a0 : Nat} {d : Dev} (h : d.MemOk) : (collectionWindowEnd a0 d).MemOk := by
  unfold collectionWindowEnd
  extract_lets a
  split
  · exact h
  · split
    · exact h
    · extract_lets d0 win d1 syncs cold cyc go
      have h1 : d1.MemOk := h.waitUp.modAtt
      have hgo : ∀ (x : Dev) th, x.MemOk → (go x th).MemOk := fun x th hx => .ite hx.stepBy.modAtt hx.slewBy.modAtt
      have hth : (d1.thetaOf syncs).2.MemOk := h1.thetaOf
      refine .ite ?_ ?_
      · clear_value cold
        split
        · exact hgo _ _ h1.sf
        · exact h1
      · split
        · rename_i th d2 he
          exact hgo _ _ (.of2 hth he)
        · rename_i d2 he
          exact .of2 hth he

theorem Dev.MemOk.coldstartAbortWaitCmd {a0 : Nat} {d : Dev} (h : d.MemOk) : (coldstartAbortWait a0 d).MemOk := by
  unfold coldstartAbortWait
  extract_lets a
  split
  · exact h
  · exact .ite h.waitUp.rngTo h

/-! Reception on a ring port (chapter 6). -/

theorem Dev.MemOk.toPipeline {d : Dev} {f : Frame} (h : d.MemOk) : (d.toPipeline f).MemOk := by
  unfold Dev.toPipeline
  extract_lets g
  split
  · split
    · rename_i _ h1
      have h2 := Dev.MemOk.of2 h.newFrame h1
      extract_lets src
      exact h2.upd
  · exact h

theorem Dev.MemOk.circuit {d : Dev} {p : Nat} {l : List Byte} {st : Nat} (h : d.MemOk) : (d.circuit p l st).MemOk :=
  .ite h.freeDiv.sf.sb.sb.raise h.freeDiv.sf.sb

theorem Dev.MemOk.fit32 {d : Dev} {x : Int} (h : d.MemOk) : (d.fit32 x).2.MemOk := by
  unfold Dev.fit32
  split
  · exact h
  · exact h.useFree

theorem Dev.MemOk.ldlySample {d : Dev} {p : Nat} {s : Int} (h : d.MemOk) : (d.ldlySample p s).MemOk :=
  .ite (.ite h h.freeDiv.fit32.sf) h.freeDiv.fit32.sf.sb

theorem Dev.MemOk.neighbour {d : Dev} {p : Nat} {l : List Byte} {st : Nat} (h : d.MemOk) : (d.neighbour p l st).MemOk := by
  unfold Dev.neighbour
  extract_lets n prev x rx tx d1 src
  have hd1 : d1.MemOk := by
    unfold d1
    split
    · exact .ite h h.ldlySample
    · exact h
  exact hd1.upd

theorem Dev.MemOk.ringForward {d : Dev} {p : Nat} {l : List Byte} {st : Nat} (h : d.MemOk) : (d.ringForward p l st).MemOk :=
  .ite h (.ite h.inc (.ite h.inc h.modPort.inc.askCut.upd))

theorem Dev.MemOk.listenRx {d : Dev} {a : Nat} {f : RSync} (h : d.MemOk) : (d.listenRx a f).MemOk := h.modAtt

theorem Dev.MemOk.coldRx {d : Dev} {a : Nat} {f : RSync} (h : d.MemOk) : (d.coldRx a f).MemOk := .ite h.modAtt.inc h

theorem Dev.MemOk.snapRx {d : Dev} {a p : Nat} {f : RSync} (h : d.MemOk) : (d.snapRx a p f).MemOk :=
  .ite h (.ite (.ite (.modAtt (.ite h h.snapArm)) (.inc (.ite h h.snapArm))) (.ite h h.snapArm))

theorem Dev.MemOk.syncAccepted {d : Dev} {a p : Nat} {f : RSync} {inSeg : Bool} (h : d.MemOk) : (d.syncAccepted a p f inSeg).MemOk :=
  .snapRx (.ite (.listenRx (.ite h.modAtt h)) (.ite (.coldRx (.ite h.modAtt h)) (.ite h.modAtt h)))

theorem Dev.MemOk.bcastRx {d : Dev} {a : Nat} {l : List Byte} (h : d.MemOk) : (d.bcastRx a l).MemOk :=
  .ite h (.ite h.inc (.ite h.upd.syncBc.upd h.upd.syncBc))

theorem Dev.MemOk.dataRx {d : Dev} {p : Nat} {l : List Byte} {st : Nat} (h : d.MemOk) : (d.dataRx p l st).MemOk := h.toPipeline

theorem Dev.MemOk.syncRx {d : Dev} {a p : Nat} {l : List Byte} {st : Nat} (h : d.MemOk) : (d.syncRx a p l st).MemOk := by
  unfold Dev.syncRx
  extract_lets d1 f inSeg live d2
  have hd1 : d1.MemOk := .ite h.neighbour h
  have hd2 : d2.MemOk := .ite (.inc (.ite hd1 hd1.modAtt)) hd1.syncAccepted.inc
  exact .ite h.inc hd2.ringForward

theorem Dev.MemOk.ringReceive {d : Dev} {p : Nat} {l : List Byte} {st : Nat} (h : d.MemOk) : (d.ringReceive p l st).MemOk := by
  unfold Dev.ringReceive
  extract_lets a k
  split
  · exact h
  · split
    · exact h.inc
    · split
      · exact h.inc
      · split
        · exact .inc (.ite h.circuit h)
        · split
          · exact .ite h.inc h.dataRx.inc
          · exact h.bcastRx.inc.ringForward
          · exact h.syncRx

/-! A frame's pass through its slice (chapter 9). -/

theorem Dev.MemOk.readWays {d : Dev} {s : Nat} {f : Frame} (h : d.MemOk) : (d.readWays s f).MemOk :=
  .foldl h fun _ _ h1 => .foldl h1 fun _ _ h2 => h2.cacheWayRead

theorem Dev.MemOk.fwdTake {d : Dev} {id : Nat} (h : d.MemOk) : (d.fwdTake id).MemOk := h.upd

theorem Dev.MemOk.afterFrame {d : Dev} {f : Frame} (h : d.MemOk) : (d.afterFrame f).MemOk := by
  unfold Dev.afterFrame
  split
  · exact h.pauseCheck
  · exact h

theorem Dev.MemOk.fwdEnd {d : Dev} {id : Nat} {ports : List Nat} {st : Nat} (h : d.MemOk) : (d.fwdEnd id ports st).MemOk := by
  unfold Dev.fwdEnd
  split
  · exact h
  · extract_lets d1 d2
    have hd2 : d2.MemOk := by
      unfold d2
      have hd1 : d1.MemOk := h.setFrame
      split
      · exact .ite hd1.endSqe hd1.modSqe
      · exact hd1
    exact .afterFrame (.reap (.foldl hd2 fun _ _ h1 => h1.enqueue.purge))

theorem Dev.MemOk.fwdDiscard {d : Dev} {id : Nat} (h : d.MemOk) : (d.fwdDiscard id).MemOk := h.fwdEnd

theorem Dev.MemOk.toHost {d : Dev} {s id : Nat} {rx : Option Nat} (h : d.MemOk) : (d.toHost s id rx).MemOk := by
  unfold Dev.toHost
  split
  · exact .ite h.inc.deliver h
  · exact h

theorem Dev.MemOk.sourceStep {d : Dev} {s id p : Nat} {f : Frame} (h : d.MemOk) : (d.sourceStep s id p f).2.MemOk := by
  have hc : ∀ key, (d.cacheSearch s key).2.MemOk := fun _ => h.cacheSearch
  unfold Dev.sourceStep
  extract_lets sa key ok
  split
  · rename_i d1 he
    exact .snd (Dev.MemOk.of2 (hc _) he).sourceHit
  · rename_i d1 he
    have h1 : d1.MemOk := .of2 (hc _) he
    split
    · exact .snd (.ite h1 h1.inc)
    · exact .snd h1
    · exact .snd (.ite h1.learnQueue h1)

theorem Dev.MemOk.sourceLook {d : Dev} {s id : Nat} {f : Frame} (h : d.MemOk) : (d.sourceLook s id f).2.MemOk := by
  unfold Dev.sourceLook
  split
  · exact h.sourceStep
  · extract_lets key
    split
    · rename_i _ h1
      have h2 := Dev.MemOk.of2 h.cacheSearch h1
      exact h2
    · rename_i _ h3
      have h4 := Dev.MemOk.of2 h.cacheSearch h3
      exact h4

theorem Dev.MemOk.destStep {d : Dev} {s id : Nat} {f : Frame} (h : d.MemOk) : (d.destStep s id f).2.MemOk := by
  unfold Dev.destStep
  extract_lets key
  split
  · rename_i _ h1
    have h2 := Dev.MemOk.of2 h.cacheSearch h1
    exact h2
  · rename_i _ h3
    have h4 := Dev.MemOk.of2 h.cacheSearch h3
    exact h4

theorem Dev.MemOk.trieStep {d : Dev} {s : Nat} {f : Frame} (h : d.MemOk) : (d.trieStep s f).2.MemOk := by
  unfold Dev.trieStep
  extract_lets wanted
  split
  · extract_lets r
    split
    · have hr : r.2.MemOk := h.fwdReadWords
      split
      · exact hr
      · exact hr
    · exact h
  · exact h

theorem Dev.MemOk.recvStream {d : Dev} {id : Nat} {f : Frame} {n : Nat} (h : d.MemOk) : (d.recvStream id f n).2.MemOk := by
  unfold Dev.recvStream
  extract_lets d1 bar q r a
  have hd1 : d1.MemOk := h.readRec
  have hr : r.2.MemOk := by
    unfold r
    split
    · exact hd1.recover
    · exact hd1
  have ha : a.2.MemOk := hr.assignSeq
  split
  · exact hd1.countBar
  · split
    · exact ha.setFrame
    · exact hr

theorem Dev.MemOk.identify {d : Dev} {id : Nat} {f : Frame} {n : Option Nat} (h : d.MemOk) : (d.identify id f n).2.MemOk := by
  unfold Dev.identify
  split
  · exact h
  · exact h.recvStream
  · split
    · exact h.inc
    · exact h

theorem Dev.MemOk.holdFabric {d : Dev} {s id n : Nat} (h : d.MemOk) : (d.holdFabric s id n).MemOk := by
  unfold Dev.holdFabric
  extract_lets held d1
  split
  · have hd1 : d1.MemOk := by
      unfold d1
      split
      · split
        · exact h.dropFrame.inc.afterFrame
        · exact h
      · exact h
    exact hd1
  · extract_lets d2
    split
    · have hd1 : d1.MemOk := by
        unfold d1
        split
        · split
          · exact h.dropFrame.inc.afterFrame
          · exact h
        · exact h
      have hd2 : d2.MemOk := hd1.setFrame
      exact hd2.endSqe
    · have hd1 : d1.MemOk := by
        unfold d1
        split
        · split
          · exact h.dropFrame.inc.afterFrame
          · exact h
        · exact h
      have hd2 : d2.MemOk := hd1.setFrame
      exact hd2

theorem Dev.MemOk.routeExc {d : Dev} {s id : Nat} {host : Bool} (h : d.MemOk) : (d.routeExc s id host).MemOk := by
  unfold Dev.routeExc
  extract_lets d1
  have hd1 : d1.MemOk := h.inc
  split
  · exact .ite hd1.toHost.fwdDiscard hd1.fwdDiscard
  · exact hd1

theorem Dev.MemOk.send {d : Dev} {s id set : Nat} {flood extra : Bool} (h : d.MemOk) : (d.send s id set flood extra).MemOk := by
  unfold Dev.send
  split
  · exact h
  · extract_lets ps worn drop qs d1
    have hd1 : d1.MemOk := .ite h.inc h
    exact .ite hd1.inc.fwdDiscard hd1.fwdEnd

theorem Dev.MemOk.route {d : Dev} {s id : Nat} {f : Frame} {res : Option Word} (h : d.MemOk) : (d.route s id f res).MemOk := by
  unfold Dev.route
  extract_lets v6
  split
  · exact h.routeExc
  · split
    · exact h.routeExc
    · split
      · rename_i _ h1
        have h2 := Dev.MemOk.of2 h.fwdReadWords h1
        exact h2.fwdEccBad.fwdDiscard
      · rename_i _ h3
        have h4 := Dev.MemOk.of2 h.fwdReadWords h3
        extract_lets w0
        split
        · exact h4.routeExc
        · exact h4.inc.setFrame.send
        · exact h4.inc.deliver.fwdEnd
        · exact h4.routeExc

theorem Dev.MemOk.destSet {d : Dev} {s id : Nat} {f : Frame} {res : Option Word} (h : d.MemOk) : (d.destSet s id f res).MemOk := by
  unfold Dev.destSet
  extract_lets v d1 copy
  split
  · have hd1 : d1.MemOk := h.inc
    exact .ite (.send (.ite hd1.toHost hd1)) h.send
  · split
    · exact h.send
    · extract_lets g copy'
      exact .send (.ite h.toHost h)
    · exact h.deliver.fwdEnd
    · exact h.inc.fwdDiscard

theorem Dev.MemOk.fwdOut {d : Dev} {s id : Nat} {da trie : Option Word} (h : d.MemOk) : (d.fwdOut s id da trie).MemOk := by
  unfold Dev.fwdOut
  split
  · exact h
  · split
    · exact .ite h.holdFabric (.ite h.route h.destSet)
    · exact .ite h.route h.destSet

theorem Dev.MemOk.fwdLook {d : Dev} {s id : Nat} {f : Frame} (h : d.MemOk) : (d.fwdLook s id f).MemOk := by
  unfold Dev.fwdLook
  extract_lets r3
  split
  · rename_i _ h1
    have h2 := Dev.MemOk.of2 (h.sourceLook.trieStep) h1
    exact h2.fwdTake.fwdEccBad.fwdDiscard
  · rename_i _ h3
    have h4 := Dev.MemOk.of2 (h.sourceLook.trieStep) h3
    extract_lets r5 r6
    have hr5 : r5.2.MemOk := h4.destStep
    have hr6 : r6.2.MemOk := hr5.fwdTake.identify
    exact .ite hr6.fwdOut hr6.fwdDiscard

theorem Dev.MemOk.fwdRun {d : Dev} {s id : Nat} {f0 : Frame} (h : d.MemOk) : (d.fwdRun s id f0).MemOk := by
  unfold Dev.fwdRun
  extract_lets f d0 d1
  have hd0 : d0.MemOk := h.setFrame
  split
  · exact hd0.fwdTake.toHost.fwdEnd
  · have hd1 : d1.MemOk := .ite hd0.toHost hd0
    split
    · exact hd1
    · exact .ite hd1.fwdTake.inc.fwdDiscard hd1.fwdLook

theorem Dev.MemOk.fwdPick {d : Dev} {s : Nat} {l held stuck : List Nat} (h : d.MemOk) : (d.fwdPick s l held stuck).MemOk := by
  induction l generalizing d held stuck with
  | nil => exact h
  | cons id t ih =>
    rw [Dev.fwdPick]
    split
    · exact ih h
    · rename_i f hf
      have h1 : (if f.hostOnly = true ∨ d.vlanOk f = false then d else d.readWays s f).MemOk := .ite h h.readWays
      exact .ite (ih h) (.ite (.ite h1.upd (ih h1)) (.ite (ih h1) h1.fwdRun))

theorem Dev.MemOk.forwardFrameCmd {s : Nat} {d : Dev} (h : d.MemOk) : (forwardFrame s d).MemOk := .ite h.fwdPick h

theorem Dev.MemOk.mainTableLookupReturnCmd {s : Nat} {d : Dev} (h : d.MemOk) : (mainTableLookupReturn s d).MemOk := by
  unfold mainTableLookupReturn
  split
  · exact h
  · extract_lets r src src'
    have hr : r.2.MemOk := h.mainReturn
    have hsrc : src.MemOk := hr
    exact hsrc.upd

end Sys2Proof.Machine
end

section
/-! ### Memory in canonical form: tables, links and buses (O5) -/

namespace Sys2Proof.Machine

/-! The tables' own machinery (chapter 9). -/

theorem Dev.MemOk.learnCommitCmd {s : Nat} {d : Dev} (h : d.MemOk) : (learnCommit s d).MemOk := by
  unfold learnCommit
  split
  · exact h
  · extract_lets d1 src d2
    have hd1 : d1.MemOk := h.waitUp
    have hd2 : d2.MemOk := hd1.upd
    exact .ite h hd2.learnKey

theorem Dev.MemOk.xsReconcileCmd {d : Dev} (h : d.MemOk) : (xsReconcile d).MemOk := by
  unfold xsReconcile
  split
  · exact h
  · extract_lets key src d1 d2 e
    split
    · have hd1 : d1.MemOk := h.upd
      have hd2 : d2.MemOk := hd1.cacheEvict
      split
      · exact hd2.inc
      · have he : e.2.MemOk := hd2.mainFind
        split
        · exact .ite he he.setMain
        · exact he
    · have hd1 : d1.MemOk := h.upd
      exact hd1.cacheEvict
    · exact h

theorem Dev.MemOk.sweepVisit {d : Dev} {s i : Nat} (h : d.MemOk) : (d.sweepVisit s i).MemOk := by
  unfold Dev.sweepVisit
  extract_lets d1 w0 w1 src
  have hd1 : d1.MemOk := h.cacheWayRead.cacheTouch
  exact .ite hd1 (.ite hd1.setCache.mainRefresh (.ite hd1.setCache hd1.upd))

theorem Dev.MemOk.cacheSweepVisitCmd {s : Nat} {d : Dev} (h : d.MemOk) : (cacheSweepVisit s d).MemOk := by
  unfold cacheSweepVisit
  split
  · exact h
  · split
    · exact h
    · extract_lets due d1 src d2
      have hd1 : d1.MemOk := h.waitUp
      have hd2 : d2.MemOk := hd1.upd
      exact hd2.sweepVisit

theorem Dev.MemOk.cacheCompareRemoveCmd {s : Nat} {d : Dev} (h : d.MemOk) : (cacheCompareRemove s d).MemOk := by
  unfold cacheCompareRemove
  split
  · exact h
  · extract_lets src d1 w0
    have hd1 : d1.MemOk := h.upd.cacheWayRead
    exact .ite hd1.cacheInvalid.inc hd1

theorem Dev.MemOk.syncReady {d : Dev} (h : d.MemOk) : d.syncReady.MemOk := h.sb.sb

theorem Dev.MemOk.bucketClear {d : Dev} {b : Nat} (h : d.MemOk) : (d.bucketClear b).MemOk := .foldl h fun _ _ h1 => .ite h1.mainInvalid h1

theorem Dev.MemOk.scanVisit {d : Dev} {i : Nat} (h : d.MemOk) : (d.scanVisit i).MemOk := by
  unfold Dev.scanVisit
  split
  · rename_i _ h1
    have h2 := Dev.MemOk.of2 h.fwdReadWords h1
    exact h2.fwdEccBad.bucketClear
  · rename_i _ h3
    have h4 := Dev.MemOk.of2 h.fwdReadWords h3
    extract_lets w0 w1 src
    exact .ite h4.mainInvalid (.ite h4 (.ite h4.upd h4))

theorem Dev.MemOk.mainScanVisitCmd {d : Dev} (h : d.MemOk) : (mainScanVisit d).MemOk :=
  .ite h (.ite h.waitUp.upd.scanVisit h.waitUp.upd.syncReady)

theorem Dev.MemOk.mainCompareRemoveCmd {d : Dev} (h : d.MemOk) : (mainCompareRemove d).MemOk := by
  unfold mainCompareRemove
  split
  · exact h
  · extract_lets src d1 r
    have hd1 : d1.MemOk := h.upd
    have hr : r.2.MemOk := hd1.mainFind
    exact .ite hd1.inc (.ite hr.mainInvalid.inc hr)

theorem Dev.MemOk.outageSync {d : Dev} (h : d.MemOk) : d.outageSync.MemOk := by
  unfold Dev.outageSync
  split
  · extract_lets src
    exact h.upd
  · extract_lets src
    exact h.upd
  · exact h

theorem Dev.MemOk.flashClear {d : Dev} {static : Bool} (h : d.MemOk) : (d.flashClear static).MemOk :=
  .foldl h fun _ _ h1 => .foldl h1 fun _ _ h2 => h2.cacheInvalid

theorem Dev.MemOk.bump {d : Dev} {static : Bool} (h : d.MemOk) : (d.bump static).MemOk :=
  .ite h.sb (.syncReady (.ite h.scanRoll.sf.flashClear.upd h.scanRoll.sf.flashClear.upd))

theorem Dev.MemOk.wrFwdClr {d : Dev} {v : Word} (h : d.MemOk) : (d.wrFwdClr v).MemOk := .ite (.bump (.ite h.bump h)) (.ite h.bump h)

theorem Dev.MemOk.tblInsert {d : Dev} {key : Nat} {w1 : Word} (h : d.MemOk) : (d.tblInsert key w1).2.MemOk := by
  unfold Dev.tblInsert
  extract_lets r ts w
  split
  · exact h
  · split
    · exact h
    · have hr : r.2.MemOk := h.mainFind
      split
      · exact hr
      · exact hr.scanRoll.useFree.setMain.cacheEvict

theorem Dev.MemOk.tblDelete {d : Dev} {key : Nat} {strict : Bool} (h : d.MemOk) : (d.tblDelete key strict).2.MemOk := by
  unfold Dev.tblDelete
  extract_lets r
  split
  · exact h
  · have hr : r.2.MemOk := h.mainFind
    split
    · exact hr.mainInvalid.cacheEvict
    · exact .ite hr hr.cacheEvict

theorem Dev.MemOk.tblLookup {d : Dev} {key : Nat} (h : d.MemOk) : (d.tblLookup key).2.MemOk := by
  unfold Dev.tblLookup
  extract_lets r
  split
  · exact h
  · have hr : r.2.MemOk := h.mainFind
    split
    · exact hr
    · exact hr

theorem Dev.MemOk.tblRun {d : Dev} {op : Nat} {strict : Bool} (h : d.MemOk) : (d.tblRun op strict).2.MemOk := by
  unfold Dev.tblRun
  extract_lets key r r'
  split
  · have hr : r.2.MemOk := h.tblInsert
    exact hr
  · have hr' : r'.2.MemOk := h.tblDelete
    exact hr'
  · exact h.tblLookup
  · exact h.cacheEvict

theorem Dev.MemOk.tblDone {d : Dev} {r : Nat} {o : Option (Word × Nat × Bool)} (h : d.MemOk) : (d.tblDone r o).MemOk := by
  unfold Dev.tblDone
  extract_lets d1 src d2
  have hd1 : d1.MemOk := h.sb.sf.sb
  have hd2 : d2.MemOk := hd1.upd
  split
  · exact hd2.sf.sb.wr
  · exact hd2

theorem Dev.MemOk.tblSync {d : Dev} (h : d.MemOk) : d.tblSync.MemOk := by
  unfold Dev.tblSync
  split
  · exact .ite h.tblDone h
  · exact h

theorem Dev.MemOk.tblGo {d : Dev} {op : Nat} (h : d.MemOk) : (d.tblGo op).MemOk := h.useFree.tblRun.sb.upd

theorem Dev.MemOk.wrTblCmd {d : Dev} {v : Word} (h : d.MemOk) : (d.wrTblCmd v).MemOk :=
  .ite (.ite h.wrReg (.ite h.wrReg.sb h.wrReg.tblGo)) h.outOfRange

theorem Dev.MemOk.fwdWrite {d : Dev} {o : Nat} {v : Word} (h : d.MemOk) : (d.fwdWrite o v).MemOk := .stW (.ite h.scanRoll (.ite h.sweepRoll h))

theorem Dev.MemOk.tsqDone {d : Dev} (h : d.MemOk) : d.tsqDone.MemOk := h.upd.sf.sb

theorem Dev.MemOk.tsqEndCheck {d : Dev} (h : d.MemOk) : d.tsqEndCheck.MemOk := .ite h.tsqDone h

theorem Dev.MemOk.tsqBegin {d : Dev} (h : d.MemOk) : d.tsqBegin.MemOk := h.upd.sb

theorem Dev.MemOk.tsqIssue {d : Dev} {r : TsqRead} (h : d.MemOk) : (d.tsqIssue r).MemOk := by
  unfold Dev.tsqIssue
  extract_lets len a
  split
  · exact h
  · split
    · rename_i _ h1
      have h2 := Dev.MemOk.of2 h.xlate h1
      exact h2
    · rename_i _ h3
      have h4 := Dev.MemOk.of2 h.xlate h3
      extract_lets src
      exact h4.upd.hostRead

theorem Dev.MemOk.tsqVisit {d : Dev} (h : d.MemOk) : d.tsqVisit.MemOk := by
  unfold Dev.tsqVisit
  split
  · exact h.tsqEndCheck
  · extract_lets rate d1 src d2 a e d3 r src'
    have hd1 : d1.MemOk := h.waitUp
    have hd2 : d2.MemOk := hd1.upd.sf
    have hd3 : d3.MemOk := by
      unfold d3
      split
      · have he : e.2.MemOk := by
          unfold e
          split
          · exact hd2
          · exact hd2.fwdReadWords
        exact he.fwdEccBad
      · have he : e.2.MemOk := by
          unfold e
          split
          · exact hd2
          · exact hd2.fwdReadWords
        exact he
    exact .ite hd2.tsqEndCheck hd3.upd.tsqIssue

theorem Dev.MemOk.tsqMiss {d : Dev} {k ofs : Nat} {repaired : Bool} (h : d.MemOk) : (d.tsqMiss k ofs repaired).MemOk :=
  .raise (.ite (.ite h.inc.inc h.inc) (.wr (.ite h.inc.inc h.inc)))

theorem Dev.MemOk.tsqRepair {d : Dev} {ofs : Nat} {was shadow : Word} (h : d.MemOk) : (d.tsqRepair ofs was shadow).2.MemOk := by
  simp only [Dev.tsqRepair, apply_ite Prod.snd]
  exact .ite h (.ite h.stW (.ite (.ite h.writeRec h.writeRec) h))

theorem Dev.MemOk.tsqImage {d : Dev} {r : TsqRead} {shadow : Word} (h : d.MemOk) : (d.tsqImage r shadow).MemOk := by
  unfold Dev.tsqImage
  extract_lets m ofs x
  have hx : x.2.MemOk := by
    unfold x
    split
    · exact h.tsqRepair
    · exact h
  exact .ite h hx.tsqMiss

theorem Dev.MemOk.tsqEntry {d : Dev} {r : TsqRead} {s0 s1 : Word} (h : d.MemOk) : (d.tsqEntry r s0 s1).MemOk := by
  unfold Dev.tsqEntry
  extract_lets key cmp fix e y
  have he : e.2.MemOk := h.mainFind
  have hfix : ∀ x : Dev, x.MemOk → (fix x).2.MemOk := by
    intro x hx
    simp only [fix, apply_ite Prod.snd]
    exact .ite hx.tblInsert hx
  have hy : y.2.MemOk := hfix _ he
  split
  · exact .ite he hy.tsqMiss
  · split
    · exact hy.tsqMiss
    · exact hy.useFree.tsqMiss

theorem Dev.MemOk.tsqJudge {d : Dev} {r : TsqRead} {ws : List Word} (h : d.MemOk) : (d.tsqJudge r ws).MemOk :=
  .tsqEndCheck (.ite h.upd.tsqEntry h.upd.tsqImage)

theorem Dev.MemOk.tsqCompareCmd {ws : List Word} {d : Dev} (h : d.MemOk) : (tsqCompare ws d).MemOk := by
  unfold tsqCompare
  split
  · exact h
  · extract_lets src
    exact .ite h (.ite h.upd h.tsqJudge)

theorem Dev.MemOk.tsqWordVisitCmd {d : Dev} (h : d.MemOk) : (tsqWordVisit d).MemOk := by
  unfold tsqWordVisit
  extract_lets d0
  split
  · exact h
  · split
    · exact h.sb
    · have hd0 : d0.MemOk := h.sb
      split
      · exact hd0.tsqJudge
      · exact hd0.tsqIssue
      · exact .ite hd0.tsqVisit (.ite hd0.tsqBegin.tsqVisit hd0)

theorem Dev.MemOk.wrFwdAge {d : Dev} {v : Word} (h : d.MemOk) : (d.wrFwdAge v).MemOk :=
  .ite h.outOfRange (.wrReg (.foldl h.scanRoll fun _ _ h1 => h1.sweepRoll))

theorem Dev.MemOk.wrFwdPort {d : Dev} {p : Nat} {v : Word} (h : d.MemOk) : (d.wrFwdPort p v).MemOk := .ite h.wr (.ite h.outOfRange h.wr)

theorem Dev.MemOk.wrFwdVlan {d : Dev} {n : Nat} {v : Word} (h : d.MemOk) : (d.wrFwdVlan n v).MemOk := h.wrReg

theorem Dev.MemOk.wrTsqAddr {d : Dev} {k : Nat} {v : Word} (h : d.MemOk) : (d.wrTsqAddr k v).MemOk := .ite h.wrReg h.outOfRange

theorem Dev.MemOk.wrTsqHost {d : Dev} {k : Nat} {v : Word} (h : d.MemOk) : (d.wrTsqHost k v).MemOk := .ite h.wrReg h.outOfRange

theorem Dev.MemOk.wrFwdReg {d : Dev} {a : Nat} {v : Word} (h : d.MemOk) : (d.wrFwdReg a v).MemOk := by
  unfold Dev.wrFwdReg
  split
  · exact h.wrFwdClr
  · split
    · exact h.wrTblCmd
    · split
      · exact h.wrFwdAge
      · split
        · exact h.wrFwdPort
        · exact h.wrFwdVlan
        · exact h.wrTsqAddr
        · exact h.wrTsqHost
        · exact h.wrReg

theorem Dev.MemOk.wrFwd {d : Dev} {a : Nat} {v : Word} (h : d.MemOk) : (d.wrFwd a v).MemOk := h.tblSync.wrFwdReg

theorem Dev.MemOk.fwdFence {d : Dev} {s : Nat} (h : d.MemOk) : (d.fwdFence s).MemOk := by
  unfold Dev.fwdFence
  extract_lets gone d1 src d2 src'
  have hd1 : d1.MemOk := by
    unfold d1
    refine .foldl h fun _ _ h1 => .dropFrame (.fwdTake ?_)
    split
    · exact .endSqe (.foldl h1 fun _ _ h2 => h2.modPort)
    · exact .foldl h1 fun _ _ h3 => h3.modPort
  have hd2 : d2.MemOk := hd1.upd
  exact .ite hd2.upd.sb hd2

theorem Dev.MemOk.fwdRestart {d : Dev} {s : Nat} (h : d.MemOk) : (d.fwdRestart s).MemOk := h.clearMem

/-! Lane modes, links and management buses (chapter 8). -/

theorem Dev.MemOk.linkLost {d : Dev} {p : Nat} (h : d.MemOk) : (d.linkLost p).MemOk := by
  unfold Dev.linkLost
  extract_lets y n d1 d2 d3 d4
  have hd3 : d3.MemOk := by
    unfold d3
    have hd1 : d1.MemOk := h.sb.sb.inc.portStop
    have hd2 : d2.MemOk := hd1.modPort.addCnt
    split
    · exact hd2.modPort.sb.addCnt
    · exact hd2
  have hd4 : d4.MemOk := hd3.sb.preEval.purge
  exact .ite hd4.sb.sb.ringEval hd4

theorem Dev.MemOk.forceDown {d : Dev} {p : Nat} (h : d.MemOk) : (d.forceDown p).MemOk := .ite h.linkLost h

theorem Dev.MemOk.linkRestart {d : Dev} {p : Nat} (h : d.MemOk) : (d.linkRestart p).MemOk := h.modPort

theorem Dev.MemOk.linkSync {d : Dev} (h : d.MemOk) : d.linkSync.MemOk :=
  .foldl h fun _ _ h1 => .ite (.linkLost (.ite h1 h1.linkRestart)) (.ite h1 h1.linkRestart)

theorem Dev.MemOk.takeShims {d : Dev} {p : Nat} (h : d.MemOk) : (d.takeShims p).MemOk := h.modPort

theorem Dev.MemOk.adapt {d : Dev} {p : Nat} (h : d.MemOk) : (d.adapt p).MemOk := .foldl h.takeShims fun _ _ h1 => h1.sf

theorem Dev.MemOk.loadTsFuse {d : Dev} {p : Nat} (h : d.MemOk) : (d.loadTsFuse p).MemOk := h.sf

theorem Dev.MemOk.loadEqFuse {d : Dev} {p : Nat} (h : d.MemOk) : (d.loadEqFuse p).MemOk := .foldl h fun _ _ h1 => h1.sf

theorem Dev.MemOk.loadFuses {d : Dev} (h : d.MemOk) : d.loadFuses.MemOk := .foldl h fun _ _ h1 => h1.loadTsFuse.loadEqFuse

theorem Dev.MemOk.syncSat {d : Dev} {p : Nat} (h : d.MemOk) : (d.syncSat p).MemOk := .foldl h fun _ _ h1 => h1.sb

theorem Dev.MemOk.showUp {d : Dev} {p : Nat} (h : d.MemOk) : (d.showUp p).MemOk := h.sf.sb.sb.sb.sb.sb.sb.sb

theorem Dev.MemOk.rateChanged {d : Dev} {p code : Nat} (h : d.MemOk) : (d.rateChanged p code).MemOk :=
  .ite h.sb.loadTsFuse.raise h.sb.loadTsFuse

theorem Dev.MemOk.linkUpEventCmd {p code : Nat} {d : Dev} (h : d.MemOk) : (linkUpEvent p code d).MemOk := by
  unfold linkUpEvent
  extract_lets neg w old rate d0 chg d1 d2
  have hw : w.MemOk := h.waitUp
  have hd0 : d0.MemOk := hw.modPort
  have hd1 : d1.MemOk := hd0.showUp.adapt.syncSat
  have hd2 : d2.MemOk := .preEval (.ite hd1.rateChanged hd1)
  exact .ite h (.ite hd2.ringEval hd2)

theorem Dev.MemOk.wireAbandon {d : Dev} {p : Nat} (h : d.MemOk) : (d.wireAbandon p).MemOk := by
  unfold Dev.wireAbandon
  split
  · exact h.wireFree.dropTx
  · exact h

theorem Dev.MemOk.linkJudge {d0 d : Dev} {p : Nat} (h : d.MemOk) : (d0.linkJudge d p).MemOk := by
  unfold Dev.linkJudge
  extract_lets dn since d1 was is
  have h1 : d1.MemOk := by
    unfold d1 since
    refine .ite (.ite h.linkRestart h) (.ite h.modPort ?_)
    split
    · exact h.waitUp.linkRestart.linkLost
    · exact .ite h.linkRestart.linkLost h.modPort
  exact .ite h1.emit.wireAbandon (.ite h1.emit.choose h1)

theorem Dev.MemOk.linkDownEventCmd {p : Nat} {st : LineState} {d : Dev} (h : d.MemOk) : (linkDownEvent p st d).MemOk := by
  unfold linkDownEvent
  extract_lets hi d1 d2 d3
  have hd1 : d1.MemOk := h.sf.sf
  have hd2 : d2.MemOk := .foldl hd1 fun _ _ h1 => h1.sb.sb
  have hd3 : d3.MemOk := .ite hd2.inc hd2
  exact .ite h hd3.linkJudge

theorem Dev.MemOk.wrEqShim {d : Dev} {p l : Nat} {v : Word} (h : d.MemOk) : (d.wrEqShim p l v).MemOk := .ite h h.wrReg.sf.syncSat

theorem Dev.MemOk.wrSdsPol {d : Dev} {p : Nat} {v : Word} (h : d.MemOk) : (d.wrSdsPol p v).MemOk := by
  unfold Dev.wrSdsPol
  extract_lets a w d1 d2 n d3
  have hd1 : d1.MemOk := h.wrReg
  have hd2 : d2.MemOk := .ite hd1 hd1.wireAbandon
  have hd3 : d3.MemOk := hd2.modPort.addCnt
  exact .ite h (.ite (.ite hd2 hd3.sb.linkJudge) hd1)

theorem Dev.MemOk.resetPort {d : Dev} {q : Nat} (h : d.MemOk) : (d.resetPort q).MemOk := h.upd

theorem Dev.MemOk.laneInit {d : Dev} {p : Nat} (h : d.MemOk) : (d.laneInit p).MemOk := h.forceDown.linkRestart.sf.sf.modPort.syncSat

theorem Dev.MemOk.retrain {d : Dev} {p : Nat} (h : d.MemOk) : (d.retrain p).MemOk :=
  .foldl h.forceDown.linkRestart.takeShims.syncSat fun _ _ h1 => h1.sb

theorem Dev.MemOk.setMode {d : Dev} {p mode : Nat} (h : d.MemOk) : (d.setMode p mode).MemOk := by
  unfold Dev.setMode
  extract_lets was d1 d2 d3
  have hd1 : d1.MemOk := h.laneInit.sf
  have hd2 : d2.MemOk := hd1.sf.sb.sf
  have hd3 : d3.MemOk := hd2.loadEqFuse.loadTsFuse.preEval.syncSat
  exact .ite (.foldl hd3 fun _ _ h1 => h1.resetPort) (.ite (.foldl hd3 fun _ _ h2 => h2.forceDown.purge) hd3)

theorem Dev.MemOk.wrSdsMode {d : Dev} {p : Nat} {v : Word} (h : d.MemOk) : (d.wrSdsMode p v).MemOk :=
  .ite h (.ite (.ite h.retrain h) (.ite h.outOfRange (.ite (.ite h.setMode.retrain h.setMode) h.sb)))

theorem Dev.MemOk.wrPcsCfg {d : Dev} {p : Nat} {v : Word} (h : d.MemOk) : (d.wrPcsCfg p v).MemOk := .ite h (.ite h.wrReg h.outOfRange)

theorem Dev.MemOk.noteOld {d : Dev} {a : Nat} (h : d.MemOk) : (d.noteOld a).MemOk := h.upd

theorem Dev.MemOk.wrMacCfg {d : Dev} {p : Nat} {v : Word} (h : d.MemOk) : (d.wrMacCfg p v).MemOk :=
  .ite h (.ite (.ite h.noteOld.wrReg h.noteOld.sf) (.forceDown (.ite h.noteOld.wrReg h.noteOld.sf)))

theorem Dev.MemOk.wrEee {d : Dev} {p : Nat} {v : Word} (h : d.MemOk) : (d.wrEee p v).MemOk := by
  unfold Dev.wrEee
  extract_lets a tw
  split
  · exact h
  · split
    · exact .ite h.outOfRange h.wrReg.sb
    · extract_lets low
      exact .ite h.outOfRange h.wrReg.sb

theorem Dev.MemOk.wrRxBuf {d : Dev} {p : Nat} {v : Word} (h : d.MemOk) : (d.wrRxBuf p v).MemOk := .ite h (.ite h.noteOld.wrReg h.outOfRange)

theorem Dev.MemOk.wrFilter {d : Dev} {p a : Nat} {mc : Bool} {v : Word} (h : d.MemOk) : (d.wrFilter p a mc v).MemOk :=
  .ite h (.ite h.outOfRange h.noteOld.wrReg)

theorem Dev.MemOk.wrEdgeReg {d : Dev} {p a : Nat} {v : Word} (h : d.MemOk) : (d.wrEdgeReg p a v).MemOk := .ite h h.noteOld.wrReg

theorem Dev.MemOk.wrMdioCmd {d : Dev} {b : Nat} {v : Word} (h : d.MemOk) : (d.wrMdioCmd b v).MemOk :=
  .ite h.outOfRange (.ite (.ite h.sb h.wrReg.sb.upd.emit) h.wrReg)

theorem Dev.MemOk.mdioFrameDoneCmd {b : Nat} {ack : Bool} {data : Nat} {d : Dev} (h : d.MemOk) : (mdioFrameDone b ack data d).MemOk := by
  unfold mdioFrameDone
  split
  · exact h
  · extract_lets a d1 src d2
    have hd1 : d1.MemOk := h.waitUp
    have hd2 : d2.MemOk := hd1.upd.sb.sb
    exact .wakeMdio (.ite (.ite hd2.sf hd2.sf.sb) hd2)

theorem Dev.MemOk.wrSmbCmd {d : Dev} {c : Nat} {v : Word} (h : d.MemOk) : (d.wrSmbCmd c v).MemOk :=
  .ite h.outOfRange (.ite (.ite h.sb (.emit (.upd (.sb (.wrReg (.ite h.emit.upd h)))))) h.wrReg)

theorem Dev.MemOk.smbEndCmd {c how n : Nat} {l : List Byte} {d0 : Dev} (h : d0.MemOk) : (smbEnd c how n l d0).MemOk := by
  unfold smbEnd
  split
  · exact h
  · extract_lets a src d len got op cnt d1 d2 bad data d3
    have hd2 : d2.MemOk := by
      unfold d2
      have hd : d.MemOk := h.upd
      have hd1 : d1.MemOk := hd.sb.sb.sf
      split
      · exact hd1.sb
      · exact hd1.sb
      · exact hd1.sb
      · exact hd1
    have hd3 : d3.MemOk := .foldl hd2 fun _ _ h1 => h1.wr
    exact .wakeSmb (.ite (.ite hd3.sb hd3) hd2)

end Sys2Proof.Machine
end

section
/-! ### Memory in canonical form: reception and boot (O5) -/

namespace Sys2Proof.Machine

/-! Reception and reassembly (chapters 4 and 8). -/

theorem Dev.MemOk.pauseRx {d : Dev} {p q : Nat} (h : d.MemOk) : (d.pauseRx p q).MemOk := .ite h (.ite h.modPort.sb.choose h.modPort.sb)

theorem Dev.MemOk.macControl {d e : Dev} {p : Nat} {l : List Byte} (h : d.MemOk) : (d.macControl e p l).MemOk :=
  .ite h.inc.pauseRx h.inc

theorem Dev.MemOk.countPassed {d : Dev} {p n da : Nat} (h : d.MemOk) : (d.countPassed p n da).MemOk :=
  .ite h.addCnt.inc.inc (.ite h.addCnt.inc.inc h.addCnt.inc.inc)

theorem Dev.MemOk.edgePass {d c e : Dev} {p : Nat} {l : List Byte} {ts : List Tag} {stamp : Nat} (h : d.MemOk) :
    (d.edgePass c e p l ts stamp).MemOk := .ite h.inc (.ite h.inc (.pauseCheck (.toPipeline (.ite h.inc.countPassed.inc h.inc.countPassed))))

theorem Dev.MemOk.macClassify {d c e : Dev} {p : Nat} {l : List Byte} {m : RxMark} (h : d.MemOk) : (d.macClassify c e p l m).MemOk := by
  unfold Dev.macClassify
  extract_lets b ts limit good
  exact .ite h.inc (.ite h.inc (.ite h.inc (.ite h.inc (.ite h.inc.ringReceive (.ite h.macControl h.edgePass)))))

theorem Dev.MemOk.received {d old : Dev} {p len : Nat} {m : RxMark} {most : Nat} (h : d.MemOk) : (d.received old p len m most).MemOk := h.upd

theorem Dev.MemOk.macReceive {d : Dev} {p : Nat} {l : List Byte} {m : RxMark} (h : d.MemOk) : (d.macReceive p l m).MemOk :=
  .ite h.upd.inc h.upd.macClassify.received

theorem Dev.MemOk.rxInitial {d : Dev} {p : Nat} {ex : Bool} {n : Nat} {l : List Byte} {m : RxMark} (h : d.MemOk) :
    (d.rxInitial p ex n l m).MemOk := by
  unfold Dev.rxInitial
  extract_lets err d1 d2 c
  have hd1 : d1.MemOk := .ite h.inc h
  have hd2 : d2.MemOk := hd1.modPort
  split
  · exact hd2.macReceive
  · exact .ite hd2.inc hd2.modPort
  · exact hd2.inc

theorem Dev.MemOk.rxContinue {d : Dev} {p : Nat} {ex : Bool} {n : Nat} {k : Option Nat} {l : List Byte} {code : Bool} (h : d.MemOk) :
    (d.rxContinue p ex n k l code).MemOk := by
  unfold Dev.rxContinue
  extract_lets err y d1
  split
  · split
    · exact h
    · split
      · exact h.modPort.inc
      · split
        · exact h.modPort.inc
        · split
          · extract_lets src
            have hd1 : d1.MemOk := h.modPort.inc.inc
            exact hd1.macReceive
          · extract_lets src c1
            exact .ite h.modPort.inc h.modPort.inc
          · exact h.modPort.inc
  · split
    · exact h
    · split
      · exact h.modPort.inc
      · split
        · exact h.modPort.inc
        · split
          · extract_lets src
            have hd1 : d1.MemOk := h.modPort.inc.inc
            exact hd1.macReceive
          · extract_lets src c1
            exact .ite h.modPort.inc h.modPort.inc
          · exact h.modPort.inc

theorem Dev.MemOk.rxRespond {d : Dev} {p : Nat} (h : d.MemOk) : (d.rxRespond p).MemOk := .ite h.modPort.sf.preEval h

theorem Dev.MemOk.rxAnnounce {d : Dev} {p k : Nat} (h : d.MemOk) : (d.rxAnnounce p k).MemOk := by
  unfold Dev.rxAnnounce
  extract_lets a d1 d2
  have hd1 : d1.MemOk := .ite h.modPort h
  have hd2 : d2.MemOk := hd1.sb.sf
  exact .ite (.nestSync (.ite hd2.modPort.sf hd2)) (.ite hd1.sb.sf.modPort.nestSync hd1)

theorem Dev.MemOk.rxAnnResp {d : Dev} {p : Nat} (h : d.MemOk) : (d.rxAnnResp p).MemOk := .ite (.nestSync (.ite h.sb.modPort.sf h.sb)) h

theorem Dev.MemOk.rxPacket {d : Dev} {p smd frag : Nat} {l : List Byte} {m : RxMark} (h : d.MemOk) : (d.rxPacket p smd frag l m).MemOk := by
  unfold Dev.rxPacket
  extract_lets smdErr
  have hsmdErr : smdErr.MemOk := h.inc
  split
  · exact h.macReceive
  · split
    · exact hsmdErr
    · split
      · exact .ite h.modPort h
      · split
        · exact .ite h.rxRespond h
        · split
          · exact .ite h.rxAnnounce h
          · split
            · exact .ite h.rxAnnResp h
            · split
              · exact h.rxInitial
              · exact h.rxContinue
              · exact .ite h.rxInitial hsmdErr
              · exact .ite h.rxContinue hsmdErr
              · exact hsmdErr

theorem Dev.MemOk.jigLet {d : Dev} {h' : JigHeld} (h : d.MemOk) : (d.jigLet h').MemOk := h.upd.rxPacket

theorem Dev.MemOk.jigPassed {d : Dev} {p : Nat} (h : d.MemOk) : (d.jigPassed p).MemOk := .foldl h.upd fun _ _ h1 => h1.jigLet

theorem Dev.MemOk.jigOrder {d : Dev} {p smd frag : Nat} {l : List Byte} {m : RxMark} (h : d.MemOk) : (d.jigOrder p smd frag l m).MemOk := by
  unfold Dev.jigOrder
  split
  · extract_lets src
    exact h.upd
  · exact h.rxPacket.jigPassed

theorem Dev.MemOk.addIf {d : Dev} {a n : Nat} (h : d.MemOk) : (d.addIf a n).MemOk := .ite h h.addCnt

theorem Dev.MemOk.countLine {d : Dev} {p : Nat} {x : RxLine} (h : d.MemOk) : (d.countLine p x).MemOk :=
  .ite (.ite h.addIf h.addIf.addIf.addIf) (.addIf (.ite h.addIf h.addIf.addIf.addIf))

theorem Dev.MemOk.rxArrive {d0 : Dev} {p smd frag : Nat} {l : List Byte} {x : RxLine} (h : d0.MemOk) : (d0.rxArrive p smd frag l x).MemOk := by
  unfold Dev.rxArrive
  extract_lets d t m c ex cont pre
  split
  · exact h
  · split
    · rename_i _ h1
      have h2 := Dev.MemOk.of2 (h.countLine.jigRule) h1
      exact h2.jigOrder
    · rename_i _ h3
      have h4 := Dev.MemOk.of2 (h.countLine.jigRule) h3
      extract_lets held src dl last h1
      split
      · exact h4
      · exact h4.jigOrder
      · exact h4.upd
      · exact h4.upd

theorem Dev.MemOk.jigReleaseAll {d : Dev} (h : d.MemOk) : d.jigReleaseAll.MemOk := .foldl h fun _ _ h1 => h1.jigLet

theorem Dev.MemOk.jigReorderReleaseCmd {n : Nat} {d : Dev} (h : d.MemOk) : (jigReorderRelease n d).MemOk := by
  unfold jigReorderRelease
  split
  · exact h.waitUp.jigLet
  · exact h

theorem Dev.MemOk.jigDelayReleaseCmd {n : Nat} {d : Dev} (h : d.MemOk) : (jigDelayRelease n d).MemOk := by
  unfold jigDelayRelease
  split
  · extract_lets d1
    have hd1 : d1.MemOk := h.waitUp
    exact .foldl hd1 fun _ _ h1 => h1.jigLet
  · exact h

/-! What the resets share (chapter 15). -/

theorem Dev.MemOk.jigSync {d : Dev} (h : d.MemOk) : d.jigSync.MemOk := .ite h.sb.jigReleaseAll h.sb

theorem Dev.MemOk.relock {d : Dev} {k : Nat} (h : d.MemOk) : (d.relock k).MemOk := .ite h.sb.sf.upd.sb.jigSync h.sb.sf.upd

theorem Dev.MemOk.relockIf {d : Dev} {hit : Nat → Bool} (h : d.MemOk) : (d.relockIf hit).MemOk := .foldl h fun _ _ h1 => h1.relock

theorem Dev.MemOk.keepStore {d : Dev} (h : d.MemOk) : d.keepStore.MemOk := h.upd.useFree

theorem Dev.MemOk.timeRestore {d : Dev} (h : d.MemOk) : d.timeRestore.MemOk := h.upd.sb.sb.setTimState

theorem Dev.MemOk.islandSync {d : Dev} {j : Bool} {h' : Nat} (h : d.MemOk) : (d.islandSync j h').MemOk := by
  unfold Dev.islandSync
  extract_lets d1 d2
  have hd1 : d1.MemOk := h.rebase.ringSync.linkSync.solSync
  have hd2 : d2.MemOk := .outageSync (.foldl hd1 fun _ _ h1 => h1.sb)
  exact .ite hd2.flushStalled.flushQ hd2.sb

theorem Dev.MemOk.resetGlb {d : Dev} (h : d.MemOk) : d.resetGlb.MemOk := h.clearRegs.upd.wr.wr

theorem Dev.MemOk.resetHost {d : Dev} (h : d.MemOk) : d.resetHost.MemOk :=
  .upd (.clearRegs (.clearRegs (.foldl h fun _ _ h1 => h1.destroyQueues)))

theorem Dev.MemOk.holdReset {d : Dev} {lo hi : Nat} {all : Bool} (h : d.MemOk) : (d.holdReset lo hi all).MemOk := h.useFree.upd

theorem Dev.MemOk.hostReset {d : Dev} (h : d.MemOk) : d.hostReset.MemOk := h.ptmStop.resetGlb.resetHost.relockIf

theorem Dev.MemOk.hotReset {d : Dev} (h : d.MemOk) : d.hotReset.MemOk := h.hostReset.holdReset

theorem Dev.MemOk.dmaKill {d : Dev} {c : Nat} (h : d.MemOk) : (d.dmaKill c).MemOk := by
  unfold Dev.dmaKill
  extract_lets st x d1 d2 d3
  have hd1 : d1.MemOk := .ite h.dmaUnwait.inc h
  have hd2 : d2.MemOk := .ite hd1.inc hd1
  have hd3 : d3.MemOk := hd2.dmaDropWaits.modChan.sb
  exact .ite h.abortDrop.dmaRun (.ite h hd3.setCh.dmaRun)

theorem Dev.MemOk.beginFlr {d : Dev} {fs : List Nat} (h : d.MemOk) : (d.beginFlr fs).MemOk := .foldl h.useFree.upd fun _ _ h1 => h1.modFn

theorem Dev.MemOk.flrCmd {f : Nat} {d0 : Dev} (h : d0.MemOk) : (flr f d0).MemOk := by
  unfold flr
  extract_lets d d1 d2 src
  have hd : d.MemOk := .ite h.beginFlr (.ite h.beginFlr h)
  have hd1 : d1.MemOk := .foldl hd fun _ _ h1 => h1.dmaKill
  have hd2 : d2.MemOk := hd1.flrQueues.relockIf
  exact .ite (.ite hd2.upd.ptmStop hd2) hd.flrQueues

theorem Dev.MemOk.wipeEngines {d : Dev} (h : d.MemOk) : d.wipeEngines.MemOk := h.upd

theorem Dev.MemOk.coreReset {d : Dev} {tim hbm cfg : Bool} (h : d.MemOk) : (d.coreReset tim hbm cfg).MemOk := by
  unfold Dev.coreReset
  exact .sf (.sb (.sf (filter_wf d.mem _ h)))

theorem State.MemOk.coreReset {s : State} {tim hbm cfg : Bool} {cause : Nat} (h : s.MemOk) : (s.coreReset tim hbm cfg cause).MemOk :=
  h.dev.coreReset.sf.state

/-! Flash, boot and the resets of the Joiner (chapter 12). -/

theorem Dev.MemOk.flashPut {d : Dev} {a : Nat} {l : List Byte} (h : d.MemOk) : (d.flashPut a l).MemOk := by
  induction l generalizing d a with
  | nil => exact h
  | cons b t ih => exact ih (h.upd (d := d))

theorem Dev.MemOk.reportWdog {d : Dev} (h : d.MemOk) : d.reportWdog.MemOk := .ite h.upd.raise h

theorem Dev.MemOk.runSlot {d : Dev} {s : Nat} (h : d.MemOk) : (d.runSlot s).MemOk := by
  unfold Dev.runSlot
  extract_lets a d1 full d2 src d3
  have hd1 : d1.MemOk := h.sf.sf.sf.sf
  have hd2 : d2.MemOk := .ite hd1.wr hd1
  have hd3 : d3.MemOk := hd2.upd
  exact .mbxTake (.reportWdog (.ite hd3.benchOn hd3))

theorem Dev.MemOk.bootHold {d : Dev} {cause : Nat} (h : d.MemOk) : (d.bootHold cause).MemOk :=
  .mbxTake (.reportWdog (.ite h.sf.sf.upd.wr h.sf.sf.upd))

theorem Dev.MemOk.bootNow {d : Dev} {found : Bool} (h : d.MemOk) : (d.bootNow found).MemOk := by
  unfold Dev.bootNow
  extract_lets s p c0 c1
  exact .ite h (.ite (.ite h.runSlot h.bootHold) (.ite h.bootHold (.ite h.runSlot (.ite h.runSlot (.ite h.bootHold h.useFree.bootHold)))))

theorem Dev.MemOk.firmwareBootCmd {found : Bool} {d : Dev} (h : d.MemOk) : (firmwareBoot found d).MemOk := .bootNow (.ite h.waitUp h)

theorem Dev.MemOk.mbxAborted {d : Dev} {m : Nat} (h : d.MemOk) : (d.mbxAborted m).MemOk := h.mbxRespond

theorem Dev.MemOk.joinerReset {d : Dev} (h : d.MemOk) : d.joinerReset.MemOk := by
  unfold Dev.joinerReset
  extract_lets busy d1 done d2 d3 d4 d5 d6 src kept d7
  have hd1 : d1.MemOk := .relockIf (.foldl h fun _ _ h1 => h1.mbxAborted)
  have hd2 : d2.MemOk := hd1.wrSolCtl
  have hd3 : d3.MemOk := hd2.clearRegs.clearRegs.clearRegs.clearRegs
  have hd4 : d4.MemOk := hd3.wr.wr
  have hd5 : d5.MemOk := hd4.sf.sb.clearMem
  have hd6 : d6.MemOk := .foldl hd5 fun _ _ h2 => h2.sb.sf.stN
  have hd7 : d7.MemOk := hd6.upd
  exact hd7.sf.sf.sf.solSync

theorem Dev.MemOk.watchdogReset {d : Dev} (h : d.MemOk) : d.watchdogReset.MemOk := h.joinerReset.upd.sf

theorem Dev.MemOk.joinerWatchdogResetCmd {d : Dev} (h : d.MemOk) : (joinerWatchdogReset d).MemOk := .ite h.watchdogReset h

theorem Dev.MemOk.joinerRestartCmd {d : Dev} (h : d.MemOk) : (joinerRestart d).MemOk := by
  unfold joinerRestart
  split
  · exact .ite h.waitUp.joinerReset h
  · exact h

theorem Dev.MemOk.leaseExpiryCmd {k : Nat} {d : Dev} (h : d.MemOk) : (leaseExpiry k d).MemOk := by
  unfold leaseExpiry
  split
  · exact h.waitUp.relock
  · exact h

theorem Dev.MemOk.lockoutEndCmd {k : Nat} {d : Dev} (h : d.MemOk) : (lockoutEnd k d).MemOk := by
  unfold lockoutEnd
  split
  · extract_lets d1 src
    have hd1 : d1.MemOk := h.waitUp.sb.sf
    exact hd1.upd
  · exact h

end Sys2Proof.Machine
end

section
/-! ### Memory in canonical form: faults and power (O5) -/

namespace Sys2Proof.Machine

/-! The fault collector (chapter 14). -/

theorem Dev.MemOk.putSev {d : Dev} {a : Nat} {v : Word} (h : d.MemOk) : (d.putSev a v).MemOk := h.upd.wr

theorem State.MemOk.fqSync {s : State} (h : s.MemOk) : s.fqSync.MemOk := h.dev.wr.wr.sf.state

theorem Dev.MemOk.fltLost {d : Dev} (h : d.MemOk) : d.fltLost.MemOk := .sb (.inc (.ite h.upd h.upd))

theorem State.MemOk.enqueue {s : State} {w : Word} (h : s.MemOk) : (s.enqueue w).MemOk :=
  .ite h.dev.state.fqSync (.ite h.dev.fltLost.state.fqSync h.dev.fltLost.state)

theorem State.MemOk.fqPop {s : State} (h : s.MemOk) : s.fqPop.MemOk := h.dev.state.fqSync

theorem Dev.MemOk.pinSync {d : Dev} (h : d.MemOk) : d.pinSync.MemOk := h.sb

theorem Dev.MemOk.faultIrq {d : Dev} {c : Nat} (h : d.MemOk) : (d.faultIrq c).MemOk := .ite h.fire h

theorem Dev.MemOk.autoSchedule {d : Dev} {i : Nat} (h : d.MemOk) : (d.autoSchedule i).MemOk := .ite h.upd.sb h

theorem Dev.MemOk.calOut {d : Dev} {s : Nat} (h : d.MemOk) : (d.calOut s).MemOk := h.upd.dropSliceLaunches.sb

theorem Dev.MemOk.fenceEffect {d : Dev} {i : Nat} (h : d.MemOk) : (d.fenceEffect i).MemOk := by
  unfold Dev.fenceEffect
  extract_lets d1 d1' src d2
  have hd1 : d1.MemOk := h.calOut
  have hd1' : d1'.MemOk := .foldl h fun _ _ h1 => h1.calOut
  have hd2 : d2.MemOk := hd1'.upd
  exact .ite h.fwdFence (.ite (.ite hd1.sb hd1) (.ite h.hotReset (.ite h.benchFault (.ite hd2.keepStore h))))

theorem Dev.MemOk.fence {d0 : Dev} {i kind : Nat} {msg : Word} (h : d0.MemOk) : (d0.fence i kind msg).MemOk := by
  unfold Dev.fence
  extract_lets src d src' j h' a d1 d2 src'2 d3
  have hd : d.MemOk := h.upd
  have hd1 : d1.MemOk := hd.sb.inc
  have hd2 : d2.MemOk := hd1.sb.sf.sf
  have hd3 : d3.MemOk := hd2.upd
  exact .ite h (.ite (.ite hd.upd.autoSchedule hd) hd3.autoSchedule.fenceEffect.islandSync.pinSync)

theorem Dev.MemOk.stopAll {d : Dev} (h : d.MemOk) : d.stopAll.MemOk := .foldl h fun _ _ h1 => h1.portStop

theorem Dev.MemOk.halt {d : Dev} {msg : Word} (h : d.MemOk) : (d.halt msg).MemOk := by
  unfold Dev.halt
  extract_lets d1 t a d2 d3 d4 src src' src'2 d5
  have hd1 : d1.MemOk := h.stopAll.keepStore
  have hd2 : d2.MemOk := hd1.wr.wr.sb.sb
  have hd3 : d3.MemOk := hd2.sf
  have hd4 : d4.MemOk := .foldl hd3 fun _ _ h1 => h1.emit
  have hsrc : src.MemOk := hd4.wipeEngines
  have hd5 : d5.MemOk := hsrc.upd
  exact .ite h (.foldl hd5 fun _ _ h2 => h2.sf.sb)

theorem Dev.MemOk.react {d : Dev} {w : WireMsg} {cls : Nat} {msg : Word} (h : d.MemOk) : (d.react w cls msg).MemOk := by
  unfold Dev.react
  extract_lets b
  exact .ite h.halt (.ite (.ite (.foldl h.setFence fun _ _ h1 => .ite h1 h1.purge) (.foldl h fun _ _ h1 => h1.fence))
    (.ite h.hotReset (.ite h.watchdogReset h)))

theorem State.MemOk.collect {s : State} {w : WireMsg} (h : s.MemOk) : (s.collect w).MemOk := by
  unfold State.collect
  extract_lets cls msg src src' d0 d1 s1 d2
  have hsrc : src.MemOk := h.dev
  have hd0 : d0.MemOk := hsrc.upd
  have hd1 : d1.MemOk := hd0.inc.inc.sb.pinSync
  have hs1 : s1.MemOk := hd1.state.enqueue
  have hd2 : d2.MemOk := hs1.dev.react
  exact Dev.MemOk.state (.ite hd2 hd2.faultIrq)

theorem State.MemOk.handleNext {s : State} (h : s.MemOk) : s.handleNext.MemOk := by
  unfold State.handleNext
  split
  · exact h
  · extract_lets src src' d
    have hsrc : src.MemOk := h.dev
    have hd : d.MemOk := hsrc.upd
    exact hd.waitUp.state.collect

theorem State.MemOk.handleAll {n : Nat} {s : State} (h : s.MemOk) : (State.handleAll n s).MemOk := by
  induction n generalizing s with
  | zero => exact h
  | succ n ih => exact .ite (ih h.handleNext) h

theorem State.MemOk.submit {s : State} {src kind addr : Nat} {inj : Bool} (h : s.MemOk) : (s.submit src kind addr inj).MemOk :=
  h.dev.upd.state.handleAll

theorem State.MemOk.faultMessageCmd {m : Option (BitVec 12 × BitVec 8 × BitVec 40)} {s : State} (h : s.MemOk) : (faultMessage m s).MemOk := by
  unfold faultMessage
  split
  · exact h
  · split
    · exact h.handleNext
    · exact .ite h.submit h

theorem Dev.MemOk.fenceEscalationCmd {i : Nat} {d : Dev} (h : d.MemOk) : (fenceEscalation i d).MemOk := by
  unfold fenceEscalation
  split
  · exact .ite h.waitUp.inc.halt h
  · exact h

theorem State.MemOk.overflowMessageCmd {s : State} (h : s.MemOk) : (overflowMessage s).MemOk := .ite h.dev.upd.state.collect h

theorem Dev.MemOk.release {d : Dev} {i : Nat} (h : d.MemOk) : (d.release i).MemOk := .ite h.upd.sb.autoSchedule h.upd.sb.upd

theorem Dev.MemOk.wrFenceRel {d : Dev} {v : Word} (h : d.MemOk) : (d.wrFenceRel v).MemOk := .ite (.ite h.sb h.wrReg.sf.release) h.wrReg

theorem Dev.MemOk.autoReleaseCmd {i : Nat} {d : Dev} (h : d.MemOk) : (autoRelease i d).MemOk := by
  unfold autoRelease
  split
  · extract_lets d1
    have hd1 : d1.MemOk := h.waitUp
    exact .ite hd1.sf.release h
  · exact h

theorem Dev.MemOk.halfBack {d : Dev} {h' : Nat} (h : d.MemOk) : (d.halfBack h').MemOk := .foldl h.sb fun _ _ h1 => h1.recoveryReset

theorem Dev.MemOk.txBack {d : Dev} {ps : List Nat} (h : d.MemOk) : (d.txBack ps).MemOk := .foldl h fun _ _ h1 => h1.modPort.verifyOff.preEval

theorem Dev.MemOk.dmaBack {d : Dev} (h : d.MemOk) : d.dmaBack.MemOk :=
  .hostGo (.foldl (.sb (.foldl h.upd fun _ _ h1 => h1.dmaUnwait.setCh.sb)) fun _ _ h2 => h2.resumeWant)

theorem Dev.MemOk.backEffect {d : Dev} {i : Nat} (h : d.MemOk) : (d.backEffect i).MemOk := by
  unfold Dev.backEffect
  extract_lets d1
  have hd1 : d1.MemOk := .ite h.halfBack (.ite h.halfBack h)
  exact .ite h.txBack (.ite h.fwdRestart (.ite (.ite hd1.revalidate hd1) (.ite h.txBack
    (.ite h.benchBack (.ite h.dmaBack (.ite (.foldl h.timeRestore.afterStep fun _ _ h1 => .ite h1.revalidate h1) h))))))

theorem Dev.MemOk.islandResetDoneCmd {i : Nat} {d : Dev} (h : d.MemOk) : (islandResetDone i d).MemOk := by
  unfold islandResetDone
  split
  · exact h
  · extract_lets d0 j h' d1 src d2
    have hd0 : d0.MemOk := h.waitUp
    have hd1 : d1.MemOk := hd0.sb.sb
    have hd2 : d2.MemOk := hd1.upd
    exact .ite h hd2.backEffect.islandSync.pinSync

theorem Dev.MemOk.attemptsClearCmd {i : Nat} {d : Dev} (h : d.MemOk) : (attemptsClear i d).MemOk := by
  unfold attemptsClear
  split
  · exact .ite h.waitUp.sf h
  · exact h

theorem Dev.MemOk.wrSev {d : Dev} {k j : Nat} {v : Word} (h : d.MemOk) : (d.wrSev k j v).MemOk := .ite h.sb (.ite h.sb h.putSev)

theorem Dev.MemOk.wrFenceCfg {d : Dev} {v : Word} (h : d.MemOk) : (d.wrFenceCfg v).MemOk := .ite h.sb h.wrReg

theorem Dev.MemOk.wrFltStat {d : Dev} {v : Word} (h : d.MemOk) : (d.wrFltStat v).MemOk := .pinSync (.foldl h.wrReg fun _ _ h1 => h1.sb)

theorem Dev.MemOk.wrJigRule {d : Dev} {n : Nat} {v : Word} (h : d.MemOk) : (d.wrJigRule n v).MemOk := .ite h.sb (.wrReg (.ite h.upd h))

theorem Dev.MemOk.wrJigParam {d : Dev} {n : Nat} {v : Word} (h : d.MemOk) : (d.wrJigParam n v).MemOk := .ite h.sb h.wrReg

theorem Dev.MemOk.wrFlt {d : Dev} {a : Nat} {v : Word} (h : d.MemOk) : (d.wrFlt a v).MemOk := by
  unfold Dev.wrFlt
  split
  · exact h.wrReg.pinSync
  · split
    · exact h.wrFltStat
    · split
      · exact h.wrFenceCfg
      · split
        · exact h.wrFenceRel
        · split
          · exact h.wrReg.jigSync
          · split
            · exact h.wrSev
            · split
              · exact h.wrJigRule
              · exact h.wrJigParam
              · exact h.wrReg

theorem Dev.MemOk.wrHaltCmd {d : Dev} {v : Word} (h : d.MemOk) : (d.wrHaltCmd v).MemOk := .ite h.wrReg.halt h.wrReg

theorem State.MemOk.wrQStat {s : State} {v : Word} (h : s.MemOk) : (s.wrQStat v).MemOk := .ite h.fqPop h

theorem State.MemOk.wrJigInj {s : State} {v : Word} (h : s.MemOk) : (s.wrJigInj v).MemOk := .ite h.dev.sb.state h.dev.inc.state.submit

theorem State.MemOk.gate {s : State} {r : Req} {a : Nat} {f : State → State} (h : s.MemOk) (hf : ∀ x, x.MemOk → (f x).MemOk) :
    (s.gate r a f).MemOk := .ite h.dev.accFail.state (.ite (hf _ h) h.dev.lockRefuse.state)

/-! Power, supplies, clocks and resets (chapter 15). -/

theorem Dev.MemOk.reached {d : Dev} {st : Nat} (h : d.MemOk) : (d.reached st).MemOk := h.sf.sb.wr.upd

theorem Dev.MemOk.towards {d : Dev} {st : Nat} (h : d.MemOk) : (d.towards st).MemOk := h.sb.sb.upd

theorem Dev.MemOk.linkEnter {d : Dev} (h : d.MemOk) : d.linkEnter.MemOk := by
  unfold Dev.linkEnter
  extract_lets src d1 d2 d3 d4
  have hd1 : d1.MemOk := h.upd
  have hd2 : d2.MemOk := hd1.hostGo
  have hd3 : d3.MemOk := .foldl hd2 fun _ _ h1 => h1.drainCq
  have hd4 : d4.MemOk := hd3.dmaRunAll
  exact .ite hd4 (.foldl hd4 fun _ _ h2 => h2.tsqIssue)

theorem Dev.MemOk.pcieLinkL0EntryCmd {d0 : Dev} (h : d0.MemOk) : (pcieLinkL0Entry d0).MemOk := .ite h.waitUp.linkEnter h

theorem Dev.MemOk.pwrRequest {d : Dev} {t : Nat} (h : d.MemOk) : (d.pwrRequest t).MemOk := by
  unfold Dev.pwrRequest
  split
  · exact .ite h.sb (.ite h.sb h.towards)
  · exact h.pwrRef

theorem Dev.MemOk.wrPwrCtl {d : Dev} {v : Word} (h : d.MemOk) : (d.wrPwrCtl v).MemOk := .ite h.pwrRef (.ite h.sf.pwrRequest h.sf)

theorem Dev.MemOk.setUp {d : Dev} {w : Nat} (h : d.MemOk) : (d.setUp w).MemOk := h.wr

theorem State.MemOk.toStandby {s : State} {cause : Nat} (h : s.MemOk) : (s.toStandby cause).MemOk :=
  h.dev.ptmStop.coreReset.upd.sf.reached.setUp.state

theorem State.MemOk.fromStandby {s : State} (h : s.MemOk) : s.fromStandby.MemOk := h.coreReset.dev.towards.sf.wr.state

theorem Dev.MemOk.standbyEntryCmd {d : Dev} (h : d.MemOk) : (standbyEntry d).MemOk := .ite h.wrCalCtl.towards h

theorem State.MemOk.standbyExitCmd {why : Nat} {s : State} (h : s.MemOk) : (standbyExit why s).MemOk := by
  unfold standbyExit
  extract_lets d src
  have hd : d.MemOk := h.dev
  exact .ite h (.ite (.ite hd.waitUp.state.fromStandby h) (.ite ((Dev.MemOk.state (.ite hd.upd hd)).fromStandby) h))

theorem Dev.MemOk.toQuiet {d : Dev} (h : d.MemOk) : d.toQuiet.MemOk := .islandSync (.benchOff (.foldl h.reached fun _ _ h1 => h1.sb))

theorem Dev.MemOk.toFull {d : Dev} (h : d.MemOk) : d.toFull.MemOk := by
  unfold Dev.toFull
  extract_lets d1 d2 d3
  have hd1 : d1.MemOk := h.reached
  have hd2 : d2.MemOk := .ite (.benchOn (.foldl hd1 fun _ _ h1 => h1.sb)) hd1
  have hd3 : d3.MemOk := hd2.islandSync
  exact .ite hd3.pcieLinkL0EntryCmd hd3

theorem State.MemOk.powerTransitionDoneCmd {s : State} (h : s.MemOk) : (powerTransitionDone s).MemOk := by
  unfold powerTransitionDone
  split
  · exact h
  · extract_lets s1
    have hs1 : s1.MemOk := h.toStandby
    exact .ite h (.ite hs1.fromStandby hs1)
  · exact h.dev.toQuiet.state
  · exact .ite h h.dev.toFull.state

theorem Dev.MemOk.dipRail {d : Dev} {r mv : Nat} (h : d.MemOk) : (d.dipRail r mv).MemOk := h.sf.sf.upd

theorem Dev.MemOk.supplyWarningCmd {r mv : Nat} {d : Dev} (h : d.MemOk) : (supplyWarning r mv d).MemOk := by
  unfold supplyWarning
  extract_lets a d1 d2 src d3
  have hd1 : d1.MemOk := h.sb
  have hd2 : d2.MemOk := hd1.sb.sf.sf.sf
  have hd3 : d3.MemOk := hd2.upd
  exact .ite h (.ite (.ite hd1.dipRail (.ite hd1.sf hd1)) (.ite hd3.raise.sb hd3))

theorem Dev.MemOk.supplyRecoverCmd {r : Nat} {d : Dev} (h : d.MemOk) : (supplyRecover r d).MemOk := .ite h (.ite h.sb.sb.sb.sb.upd h.sb.sb)

theorem State.MemOk.dipTimerExpiryCmd {s : State} (h : s.MemOk) : (dipTimerExpiry s).MemOk := by
  unfold dipTimerExpiry
  split
  · exact h
  · extract_lets d0 src d1
    have hd0 : d0.MemOk := h.dev.waitUp
    have hd1 : d1.MemOk := hd0.upd
    exact .ite hd1.state hd1.stopAll.inc.state.toStandby

theorem Dev.MemOk.toKeep {d : Dev} (h : d.MemOk) : d.toKeep.MemOk := .foldl (.upd (.wipeEngines (.ite h h.keepStore))) fun _ _ h1 => h1.sf.sb

theorem Dev.MemOk.keepEntryCmd {r : Nat} {d : Dev} (h : d.MemOk) : (keepEntry r d).MemOk := .upd (.ite h.sb.sb.sb.inc h.sb.sb.sb.inc.toKeep)

theorem Dev.MemOk.keepSupplyWarningCmd {below : Bool} {d : Dev} (h : d.MemOk) : (keepSupplyWarning below d).MemOk := .ite h.sb.sb h.sb.sb.sb

theorem Dev.MemOk.keepSupplyResetCmd {d : Dev} (h : d.MemOk) : (keepSupplyReset d).MemOk :=
  .upd (.sf (.sf (.sb (.sb (.foldl h.toKeep.clearRegs.clearRegs.sf fun _ _ h1 => h1.sf)))))

theorem Dev.MemOk.wrSmonClr {d : Dev} {v : Word} (h : d.MemOk) : (d.wrSmonClr v).MemOk := .ite h (.ite h.sf h.sf.sf)

theorem State.MemOk.powerOnResetCmd {bad : Nat} {s : State} (h : s.MemOk) : (powerOnReset bad s).MemOk := by
  unfold powerOnReset
  extract_lets d d0 cause s1 d1 src d2
  have hd : d.MemOk := h.dev
  have hd0 : d0.MemOk := hd.waitUp
  have hs1 : s1.MemOk := hd0.state.coreReset
  have hd1 : d1.MemOk := hs1.dev.timeRestore.sb.sf
  have hd2 : d2.MemOk := hd1.upd
  exact .ite h (Dev.MemOk.state (.loadFuses (.ite hd2.sf hd2)))

theorem Dev.MemOk.hotResetEventCmd {d : Dev} (h : d.MemOk) : (hotResetEvent d).MemOk := .ite h.hotReset h

theorem Dev.MemOk.dataLinkDownCmd {d : Dev} (h : d.MemOk) : (dataLinkDown d).MemOk := .ite h h.hotResetEventCmd

theorem State.MemOk.deviceResetStartCmd {s : State} (h : s.MemOk) : (deviceResetStart s).MemOk := by
  unfold deviceResetStart
  split
  · extract_lets s1
    have hs1 : s1.MemOk := h.dev.waitUp.state.coreReset
    exact .ite (Dev.MemOk.state (.holdReset (.ite hs1.dev hs1.dev.timeRestore))) h
  · exact h

theorem State.MemOk.perstAssertCmd {s : State} (h : s.MemOk) : (perstAssert s).MemOk := by
  unfold perstAssert
  extract_lets d src held d1 src'
  have hd : d.MemOk := h.dev
  have hheld : held.MemOk := hd.upd.state
  have hd1 : d1.MemOk := hheld.dev.hostReset.sb
  exact .ite h (.ite hheld (.ite hheld.standbyExitCmd (.ite hheld (.ite hheld.dev.ptmStop.state.coreReset hd1.upd.state))))

theorem Dev.MemOk.perstDeassertCmd {d : Dev} (h : d.MemOk) : (perstDeassert d).MemOk := h.upd

theorem Dev.MemOk.pcieConfigWriteCmd {f : Nat} {ptm pri ats pme l12 msix : Bool} {rest : CfgRest} {d : Dev} (h : d.MemOk) :
    (pcieConfigWrite f ptm pri ats pme l12 msix rest d).MemOk := by
  unfold pcieConfigWrite
  extract_lets d1 d2 d3 src d4
  have hd1 : d1.MemOk := h.modFn.sendPba
  have hd2 : d2.MemOk := .ite hd1.sb hd1
  have hd3 : d3.MemOk := hd2.pmeCheck.prgGo
  have hd4 : d4.MemOk := hd3.upd
  exact .ite h (.ite (.ite hd4 hd4.ptmStop) hd3)

theorem Dev.MemOk.clockLost {d : Dev} {k after : Nat} (h : d.MemOk) : (d.clockLost k after).MemOk := h.upd

theorem Dev.MemOk.referenceLossCmd {k : Nat} {d : Dev} (h : d.MemOk) : (referenceLoss k d).MemOk := by
  unfold referenceLoss
  extract_lets d1
  split
  · exact h
  · have hd1 : d1.MemOk := h.sb.inc
    split
    · exact hd1.raise.hotReset.sb
    · exact .foldl hd1.raise.clockLost fun _ _ h1 => h1.forceDown
    · exact hd1.raise.clockLost.sb
    · exact hd1.sb

theorem Dev.MemOk.referenceReturnCmd {k : Nat} {d : Dev} (h : d.MemOk) : (referenceReturn k d).MemOk := by
  unfold referenceReturn
  extract_lets d1
  split
  · exact h
  · have hd1 : d1.MemOk := h.sb
    split
    · exact hd1.sb
    · exact hd1
    · exact hd1.sb
    · exact hd1.sb

end Sys2Proof.Machine
end

section
/-! ### Memory in canonical form: the hub, beats and launches (O5) -/

namespace Sys2Proof.Machine

/-! The register hub (chapter 1). -/

theorem Dev.MemOk.wrSnapCtl {d : Dev} {v : Word} (h : d.MemOk) : (d.wrSnapCtl v).MemOk := by
  unfold Dev.wrSnapCtl
  extract_lets g i d1
  split
  · split
    · exact h.sb
    · have hd1 : d1.MemOk := h.wrReg
      split
      · exact hd1.sb
      · exact .ite hd1.upd.sb.sb.sb hd1.sb
  · exact h.wrReg

theorem Dev.MemOk.snapshotCaptureCmd {d : Dev} (h : d.MemOk) : (snapshotCapture d).MemOk := by
  unfold snapshotCapture
  split
  · exact h
  · extract_lets d1
    have hd1 : d1.MemOk := h.upd.sb
    split
    · exact hd1.sb
    · exact .ite hd1.wrs.sb hd1.sb

theorem Dev.MemOk.msixWr {d : Dev} {f o : Nat} {v : Word} (h : d.MemOk) : (d.msixWr f o v).MemOk := .ite h h.modFn.sendPba

theorem Dev.MemOk.bar4Wr {d : Dev} {o : Nat} {v : Word} (h : d.MemOk) : (d.bar4Wr o v).MemOk := .ite h.writeEntry (.ite h.writeRec h.fwdWrite)

theorem Dev.MemOk.answer {d : Dev} {v : Word} (h : d.MemOk) : (d.answer v).MemOk := h.upd

theorem Dev.MemOk.rc64 {d : Dev} {a : Nat} (h : d.MemOk) : (d.rc64 a).MemOk := h.upd.answer.wr

theorem Dev.MemOk.rcLow {d : Dev} {a : Nat} (h : d.MemOk) : (d.rcLow a).MemOk := h.upd.answer.wr

theorem Dev.MemOk.rcHigh {d : Dev} {a : Nat} (h : d.MemOk) : (d.rcHigh a).MemOk := h.answer

theorem Dev.MemOk.benchRefuse {d : Dev} (h : d.MemOk) : d.benchRefuse.MemOk := h.inc

theorem Dev.MemOk.badWidth {d : Dev} {r : Req} {bar4 write : Bool} {a isl : Nat} (h : d.MemOk) : (d.badWidth r bar4 write a isl).MemOk :=
  .accFail (.ite h.benchRefuse h)

theorem Dev.MemOk.badRead {d : Dev} {r : Req} {bar4 : Bool} {a isl : Nat} (h : d.MemOk) : (d.badRead r bar4 a isl).MemOk := h.badWidth.answer

theorem Dev.MemOk.read0 {d : Dev} {r : Req} {a n : Nat} (h : d.MemOk) : (d.read0 r a n).MemOk := by
  unfold Dev.read0
  extract_lets w d1
  have hd1 : d1.MemOk := .ite h.tblSync h
  exact .ite h.benchRefuse (.ite h.badRead (.ite h.accFail.answer (.ite (.ite h.rc64 (.ite h.rcLow h.rcHigh)) hd1.answer)))

theorem Dev.MemOk.read4 {d : Dev} {r : Req} {o n : Nat} (h : d.MemOk) : (d.read4 r o n).MemOk := by
  unfold Dev.read4
  split
  · exact .ite h.benchRefuse h.answer
  · extract_lets v
    have hv : v.2.MemOk := h.recShow
    exact .ite h.badRead (.ite h.accFail.answer (.ite h.answer (.ite hv.answer h.answer)))

theorem Dev.MemOk.readVf {d : Dev} {f a n : Nat} (h : d.MemOk) : (d.readVf f a n).MemOk := .ite h.answer (.ite h.answer h.answer)

theorem Dev.MemOk.benLoad {d : Dev} {a n : Nat} (h : d.MemOk) : (d.benLoad a n).MemOk := by
  unfold Dev.benLoad
  split
  · exact h.read0
  · split
    · exact h.read4
    · split
      · exact h.benchRefuse
      · exact .ite h.answer h

theorem Dev.MemOk.hubRead {d : Dev} {r : Req} {sp : Space} {a n : Nat} (h : d.MemOk) : (d.hubRead r sp a n).MemOk := by
  unfold Dev.hubRead
  split
  · exact h.read0
  · exact h.read4
  · exact .ite h.benchRefuse h.answer
  · split
    · exact h.readVf
    · exact .ite h.benchRefuse h.answer
  · exact .ite h.benLoad h.answer

theorem Dev.MemOk.wrTim {d : Dev} {a : Nat} {v : Word} (h : d.MemOk) : (d.wrTim a v).MemOk := by
  unfold Dev.wrTim
  split
  · exact h.wrSnapCtl
  · split
    · exact h.wrServoIn
    · split
      · exact h.wrTimCtl
      · split
        · exact h.wrTimAdj
        · split
          · exact h.wrTimSetNs
          · split
            · exact h.wrPinCfg
            · split
              · exact h.wrPtmCtl
              · split
                · exact h.wrSnaptCtl
                · split
                  · exact h.wrTsShim
                  · exact h
                  · exact h.wrReg

theorem Dev.MemOk.wrCal {d : Dev} {a : Nat} {v : Word} (h : d.MemOk) : (d.wrCal a v).MemOk := by
  unfold Dev.wrCal
  split
  · exact h.wrCalCtl
  · split
    · exact h.wrFetchLead
    · split
      · exact h.wrCalCmd
      · split
        · exact h.wrCalAct
        · split
          · exact h.wrShadow
          · split
            · exact h.wrShadow
            · split
              · exact h.wrCalPort
              · exact h.wrReg

theorem Dev.MemOk.wrPre {d : Dev} {a : Nat} {v : Word} (h : d.MemOk) : (d.wrPre a v).MemOk := by
  unfold Dev.wrPre
  split
  · exact h.wrPreCfg
  · exact h.wrClassMap
  · exact h.wrReg

theorem Dev.MemOk.wrLeProf {d : Dev} {a : Nat} {v : Word} (h : d.MemOk) : (d.wrLeProf a v).MemOk := .ite h.outOfRange h.wrReg

theorem Dev.MemOk.wrStr {d : Dev} {a : Nat} {v : Word} (h : d.MemOk) : (d.wrStr a v).MemOk :=
  .ite h.wrStrCmd (.ite h.wrCntSel (.ite h.wrLeProf h.wrReg))

theorem Dev.MemOk.wrRng {d : Dev} {a : Nat} {v : Word} (h : d.MemOk) : (d.wrRng a v).MemOk := by
  unfold Dev.wrRng
  exact .ite h.wrMsCtl (.ite h.wrBarCtl (.ite h.wrBcCtl (.ite h.wrBcStat
    (.ite h.wrRngCtl (.ite h.wrRngCyc (.ite h.wrRngBe (.ite h.wrRngTiming (.ite h.wrRngFed h.wrReg))))))))

theorem Dev.MemOk.wrSol {d : Dev} {a : Nat} {v : Word} (h : d.MemOk) : (d.wrSol a v).MemOk :=
  .ite h.wrSolCmd (.ite h.wrSolRes (.ite h.wrSolFile (.ite h.wrSolCtl h.wrReg)))

theorem Dev.MemOk.wrPort {d : Dev} {a : Nat} {v : Word} (h : d.MemOk) : (d.wrPort a v).MemOk := by
  unfold Dev.wrPort
  split
  · split
    · exact .ite h.wrMdioCmd h.wrReg
    · exact h.wrSmbCmd
    · exact h.wrReg
  · split
    · exact h
    · split
      · exact h.wrSdsMode
      · split
        · exact h.wrSdsPol
        · split
          · exact h.wrPcsCfg
          · split
            · exact h.wrMacCfg
            · split
              · exact h.wrEdgeReg
              · split
                · exact h.wrEee
                · split
                  · exact h.wrRxBuf
                  · split
                    · exact h.wrEqShim
                    · exact h.wrFilter
                    · exact h.wrFilter
                    · exact h.wrReg

theorem Dev.MemOk.wrDma {d : Dev} {a : Nat} {v : Word} (h : d.MemOk) : (d.wrDma a v).MemOk := by
  unfold Dev.wrDma
  split
  · exact h.wrXltCfg
  · split
    · exact h.wrDmaCmd
    · exact h.wrCrCfg
    · exact h.wrCrBase
    · exact h.wrCrHead
    · exact h.wrReg

theorem Dev.MemOk.wrAdmin {d : Dev} {f k : Nat} {lo hi : Bool} {v : Word} (h : d.MemOk) : (d.wrAdmin f k lo hi v).MemOk := by
  unfold Dev.wrAdmin
  split
  · exact h.wrAqBase
  · exact h.wrAqBase
  · exact h.wrAqCfg
  · exact h.aqWr
  · exact h.aqDoorbell

theorem Dev.MemOk.wrHq {d : Dev} {a : Nat} {v : Word} (h : d.MemOk) : (d.wrHq a v).MemOk := by
  unfold Dev.wrHq
  split
  · exact h.wrQcntSel
  · split
    · exact h.wrBenQpCfg
    · split
      · exact h.wrAdmin
      · exact h.wrReg

theorem Dev.MemOk.wrAny {d : Dev} {a : Nat} {v : Word} (h : d.MemOk) : (d.wrAny a v).MemOk := by
  unfold Dev.wrAny
  split
  · exact h.wrTim
  · exact h.wrTim
  · exact h.wrCal
  · exact h.wrPre
  · exact h.wrStr
  · exact h.wrRng
  · exact h.wrSol
  · exact h.wrPort
  · exact h.wrPort
  · exact h.wrPort
  · exact h.wrFwd
  · exact h.wrHq
  · exact h.wrHq
  · exact h.wrDma
  · exact h.wrDma
  · exact .ite h.wrHaltCmd h.wrFlt
  · exact h.wrFlt
  · exact .ite h.wrPwrCtl h.wrReg
  · exact .ite h.wrSmonClr h.wrReg
  · exact h.wrReg
  · exact h

theorem State.MemOk.wrAny {s : State} {a : Nat} {v : Word} (h : s.MemOk) : (s.wrAny a v).MemOk :=
  .ite h.wrQStat (.ite h.wrJigInj h.dev.wrAny.state)

theorem Dev.MemOk.wrMailbox {d : Dev} {m a width : Nat} {v : Word} (h : d.MemOk) : (d.wrMailbox m a width v).MemOk :=
  .ite (.ite h.wrMbxReq h) (.ite h.wrMbxDb h.wrReg)

theorem State.MemOk.write0 {s : State} {r : Req} {a width : Nat} {v : Word} (h : s.MemOk) : (s.write0 r a width v).MemOk := by
  unfold State.write0
  extract_lets d w onD
  split
  · exact h.dev.benchRefuse.state
  · split
    · exact h.dev.badWidth.state
    · split
      · exact h.dev.accFail.state
      · split
        · split
          · exact .ite h.dev.msixWr.state h
          · exact h
        · split
          · exact .ite h.dev.wrMailbox.state h.dev.inc.state
          · split
            · exact h.dev.lockRefuse.state
            · split
              · exact h.dev.wrAdmin.state
              · exact h.wrAny

theorem Dev.MemOk.write4 {d : Dev} {r : Req} {o width : Nat} {v : Word} (h : d.MemOk) : (d.write4 r o width v).MemOk := by
  unfold Dev.write4
  split
  · exact .ite h.benchRefuse h
  · exact .ite h.badWidth (h.gate4 (fun _ h1 => h1.bar4Wr))

theorem Dev.MemOk.writeVf {d : Dev} {f a width : Nat} {v : Word} (h : d.MemOk) : (d.writeVf f a width v).MemOk :=
  .ite h (.ite h.msixWr (.ite h.wrAdmin h))

theorem Dev.MemOk.writeDb {d : Dev} {f o width : Nat} {v : Word} (h : d.MemOk) : (d.writeDb f o width v).MemOk := by
  unfold Dev.writeDb
  extract_lets d1
  have hd1 : d1.MemOk := .ite h.sqDoorbellCmd h
  exact .ite h (.ite hd1.cqDoorbellCmd (.ite hd1.cqDoorbellCmd hd1))

theorem State.MemOk.benStore {s : State} {a n : Nat} {v : Word} (h : s.MemOk) : (s.benStore a n v).MemOk := by
  unfold State.benStore
  extract_lets onD
  split
  · exact h.write0
  · split
    · exact h.dev.write4.state
    · split
      · exact Dev.MemOk.state (.ite h.dev.benchRefuse h.dev.writeDb)
      · split
        · exact h.dev.benchRefuse.state
        · exact Dev.MemOk.state (.ite h.dev (.ite h.dev.fwdWrite (.ite h.dev.stW h.dev.stN)))

theorem State.MemOk.hubWrite {s : State} {r : Req} {sp : Space} {a width : Nat} {v : Word} (h : s.MemOk) : (s.hubWrite r sp a width v).MemOk := by
  unfold State.hubWrite
  split
  · exact h.write0
  · exact h.dev.write4.state
  · split
    · exact .ite h.dev.benchRefuse.state h.dev.writeDb.state
    · exact h
  · split
    · exact h.dev.writeVf.state
    · exact .ite h.dev.benchRefuse.state h
  · exact .ite h.benStore h

theorem Dev.MemOk.bridgeTimeoutCmd {r : Req} {sp : Space} {write : Bool} {a : Nat} {d : Dev} (h : d.MemOk) :
    (bridgeTimeout r sp write a d).MemOk := by
  unfold bridgeTimeout
  extract_lets tgt
  clear_value tgt
  split
  · exact h
  · extract_lets down d1 d2
    have h1 : d1.MemOk := .ite h h.waitUp
    have h2 : d2.MemOk := h1.accFail
    exact .ite h2 h2.answer

/-! Beats of a DMA descriptor (chapter 11). -/

theorem Dev.MemOk.mapRead {d e : Dev} {f a n : Nat} {l : List Byte} (h : d.MemOk) (he : d.mapRead f a n = some (l, e)) : e.MemOk := by
  unfold Dev.mapRead at he
  split at he
  · split at he
    · cases he
      exact h
    · cases he
  · split at he
    · cases he
    · split at he
      · cases he
        split
        · exact h.read0.upd
        · exact h.read4.upd
        · exact h.answer.upd
      · cases he

theorem Dev.MemOk.hbmWrite {d : Dev} {a : Nat} {l : List Byte} (h : d.MemOk) : (d.hbmWrite a l).MemOk := h.stN.upd

theorem State.MemOk.mapWrite {s t : State} {f a : Nat} {l : List Byte} (h : s.MemOk) (he : s.mapWrite f a l = some t) : t.MemOk := by
  unfold State.mapWrite at he
  extract_lets n v at he
  split at he
  · split at he
    · cases he
      exact h.dev.hbmWrite
    · cases he
  · split at he
    · cases he
    · split at he
      · cases he
        split
        · exact h.write0
        · exact h.dev.write4.state
        · exact h.dev.writeDb.state
      · cases he

theorem Dev.MemOk.beatAck {d : Dev} {c k w : Nat} (h : d.MemOk) : (d.beatAck c k w).MemOk := h.modChan

theorem Dev.MemOk.beatFail {d : Dev} {c k o w kind : Nat} (h : d.MemOk) : (d.beatFail c k o w kind).MemOk := h.beatAck.dmaFail

theorem Dev.MemOk.beatData {d : Dev} {c k o : Nat} {l : List Byte} (h : d.MemOk) : (d.beatData c k o l).MemOk := .ite h.beatFail h.modChan

theorem State.MemOk.beat {s : State} {c k : Nat} {bad : Bool} {l : List Byte} (h : s.MemOk) : (s.beat c k bad l).MemOk := by
  have h0 : s.dev.MemOk := h.dev
  unfold State.beat
  extract_lets d x sd w o dev
  refine .ite h (.ite h0.beatAck.state (.ite (.ite h0.beatFail.state ?_) (.ite h0.beatFail.state h0.beatData.state)))
  split
  · split
    · rename_i m y he
      exact (Dev.MemOk.mapRead h0 he).beatData.state
    · exact h0.beatFail.state
  · split
    · rename_i t he
      exact (State.MemOk.dev (.mapWrite h he)).modChan.state
    · exact h0.beatFail.state

theorem State.MemOk.beats {n : Nat} {s : State} {c k : Nat} {bad : Bool} {l : List Byte} (h : s.MemOk) : (State.beats n s c k bad l).MemOk := by
  induction n generalizing s l with
  | zero => exact h
  | succ n ih => exact ih h.beat

theorem State.MemOk.dmaBeatCompleteCmd {c k : Nat} {bad : Bool} {l : List Byte} {s : State} (h : s.MemOk) :
    (dmaBeatComplete c k bad l s).MemOk := .ite h h.beats.dev.dmaRun.state

/-! From launch entry to wire (chapter 3). -/

theorem Dev.MemOk.countNone {d : Dev} {p : Nat} {held : Bool} (h : d.MemOk) : (d.countNone p held).MemOk := .ite h.inc h.inc

theorem Dev.MemOk.newInst {d : Dev} {l : Launch} {copies : Nat} (h : d.MemOk) : (d.newInst l copies).MemOk := by
  unfold Dev.newInst
  extract_lets i add q n
  split
  · exact h.upd
  · split
    · exact h.upd.modSq.pumpSq
    · extract_lets d1 d2
      have hd1 : d1.MemOk := h.upd
      have hd2 : d2.MemOk := .ite hd1.qCount hd1
      exact hd2.countNone.noFrame

theorem Dev.MemOk.moreCopy {d : Dev} {l : Launch} {i : Inst} (h : d.MemOk) : (d.moreCopy l i).MemOk := .ite h.upd.countNone.noFrame h.upd

theorem Dev.MemOk.fetchLaunch {d : Dev} {p i n : Nat} {c : CalSrc} {e : Word} {l : Nat} (h : d.MemOk) : (d.fetchLaunch p i n c e l).MemOk := by
  unfold Dev.fetchLaunch
  extract_lets s rep la
  split
  · exact h.moreCopy
  · exact h.newInst

theorem Dev.MemOk.countBarred {d : Dev} {p : Nat} {b : Bar} (h : d.MemOk) : (d.countBarred p b).MemOk := .ite h.countBar.inc h.countBar

theorem Dev.MemOk.fetchStream {d : Dev} {p i n : Nat} {c : CalSrc} {e : Word} {l : Nat} (h : d.MemOk) : (d.fetchStream p i n c e l).MemOk :=
  .ite (.fetchLaunch (.ite h.readRec h)) (.releaseAt (.countBarred (.ite h.readRec h)))

theorem Dev.MemOk.launchFetchCmd {p i n : Nat} {d : Dev} (h : d.MemOk) : (launchFetch p i n d).MemOk := by
  unfold launchFetch
  split
  · exact h
  · extract_lets d1
    have hd1 : d1.MemOk := h.waitLocal.scrub
    exact .ite h (.ite hd1.raise (.ite hd1.fetchStream hd1))

theorem Dev.MemOk.bindFabric {d : Dev} {ok : Bool} {l : Launch} {i : Inst} (h : d.MemOk) : (d.bindFabric ok l i).MemOk := by
  unfold Dev.bindFabric
  split
  · exact h
  · split
    · exact h.setFrame.modInst
    · exact h.modInst

theorem Dev.MemOk.armChecks {d : Dev} {l : Launch} {i : Inst} (h : d.MemOk) : (d.armChecks l i).MemOk := by
  unfold Dev.armChecks
  split
  · exact h.lateDiscard
  · split
    · exact h.lateDiscard
    · extract_lets src src'
      exact .ite h.lateDiscard (.ite (.lateDiscard (.ite h.inc h)) (.ite h.lateDiscard h.upd))

theorem Dev.MemOk.armLaunch {d : Dev} {p : Nat} {ok : Bool} {l : Launch} {i : Inst} (h : d.MemOk) : (d.armLaunch p ok l i).MemOk := by
  unfold Dev.armLaunch
  extract_lets d1
  have hd1 : d1.MemOk := .ite h.bindFabric h
  split
  · exact hd1
  · exact .ite hd1.inc.noFrame (.ite hd1.inc.noFrame (.ite hd1.inc.noFrame hd1.armChecks))

theorem Dev.MemOk.armAt {d : Dev} {p : Nat} {l : Launch} (h : d.MemOk) : (d.armAt p l).MemOk := by
  unfold Dev.armAt
  split
  · exact h.dropLaunch
  · exact h.armLaunch
  · exact h.armLaunch
  · exact h.countBar.noFrame

theorem Dev.MemOk.launchArmCmd {p : Nat} {d : Dev} (h : d.MemOk) : (launchArm p d).MemOk := by
  unfold launchArm
  split
  · exact h
  · exact h.waitLocal.armAt

theorem Dev.MemOk.settleWire {d : Dev} {p u : Nat} (h : d.MemOk) : (d.settleWire p u).MemOk := by
  unfold Dev.settleWire
  split
  · exact .ite h.endTx h
  · exact h

theorem Dev.MemOk.launchCmd {p : Nat} {d : Dev} (h : d.MemOk) : (launch p d).MemOk := by
  unfold launch
  split
  · exact h
  · extract_lets d0 y lim
    have hd0 : d0.MemOk := h.waitLocal.settleWire
    split
    · exact hd0.dropLaunch
    · split
      · exact hd0.dropLaunch
      · exact .ite hd0.lateDiscard (.ite hd0.lateDiscard (.ite hd0.lateDiscard hd0.inc.newTx.dropLaunch))

end Sys2Proof.Machine
end

section
/-! ### Memory in canonical form: mailbox commands (O5) -/

namespace Sys2Proof.Machine

/-! How a mailbox command is checked and answered (chapter 12). -/

theorem Dev.MemOk.mbxSt {d : Dev} {m st : Nat} (h : d.MemOk) : (d.mbxSt m st).MemOk := h.mbxDone

theorem Dev.MemOk.mbxRefused {d : Dev} {m code : Nat} (h : d.MemOk) : (d.mbxRefused m code).MemOk := h.mbxDone

theorem Dev.MemOk.mbxOk {d : Dev} {m : Nat} {ws : List Word} (h : d.MemOk) : (d.mbxOk m ws).MemOk := h.mbxDone

theorem Dev.MemOk.mbxRun {d : Dev} {opc : Nat} {c : Nat → MbxCmd} (h : d.MemOk) (hf : ∀ x, (c x).run.MemOk) : (d.mbxRun opc c).MemOk := by
  unfold Dev.mbxRun
  split
  · exact h
  · split
    · exact h.mbxDone
    · exact hf _

theorem Dev.MemOk.mbxPut {d : Dev} {l : List (Nat × Nat × Word)} (h : d.MemOk) : (d.mbxPut l).2.MemOk := by
  induction l generalizing d with
  | nil => exact h
  | cons p t ih =>
    rw [Dev.mbxPut]
    split
    · exact h.accFail
    · exact ih h.wrAny

theorem Dev.MemOk.mbxAcc {d : Dev} {m n : Nat} (h : d.MemOk) : (d.mbxAcc m n).MemOk := h.mbxDone

theorem Dev.MemOk.mbxSet {d : Dev} {m : Nat} {l : List (Nat × Nat × Word)} {f : Dev → Dev} (h : d.MemOk) (hf : ∀ x, x.MemOk → (f x).MemOk) :
    (d.mbxSet m l f).MemOk := by
  unfold Dev.mbxSet
  split
  · rename_i _ h1
    have h2 := Dev.MemOk.of2 h.mbxPut h1
    exact h2.mbxAcc
  · rename_i _ h3
    have h4 := Dev.MemOk.of2 h.mbxPut h3
    exact hf _ h4

theorem Dev.MemOk.mbxShow {d : Dev} {m : Nat} {l : List Nat} (h : d.MemOk) : (d.mbxShow m l).MemOk := by
  unfold Dev.mbxShow
  split
  · exact h.accFail.mbxAcc
  · exact h.mbxOk

theorem Dev.MemOk.mbxSetShow {d : Dev} {m : Nat} {l : List (Nat × Nat × Word)} {r : List Nat} (h : d.MemOk) : (d.mbxSetShow m l r).MemOk :=
  h.mbxSet (fun _ h1 => h1.mbxShow)

theorem Dev.MemOk.mbxTable {d : Dev} {m n o isl : Nat} {write : Bool} {f : Dev → Dev} (h : d.MemOk) (hf : ∀ x, x.MemOk → (f x).MemOk) :
    (d.mbxTable m n o isl write f).MemOk := .ite (hf _ h) h.accFail.mbxAcc

/-! Mailbox commands: time, calendar, streams, ring, solver. -/

theorem Dev.MemOk.mbxImages {d : Dev} {opc blk : Nat} {l : List (Nat × Nat)} (h : d.MemOk) : (d.mbxImages opc blk l).MemOk :=
  h.mbxRun (fun _ => h.mbxSet (fun _ h1 => h1.mbxOk))

theorem Dev.MemOk.mbxPortImages {d : Dev} {opc blk : Nat} {l : Nat → List (Nat × Nat)} (h : d.MemOk) : (d.mbxPortImages opc blk l).MemOk :=
  h.mbxRun (fun _ => h.mbxSet (fun _ h1 => h1.mbxOk))

theorem Dev.MemOk.mbxAt {d : Dev} {m n a : Nat} {f : Dev → Dev} (h : d.MemOk) (hf : ∀ x, x.MemOk → (f x).MemOk) : (d.mbxAt m n a f).MemOk :=
  .ite h.accFail.mbxAcc (hf _ h)

theorem Dev.MemOk.timeSourceCmd {d : Dev} (h : d.MemOk) : (timeSource d).MemOk := h.mbxImages

theorem Dev.MemOk.ptpInstanceCmd {d : Dev} (h : d.MemOk) : (ptpInstance d).MemOk := h.mbxRun (fun _ => h.upd.mbxOk)

theorem Dev.MemOk.ptpPortCmd {d : Dev} (h : d.MemOk) : (ptpPortCmd d).MemOk := h.mbxRun (fun _ => h.mbxSet (fun _ h1 => h1.upd.mbxOk))

theorem Dev.MemOk.ptpStatusCmd {d : Dev} (h : d.MemOk) : (ptpStatus d).MemOk := h.mbxRun (fun _ => h.upd.mbxOk)

theorem Dev.MemOk.timePinsCmd {d : Dev} (h : d.MemOk) : (timePins d).MemOk := h.mbxImages

theorem Dev.MemOk.timeAdjustCmd {d : Dev} (h : d.MemOk) : (timeAdjust d).MemOk :=
  h.mbxRun (fun _ => h.mbxAt (fun _ h1 => .ite h1.stepRefused.mbxRefused h1.wrTimAdj.mbxOk))

theorem Dev.MemOk.timeSetCmd {d : Dev} (h : d.MemOk) : (timeSet d).MemOk :=
  h.mbxRun (fun _ => h.mbxAt (fun _ h1 => .ite h1.stepRefused.mbxRefused (h1.mbxSet (fun _ h2 => h2.mbxOk))))

theorem Dev.MemOk.snapshotArmCmd {d : Dev} (h : d.MemOk) : (snapshotArm d).MemOk :=
  h.mbxRun (fun _ => h.mbxSet (fun _ h1 => .ite h.sf.mbxRefused h1.mbxOk))

theorem Dev.MemOk.calStartCmd {d : Dev} (h : d.MemOk) : (calStartCmd d).MemOk :=
  h.mbxRun (fun _ => h.mbxSet (fun _ h1 => .ite h1.mbxOk h.calRef.mbxRefused))

theorem Dev.MemOk.calStopCmd {d : Dev} (h : d.MemOk) : (calStopCmd d).MemOk :=
  h.mbxRun (fun _ => h.mbxAt (fun _ h1 => .ite h1.mbxRefused h1.wrCalCtl.mbxOk))

theorem Dev.MemOk.calPortCmd {d : Dev} (h : d.MemOk) : (calPortCmd d).MemOk := h.mbxPortImages

theorem Dev.MemOk.calStatusCmd {d : Dev} (h : d.MemOk) : (calStatus d).MemOk := h.mbxRun (fun _ => h.mbxShow)

theorem Dev.MemOk.prePortCmd {d : Dev} (h : d.MemOk) : (prePort d).MemOk := h.mbxRun (fun _ => h.mbxSet (fun _ h1 => h1.mbxOk))

theorem Dev.MemOk.mbxRecs {d : Dev} {m s : Nat} {arg : Nat → Word} {l : List Nat} (h : d.MemOk) : (d.mbxRecs m s arg l).MemOk := by
  induction l generalizing d with
  | nil => exact h.mbxOk
  | cons k t ih => exact h.mbxTable fun _ hx => .ite hx.strWrRef.mbxRefused (ih hx.writeRec)

theorem Dev.MemOk.streamWriteCmd {d : Dev} (h : d.MemOk) : (streamWrite d).MemOk := h.mbxRun (fun _ => h.mbxRecs)

theorem Dev.MemOk.recWordsShown {d : Dev} {s : Nat} {l : List Nat} (h : d.MemOk) : (d.recWordsShown s l).2.MemOk := by
  induction l generalizing d with
  | nil => exact .snd h
  | cons k t ih =>
    rw [Dev.recWordsShown]
    exact .snd (ih h.recShow)

theorem Dev.MemOk.streamReadCmd {d : Dev} (h : d.MemOk) : (streamRead d).MemOk :=
  h.mbxRun (fun _ => h.mbxTable (fun _ h1 => h1.recWordsShown.mbxOk))

theorem Dev.MemOk.streamCmd {d : Dev} (h : d.MemOk) : (streamCmd d).MemOk := by
  unfold Machine.streamCmd
  refine h.mbxRun (fun _ => ?_)
  dsimp only
  exact h.mbxAt (fun _ h1 => .ite h1.wrStrCmd.mbxOk h1.sb.mbxRefused)

theorem Dev.MemOk.streamCountersCmd {d : Dev} (h : d.MemOk) : (streamCounters d).MemOk :=
  h.mbxRun (fun _ => .ite h.mbxSt (.mbxOk (.ite h.stWs h)))

theorem Dev.MemOk.streamPortCmd {d : Dev} (h : d.MemOk) : (streamPort d).MemOk := h.mbxPortImages

theorem Dev.MemOk.ringAttachCmd {d : Dev} (h : d.MemOk) : (ringAttach d).MemOk :=
  h.mbxRun (fun _ => h.mbxAt (fun _ h1 => .ite h1.cfgErr.mbxRefused (h1.mbxSet (fun _ h2 => h2.mbxOk))))

theorem Dev.MemOk.ringStatusCmd {d : Dev} (h : d.MemOk) : (ringStatus d).MemOk := h.mbxRun (fun _ => h.mbxShow)

theorem Dev.MemOk.ringSwitchCmd {d : Dev} (h : d.MemOk) : (ringSwitch d).MemOk :=
  h.mbxRun (fun _ => h.mbxSet (fun _ h1 => .ite h1.mbxRefused h1.mbxWait))

theorem Dev.MemOk.ringBarrierCmd {d : Dev} (h : d.MemOk) : (ringBarrier d).MemOk := h.mbxRun (fun _ => h.mbxSet (fun _ h1 => h1.mbxWait))

theorem Dev.MemOk.ringBcastCmd {d : Dev} (h : d.MemOk) : (ringBcast d).MemOk :=
  h.mbxRun (fun _ => .ite h.mbxSt (h.mbxSet (fun _ h1 => h1.mbxWait)))

theorem Dev.MemOk.mbxSolve {d : Dev} {m addr len : Nat} {ok : SolReq → Bool} (h : d.MemOk) : (d.mbxSolve m addr len ok).MemOk := by
  unfold Dev.mbxSolve
  extract_lets q x code
  have hx : x.MemOk := .foldl h fun _ _ h1 => h1.wr
  exact .ite hx.inc.mbxOk (.ite hx.solQueue.mbxOk hx.inc.mbxOk)

theorem Dev.MemOk.solveSubmitCmd {d : Dev} (h : d.MemOk) : (solveSubmit d).MemOk := h.mbxRun (fun _ => h.mbxSolve)

theorem Dev.MemOk.solveFullCmd {d : Dev} (h : d.MemOk) : (solveFull d).MemOk := by
  unfold solveFull
  refine h.mbxRun (fun _ => ?_)
  dsimp only
  exact h.wr.wr.mbxSolve

theorem Dev.MemOk.solveResultCmd {d : Dev} (h : d.MemOk) : (solveResult d).MemOk := by
  unfold solveResult
  refine h.mbxRun (fun _ => ?_)
  dsimp only
  split
  · exact h.mbxSt
  · exact h.solPop.mbxOk

theorem Dev.MemOk.solveActivateCmd {d : Dev} (h : d.MemOk) : (solveActivate d).MemOk := h.mbxRun (fun _ => h.solActivate.mbxOk)

theorem Dev.MemOk.solveAbortCmd {d : Dev} (h : d.MemOk) : (solveAbort d).MemOk := h.mbxRun (fun _ => h.solAbort.mbxOk)

theorem Dev.MemOk.solveStatusCmd {d : Dev} (h : d.MemOk) : (solveStatus d).MemOk := h.mbxRun (fun _ => h.mbxShow)

/-! Mailbox commands: the device, firmware, unlocks, Bench, power. -/

theorem Dev.MemOk.infoWord {d : Dev} (h : d.MemOk) : d.infoWord.2.MemOk := by
  unfold Dev.infoWord
  extract_lets s
  split
  · exact h.useFree
  · exact h

theorem Dev.MemOk.getInfoCmd {d : Dev} (h : d.MemOk) : (getInfo d).MemOk := h.mbxRun (fun _ => h.infoWord.mbxOk)

theorem Dev.MemOk.getStatusCmd {d : Dev} (h : d.MemOk) : (getStatus d).MemOk := h.mbxRun (fun _ => h.mbxShow)

theorem Dev.MemOk.mbxAssignCmd {d : Dev} (h : d.MemOk) : (mbxAssign d).MemOk := h.mbxRun (fun _ => .ite h.mbxSt h.sf.mbxOk)

theorem Dev.MemOk.deviceResetCmd {d : Dev} (h : d.MemOk) : (deviceReset d).MemOk := h.mbxRun (fun _ => h.upd.mbxOk)

theorem Dev.MemOk.fwWriteCmd {d : Dev} (h : d.MemOk) : (fwWrite d).MemOk := h.mbxRun (fun _ => .ite h.mbxSt h.flashPut.upd.mbxOk)

theorem Dev.MemOk.fwVerifyCmd {d : Dev} (h : d.MemOk) : (fwVerify d).MemOk := by
  unfold fwVerify
  refine h.mbxRun (fun _ => ?_)
  dsimp only
  exact .ite h.upd.mbxOk h.upd.mbxSt

theorem Dev.MemOk.fwActivateCmd {d : Dev} (h : d.MemOk) : (fwActivate d).MemOk :=
  h.mbxRun (fun _ => .ite h.mbxSt (.ite h.flashPut.mbxOk h.mbxSt))

theorem Dev.MemOk.fwRestartCmd {d : Dev} (h : d.MemOk) : (fwRestart d).MemOk := h.mbxRun (fun _ => h.upd.sf.mbxOk)

theorem Dev.MemOk.fwCommitSvnCmd {d : Dev} (h : d.MemOk) : (fwCommitSvn d).MemOk := h.mbxRun (fun _ => .ite h.mbxSt h.upd.sf.mbxOk)

theorem Dev.MemOk.wrongToken {d : Dev} {m k : Nat} (h : d.MemOk) : (d.wrongToken m k).MemOk :=
  .mbxSt (.ite h.waitUp.inc.sf.upd.sb h.waitUp.inc.sf)

theorem Dev.MemOk.expertUnlockCmd {d : Dev} (h : d.MemOk) : (expertUnlock d).MemOk :=
  h.mbxRun (fun _ => .ite h.mbxSt (.ite h.mbxSt (.ite h.sf.sf.sf.sb.upd.mbxOk h.wrongToken)))

theorem Dev.MemOk.expertLockCmd {d : Dev} (h : d.MemOk) : (expertLock d).MemOk := h.mbxRun (fun _ => .mbxOk (.foldl h fun _ _ h1 => h1.relock))

theorem Dev.MemOk.tokenSetCmd {d : Dev} (h : d.MemOk) : (tokenSet d).MemOk :=
  h.mbxRun (fun _ => .ite h.mbxSt (.ite h.mbxSt (.ite h.wrongToken (.mbxOk (.ite h.upd.sf.relock h.upd.sf)))))

theorem Dev.MemOk.testModeCmd {d : Dev} (h : d.MemOk) : (testMode d).MemOk := h.mbxRun (fun _ => h.sb.jigSync.mbxOk)

theorem Dev.MemOk.hostLinkCmd {d : Dev} (h : d.MemOk) : (hostLink d).MemOk := h.mbxRun (fun _ => h.useFree.mbxOk)

theorem Dev.MemOk.benRefused {d : Dev} {m : Nat} (h : d.MemOk) : (d.benRefused m).MemOk := h.useFree.mbxRefused

theorem Dev.MemOk.benchLoadCmd {data : Option (List Byte)} {d : Dev} (h : d.MemOk) : (benchLoad data d).MemOk := by
  unfold benchLoad
  refine h.mbxRun (fun _ => ?_)
  dsimp only
  split
  · exact h.mbxSt
  · exact .ite h.mbxSt (.ite h.benRefused (.ite h.mbxSt h.stN.upd.wr.mbxOk))

theorem Dev.MemOk.benchMove {d : Dev} {opc : Nat} {from_ : List Nat} {to_ : Nat} (h : d.MemOk) : (d.benchMove opc from_ to_).MemOk := by
  unfold Dev.benchMove
  refine h.mbxRun (fun _ => ?_)
  dsimp only
  exact .ite h.benRefused (.ite h.setGrp.mbxOk h.mbxSt)

theorem Dev.MemOk.benchStartCmd {d : Dev} (h : d.MemOk) : (benchStart d).MemOk := h.benchMove

theorem Dev.MemOk.benchStopCmd {d : Dev} (h : d.MemOk) : (benchStop d).MemOk := h.benchMove

theorem Dev.MemOk.benchStatusCmd {d : Dev} (h : d.MemOk) : (benchStatus d).MemOk := h.mbxRun (fun _ => h.mbxShow)

theorem Dev.MemOk.fltSeverityCmd {d : Dev} (h : d.MemOk) : (fltSeverity d).MemOk := by
  unfold fltSeverity
  refine h.mbxRun (fun _ => ?_)
  dsimp only
  split
  · exact .ite h.mbxOk h.mbxRefused
  · exact h.mbxSet (fun _ h1 => h1.mbxOk)

theorem State.MemOk.fqTake {s : State} {n : Nat} (h : s.MemOk) : (s.fqTake n).MemOk := h.dev.state.fqSync

theorem State.MemOk.fltReadCmd {s : State} (h : s.MemOk) : (fltRead s).MemOk := by
  unfold fltRead
  split
  · exact h
  · extract_lets w n ok t
    split
    · exact h.dev.mbxDone.state
    · have ht : t.MemOk := h.fqTake
      exact ht.dev.mbxOk.state

theorem Dev.MemOk.pwrStateCmd {d : Dev} (h : d.MemOk) : (pwrStateCmd d).MemOk := by
  unfold Machine.pwrStateCmd
  refine h.mbxRun (fun _ => ?_)
  dsimp only
  split
  · exact h.wrPwrCtl.mbxOk
  · exact h.pwrRef.mbxRefused

theorem Dev.MemOk.pwrStatusCmd {d : Dev} (h : d.MemOk) : (pwrStatus d).MemOk := h.mbxRun (fun _ => .ite h.accFail.mbxAcc h.mbxOk)

/-! Mailbox commands: ports, tables, DMA channels. -/

theorem Dev.MemOk.portModeCmd {d : Dev} (h : d.MemOk) : (portMode d).MemOk := by
  unfold portMode
  refine h.mbxRun (fun _ => ?_)
  dsimp only
  exact h.mbxAt (fun _ h1 => .ite h1.sb.mbxRefused (h1.mbxSet (fun _ h2 => h2.mbxOk)))

theorem Dev.MemOk.portMacCmd {d : Dev} (h : d.MemOk) : (portMac d).MemOk := h.mbxRun (fun _ => h.mbxSet (fun _ h1 => h1.mbxOk))

theorem Dev.MemOk.portFilterCmd {d : Dev} (h : d.MemOk) : (portFilter d).MemOk := h.mbxRun (fun _ => h.mbxSet (fun _ h1 => h1.mbxOk))

theorem Dev.MemOk.portPauseCmd {d : Dev} (h : d.MemOk) : (portPause d).MemOk := h.mbxRun (fun _ => h.mbxSet (fun _ h1 => h1.mbxOk))

theorem Dev.MemOk.portEeeCmd {d : Dev} (h : d.MemOk) : (portEee d).MemOk := h.mbxRun (fun _ => h.mbxSetShow)

theorem Dev.MemOk.portShimCmd {d : Dev} (h : d.MemOk) : (portShim d).MemOk := h.mbxRun (fun _ => h.mbxSetShow)

theorem Dev.MemOk.portStatusCmd {d : Dev} (h : d.MemOk) : (portStatus d).MemOk := h.mbxRun (fun _ => h.mbxShow)

theorem Dev.MemOk.mdioXferCmd {d : Dev} (h : d.MemOk) : (mdioXfer d).MemOk :=
  h.mbxRun (fun _ => .ite h.mbxSt (h.mbxSet (fun _ h1 => h1.mbxWait)))

theorem Dev.MemOk.smbXferCmd {d : Dev} (h : d.MemOk) : (smbXfer d).MemOk := h.mbxRun (fun _ => .ite h.mbxSt (h.mbxSet (fun _ h1 => h1.mbxWait)))

theorem Dev.MemOk.tblMbx {d : Dev} {op : Nat} (h : d.MemOk) : (d.tblMbx op).MemOk := h.sf.tblRun.tblDone

theorem Dev.MemOk.fdbCmd {d : Dev} (h : d.MemOk) : (fdbCmd d).MemOk :=
  h.mbxRun (fun _ => .ite h.mbxSt (h.tblSync.mbxSet (fun _ h1 => .ite h1.tblMbx.mbxOk h.mbxRefused)))

theorem Dev.MemOk.fdbClearCmd {d : Dev} (h : d.MemOk) : (fdbClear d).MemOk :=
  h.mbxRun (fun _ => h.mbxAt (fun _ h1 => .ite h1.sb.mbxRefused h1.wrFwdClr.mbxOk))

theorem Dev.MemOk.xsReportsCmd {d : Dev} (h : d.MemOk) : (xsReports d).MemOk := h.mbxRun (fun _ => h.upd.mbxOk)

theorem Dev.MemOk.mbxIndexed {d : Dev} {opc wid lo hi : Nat} {reg : Nat → Nat} {ok : Nat → Word → Bool} (h : d.MemOk) :
    (d.mbxIndexed opc wid lo hi reg ok).MemOk := h.mbxRun (fun _ => h.mbxSet (fun _ h1 => h1.mbxOk))

theorem Dev.MemOk.vlanSetCmd {d : Dev} (h : d.MemOk) : (vlanSet d).MemOk := h.mbxIndexed

theorem Dev.MemOk.mcgSetCmd {d : Dev} (h : d.MemOk) : (mcgSet d).MemOk := h.mbxIndexed

theorem Dev.MemOk.fwdPortCmd {d : Dev} (h : d.MemOk) : (fwdPortCmd d).MemOk := h.mbxIndexed

theorem Dev.MemOk.fwdSetCmd {d : Dev} (h : d.MemOk) : (fwdSet d).MemOk := h.mbxImages

theorem Dev.MemOk.tsqSetCmd {d : Dev} (h : d.MemOk) : (tsqSet d).MemOk := h.mbxRun (fun _ => h.mbxSet (fun _ h1 => h1.mbxOk))

theorem Dev.MemOk.tsqStatusCmd {d : Dev} (h : d.MemOk) : (tsqStatus d).MemOk := h.mbxRun (fun _ => h.mbxShow)

theorem Dev.MemOk.dmaTry {d : Dev} {c : Nat} {f : Dev → Dev} (h : d.MemOk) (hf : ∀ x, x.MemOk → (f x).MemOk) : (d.dmaTry c f).2.MemOk := by
  unfold Dev.dmaTry
  extract_lets a y
  have hy : y.MemOk := hf _ h.sb
  split
  · exact h
  · exact hy.sb.sf

theorem Dev.MemOk.dmaChannelCmd {d : Dev} (h : d.MemOk) : (dmaChannel d).MemOk := by
  unfold dmaChannel
  refine h.mbxRun (fun _ => h.mbxSet (fun _ h1 => .ite (.mbxOk ?_) h.dmaRef.mbxRefused))
  split
  · exact .dmaTry (h1.dmaTry (fun _ h2 => h2.wrDmaCmd)) (fun _ h3 => h3.wrDmaCmd)
  · exact h1.dmaTry (fun _ h4 => h4.wrDmaCmd)

theorem Dev.MemOk.dmaRingCmd {d : Dev} (h : d.MemOk) : (dmaRing d).MemOk := h.mbxRun (fun _ => .ite h.mbxSt (h.mbxSet (fun _ h1 => h1.mbxOk)))

theorem Dev.MemOk.dmaControlCmd {d : Dev} (h : d.MemOk) : (dmaControl d).MemOk := by
  unfold dmaControl
  exact h.mbxRun (fun _ => h.mbxAt (fun _ h1 => .ite (.mbxOk (h1.dmaTry (fun _ h2 => h2.wrDmaCmd))) h1.dmaRef.mbxRefused))

theorem Dev.MemOk.dmaRingHeadCmd {d : Dev} (h : d.MemOk) : (dmaRingHead d).MemOk := h.mbxRun (fun _ => h.mbxSetShow)

/-! Route commands (chapters 9 and 12). -/

theorem Dev.MemOk.putTail {d : Dev} {k : Nat × Nat} (h : d.MemOk) : (d.putTail k).MemOk := by
  unfold Dev.putTail
  split
  · exact h.stWs
  · exact h

theorem Dev.MemOk.putEntries {d : Dev} {v6 : Bool} {b : Nat} {l : List Nat} (h : d.MemOk) : (d.putEntries v6 b l).MemOk := by
  unfold Dev.putEntries
  refine .foldl h fun _ _ h1 => ?_
  split
  · exact h1.stW
  · exact h1

theorem Dev.MemOk.putRoute {d : Dev} {r : Route} {fresh changed : List Nat} (h : d.MemOk) : (d.putRoute r fresh changed).MemOk := by
  unfold Dev.putRoute
  extract_lets d1 d2
  have hd2 : d2.MemOk := by
    unfold d2
    have hd1 : d1.MemOk := .foldl h fun _ _ h1 => h1.putEntries
    split
    · exact hd1.putTail.putEntries
    · exact hd1.putEntries
  exact .foldl hd2 fun _ _ h3 => h3.putEntries

theorem Dev.MemOk.routeAdd {d : Dev} {r : Route} (h : d.MemOk) : (d.routeAdd r).2.MemOk := by
  unfold Dev.routeAdd
  extract_lets x miss newTail full most y
  split
  · exact h.upd.putRoute
  · split
    · exact h
    · exact h.upd.putRoute

theorem Dev.MemOk.routeDel {d : Dev} {r : Route} (h : d.MemOk) : (d.routeDel r).2.MemOk := by
  unfold Dev.routeDel
  extract_lets x l gone y
  split
  · exact h.upd.putRoute
  · exact h

theorem Dev.MemOk.routeBatch {f : Dev → Route → Nat × Dev} {m n i : Nat} {d : Dev} (hf : ∀ x y, x.MemOk → (f x y).2.MemOk) (h : d.MemOk) :
    (Dev.routeBatch f m n i d).MemOk := by
  induction n generalizing d i with
  | zero => exact h.mbxOk
  | succ n ih =>
    have hr := hf d (d.routeItem m i) h
    rw [Dev.routeBatch]
    refine .ite h.accFail.mbxDone ?_
    split
    · rename_i x he
      exact ih (.of2 hr he)
    · exact h.mbxDone

theorem Dev.MemOk.routeCmd {d : Dev} {opc : Nat} {del : Bool} {f : Dev → Route → Nat × Dev}
    (h : d.MemOk) (hf : ∀ x y, x.MemOk → (f x y).2.MemOk) :
    (d.routeCmd opc del f).MemOk := by
  unfold Dev.routeCmd
  refine h.mbxRun (fun _ => ?_)
  dsimp only
  exact .routeBatch hf h

theorem Dev.MemOk.routeAddCmd {d : Dev} (h : d.MemOk) : (routeAddCmd d).MemOk := h.routeCmd (fun _ _ h1 => h1.routeAdd)

theorem Dev.MemOk.routeDelCmd {d : Dev} (h : d.MemOk) : (routeDelCmd d).MemOk := h.routeCmd (fun _ _ h1 => h1.routeDel)

theorem Dev.MemOk.nexthopSetCmd {d : Dev} (h : d.MemOk) : (nexthopSet d).MemOk := h.mbxRun (fun _ => h.mbxTable (fun _ h1 => h1.stWs.mbxOk))

theorem Dev.MemOk.routeCount_Cmd {d : Dev} (h : d.MemOk) : (routeCount_ d).MemOk := h.mbxRun (fun _ => h.mbxOk)

end Sys2Proof.Machine
end

section
/-! ### Memory in canonical form: every command, and every step (O5) -/

namespace Sys2Proof.Machine

/-- Every command answers a state whose memory is canonical again: a case per command of the opcode table, each by the lemma about its action. -/
theorem exec_memOk (c : Instr) {s : State} (hs : s.MemOk) : ∃ t, exec c s = .next t ∧ t.MemOk := by
  have h : s.dev.MemOk := hs.dev
  cases c with
  | rcRead64 => exact ⟨_, rfl, h.hubRead.state⟩
  | rcReadLow => exact ⟨_, rfl, h.hubRead.state⟩
  | rcReadHigh => exact ⟨_, rfl, h.hubRead.state⟩
  | registerWrite => exact ⟨_, rfl, hs.hubWrite⟩
  | bridgeTimeout => exact ⟨_, rfl, h.bridgeTimeoutCmd.state⟩
  | snapshotGo => exact ⟨_, rfl, .state (h.gate fun _ hx => hx.wrSnapCtl)⟩
  | snapshotCapture => exact ⟨_, rfl, h.snapshotCaptureCmd.state⟩
  | servoInWrite => exact ⟨_, rfl, .state (h.gate fun _ hx => hx.wrServoIn)⟩
  | srcWrite => exact ⟨_, rfl, .state (h.gate fun _ hx => hx.wrTimCtl)⟩
  | sourceTimeout => exact ⟨_, rfl, h.sourceTimeoutCmd.state⟩
  | holdoverExpiry => exact ⟨_, rfl, h.holdoverExpiryCmd.state⟩
  | slewComplete => exact ⟨_, rfl, h.slewCompleteCmd.state⟩
  | timeStep => exact ⟨_, rfl, .state (h.gate fun _ hx => hx.wrTimAdj)⟩
  | timeSlew => exact ⟨_, rfl, .state (h.gate fun _ hx => hx.wrTimAdj)⟩
  | timeSetLoad => exact ⟨_, rfl, .state (h.gate fun _ hx => hx.wrTimSetNs)⟩
  | ptmRequest => exact ⟨_, rfl, .state (h.gate fun _ hx => hx.wrPtmCtl)⟩
  | ptmPeriodTimer => exact ⟨_, rfl, h.ptmPeriodTimerCmd.state⟩
  | ptmResponse => exact ⟨_, rfl, h.ptmResponseCmd.state⟩
  | ptmTimeout => exact ⟨_, rfl, h.ptmTimeoutCmd.state⟩
  | ppsInEdge => exact ⟨_, rfl, h.ppsInEdgeCmd.state⟩
  | snaptArm => exact ⟨_, rfl, .state (h.gate fun _ hx => hx.wrSnaptCtl)⟩
  | snaptCancel => exact ⟨_, rfl, .state (h.gate fun _ hx => hx.wrSnaptCtl)⟩
  | snaptCapture => exact ⟨_, rfl, h.snaptCaptureCmd.state⟩
  | snaptImageDone => exact ⟨_, rfl, h.snaptImageDoneCmd.state⟩
  | calCopy => exact ⟨_, rfl, .state (h.gate fun _ hx => hx.wrCalCmd)⟩
  | calCopyDone => exact ⟨_, rfl, h.calCopyDoneCmd.state⟩
  | calCommit => exact ⟨_, rfl, .state (h.gate fun _ hx => hx.wrCalCmd)⟩
  | calValidationDone => exact ⟨_, rfl, h.calValidationDoneCmd.state⟩
  | calUnstage => exact ⟨_, rfl, .state (h.gate fun _ hx => hx.wrCalCmd)⟩
  | calEntryWrite => exact ⟨_, rfl, .state (h.gate4 fun _ hx => hx.writeEntry)⟩
  | calActivate => exact ⟨_, rfl, .state (h.gate fun _ hx => hx.wrCalAct)⟩
  | calActCancel => exact ⟨_, rfl, .state (h.gate fun _ hx => hx.wrCalAct)⟩
  | calendarStart => exact ⟨_, rfl, .state (h.gate fun _ hx => hx.wrCalCtl)⟩
  | calendarStop => exact ⟨_, rfl, .state (h.gate fun _ hx => hx.wrCalCtl)⟩
  | calHandOver => exact ⟨_, rfl, h.calHandOverCmd.state⟩
  | cycleBoundary => exact ⟨_, rfl, h.cycleBoundaryCmd.state⟩
  | calPortCfgWrite => exact ⟨_, rfl, .state (h.gate fun _ hx => hx.wrCalPort)⟩
  | launchFetch => exact ⟨_, rfl, h.launchFetchCmd.state⟩
  | launchArm => exact ⟨_, rfl, h.launchArmCmd.state⟩
  | launch => exact ⟨_, rfl, h.launchCmd.state⟩
  | nonschedFrameStart => exact ⟨_, rfl, h.nonschedFrameStartCmd.state⟩
  | transmissionEnd => exact ⟨_, rfl, h.transmissionEndCmd.state⟩
  | lpiEntry => exact ⟨_, rfl, h.lpiEntryCmd.state⟩
  | lpiWake => exact ⟨_, rfl, h.lpiWakeCmd.state⟩
  | rxLpi => exact ⟨_, rfl, h.rxLpiCmd.state⟩
  | calRevalidationEnd => exact ⟨_, rfl, h.calRevalidationEndCmd.state⟩
  | preemptHoldRaise => exact ⟨_, rfl, h.preemptHoldRaiseCmd.state⟩
  | preemptCut => exact ⟨_, rfl, h.preemptCutCmd.state⟩
  | preemptHoldRelease => exact ⟨_, rfl, h.preemptHoldReleaseCmd.state⟩
  | mpacketReceive => exact ⟨_, rfl, h.rxArrive.state⟩
  | verifySend => exact ⟨_, rfl, h.chooseOf.state⟩
  | verifyTimeout => exact ⟨_, rfl, h.verifyTimeoutCmd.state⟩
  | respondSend => exact ⟨_, rfl, h.chooseOf.state⟩
  | announceSend => exact ⟨_, rfl, h.chooseOf.state⟩
  | announceResponseSend => exact ⟨_, rfl, h.chooseOf.state⟩
  | announceTimeout => exact ⟨_, rfl, h.announceTimeoutCmd.state⟩
  | prePortCfgWrite => exact ⟨_, rfl, .state (h.gate fun _ hx => hx.wrPreCfg)⟩
  | preemptRestart => exact ⟨_, rfl, .state (h.gate fun _ hx => hx.wrPreCfg)⟩
  | reasmTimeout => exact ⟨_, rfl, h.reasmTimeoutCmd.state⟩
  | streamRecordWrite => exact ⟨_, rfl, h.recWrite4.state⟩
  | recoveryScan => exact ⟨_, rfl, h.recoveryScanCmd.state⟩
  | latentTest => exact ⟨_, rfl, h.latentTestCmd.state⟩
  | latentProfileReset => exact ⟨_, rfl, h.latentProfileResetCmd.state⟩
  | resetRcv => exact ⟨_, rfl, .state (h.gate fun _ hx => hx.wrStrCmd)⟩
  | clearLatent => exact ⟨_, rfl, .state (h.gate fun _ hx => hx.wrStrCmd)⟩
  | streamCounterCapture => exact ⟨_, rfl, .state (h.gate fun _ hx => hx.wrCntSel)⟩
  | streamCaptureDone => exact ⟨_, rfl, h.streamCaptureDoneCmd.state⟩
  | ringCycleBoundary => exact ⟨_, rfl, h.ringCycleBoundaryCmd.state⟩
  | controlFrameForward => exact ⟨_, rfl, h.controlFrameForwardCmd.state⟩
  | controlSegmentEnd => exact ⟨_, rfl, h.controlSegmentEndCmd.state⟩
  | collectionWindowEnd => exact ⟨_, rfl, h.collectionWindowEndCmd.state⟩
  | coldstartAbortWait => exact ⟨_, rfl, h.coldstartAbortWaitCmd.state⟩
  | bypassInsert => exact ⟨_, rfl, h.bypassInsertCmd.state⟩
  | ringHalt => exact ⟨_, rfl, .state (h.gate fun _ hx => hx.wrRngCtl)⟩
  | ringRestart => exact ⟨_, rfl, .state (h.gate fun _ hx => hx.wrRngCtl)⟩
  | msPropose => exact ⟨_, rfl, .state (h.gate fun _ hx => hx.wrMsCtl)⟩
  | barrierArrive => exact ⟨_, rfl, .state (h.gate fun _ hx => hx.wrBarCtl)⟩
  | bcastGo => exact ⟨_, rfl, .state (h.gate fun _ hx => hx.wrBcCtl)⟩
  | bcastTransmit => exact ⟨_, rfl, h.bcSend.state⟩
  | bcastPop => exact ⟨_, rfl, .state (h.gate fun _ hx => hx.wrBcStat)⟩
  | bcastRelay => exact ⟨_, rfl, h.bcSend.state⟩
  | guardianCut => exact ⟨_, rfl, h.guardianCutCmd.state⟩
  | solSubmit => exact ⟨_, rfl, .state (h.gate fun _ hx => hx.wrSolCmd)⟩
  | solAbort => exact ⟨_, rfl, .state (h.gate fun _ hx => hx.wrSolCmd)⟩
  | solActivate => exact ⟨_, rfl, .state (h.gate fun _ hx => hx.wrSolCmd)⟩
  | solResultPop => exact ⟨_, rfl, .state (h.gate fun _ hx => hx.wrSolRes)⟩
  | solverEnable => exact ⟨_, rfl, .state (h.gate fun _ hx => hx.wrSolCtl)⟩
  | solverReady => exact ⟨_, rfl, h.solverReadyCmd.state⟩
  | solverDisable => exact ⟨_, rfl, .state (h.gate fun _ hx => hx.wrSolCtl)⟩
  | solverJobStart => exact ⟨_, rfl, h.solverJobStartCmd.state⟩
  | solverPlacement => exact ⟨_, rfl, h.solverPlacementCmd.state⟩
  | solverResultPost => exact ⟨_, rfl, h.solverResultPostCmd.state⟩
  | pendingEndWrite => exact ⟨_, rfl, h.pendingEndWriteCmd.state⟩
  | portModeWrite => exact ⟨_, rfl, .state (h.gate fun _ hx => hx.wrSdsMode)⟩
  | retrain => exact ⟨_, rfl, .state (h.gate fun _ hx => hx.wrSdsMode)⟩
  | linkUp => exact ⟨_, rfl, h.linkUpEventCmd.state⟩
  | linkDown => exact ⟨_, rfl, h.linkDownEventCmd.state⟩
  | macFrameReceive => exact ⟨_, rfl, h.rxArrive.state⟩
  | pauseExpiry => exact ⟨_, rfl, h.pauseExpiryCmd.state⟩
  | pauseFrameSend => exact ⟨_, rfl, h.chooseOf.state⟩
  | pauseRepeat => exact ⟨_, rfl, h.pauseRepeatCmd.state⟩
  | mdioC22Write => exact ⟨_, rfl, .state (h.gate fun _ hx => hx.wrMdioCmd)⟩
  | mdioC22Read => exact ⟨_, rfl, .state (h.gate fun _ hx => hx.wrMdioCmd)⟩
  | mdioC45Address => exact ⟨_, rfl, .state (h.gate fun _ hx => hx.wrMdioCmd)⟩
  | mdioC45Write => exact ⟨_, rfl, .state (h.gate fun _ hx => hx.wrMdioCmd)⟩
  | mdioC45ReadInc => exact ⟨_, rfl, .state (h.gate fun _ hx => hx.wrMdioCmd)⟩
  | mdioC45Read => exact ⟨_, rfl, .state (h.gate fun _ hx => hx.wrMdioCmd)⟩
  | mdioFrameDone => exact ⟨_, rfl, h.mdioFrameDoneCmd.state⟩
  | smbWrite => exact ⟨_, rfl, .state (h.gate fun _ hx => hx.wrSmbCmd)⟩
  | smbWriteRead => exact ⟨_, rfl, .state (h.gate fun _ hx => hx.wrSmbCmd)⟩
  | smbProbe => exact ⟨_, rfl, .state (h.gate fun _ hx => hx.wrSmbCmd)⟩
  | smbTransactionEnd => exact ⟨_, rfl, h.smbEndCmd.state⟩
  | forwardFrame => exact ⟨_, rfl, h.forwardFrameCmd.state⟩
  | mainTableLookupReturn => exact ⟨_, rfl, h.mainTableLookupReturnCmd.state⟩
  | learnCommit => exact ⟨_, rfl, h.learnCommitCmd.state⟩
  | xsReconcile => exact ⟨_, rfl, h.xsReconcileCmd.state⟩
  | cacheSweepVisit => exact ⟨_, rfl, h.cacheSweepVisitCmd.state⟩
  | cacheCompareRemove => exact ⟨_, rfl, h.cacheCompareRemoveCmd.state⟩
  | mainScanVisit => exact ⟨_, rfl, h.mainScanVisitCmd.state⟩
  | mainCompareRemove => exact ⟨_, rfl, h.mainCompareRemoveCmd.state⟩
  | dgenBump => exact ⟨_, rfl, .state (h.gate fun _ hx => hx.wrFwdClr)⟩
  | sgenBump => exact ⟨_, rfl, .state (h.gate fun _ hx => hx.wrFwdClr)⟩
  | tblInsert => exact ⟨_, rfl, .state (h.gate fun _ hx => hx.tblSync.wrTblCmd)⟩
  | tblDelete => exact ⟨_, rfl, .state (h.gate fun _ hx => hx.tblSync.wrTblCmd)⟩
  | tblLookup => exact ⟨_, rfl, .state (h.gate fun _ hx => hx.tblSync.wrTblCmd)⟩
  | tblEvict => exact ⟨_, rfl, .state (h.gate fun _ hx => hx.tblSync.wrTblCmd)⟩
  | fwdTableDirectWrite => exact ⟨_, rfl, .state (h.gate4 fun _ hx => hx.fwdWrite)⟩
  | trieWrite => exact ⟨_, rfl, .state (h.gate4 fun _ hx => hx.fwdWrite)⟩
  | tsqWordVisit => exact ⟨_, rfl, h.tsqWordVisitCmd.state⟩
  | tsqCompare => exact ⟨_, rfl, h.tsqCompareCmd.state⟩
  | sqTailDoorbell => exact ⟨_, rfl, h.sqDoorbellCmd.state⟩
  | cqHeadDoorbell => exact ⟨_, rfl, h.cqDoorbellCmd.state⟩
  | sqEntryFetched => exact ⟨_, rfl, h.sqEntryFetchedCmd.state⟩
  | nop => exact ⟨_, rfl, h.runNopCmd.state⟩
  | send => exact ⟨_, rfl, h.runSendCmd.state⟩
  | sendFwd => exact ⟨_, rfl, h.runSendCmd.state⟩
  | sendSched => exact ⟨_, rfl, h.runSendSchedCmd.state⟩
  | rxBuf => exact ⟨_, rfl, h.runRxBufCmd.state⟩
  | hostFrameFetched => exact ⟨_, rfl, h.hostFrameFetchedCmd.state⟩
  | entryRetire => exact ⟨_, rfl, h.entryRetireCmd.state⟩
  | writebackUpdate => exact ⟨_, rfl, h.writebackUpdateCmd.state⟩
  | cqTimerExpiry => exact ⟨_, rfl, h.cqTimerExpiryCmd.state⟩
  | msixUnmask => exact ⟨_, rfl, h.msixUnmaskCmd.state⟩
  | l1Request => exact ⟨_, rfl, h.l1RequestCmd.state⟩
  | d3hotEntry => exact ⟨_, rfl, h.d3hotEntryCmd.state⟩
  | d3hotExit => exact ⟨_, rfl, h.d3hotExitCmd.state⟩
  | dataLinkDown => exact ⟨_, rfl, h.dataLinkDownCmd.state⟩
  | hostReadError => exact ⟨_, rfl, h.hostReadErrorCmd.state⟩
  | flr => exact ⟨_, rfl, h.flrCmd.state⟩
  | adminDoorbell => exact ⟨_, rfl, .state (h.aqGate fun _ hx => hx.aqDoorbell)⟩
  | adminQueueEnable => exact ⟨_, rfl, .state (h.aqGate fun _ hx => hx.wrAqCfg)⟩
  | adminQueueDisable => exact ⟨_, rfl, .state (h.aqGate fun _ hx => hx.wrAqCfg)⟩
  | createCq => exact ⟨_, rfl, .state (h.adminRun fun _ _ hx => .now hx.createCqCmd hx)⟩
  | createSq => exact ⟨_, rfl, .state (h.adminRun fun _ _ hx => .now hx.createSqCmd hx)⟩
  | destroySq => exact ⟨_, rfl, .state (h.adminRun fun _ _ hx => hx.destroySq)⟩
  | destroySqDone => exact ⟨_, rfl, h.destroySqDoneCmd.state⟩
  | destroyCq => exact ⟨_, rfl, .state (h.adminRun fun _ _ hx => .now hx.destroyCqCmd hx)⟩
  | modifyCq => exact ⟨_, rfl, .state (h.adminRun fun _ _ hx => .now hx.modifyCqCmd hx)⟩
  | queryQp => exact ⟨_, rfl, .state (h.adminRun fun _ _ hx => hx.queryQp)⟩
  | setVfQuota => exact ⟨_, rfl, .state (h.adminRun fun _ _ hx => .now hx.setVfQuotaCmd hx)⟩
  | adminGetInfo => exact ⟨_, rfl, .state (h.adminRun fun _ _ hx => hx.adminGetInfo)⟩
  | queueCounterCapture => exact ⟨_, rfl, .state (h.gate fun _ hx => hx.wrQcntSel)⟩
  | queueCaptureDone => exact ⟨_, rfl, h.queueCaptureDoneCmd.state⟩
  | dmaCommit => exact ⟨_, rfl, .state (h.gate fun _ hx => hx.wrDmaCmd)⟩
  | dmaHandover => exact ⟨_, rfl, .state (h.gate fun _ hx => hx.wrDmaCmd)⟩
  | dmaCont => exact ⟨_, rfl, .state (h.gate fun _ hx => hx.wrDmaCmd)⟩
  | dmaSkip => exact ⟨_, rfl, .state (h.gate fun _ hx => hx.wrDmaCmd)⟩
  | dmaAbort => exact ⟨_, rfl, .state (h.gate fun _ hx => hx.wrDmaCmd)⟩
  | dmaClearHoPend => exact ⟨_, rfl, .state (h.gate fun _ hx => hx.wrDmaCmd)⟩
  | dmaDescriptorRead => exact ⟨_, rfl, h.dmaDescriptorReadCmd.state⟩
  | dmaBeatComplete => exact ⟨_, rfl, hs.dmaBeatCompleteCmd⟩
  | dmaRingEnable => exact ⟨_, rfl, .state (h.gate fun _ hx => hx.wrCrCfg)⟩
  | dmaRingHeadWrite => exact ⟨_, rfl, .state (h.gate fun _ hx => hx.wrCrHead)⟩
  | translationCompletion => exact ⟨_, rfl, h.translationCompletionCmd.state⟩
  | pageResponse => exact ⟨_, rfl, h.pageResponseCmd.state⟩
  | prgTimeout => exact ⟨_, rfl, h.prgTimeoutCmd.state⟩
  | invalidateRequest => exact ⟨_, rfl, h.invalidateRequestCmd.state⟩
  | invalidateComplete => exact ⟨_, rfl, h.invalidateCompleteCmd.state⟩
  | atcFlush => exact ⟨_, rfl, .state (h.gate fun _ hx => hx.wrXltCfg)⟩
  | firmwareBoot => exact ⟨_, rfl, h.firmwareBootCmd.state⟩
  | mailboxGo => exact ⟨_, rfl, .state (h.mbxGate fun _ hx => hx.wrMbxDb)⟩
  | mailboxRequestWrite => exact ⟨_, rfl, .state (h.mbxGate fun _ hx => hx.wrMbxReq)⟩
  | mailboxCommandTimeout => exact ⟨_, rfl, h.mailboxCommandTimeoutCmd.state⟩
  | joinerWatchdogReset => exact ⟨_, rfl, h.joinerWatchdogResetCmd.state⟩
  | leaseExpiry => exact ⟨_, rfl, h.leaseExpiryCmd.state⟩
  | lockoutEnd => exact ⟨_, rfl, h.lockoutEndCmd.state⟩
  | getInfo => exact ⟨_, rfl, h.getInfoCmd.state⟩
  | getStatus => exact ⟨_, rfl, h.getStatusCmd.state⟩
  | mbxAssign => exact ⟨_, rfl, h.mbxAssignCmd.state⟩
  | deviceReset => exact ⟨_, rfl, h.deviceResetCmd.state⟩
  | deviceResetStart => exact ⟨_, rfl, hs.deviceResetStartCmd⟩
  | fwWrite => exact ⟨_, rfl, h.fwWriteCmd.state⟩
  | fwVerify => exact ⟨_, rfl, h.fwVerifyCmd.state⟩
  | fwActivate => exact ⟨_, rfl, h.fwActivateCmd.state⟩
  | fwRestart => exact ⟨_, rfl, h.fwRestartCmd.state⟩
  | fwCommitSvn => exact ⟨_, rfl, h.fwCommitSvnCmd.state⟩
  | expertUnlock => exact ⟨_, rfl, h.expertUnlockCmd.state⟩
  | expertLock => exact ⟨_, rfl, h.expertLockCmd.state⟩
  | tokenSet => exact ⟨_, rfl, h.tokenSetCmd.state⟩
  | testMode => exact ⟨_, rfl, h.testModeCmd.state⟩
  | timeSource => exact ⟨_, rfl, h.timeSourceCmd.state⟩
  | ptpInstance => exact ⟨_, rfl, h.ptpInstanceCmd.state⟩
  | ptpPort => exact ⟨_, rfl, h.ptpPortCmd.state⟩
  | ptpStatus => exact ⟨_, rfl, h.ptpStatusCmd.state⟩
  | timePins => exact ⟨_, rfl, h.timePinsCmd.state⟩
  | timeAdjust => exact ⟨_, rfl, h.timeAdjustCmd.state⟩
  | timeSet => exact ⟨_, rfl, h.timeSetCmd.state⟩
  | snapshotArm => exact ⟨_, rfl, h.snapshotArmCmd.state⟩
  | calStart => exact ⟨_, rfl, h.calStartCmd.state⟩
  | calStop => exact ⟨_, rfl, h.calStopCmd.state⟩
  | calPort => exact ⟨_, rfl, h.calPortCmd.state⟩
  | calStatus => exact ⟨_, rfl, h.calStatusCmd.state⟩
  | prePort => exact ⟨_, rfl, h.prePortCmd.state⟩
  | streamWrite => exact ⟨_, rfl, h.streamWriteCmd.state⟩
  | streamRead => exact ⟨_, rfl, h.streamReadCmd.state⟩
  | streamCmd => exact ⟨_, rfl, h.streamCmd.state⟩
  | streamCounters => exact ⟨_, rfl, h.streamCountersCmd.state⟩
  | streamPort => exact ⟨_, rfl, h.streamPortCmd.state⟩
  | ringAttach => exact ⟨_, rfl, h.ringAttachCmd.state⟩
  | ringStatus => exact ⟨_, rfl, h.ringStatusCmd.state⟩
  | ringSwitch => exact ⟨_, rfl, h.ringSwitchCmd.state⟩
  | ringBarrier => exact ⟨_, rfl, h.ringBarrierCmd.state⟩
  | ringBcast => exact ⟨_, rfl, h.ringBcastCmd.state⟩
  | solveSubmit => exact ⟨_, rfl, h.solveSubmitCmd.state⟩
  | solveFull => exact ⟨_, rfl, h.solveFullCmd.state⟩
  | solveResult => exact ⟨_, rfl, h.solveResultCmd.state⟩
  | solveActivate => exact ⟨_, rfl, h.solveActivateCmd.state⟩
  | solveAbort => exact ⟨_, rfl, h.solveAbortCmd.state⟩
  | solveStatus => exact ⟨_, rfl, h.solveStatusCmd.state⟩
  | portMode => exact ⟨_, rfl, h.portModeCmd.state⟩
  | portMac => exact ⟨_, rfl, h.portMacCmd.state⟩
  | portFilter => exact ⟨_, rfl, h.portFilterCmd.state⟩
  | portPause => exact ⟨_, rfl, h.portPauseCmd.state⟩
  | portEee => exact ⟨_, rfl, h.portEeeCmd.state⟩
  | portShim => exact ⟨_, rfl, h.portShimCmd.state⟩
  | portStatus => exact ⟨_, rfl, h.portStatusCmd.state⟩
  | mdioXfer => exact ⟨_, rfl, h.mdioXferCmd.state⟩
  | smbXfer => exact ⟨_, rfl, h.smbXferCmd.state⟩
  | fdbCmd => exact ⟨_, rfl, h.fdbCmd.state⟩
  | fdbClear => exact ⟨_, rfl, h.fdbClearCmd.state⟩
  | xsReports => exact ⟨_, rfl, h.xsReportsCmd.state⟩
  | routeAdd => exact ⟨_, rfl, h.routeAddCmd.state⟩
  | routeDel => exact ⟨_, rfl, h.routeDelCmd.state⟩
  | nexthopSet => exact ⟨_, rfl, h.nexthopSetCmd.state⟩
  | routeCount => exact ⟨_, rfl, h.routeCount_Cmd.state⟩
  | vlanSet => exact ⟨_, rfl, h.vlanSetCmd.state⟩
  | mcgSet => exact ⟨_, rfl, h.mcgSetCmd.state⟩
  | fwdPort => exact ⟨_, rfl, h.fwdPortCmd.state⟩
  | fwdSet => exact ⟨_, rfl, h.fwdSetCmd.state⟩
  | tsqSet => exact ⟨_, rfl, h.tsqSetCmd.state⟩
  | tsqStatus => exact ⟨_, rfl, h.tsqStatusCmd.state⟩
  | hostLink => exact ⟨_, rfl, h.hostLinkCmd.state⟩
  | dmaChannel => exact ⟨_, rfl, h.dmaChannelCmd.state⟩
  | dmaRing => exact ⟨_, rfl, h.dmaRingCmd.state⟩
  | dmaControl => exact ⟨_, rfl, h.dmaControlCmd.state⟩
  | dmaRingHead => exact ⟨_, rfl, h.dmaRingHeadCmd.state⟩
  | benchLoad => exact ⟨_, rfl, h.benchLoadCmd.state⟩
  | benchStart => exact ⟨_, rfl, h.benchStartCmd.state⟩
  | benchStop => exact ⟨_, rfl, h.benchStopCmd.state⟩
  | benchStatus => exact ⟨_, rfl, h.benchStatusCmd.state⟩
  | fltSeverity => exact ⟨_, rfl, h.fltSeverityCmd.state⟩
  | fltRead => exact ⟨_, rfl, hs.fltReadCmd⟩
  | pwrState => exact ⟨_, rfl, h.pwrStateCmd.state⟩
  | pwrStatus => exact ⟨_, rfl, h.pwrStatusCmd.state⟩
  | benchTimerInterrupt => exact ⟨_, rfl, h.benchTimerInterruptCmd.state⟩
  | benchQpConfig => exact ⟨_, rfl, .state (h.gate fun _ hx => hx.wrBenQpCfg)⟩
  | benchAdminEnable => exact ⟨_, rfl, .state (h.aqGate fun _ hx => hx.wrAqCfg)⟩
  | faultMessage => exact ⟨_, rfl, hs.faultMessageCmd⟩
  | fenceEscalation => exact ⟨_, rfl, h.fenceEscalationCmd.state⟩
  | overflowMessage => exact ⟨_, rfl, hs.overflowMessageCmd⟩
  | faultPop => exact ⟨_, rfl, hs.gate fun _ hx => hx.wrQStat⟩
  | fenceRelease => exact ⟨_, rfl, .state (h.gate fun _ hx => hx.wrFenceRel)⟩
  | autoRelease => exact ⟨_, rfl, h.autoReleaseCmd.state⟩
  | islandResetDone => exact ⟨_, rfl, h.islandResetDoneCmd.state⟩
  | attemptsClear => exact ⟨_, rfl, h.attemptsClearCmd.state⟩
  | haltCommand => exact ⟨_, rfl, .state (h.gate fun _ hx => hx.wrHaltCmd)⟩
  | jigInject => exact ⟨_, rfl, hs.gate fun _ hx => hx.wrJigInj⟩
  | jigReorderRelease => exact ⟨_, rfl, h.jigReorderReleaseCmd.state⟩
  | jigDelayRelease => exact ⟨_, rfl, h.jigDelayReleaseCmd.state⟩
  | powerRequestFull => exact ⟨_, rfl, .state (h.gate fun _ hx => hx.wrPwrCtl)⟩
  | powerRequestQuiet => exact ⟨_, rfl, .state (h.gate fun _ hx => hx.wrPwrCtl)⟩
  | powerRequestStandby => exact ⟨_, rfl, .state (h.gate fun _ hx => hx.wrPwrCtl)⟩
  | powerTransitionDone => exact ⟨_, rfl, hs.powerTransitionDoneCmd⟩
  | standbyEntry => exact ⟨_, rfl, h.standbyEntryCmd.state⟩
  | standbyExit => exact ⟨_, rfl, hs.standbyExitCmd⟩
  | supplyWarning => exact ⟨_, rfl, h.supplyWarningCmd.state⟩
  | supplyRecover => exact ⟨_, rfl, h.supplyRecoverCmd.state⟩
  | dipTimerExpiry => exact ⟨_, rfl, hs.dipTimerExpiryCmd⟩
  | keepEntry => exact ⟨_, rfl, h.keepEntryCmd.state⟩
  | keepSupplyWarning => exact ⟨_, rfl, h.keepSupplyWarningCmd.state⟩
  | smonClear => exact ⟨_, rfl, .state (h.gate fun _ hx => hx.wrSmonClr)⟩
  | powerOnReset => exact ⟨_, rfl, hs.powerOnResetCmd⟩
  | referenceLoss => exact ⟨_, rfl, h.referenceLossCmd.state⟩
  | referenceReturn => exact ⟨_, rfl, h.referenceReturnCmd.state⟩
  | perstAssert => exact ⟨_, rfl, hs.perstAssertCmd⟩
  | perstDeassert => exact ⟨_, rfl, h.perstDeassertCmd.state⟩
  | hotReset => exact ⟨_, rfl, h.hotResetEventCmd.state⟩
  | joinerRestart => exact ⟨_, rfl, h.joinerRestartCmd.state⟩
  | pcieConfigWrite => exact ⟨_, rfl, h.pcieConfigWriteCmd.state⟩
  | pcieLinkL0Entry => exact ⟨_, rfl, h.pcieLinkL0EntryCmd.state⟩
  | keepSupplyReset => exact ⟨_, rfl, h.keepSupplyResetCmd.state⟩
  | ppsOutEdge => exact ⟨_, rfl, h.ppsOutEdgeCmd.state⟩

theorem step_memOk {s : State} (hs : s.MemOk) : ∃ t, step s = .next t ∧ t.MemOk := by
  cases hp : s.pending with
  | nil => exact ⟨_, step_idle hp, hs.dev.clocks.state⟩
  | cons c l =>
    obtain ⟨t, ht, hm⟩ := exec_memOk c (s := { s with pending := l }) hs
    exact ⟨t, (step_of_pending hp).trans ht, hm⟩

/-- Settles O5: the state a command or a step answers is the one whose memory was shown canonical. -/
theorem memoryStaysCanonical : Obligations.MemoryStaysCanonical := by
  refine ⟨fun c s t hm ht => ?command, fun s t hm ht => ?step⟩
  case command =>
    obtain ⟨u, hu, hk⟩ := exec_memOk c (s := s) hm
    cases hu.symm.trans ht
    exact hk
  case step =>
    obtain ⟨u, hu, hk⟩ := step_memOk (s := s) hm
    cases hu.symm.trans ht
    exact hk

end Sys2Proof.Machine
end
